-- ==== Sys2Proof/Word.lean ====
section
/-! DEFINITION. The word types of the controller: 32-bit register words and bytes (R7, R1). -/

namespace Sys2Proof

/-- A register word (R7: accesses are whole words of 32 bits). -/
abbrev Word := BitVec 32

/-- A byte of a frame, a payload or a memory. -/
abbrev Byte := BitVec 8

end Sys2Proof
end

