-- ==== Sys2Proof/Syntax.lean ====
section
/-! DEFINITION. The commands the block takes from outside, as terms: one constructor per row of spec/opcode_table.json.
Operands are what the outside supplies with the command: a tenant, a channel, a register write that reaches its page, a
reading of a pin or an analog quantity, a choice the spec leaves to the outside. -/

namespace Sys2Proof

/-- Whose access: a tenant or the firmware (R67). -/
inductive Agent where
  | tenant (k : Nat)
  | fw
deriving DecidableEq, Repr

/-- How a queue entry reads when it reaches its page: clean, with a corrected single-bit error, or uncorrectable (Table 5-1,
check 1). -/
inductive Ecc where
  | ok | corrected | uncorrectable
deriving DecidableEq, Repr

/-- A register write that reaches its page (R223): the write at the head of tenant `k`'s queue, or a write of the
firmware with its address and word. -/
inductive Land where
  | tenant (k : Nat) (ecc : Ecc)
  | fw (a : Nat) (v : Word)
deriving DecidableEq, Repr

/-- A byte that arrives on a port, and what its UART framing shows (Table 3-2, step 3). -/
inductive RxErr where
  | none | parity | framing
deriving DecidableEq, Repr

/-- A USB standard request that changes the port (R130). -/
inductive StdReq where
  | setAddress (a : Nat)
  | setConfiguration (on : Bool)
  | remoteWakeup (on : Bool)
deriving DecidableEq, Repr

/-- The flow status of an ISO 15765-2 flow-control frame (Table 3-8). -/
inductive FlowSt where
  | cts | wait | ovflw
deriving DecidableEq, Repr

/-- What a NOR command sequence does (R279): the opcode is the flash's own, so the outside says it. -/
inductive NorOp where
  | program | erase (n : Nat) | other
deriving DecidableEq, Repr

/-- The flags raised in an injection test's span (R884): the tested one only, none, or another lane (or parity group). -/
inductive InjOut where
  | pass | miss | other (parity : Bool) (lane : Nat)
deriving DecidableEq, Repr

/-- One paper sensor input in one sample (R539 to R542): a switch pin held low; the bias check, the dark and the lit reading in codes;
whether the input's LED drive cannot reach its current, and whether its pin is below 0.3 V. -/
structure SnsIn where
  low : Bool
  bias : Nat
  dark : Nat
  lit : Nat
  ledOpen : Bool
  ledShort : Bool
deriving DecidableEq, Repr

/-- How an I2C transfer ends (R1006): with its bytes read, a NACK of the address, a NACK after some bytes, or arbitration lost after some
bytes. -/
inductive I2cEnd where
  | done (bytes : List Byte)
  | nackAddr
  | nackData (n : Nat)
  | arbLost (n : Nat)
deriving DecidableEq, Repr

/-- What a TAP controller holds after a load (Table 26-3): Test-Logic-Reset, BYPASS or IDCODE, another instruction. -/
inductive TapIr where
  | reset | idle | scan
deriving DecidableEq, Repr

/-- What the set-up of the two chip selects finds at BOOT (spec/06, "xSPI set-up"): whether it succeeds, the SFDP signature and
the sizes in bytes, whether the NOR can suspend, and the calibrated DQS delay. -/
structure XspiFound where
  ram : Bool
  ramSfdp : Bool
  ramSize : Nat
  nor : Bool
  norSize : Nat
  suspend : Bool
  dly : Nat
deriving DecidableEq, Repr

/-- What a word of SRAM bank 1 belongs to (Table 6-2, which gives no addresses inside the bank): nothing that holds an entry, the input
buffer of a channel, or an entry of a tenant's command or response queue. -/
inductive Bank1 where
  | spare | input (c : Fin 16) | cmd (k : Fin 8) (i : Nat) | resp (k : Fin 8) (i : Nat)
deriving DecidableEq, Repr

/-- The commands of the block: one constructor per row of spec/opcode_table.json, in its order. -/
inductive Instr where
  /-- COMMIT_ATTEMPT (R35). At T_REL minus 25 ms a commit attempt starts for the HELD sheet and runs the commit checks in order. -/
  | commitAttempt (took : Nat)
  /-- GEAR_CHANGE_LOCK (R34). The new gear becomes running when M2 reports speed lock. -/
  | gearChangeLock
  /-- HOLD_MAX_EXPIRY (R29). The hold age reaches HOLD_MAX with no attempt running, so the sheet is set for blank release. -/
  | holdMaxExpiry
  /-- BLANK_RELEASE (R30). A sheet is released blank at a release instant that keeps GAP_MIN, with its video gated off. -/
  | blankRelease (tRel : Nat)
  /-- SHEET_RELEASE (R549). At T_REL the launch segments of steppers S2 and S1 start the committed sheet. -/
  | sheetRelease (tRel : Nat)
  /-- INGEST_RATE_UPDATE (R42). Every 10 ms each tenant's ingest rate r_in is updated. -/
  | ingestRateUpdate
  /-- IDLE_COOL_EXPIRY (R19). The laser engine has been idle in READY for IDLE_COOL seconds and moves to COOLING. -/
  | idleCoolExpiry
  /-- WARMUP_COMPLETE (R602). Every warm-up condition holds, and the laser engine moves from WARMING to READY. -/
  | warmupComplete
  /-- WARMUP_TIMEOUT (R604). WARM_MAX passes in WARMING, and the laser engine stops with the mask of unmet conditions. -/
  | warmupTimeout
  /-- SHEET_FUSING (R22). At the placed instant the trailing edge leaves the transfer nip, and the sheet becomes FUSING. -/
  | sheetFusing (n : Fin 4)
  /-- CHBIND_WRITE (R62). T0 writes a channel binding, which waits until the channel holds no partly received frame. -/
  | chbindWrite (l : Land)
  /-- CHBIND_APPLY (R62). The pending binding takes effect, and held bytes are discarded as a resync. -/
  | chbindApply (c : Fin 16)
  /-- TCFG_WRITE (R88). A write to TCFG_k sets the weights, limits, keepalive and AUTO_RST of tenant k. -/
  | tcfgWrite (l : Land)
  /-- GQ_WRITE (R79). A write to GQ_k sets the galley minimum, the galley cap and the spool quota. -/
  | gqWrite (l : Land)
  /-- DMA_OWN_WRITE (R70). T0 writes DMA channel ownership, which waits until the channel is idle. -/
  | dmaOwnWrite (l : Land)
  /-- DMA_OWN_APPLY (R70). The owner change of an idle DMA channel takes effect. -/
  | dmaOwnApply (c : Fin 16)
  /-- TEN_RESET_WRITE (R94). T0 writes TEN_RESET and starts a reset of each named tenant. -/
  | tenResetWrite (l : Land)
  /-- TQ_SOFT_RST (R109). SOFT_RST of page TQn starts a tenant reset of tenant Tn. -/
  | tqSoftRst (l : Land)
  /-- TENANT_RESET_DONE (R95). A tenant reset finishes its ordered steps, the tenant becomes CLOSED and RESET_DONE is emitted. -/
  | tenantResetDone (k : Fin 8)
  /-- KEEPALIVE_EXPIRY (R90). KEEPALIVE times 100 ms pass with no accepted frame, and the tenant becomes FAULTED. -/
  | keepaliveExpiry (k : Fin 8)
  /-- BOOK_SNAP_WRITE (R103). A write of SNAP takes or releases the global snapshot of the books. -/
  | bookSnapWrite (l : Land)
  /-- TQ_SNAP_WRITE (R104). A write of SNAP in TQ_SNAP takes or releases the snapshot of that page's books. -/
  | tqSnapWrite (l : Land)
  /-- SNAPSHOT_EXPIRY (R105). A held snapshot is released after 10 ms. -/
  | snapshotExpiry (w : Fin 9)
  /-- GALLEY_GRANT (R78). The allocator grants a waiting unit request once R78 allows it. -/
  | galleyGrant (thermal : Bool) (k : Fin 8) (epoch : Nat) (job : Nat) (index : Nat) (band : Nat)
  /-- LASER_SELECT (R83). The laser scheduler selects the next sheet by weighted round robin. -/
  | laserSelect
  /-- THERMAL_SELECT (R84). The thermal scheduler selects the next receipt. -/
  | thermalSelect
  /-- FRAME_RECEIVE (R114). A frame on a bound channel is checked by the steps of Table 3-2. -/
  | frameReceive (c : Fin 16) (bytes : List (Byte × RxErr)) (fin : Bool)
  /-- RESPONSE_SEND (R1018). A channel begins to send the next response from the response queue. -/
  | responseSend (c : Fin 16)
  /-- NOTICE_SEND (R122). A channel sends a pending notice ahead of responses that have not started. -/
  | noticeSend (c : Fin 16)
  /-- USB_BUS_RESET (R135). A USB bus reset re-enumerates the port and may restore High-Speed. -/
  | usbBusReset (hs : Bool)
  /-- USB_SUSPEND (R129). After 3 ms of bus idle the USB port is suspended. -/
  | usbSuspend
  /-- REMOTE_WAKEUP (R130). A suspended port with a status report queued signals remote wakeup. -/
  | remoteWakeup
  /-- USB_FS_FALLBACK (R133). USBPLL loses the XO at High-Speed, and the port re-attaches at Full-Speed. -/
  | usbFsFallback
  /-- REATTACH (R134). A REATTACH write detaches the port for 10 ms and then attaches it. -/
  | reattach (l : Land)
  /-- ATTACH (R134). The port attaches; partly received frames are discarded and sessions are kept. -/
  | attach (hs : Bool)
  /-- STATUS_REPORT (R128). An 8-byte status report is sent on EP9 when a field has changed. -/
  | statusReport
  /-- GET_DEVICE_ID (R126). The Printer Class request returns the IEEE 1284 identifier string. -/
  | getDeviceId
  /-- GET_PORT_STATUS (R126). The Printer Class request returns the paper, select and error bits. -/
  | getPortStatus
  /-- SOFT_RESET (R126). The Printer Class request discards the partly received frame of the pair. -/
  | softReset
  /-- USB_REG_WRITE (R136). A vendor control request posts register words to the bridge. -/
  | usbRegWrite (a : Nat) (bytes : List Byte)
  /-- USB_REG_READ (R137). A vendor control request reads register words, with NAK until every word is available. -/
  | usbRegRead (a : Nat) (len : Nat)
  /-- GET_LINK (R138). A vendor control request returns the status of the last refused request and the frame number. -/
  | getLink
  /-- SPI_REG_READ (R144). An SPI transaction reads registers, with wait bytes, a marker and optional CRC. -/
  | spiRegRead (quad : Bool) (mosi : List Byte) (words : Nat)
  /-- SPI_REG_WRITE (R142). An SPI transaction posts register words, each checked by CRC when enabled. -/
  | spiRegWrite (quad : Bool) (mosi : List Byte)
  /-- STREAM_WRITE (R146). An SPI transaction carries frame stream bytes into the input buffer. -/
  | streamWrite (bytes : List Byte)
  /-- STREAM_READ (R145). An SPI transaction clocks out AVAIL and response bytes, consuming only whole bytes. -/
  | streamRead (n : Nat)
  /-- DMA_WRITE (R187). An SPI transaction carries raw data to the DMA channel connected to the SPI target. -/
  | dmaWrite (bytes : List Byte)
  /-- SPI_BAD_COMMAND (R1019). An unknown command byte starts no transaction and sets LSTAT bit 4. -/
  | spiBadCommand (cmd : Fin 256)
  /-- CS_N_DEASSERT (R142). CS_N deasserts and ends the SPI transaction, discarding an incomplete word. -/
  | csNDeassert
  /-- UART_FRAME_GAP (R150). No byte arrives for FRAME_GAP character times, and the partial frame is discarded. -/
  | uartFrameGap (u : Fin 2)
  /-- RS485_COLLISION (R152). A read-back mismatch deasserts DE and schedules a retransmission after backoff. -/
  | rs485Collision (u : Fin 2)
  /-- CAN_N_CR_TIMEOUT (R157). A transport reception passes N_Cr and is discarded as BAD_FRAME. -/
  | canNCrTimeout (st : Fin 4)
  /-- CAN_N_BS_TIMEOUT (R157). A transport transmission passes N_Bs and is dropped. -/
  | canNBsTimeout (st : Fin 4)
  /-- BUS_OFF (R158). The CAN controller enters bus-off, and the streams stop. -/
  | busOff
  /-- BOR (R158). A BOR write starts bus-off recovery. -/
  | bor (l : Land)
  /-- AUTO_BOR_RECOVERY (R158). With AUTO_BOR set, 128 occurrences of 11 recessive bits recover from bus-off. -/
  | autoBorRecovery
  /-- SESSION_OPEN (R173). The command opens a session, agrees the version and delivers orphan records. -/
  | sessionOpen (k : Fin 8)
  /-- SESSION_CLOSE (R199). The command closes the session unless a job slot is in use. -/
  | sessionClose (k : Fin 8)
  /-- PING (R160). The command returns its payload unchanged. -/
  | ping (k : Fin 8)
  /-- GET_INFO (R174). The command returns the device, engine and feature information. -/
  | getInfo (k : Fin 8)
  /-- JOB_START (R176). The command opens a laser or thermal job in a free job slot. -/
  | jobStart (k : Fin 8)
  /-- SHEET_DEFINE (R178). The command defines a sheet with its layers and puts it in QUEUED. -/
  | sheetDefine (k : Fin 8)
  /-- DATA (R183). The command stores band-block bytes of a layer in the spool within the quota. -/
  | data (k : Fin 8) (exts : List Nat)
  /-- DATA_DMA (R187). The command builds a DMA chain that carries layer data from a port to the spool. -/
  | dataDma (k : Fin 8) (exts : List Nat)
  /-- DATA_DMA_DONE (R188). The DMA transfer is stored and the chain retired, and the response is placed. -/
  | dataDmaDone (c : Fin 16)
  /-- JOB_END (R189). The command ends a job, and no further sheet may be defined in it. -/
  | jobEnd (k : Fin 8)
  /-- JOB_CANCEL (R51). The command removes queued sheets, releases staged ones blank and stops the receipt. -/
  | jobCancel (k : Fin 8)
  /-- JOB_STATUS (R166). The command returns the state and counts of a job. -/
  | jobStatus (k : Fin 8)
  /-- FORM_STORE (R192). The command stores one part of a form, and the LAST part starts programming. -/
  | formStore (k : Fin 8)
  /-- FORM_PROGRAM_DONE (R193). The form is programmed into NOR, replaces the older form and the LAST response is placed. -/
  | formProgramDone (k : Fin 8) (base : Nat)
  /-- FORM_DELETE (R195). The command deletes a form that no pending sheet names. -/
  | formDelete (k : Fin 8)
  /-- FORM_LIST (R166). The command lists the forms visible to the tenant. -/
  | formList (k : Fin 8)
  /-- FEED (R675). The command feeds the thermal paper a number of lines and optionally cuts it. -/
  | feed (k : Fin 8)
  /-- FEED_DONE (R675). The feed and cut finish, and the FEED response is placed. -/
  | feedDone
  /-- ENGINE_CTL_WARM (R19). ENGINE_CTL ACTION 1 starts a laser warm-up from COLD or COOLING. -/
  | engineCtlWarm (k : Fin 8)
  /-- ENGINE_CTL_COOL (R19). ENGINE_CTL ACTION 2 moves the laser engine from READY to COOLING. -/
  | engineCtlCool (k : Fin 8)
  /-- FACET_RELEARN (R938). CALIBRATE 1 relearns the facet table once the laser engine is idle. -/
  | facetRelearn (k : Fin 8)
  /-- HEAD_RESISTANCE (R943). CALIBRATE 2 runs a full element resistance sweep. -/
  | headResistance (k : Fin 8)
  /-- HOLDUP_CAL (R942). CALIBRATE 3 runs a hold-up capacitance measurement. -/
  | holdupCal (k : Fin 8)
  /-- LASER_POWER_CURVE (R939). CALIBRATE 4 steps the laser bias and fits a threshold and a slope. -/
  | laserPowerCurve (k : Fin 8)
  /-- CALIBRATE_DONE (R941). A calibration ends, and its response with RESULT and VALUE is placed. -/
  | calibrateDone (samples : List Nat)
  /-- COUNTERS_READ (R958). The command returns a range of life counters. -/
  | countersRead (k : Fin 8)
  /-- SEALED_REPORT (R877). The command starts building a MAC-sealed report of the requested kind. -/
  | sealedReport (k : Fin 8)
  /-- SEALED_REPORT_DONE (R879). The sealed report is complete, and its response is placed. -/
  | sealedReportDone (k : Fin 8)
  /-- EVENT_READ (R1016). The command returns the visible ring records from FROM_SEQ onward. -/
  | eventRead (k : Fin 8)
  /-- EVENT_SUBSCRIBE (R197). The command sets the severity threshold for event pushes. -/
  | eventSubscribe (k : Fin 8)
  /-- REG_READ (R200). The command reads up to 16 register words. -/
  | regRead (k : Fin 8)
  /-- REG_READ_DONE (R220). The words of a deferred REG_READ become available, and the response is placed. -/
  | regReadDone (k : Fin 8)
  /-- REG_WRITE (R201). The command posts up to 16 register words to the bridge. -/
  | regWrite (k : Fin 8)
  /-- REG_FENCE (R231). The command waits for all earlier writes of the tenant to complete. -/
  | regFence (k : Fin 8)
  /-- KEY_LOAD (R854). The command unwraps a key into a slot that the tenant owns. -/
  | keyLoad (k : Fin 8)
  /-- KEY_ERASE (R857). The command zeroises a slot and aborts every operation that uses it. -/
  | keyErase (k : Fin 8)
  /-- KEY_INFO (R166). The command returns the owner, type and load count of each slot. -/
  | keyInfo (k : Fin 8)
  /-- RANDOM_GET (R868). The command queues a request for random bytes from the DRBG. -/
  | randomGet (k : Fin 8)
  /-- PATCH_STATUS (R166). The command returns the device state and the bundle state. -/
  | patchStatus (k : Fin 8)
  /-- PATCH_PUSH (R205). The command delivers one chunk of a patch bundle during the boot window. -/
  | patchPush (k : Fin 8)
  /-- PUSH_GAP_TIMEOUT (R205). More than 100 ms pass between push chunks, and the push is abandoned. -/
  | pushGapTimeout
  /-- TENANT_RESET (R207). The command starts a reset of the sending tenant or, from T0, of another tenant. -/
  | tenantReset (k : Fin 8)
  /-- REGISTER_WRITE (R223). A posted write without a row of its own reaches its page and is checked and applied. -/
  | registerWrite (l : Land)
  /-- WRITE_TIMEOUT (R225). A page does not answer a write within TIMEOUT, and the write is refused. -/
  | writeTimeout (l : Land)
  /-- READ_TIMEOUT (R220). A read is not answered within TIMEOUT and completes with BUSY. -/
  | readTimeout (k : Fin 8) (a : Nat)
  /-- RC_FIELD_READ (R14). A granted read of an RC field returns its value and clears it. -/
  | rcFieldRead (k : Fin 8) (a : Nat)
  /-- WRITE_FENCE_READ (R231). A read of WRITE_FENCE waits for every earlier write of the tenant to complete. -/
  | writeFenceRead (k : Fin 8) (p : Fin 8)
  /-- FENCE_COMPLETE (R231). The last write before a fence completes, and the fence returns DONE and ERR. -/
  | fenceComplete (k : Fin 8)
  /-- PG_OWNER_WRITE (R235). T0 writes the read and write masks of a page. -/
  | pgOwnerWrite (l : Land)
  /-- PG_LOCK_WRITE (R237). Setting LOCK makes the page refuse tenant writes except to lock-exempt registers. -/
  | pgLockWrite (l : Land)
  /-- SOFT_RST (R241). SOFT_RST returns the page's fields to their reset values within 64 cycles. -/
  | softRst (l : Land)
  /-- FREEZE (R242). Setting FREEZE takes an image of the page's RO and RC fields for reads. -/
  | freeze (l : Land)
  /-- FREEZE_EXPIRY (R243). FREEZE clears itself 10 ms after it was set. -/
  | freezeExpiry (p : Fin 65)
  /-- SHADOW_COMMIT (R246). A SHADOW_COMMIT write takes the page's shadows into use at once or at the next boundary. -/
  | shadowCommit (l : Land)
  /-- SHADOW_BOUNDARY (R244). At its shadow-commit boundary a page takes every RWS shadow into use together. -/
  | shadowBoundary (p : Fin 65) (c : Fin 8)
  /-- EVT_PEND_WRITE (R249). Each 1 written to EVT_PEND clears that bit of EVT_RAW. -/
  | evtPendWrite (l : Land)
  /-- EVT_SET (R250). A write to EVT_SET sets RAW bits and raises synthetic spine records. -/
  | evtSet (l : Land)
  /-- LE_POP (R229). Writing POP removes the oldest entry of the late-error FIFO. -/
  | lePop (l : Land)
  /-- EVT_RD_READ (R264). A read of EVT_RD3 with RD_AUTOINC advances EVT_RD_SEQ. -/
  | evtRdRead (k : Fin 8) (i : Fin 4)
  /-- SPINE_ACCEPT (R255). The spine accepts a buffered record, numbers and stamps it and writes it into the ring. -/
  | spineAccept (p : Fin 65)
  /-- TIME_WRAP (R260). The always-on counter wraps, and a TIME_WRAP notice is raised. -/
  | timeWrap
  /-- DMA_POST (R286). The firmware posts a descriptor into the channel's next free queue slot. -/
  | dmaPost (l : Land)
  /-- DESCRIPTOR_FETCH (R289). A channel fetches and checks its next descriptor and starts it, or retires it BAD. -/
  | descriptorFetch (c : Fin 16) (ecc : Bool)
  /-- DESCRIPTOR_RETIRE (R291). A descriptor retires after its last write is issued, or is acknowledged for BARRIER. -/
  | descriptorRetire (c : Fin 16) (ack : Bool)
  /-- TRANSFER_FAIL (R297). A read or write of a descriptor fails, and the descriptor retires BAD. -/
  | transferFail (c : Fin 16) (ecc : Bool) (off : Nat)
  /-- PORT_IN_TIMEOUT (R297). PORT_IN receives no byte for PORT_TIMEOUT and retires with DMA_TIMEOUT. -/
  | portInTimeout (c : Fin 16)
  /-- LATE_DMA_ERROR (R300). A write fails after its descriptor has retired, and an entry is added to the channel's late-error FIFO. -/
  | lateDmaError (c : Fin 16) (addr : Nat) (tag : Nat) (reason : Fin 4)
  /-- CH_LE_POP (R302). Writing POP removes the oldest entry of a channel's late-error FIFO. -/
  | chLePop (l : Land)
  /-- DMA_ABORT (R307). ABORT stops the channel at the descriptor boundary and drops queued descriptors. -/
  | dmaAbort (l : Land)
  /-- CHANNEL_DISABLE (R307). EN going to 0 stops the channel at the next descriptor boundary and keeps its queue. -/
  | channelDisable (l : Land)
  /-- PRIORITY_RAISE (R316). A request that has waited 256 cycles is raised one priority class. -/
  | priorityRaise (p0wait : Nat)
  /-- XSPI_CMD_GO (R279). The firmware runs a NOR program, erase or status sequence. -/
  | xspiCmdGo (l : Land)
  /-- NOR_SUSPEND (R280). A NOR erase or program is suspended to serve a read and resumed afterwards. -/
  | norSuspend
  /-- SCRUB_BURST (R928). Every SCRUB_US the scrubber reads one 64-byte burst of SRAM. -/
  | scrubBurst (found : List (Fin 8 × Bool)) (at1 : Bank1)
  /-- BLOCK_DECODE (R338). The decoder takes a block from a queue, checks it and decodes it into galley units. -/
  | blockDecode
  /-- DECODE_SUSPEND (R345). A queue 0 block becomes ready and suspends a queue 1 block in progress. -/
  | decodeSuspend
  /-- BLOCK_ENCODE (R348). The encoder codes a queue 2 block at the selected EFFORT. -/
  | blockEncode (addr : Nat)
  /-- UNIT_FREE (R367). A RELEASING unit becomes FREE once its reads have drained and it is zero-filled. -/
  | unitFree (u : Fin 96)
  /-- NOP (R397). The sequencer word performs no operation. -/
  | kNop (i : Fin 2) (ecc : Ecc)
  /-- LDI (R397). GR d is loaded with the zero-extended immediate. -/
  | kLdi (i : Fin 2) (ecc : Ecc)
  /-- LDIH (R397). GR d bits [31:20] are loaded from the immediate. -/
  | kLdih (i : Fin 2) (ecc : Ecc)
  /-- ADDI (R397). The sign-extended immediate is added to GR d, setting the flags. -/
  | kAddi (i : Fin 2) (ecc : Ecc)
  /-- ANDI (R397). GR d is ANDed with the immediate, setting the flags. -/
  | kAndi (i : Fin 2) (ecc : Ecc)
  /-- ORI (R397). GR d is ORed with the immediate, setting the flags. -/
  | kOri (i : Fin 2) (ecc : Ecc)
  /-- XORI (R397). GR d is XORed with the immediate, setting the flags. -/
  | kXori (i : Fin 2) (ecc : Ecc)
  /-- CMPI (R397). The immediate is compared with GR d, setting the flags only. -/
  | kCmpi (i : Fin 2) (ecc : Ecc)
  /-- MOV (R397). GR d is loaded from GR s. -/
  | kMov (i : Fin 2) (ecc : Ecc)
  /-- ADD (R397). GR s is added to GR d, setting the flags. -/
  | kAdd (i : Fin 2) (ecc : Ecc)
  /-- SUB (R397). GR s is subtracted from GR d, setting the flags. -/
  | kSub (i : Fin 2) (ecc : Ecc)
  /-- SHL (R397). GR d is shifted left, setting the flags. -/
  | kShl (i : Fin 2) (ecc : Ecc)
  /-- SHR (R397). GR d is shifted right logically, setting the flags. -/
  | kShr (i : Fin 2) (ecc : Ecc)
  /-- LDP (R397). GR d is loaded from a parameter register. -/
  | kLdp (i : Fin 2) (ecc : Ecc)
  /-- STP (R402). A parameter register is written from GR d, active value and shadow. -/
  | kStp (i : Fin 2) (ecc : Ecc)
  /-- LCI (R400). A loop counter is loaded from the immediate. -/
  | kLci (i : Fin 2) (ecc : Ecc)
  /-- LCR (R400). A loop counter is loaded from GR s. -/
  | kLcr (i : Fin 2) (ecc : Ecc)
  /-- TMI (R395). A timer is loaded from the immediate and runs. -/
  | kTmi (i : Fin 2) (ecc : Ecc)
  /-- TMR (R395). A timer is loaded from GR s and runs. -/
  | kTmr (i : Fin 2) (ecc : Ecc)
  /-- TMSTOP (R396). A timer stops and keeps its count. -/
  | kTmstop (i : Fin 2) (ecc : Ecc)
  /-- PIN (R397). GR d is read from an instance port. -/
  | kPin (i : Fin 2) (ecc : Ecc)
  /-- POUT (R397). An instance port is written from GR d. -/
  | kPout (i : Fin 2) (ecc : Ecc)
  /-- EVT (R394). The sequencer raises a spine record. -/
  | kEvt (i : Fin 2) (ecc : Ecc)
  /-- SIG (R397). Bits are set in SEQ_SIG, firing source 2. -/
  | kSig (i : Fin 2) (ecc : Ecc)
  /-- FCLR (R397). Bits are cleared in SEQ_FLAG. -/
  | kFclr (i : Fin 2) (ecc : Ecc)
  /-- NEXT (R397). The sequential word goes to PC + 1. -/
  | kNext (i : Fin 2) (ecc : Ecc)
  /-- BR (R397). The word branches to BTGT when the condition is true. -/
  | kBr (i : Fin 2) (ecc : Ecc)
  /-- CALL (R403). The word pushes PC + 1 and goes to BTGT when the condition is true. -/
  | kCall (i : Fin 2) (ecc : Ecc)
  /-- RET (R403). The word returns to the popped address when the condition is true. -/
  | kRet (i : Fin 2) (ecc : Ecc)
  /-- LOOP (R387). The word decrements a loop counter and branches while it exceeds 1. -/
  | kLoop (i : Fin 2) (ecc : Ecc)
  /-- DISP (R388). The word dispatches to BTGT plus the masked bits of a general register. -/
  | kDisp (i : Fin 2) (ecc : Ecc)
  /-- ENT (R413). The word takes a pending entry request, or goes to BTGT. -/
  | kEnt (i : Fin 2) (ecc : Ecc)
  /-- HALT (R407). The sequencer halts after this word. -/
  | kHalt (i : Fin 2) (ecc : Ecc)
  /-- TIMER_EXPIRE (R395). A running sequencer timer counts down to 0, and TMXn becomes true. -/
  | timerExpire (i : Fin 2) (n : Fin 4)
  /-- WAIT_WATCHDOG (R404). A WT word waits longer than WAIT_MAX and faults with kind WDOG. -/
  | waitWatchdog (i : Fin 2)
  /-- SEQ_GO (R405). GO starts the sequencer at an entry, or makes an entry request pending. -/
  | seqGo (l : Land)
  /-- SEQ_HALT (R407). A HALT write stops the sequencer at the end of the cycle. -/
  | seqHalt (l : Land)
  /-- CS_CMD_WRITE (R414). The WRITE command copies the data registers into a control-store word. -/
  | csCmdWrite (l : Land)
  /-- CS_CMD_READ (R414). The READ command loads a control-store word into the data registers. -/
  | csCmdRead (l : Land) (ecc : Ecc)
  /-- CRC_GO (R418). A CRC pass over store words 0 to CRC_LAST starts. -/
  | crcGo (l : Land)
  /-- CRC_DONE (R418). The CRC pass ends, the result is placed in CS_CRC and CRC_GO clears. -/
  | crcDone (i : Fin 2) (bad : List Nat)
  /-- BD_PULSE (R429). A pulse on BD_IN is timestamped and qualified or rejected at its trailing edge. -/
  | bdPulse (t : Nat) (width : Nat) (late : Bool)
  /-- BD_WINDOW_CLOSE (R432). An armed window closes without a qualified pulse, and a BD is synthesised. -/
  | bdWindowClose (late : Bool)
  /-- EOS_PULSE (R441). An EOS pulse is captured for the current facet. -/
  | eosPulse (t : Nat)
  /-- SHEET_ARM (R448). The firmware arms a sheet in SCAN with its line count, token and lead. -/
  | sheetArm (l : Land)
  /-- PIX_LOCK_ACQUIRE (R454). PIXPLL locks, and PIX_LOCK becomes 1. -/
  | pixLockAcquire
  /-- PIX_LOCK_LOSS (R465). PIX_LOCK falls with a sheet armed, and every armed sheet is gated. -/
  | pixLockLoss
  /-- SEARCH_TIMEOUT (R435). SEARCH does not qualify within SEARCH_MAX, and the laser engine stops with BD_LOST. -/
  | searchTimeout
  /-- LINE_GO (R455). VIDEO latches LINE_PHASE and PIX_TRIM and starts fetching the next line. -/
  | lineGo (late : Bool)
  /-- LINE_ADV (R463). A LINE_ADV write exchanges the video line buffers. -/
  | lineAdv
  /-- BLDC_RUN (R472). RUN with a nonzero command starts the motor in CATCH or ALIGN. -/
  | bldcRun (m : Fin 3)
  /-- CATCH_DONE (R475). After CATCH_T the back-EMF measurement decides RUN, ALIGN or BRAKE. -/
  | catchDone (m : Fin 3) (amp : Nat) (spd : Int) (ang : Nat)
  /-- BRAKE_END (R477). The back-EMF falls below CATCH_MIN, or BRAKE_MAX passes and the motor faults with STALL. -/
  | brakeEnd (m : Fin 3) (low : Bool)
  /-- ALIGN_DONE (R479). The twelve saturation pulses end, and the initial angle is found or a fault is raised. -/
  | alignDone (m : Fin 3) (peaks : List Nat)
  /-- HANDOVER_TIMEOUT (R484). After 1 s in START above HO_UP, the motor faults with HO_FAIL. -/
  | handoverTimeout (m : Fin 3)
  /-- STOPPING_DONE (R473). A stopping motor falls below 1 % of RATED, or 5 s pass, and it enters OFF. -/
  | stoppingDone (m : Fin 3)
  /-- PWM_PERIOD (R470). Each PWM period the current loop, the observer and the tracker run. -/
  | pwmPeriod (m : Fin 3) (iu : Int) (iv : Int) (iw : Int) (vu : Int) (vv : Int) (vw : Int) (vm : Nat)
  /-- MOTOR_OVERCURRENT (R508). A phase current above OC_TRIP turns the gates off for the period. -/
  | motorOvercurrent (m : Fin 3)
  /-- VDS_FAULT (R509). A FET drain-source voltage above VDS_TH faults the motor. -/
  | vdsFault (m : Fin 3) (high : Bool) (phase : Fin 3) (two : Bool)
  /-- GATE_UV (R511). A bootstrap or gate supply undervoltage faults the motor. -/
  | gateUv (m : Fin 3)
  /-- VM_BLDC_UV (R512). VM_BLDC below VM_UV for 1 ms puts every running motor in coasting STOPPING. -/
  | vmBldcUv (low : Bool)
  /-- BLDC_CLR_FAULT (R472). CLR_FAULT with a zero command moves the motor from FAULT to OFF. -/
  | bldcClrFault (l : Land)
  /-- QUAD_DIRECTION (R502). The quadrature count over 100 ms gives the physical direction. -/
  | quadDirection (m : Fin 3) (count : Int)
  /-- REVERSE_STALL (R505). The observer speed is negative for 200 ms under a forward command, and the motor faults with STALL. -/
  | reverseStall (m : Fin 3)
  /-- CURVE_SAMPLE (R493). Every 100 ms the curve input X is sampled and the command recomputed. -/
  | curveSample (m : Fin 3) (aux : Nat)
  /-- SEG_CRUISE (R517). A posted CRUISE segment holds the axis velocity. -/
  | segCruise (l : Land)
  /-- SEG_LINEAR (R517). A posted LINEAR segment ramps velocity linearly. -/
  | segLinear (l : Land)
  /-- SEG_SINE (R517). A posted SINE segment blends velocity with a cosine profile. -/
  | segSine (l : Land)
  /-- SEG_QUINTIC (R517). A posted QUINTIC segment blends velocity with a quintic profile. -/
  | segQuintic (l : Land)
  /-- SEG_STOP (R521). A posted STOP sets velocity to 0 at the next tick and discards the queue behind it. -/
  | segStop (l : Land)
  /-- PROFILE_TICK (R517). Every 20 µs each axis's commanded position is computed from its segment. -/
  | profileTick
  /-- BRIDGE_TRIP (R526). A bridge current above 3.5 A turns the axis off and faults it. -/
  | bridgeTrip (i : Fin 4) (cause : Fin 4) (b : Bool)
  /-- COIL_OPEN (R527). Eight chopper periods without reaching half the target fault the axis with OPEN. -/
  | coilOpen (i : Fin 4) (b : Bool)
  /-- VM_STEP_UV (R528). VM_STEP below 6.5 V for 1 ms faults every axis. -/
  | vmStepUv
  /-- PARK (R530). A PARK request moves a held axis to a stable index and ramps its current down. -/
  | park (l : Land)
  /-- PARK_DONE (R530). The park finishes, the bridges are off and POS_STATE is RETAINED. -/
  | parkDone (i : Fin 4)
  /-- ENERGISE (R532). An enabled axis energises at its retained or nearest stable index. -/
  | energise (i : Fin 4)
  /-- ST_DC_WRITE (R536). A write to ST_DC sets the DC-mode duty, direction and brake of stepper S4. -/
  | stDcWrite (l : Land)
  /-- DC_STALL (R537). The DC current stays at its limit for STALL_T, and the motor is braked. -/
  | dcStall (i : Nat)
  /-- SENSOR_SAMPLE (R539). Every 100 µs the paper sensors are sampled dark and lit. -/
  | sensorSample (ins : List SnsIn) (ilk : Bool) (cov0 : Bool) (cov1 : Bool)
  /-- PICK_ISSUE (R546). The pick of a selected sheet is issued once S1 is in HOLD, PICK is clear and TRAY is occupied. -/
  | pickIssue
  /-- TOKEN_RECONCILE (R561). The sensors stay clear for CLEAR_T after a cover cycle, and the jammed tokens are reconciled. -/
  | tokenReconcile
  /-- LOOP_SAMPLE (R575). At its sample tick a loop channel runs its state-feedback law. -/
  | loopSample (n : Fin 8) (fb : Option Nat)
  /-- LOOP_ENABLE (R583). EN set starts the channel, initialising its states at the first sample. -/
  | loopEnable (l : Land)
  /-- LOOP_DISABLE (R585). EN cleared sets the output to UOFF and stops sampling. -/
  | loopDisable (l : Land)
  /-- LOOP_INIT (R584). INIT reinitialises the channel states at the next sample. -/
  | loopInit (l : Land)
  /-- LOOP_SWAP (R590). SWAP requests the inactive coefficient bank to become active. -/
  | loopSwap (l : Land)
  /-- LOOP_CLR_FAULT (R601). CLR_FAULT moves a loop channel from FAULT to OFF. -/
  | loopClrFault (l : Land)
  /-- COEF_WRITE (R589). A coefficient write is taken into the inactive bank or refused. -/
  | coefWrite (l : Land)
  /-- HEATER_PERIOD (R605). Each HTR_PER the heater gate turns on for the duty of loop L0. -/
  | heaterPeriod (i : Nat) (low : Bool)
  /-- FUSER_READING (R607). Every 10 ms the fuser temperature is computed and delivered to L0. -/
  | fuserReading (ratio : Fin 4096)
  /-- CORR_TEST_START (R621). A due correlation test starts once VFUSER is up and no receipt runs. -/
  | corrTestStart
  /-- CORR_FORCE (R620). A CORR_FORCE write makes the correlation test due at the next warm-up. -/
  | corrForce (l : Land)
  /-- OT_TRIP (R616). The over-temperature comparator trips, latching and forcing the heater off. -/
  | otTrip
  /-- OT_CLR (R616). OT_CLR clears the over-temperature latch when allowed. -/
  | otClr (l : Land) (trips : Bool)
  /-- HEATER_OVERCURRENT (R618). Heater current above HTR_OC forces the gate off. -/
  | heaterOvercurrent
  /-- HEATER_STUCK (R619). Current with the gate off for 10 ms locks PCH10 off. -/
  | heaterStuck
  /-- HV_BRINGUP_STEP (R627). An HV reference ramp ends, and the next channel's bring-up starts. -/
  | hvBringupStep
  /-- ILK_CHANGE (R631). ILK_N changes, and LD_EN_OUT and HV_EN follow the laser-enable chain. -/
  | ilkChange (high : Bool)
  /-- OVERPOWER_TRIP (R640). The overpower comparator trips, latching and putting the laser out. -/
  | overpowerTrip
  /-- OP_CLR (R640). OP_CLR clears the overpower latch when allowed. -/
  | opClr (l : Land) (trips : Bool)
  /-- ENABLE_MISMATCH (R642). An enable ball asserted against the drive for 10 µs locks its rail off. -/
  | enableMismatch (hv : Bool)
  /-- GATE_INPUT (R663). A head gate input asserts, and every strobe is forced off within 1 µs. -/
  | gateInput (op : Bool) (po : Bool) (jam : Bool)
  /-- BLOCKED_ENTRY (R665). A gate condition holds for BLK_DEB, and the thermal engine enters BLOCKED. -/
  | blockedEntry
  /-- BLOCKED_CLEAR (R647). Every gate input reads clear for CLEAR_T, and the thermal engine returns to IDLE. -/
  | blockedClear
  /-- HD_CLR (R690). HD_CLR with every cause gone leaves FAULT. -/
  | hdClr (l : Land)
  /-- SHIFT_GO (R651). HEAD shifts the next line pattern out on the lanes. -/
  | shiftGo
  /-- LATCH (R655). HEAD latches the line and computes the class widths. -/
  | latch (vh : Nat)
  /-- STROBE_GO (R659). HEAD fires all passes of the latched line group set by group set. -/
  | strobeGo
  /-- STROBE_DONE (R659). The last strobe train ends, and STROBE_DONE becomes true. -/
  | strobeDone
  /-- PREHEAT_GO (R661). HEAD fires the preheat pattern once, within the per-line cap. -/
  | preheatGo (gap : Nat)
  /-- STEP (R672). A platen step from rest restarts stepper S3 toward TARGET. -/
  | step
  /-- LINE_DONE (R667). At a line boundary HEAD sets TARGET from the fill. -/
  | lineDone
  /-- MEAS_GO (R677). HEAD measures one element's resistance. -/
  | measGo
  /-- MEAS_DONE (R678). The element measurement is stored in the resistance table. -/
  | measDone (mv : Nat)
  /-- CUT_GO (R686). The cutter starts a partial or full cut. -/
  | cutGo
  /-- CUT_DONE (R686). The cut ends with SNS4 occupied. -/
  | cutDone
  /-- HOMING (R685). The cutter homes before the first line of a receipt that asks for a cut. -/
  | homing
  /-- CUT_TIMEOUT (R687). A cut or homing not done within CUT_TMAX is a CUT_FAULT. -/
  | cutTimeout
  /-- STROBE_MISMATCH (R666). A strobe ball asserted against the drive locks PCH7 off. -/
  | strobeMismatch
  /-- HEAD_TEMP_READING (R652). Every 10 ms the head temperature and TEMP_BIN are computed. -/
  | headTempReading (ratio : Fin 4096)
  /-- VHEAD_WINDOW (R688). VHEAD outside its window for 1 ms with HEAD_EN set is a HEAD_FAULT. -/
  | vheadWindow (mv : Nat)
  /-- DEF_CLR (R682). DEF_CLR removes every measured entry from the defect map. -/
  | defClr (l : Land)
  /-- HD_DEF_ENT_WRITE (R682). T0 adds or removes a HOST entry of the defect map. -/
  | hdDefEntWrite (l : Land)
  /-- VM_OK_CHANGE (R692). VM_OK changes, driving VM_RB_G and possibly requesting STANDBY_EXIT. -/
  | vmOkChange (ok : Bool)
  /-- VIN_OK_CHANGE (R694). VIN_OK changes as VIN enters or leaves its range for 1 ms. -/
  | vinOkChange (ok : Bool)
  /-- INPUT_OV (R695). An input above 50 V for 10 µs switches the VM channels off. -/
  | inputOv
  /-- INPUT_OV_CLEAR (R695). Both inputs stay at or below 49 V for 100 ms, and INPUT_OV clears. -/
  | inputOvClear
  /-- UVLO (R696). VIN below 4.3 V for 10 µs starts the hardware shutdown. -/
  | uvlo
  /-- PG_CHANGE (R699). A rail channel's power-good changes. -/
  | pgChange (n : Fin 16) (pg : Bool)
  /-- DISCHARGE_DONE (R700). A discharged channel falls below 10 %, and DOWN sets. -/
  | dischargeDone (n : Fin 16)
  /-- END (R709). The sequence step ends the program with result OK. -/
  | pEnd (errs : List (Nat × Bool))
  /-- ENA (R698). The sequence step starts soft start of the masked channels. -/
  | pEna
  /-- DIS (R700). The sequence step switches the masked channels off, optionally discharging. -/
  | pDis
  /-- WAIT (R707). The sequence step waits COUNT units. -/
  | pWait
  /-- WAIT_END (R707). A WAIT step's count expires, and the next step runs. -/
  | pWaitEnd
  /-- WAITC (R708). The sequence step waits for a condition with a timeout. -/
  | pWaitc
  /-- WAITC_END (R708). The WAITC condition becomes true, and the next step runs. -/
  | pWaitcEnd
  /-- WAITC_TIMEOUT (R708). The WAITC timeout passes, and the step FAIL runs. -/
  | pWaitcTimeout
  /-- CHECK (R709). The sequence step ends the program FAIL when its condition is false. -/
  | pCheck
  /-- JMP (R706). The sequence step jumps to TARGET. -/
  | pJmp
  /-- JMPC (R706). The sequence step jumps to TARGET when its condition holds. -/
  | pJmpc
  /-- EVENT (R710). The sequence step raises a spine record. -/
  | pEvent
  /-- PSEQ_ENTRY_START (R716). With no program running, the first pending vector starts. -/
  | pseqEntryStart
  /-- PROGRAM_TIMEOUT (R720). A POWER_DOWN or TRIP program not ended after 20 ms is aborted for the hardware shutdown. -/
  | programTimeout
  /-- PSEQ_REQ (R723). The firmware requests a sequencer vector. -/
  | pseqReq (l : Land)
  /-- FW_ACK (R724). The firmware acknowledges readiness for STANDBY_ENTER. -/
  | fwAck (l : Land)
  /-- POWER_UP_START (R726). VIN_OK has held 100 ms with RST_N high, and POWER_UP starts. -/
  | powerUpStart
  /-- POWER_UP_RETRY (R712). 1 s after a failed POWER_UP, it is retried unless PU_HALT is set. -/
  | powerUpRetry
  /-- STBY (R729). A STBY request enters STANDBY once both engines are idle. -/
  | stby (l : Land)
  /-- WAKE (R730). A WAKE write requests STANDBY_EXIT. -/
  | wake (l : Land)
  /-- WAKE_N_FALL (R730). A falling edge on WAKE_N in STANDBY requests STANDBY_EXIT. -/
  | wakeNFall
  /-- CYCLE (R726). A CYCLE write requests POWER_DOWN, and the device restarts. -/
  | cycle (l : Land)
  /-- RST_N (R726). A pulse on RST_N starts the hardware shutdown, or leaves TRIPPED. -/
  | rstN
  /-- CLASS_A_TRIP (R731). A class A condition forces every power output off and starts TRIP. -/
  | classATrip (cause : Fin 7) (n : Fin 16)
  /-- CLASS_B_WARN (R737). A class B condition of a channel warns and reacts by B_ACT. -/
  | classBWarn (n : Fin 16) (kind : Fin 6) (present : Bool) (v : Nat)
  /-- TJ_HOT (R741). The junction at TJ_WARN for 3 samples emits TJ_HOT. -/
  | tjHot (hot : Bool) (tj : Int)
  /-- PFW_RAISE (R743). VIN below the threshold for PFW_DEB raises the power-fail warning. -/
  | pfwRaise (vin : Nat)
  /-- PF_WINDOW_EXPIRY (R746). PF_WINDOW passes after PFW, and POWER_DOWN starts. -/
  | pfWindowExpiry
  /-- VIN_REF_TAKEN (R742). VIN_REF is taken as the mean of VIN over 10 ms after POWER_UP. -/
  | vinRefTaken (vin : Nat)
  /-- BANK_FULL (R758). VBANK holds at 98 % of VSET for 100 ms, and FULL sets. -/
  | bankFull (full : Bool)
  /-- BANK_MEAS_START (R759). A pending capacitance measurement starts when its conditions hold. -/
  | bankMeasStart (v0 : Nat) (v1 : Nat)
  /-- BANK_MEAS_DONE (R760). VBANK reaches V2, and capacitance and ESR are computed. -/
  | bankMeasDone
  /-- MEAS_ABORT (R761). A MEAS_ABORT write abandons the running measurement. -/
  | measAbort (l : Land)
  /-- MEAS_TIMEOUT (R762). V2 is not reached within 20 s, and the result is MEAS_TIMEOUT. -/
  | measTimeout
  /-- E_AVAIL_UPDATE (R764). Every 1 ms the stored energy E_AVAIL is computed. -/
  | eAvailUpdate (vbank : Nat) (i : Nat)
  /-- BANK_LOW (R771). VBANK below VMIN during PFW is BANK_LOW, and POWER_DOWN follows after REC_LEAD. -/
  | bankLow
  /-- BANK_FAULT (R756). A bank condition of Table 17-5 holds for its time, and BANK_FAULT is raised. -/
  | bankFault (cause : Fin 5) (present : Bool)
  /-- PF_RECORD_WRITE (R770). The power-fail record is written at the first of its instants. -/
  | pfRecordWrite (fail : Bool)
  /-- QUAL_WINDOW (R777). A 2 ms count window ends, qualifying or losing a clock source. -/
  | qualWindow (n : Fin 2) (edges : Nat) (gap : Bool)
  /-- SOURCE_GAP (R778). A qualified source shows a gap and becomes LOST. -/
  | sourceGap (n : Fin 2)
  /-- SOURCE_HELD (R779). A source qualified for QUAL_HOLD becomes held. -/
  | sourceHeld (n : Fin 2)
  /-- REFIN_HZ_WRITE (R780). A change of REFIN_HZ puts REFIN back into QUALIFYING. -/
  | refinHzWrite (l : Land)
  /-- IRC_FAIL (R781). The LPO finds the IRC failed, and the device enters SAFE_STOP. -/
  | ircFail
  /-- CLK_SWITCH_START (R797). A pending clock switch starts once the engines and the sequencer are idle. -/
  | clkSwitchStart
  /-- RAMP_STEP (R799). A domain holds a ratio for RAMP_DWELL and then steps it. -/
  | rampStep (k : Fin 42) (miss : Option (Fin 232))
  /-- SYSPLL_LOCK (R801). SYSPLL locks to the target during relock. -/
  | syspllLock
  /-- RELOCK_TIMEOUT (R803). SYSPLL fails to lock within 2 ms, and the next source is tried. -/
  | relockTimeout
  /-- BOOT_REPORTS (R923). The firmware emits the previous run's trip, safe-stop and power-fail reports. -/
  | bootReports
  /-- JOURNAL_MOUNT (R951). At BOOT the journal is mounted and the newest records are restored. -/
  | journalMount (x : XspiFound)
  /-- BOOT_WINDOW_CLOSE (R836). The boot window closes 200 ms after the ports open. -/
  | bootWindowClose
  /-- PUSH_LIMIT (R838). A push not at LAST 2 s after the window opened is abandoned. -/
  | pushLimit
  /-- BUNDLE_DECIDE (R839). The firmware chooses the pushed or the NOR bundle, or none. -/
  | bundleDecide
  /-- SEC_VER_RAISE (R843). After NOMINAL with RAISE set, the thermometer bits are burned. -/
  | secVerRaise
  /-- OTP_PG_GO (R827). A programming request burns one OTP word or is refused. -/
  | otpPgGo (l : Land)
  /-- OTP_BURN_DONE (R827). The burn ends, the margin read is taken and RESULT is set. -/
  | otpBurnDone (raw : Option Word)
  /-- OTP_FINAL (R829). FINAL finalises INTEGRATOR with its digest and lock word. -/
  | otpFinal (l : Land)
  /-- KS_OWN_WRITE (R851). T0 assigns key slot owners, zeroising each slot that changes owner. -/
  | ksOwnWrite (l : Land)
  /-- KS_ERASE (R857). A KS_ERASE write zeroises key slots and aborts operations that use them. -/
  | ksErase (l : Land)
  /-- TRNG_SAMPLE (R865). Every microsecond a raw entropy sample is taken and tested. -/
  | trngSample (b : Bool)
  /-- RECOVERY_DONE (R872). A recovery reseed completes, and the request queue drains. -/
  | recoveryDone
  /-- RECOVERY_TIMEOUT (R873). A recovery exceeds 100 ms, and waiting requests fail. -/
  | recoveryTimeout
  /-- DRBG_RESEED (R867). The DRBG reseeds after RESEED_REQ requests or RESEED_MS. -/
  | drbgReseed
  /-- DRBG_GENERATE (R868). The DRBG serves the request at the head of the queue and places its response. -/
  | drbgGenerate
  /-- TRNG_SOFT_RST (R876). SOFT_RST of TRNG clears the latched fault and restarts the source. -/
  | trngSoftRst (l : Land)
  /-- INJECTION_TEST (R883). Every 1 ms a known difference is injected into the comparator or parity. -/
  | injectionTest (o : InjOut)
  /-- LOCKSTEP_MISMATCH (R882). A lane mismatch or delay parity error leads to SAFE_STOP. -/
  | lockstepMismatch (parity : Bool) (lane : Nat)
  /-- WATCHDOG_EXPIRY (R888). 10 ms without a kick is a WATCHDOG fault. -/
  | watchdogExpiry
  /-- LK_KICK (R888). The firmware kicks the watchdog. -/
  | lkKick (l : Land)
  /-- LK_COMMIT (R895). The firmware records a commit's tracker slot, or the write is refused. -/
  | lkCommit (l : Land)
  /-- FINISH_GRACE (R901). Every LK_COMMIT bit clears, and the grace starts with the process outputs off. -/
  | finishGrace
  /-- FINISH_DONE (R900). The 5 ms grace ends, and SAFE_FINISH passes to SAFE_STOP. -/
  | finishDone
  /-- FINISH_TIMEOUT (R900). FINISH_MAX passes, and SAFE_FINISH passes to SAFE_STOP. -/
  | finishTimeout
  /-- LK_FULLRST (R905). T0 writes the key and starts the hardware shutdown. -/
  | lkFullrst (l : Land)
  /-- LK_FORCE (R909). A T0 write with the key forces a test fault when debug is unlocked. -/
  | lkForce (l : Land)
  /-- TASK_SLICE (R931). A background task runs one slice when the scheduler allows. -/
  | taskSlice (rb : Bool) (er : Bool)
  /-- BG_LATE (R934). A task not started within its deadline emits BG_LATE. -/
  | bgLate (t : Fin 9)
  /-- FLUSH (R956). A FLUSH write queues a LIFE record at once. -/
  | flush (l : Land)
  /-- LF_LO_READ (R958). A read of LF_LO latches the high word into LF_HI. -/
  | lfLoRead (k : Fin 8)
  /-- PM_FUNC_WRITE (R969). A FUNC write switches a ball between primary, GPIO and OFF. -/
  | pmFuncWrite (l : Land)
  /-- GPIO_CHANGE (R975). A GPIO input changes, and its PINMUX source fires. -/
  | gpioChange (k : Fin 28) (high : Bool)
  /-- ADC_CONVERSION (R997). A converter converts the next input of its round. -/
  | adcConversion (a : Fin 2) (code : Fin 4096)
  /-- I2C_GO (R1008). GO starts an I2C transfer when the controller is not busy. -/
  | i2cGo (l : Land)
  /-- I2C_DONE (R1006). The I2C transfer ends with a STOP, or with a NACK. -/
  | i2cDone (i : Fin 2) (e : I2cEnd)
  /-- I2C_STRETCH_TIMEOUT (R1007). SCL held low past STRETCH_MAX ends the transfer and frees the bus. -/
  | i2cStretchTimeout (i : Fin 2) (n : Nat)
  /-- TAP_INSTRUCTION (R1013). A TAP instruction load sets BSCAN, which blocks picks and receipts. -/
  | tapInstruction (ir : TapIr)
  /-- VAON_LOSS (R726). VAON is lost, so the device leaves TRIPPED for OFF and every VAON-held value (TRIP_REC, LK_REC, stepper positions, the always-on counter) is lost. -/
  | vaonLoss
  /-- BD_WINDOW_OPEN (R428). At E minus WIN_PRE an armed acceptance window opens, and BD light turns the video output on. -/
  | bdWindowOpen
  /-- USB_RESUME (R129). Bus activity from the host ends USB suspend, and SUSPENDED clears. -/
  | usbResume
  /-- STANDARD_REQUEST (R130). A USB standard request on EP0 sets the address or configuration, or enables remote wakeup. -/
  | standardRequest (r : StdReq)
  /-- NOR_SEQUENCE_END (R280). A NOR program or erase sequence completes, GO clears and a NOR read that waited for it proceeds. -/
  | norSequenceEnd (op : NorOp)
  /-- XO_WAIT_EXPIRY (R796). XO_WAIT passes at BOOT without a qualified XO, and SYSPLL locks to the highest-ranked qualified source. -/
  | xoWaitExpiry
  /-- GALLEY_WAIT (R251). A galley grant has waited 10 ms, and the WAIT source of the GALLEY page fires. -/
  | galleyWait
  /-- CTS_N_CHANGE (R149). CTS_N falls with FLOW set, and the UART resumes sending the bytes it held back. -/
  | ctsNChange (u : Fin 2) (high : Bool)
  /-- CAN_FLOW_CONTROL (R154). A flow-control frame from the host arrives during a transmission, and the controller applies its BS, STmin or WAIT. -/
  | canFlowControl (st : Fin 4) (fs : FlowSt) (bs : Nat) (stmin : Nat)
  /-- ILLEGAL_WORD (R388). An illegal control-store word is fetched, executes nothing and faults the sequencer with kind ILLEGAL. -/
  | illegalWord (i : Fin 2) (ecc : Ecc)
  /-- ILLEGAL_STEP (R705). An illegal sequence step, or the step after step 63, runs and ends the program with FAIL and CODE 0xFF. -/
  | illegalStep (parity : Bool)
  /-- LIFE_SECONDS (R955). A second of a timed condition (power on, polygon, drive, fuser, laser) elapses, and the life counter for it increments or waits in PEND_i. -/
  | lifeSeconds
deriving DecidableEq, Repr

end Sys2Proof
end

