-- ==== Sys2Proof/Decode.lean ====
section
/-! DEFINITION. Command words. spec/opcode_table.json gives no row any bits: a command of this block is a happening at its ports, pins,
registers and units, and no word spells one. -/

namespace Sys2Proof

/-- The command a word of `nbits` bits spells by the table's bits: no row of the table gives any. -/
def decodeTableWord (nbits w : Nat) : Option Instr :=
  match nbits, w with
  | _, _ => none

end Sys2Proof
end

