-- ==== Sys2Proof/Machine/Operands.lean ====
section
/-! DEFINITION. Operand forms shared by every family: sparse maps in canonical form, bit fields, little-endian
byte strings (R1), saturating and signed arithmetic, and fixed tables held as lists. -/

namespace Sys2Proof.Machine

/-! ### Sparse maps: strictly rising keys, no entry equal to what an unlisted key reads as -/

/-- The value at key `k` of a sparse map whose unlisted keys read as `dflt`. -/
def sget {α : Type} (dflt : Nat → α) : List (Nat × α) → Nat → α
  | [], k => dflt k
  | (a, v) :: m, k => if k = a then v else sget dflt m k

/-- Put an entry before the first larger key. -/
def sins {α : Type} : List (Nat × α) → Nat → α → List (Nat × α)
  | [], k, v => [(k, v)]
  | (a, w) :: m, k, v => if k < a then (k, v) :: (a, w) :: m else (a, w) :: sins m k v

/-- The map without key `k`. -/
def sdel {α : Type} : List (Nat × α) → Nat → List (Nat × α)
  | [], _ => []
  | (a, w) :: m, k => if a = k then sdel m k else (a, w) :: sdel m k

/-- Write `v` at key `k`, keeping the canonical form (writing what an unlisted key reads as removes the entry). -/
def sset {α : Type} [DecidableEq α] (dflt : Nat → α) (m : List (Nat × α)) (k : Nat) (v : α) : List (Nat × α) :=
  if v = dflt k then sdel m k else sins (sdel m k) k v

/-- All keys of a sparse map are above `b`, rise strictly, and no entry is redundant. -/
def swfFrom {α : Type} [DecidableEq α] (dflt : Nat → α) : Nat → List (Nat × α) → Bool
  | _, [] => true
  | b, (a, v) :: m => decide (b ≤ a) && decide (v ≠ dflt a) && swfFrom dflt (a + 1) m

/-- The canonical form of a sparse map. -/
def swf {α : Type} [DecidableEq α] (dflt : Nat → α) (m : List (Nat × α)) : Bool := swfFrom dflt 0 m

/-! ### Fixed tables held as lists -/

/-- Replace entry `i` by `f` of it; a table keeps its length. -/
def lmod {α : Type} (l : List α) (i : Nat) (f : α → α) : List α := l.modify i f

/-! ### Bits and fields -/

/-- The field of `w` bits whose lowest bit is `lo`. -/
def bitsOf (x lo w : Nat) : Nat := (x >>> lo) % 2 ^ w

/-- `x` with the field of `w` bits at `lo` replaced by `v` (modulo the width). -/
def bitsPut (x lo w v : Nat) : Nat :=
  let old := bitsOf x lo w
  x - old * 2 ^ lo + (v % 2 ^ w) * 2 ^ lo

/-- Bit `i` of `x`. -/
def bit (x i : Nat) : Bool := (x >>> i) % 2 == 1

/-- 1 or 0. -/
def b2n (b : Bool) : Nat := if b then 1 else 0

/-- The signed value of the low `w` bits of `x`. -/
def sext (x w : Nat) : Int :=
  let y := x % 2 ^ w
  if y < 2 ^ (w - 1) then (y : Int) else (y : Int) - (2 ^ w : Nat)

/-- The `w`-bit two's complement pattern of `i`. -/
def unsext (i : Int) (w : Nat) : Nat := (i % ((2 ^ w : Nat) : Int)).toNat

/-- Clamp to a range. -/
def clampN (lo hi x : Nat) : Nat := if x < lo then lo else if hi < x then hi else x

/-- Clamp a signed value to a range. -/
def clampI (lo hi x : Int) : Int := if x < lo then lo else if hi < x then hi else x

/-- Signed saturation to `w` bits. -/
def satI (w : Nat) (x : Int) : Int := clampI (-(2 ^ (w - 1) : Nat)) ((2 ^ (w - 1) : Nat) - 1) x

/-- Unsigned saturation to `w` bits. -/
def satN (w x : Nat) : Nat := if x < 2 ^ w then x else 2 ^ w - 1

/-- 0 acts as 1. -/
def atLeast1 (x : Nat) : Nat := if x = 0 then 1 else x

/-- Division rounding up; 0 for a zero divisor. -/
def ceilDiv (a b : Nat) : Nat := if b = 0 then 0 else (a + b - 1) / b

/-- Division rounding to nearest, ties away from zero; 0 for a zero divisor. -/
def roundDiv (a b : Nat) : Nat := if b = 0 then 0 else (2 * a + b) / (2 * b)

/-- Signed division rounding to nearest, ties away from zero. -/
def roundDivI (a b : Int) : Int :=
  let q : Int := roundDiv a.natAbs b.natAbs
  if (a < 0) == (b < 0) then q else -q

/-! ### Little-endian byte strings (R1) -/

/-- The `n` low bytes of `x`, least significant first. -/
def leBytes : Nat → Nat → List Byte
  | 0, _ => []
  | n + 1, x => BitVec.ofNat 8 x :: leBytes n (x / 256)

/-- The number a little-endian byte string spells. -/
def leNat : List Byte → Nat
  | [] => 0
  | b :: bs => b.toNat + 256 * leNat bs

/-- Bytes `[i, i + n)` of a string, read as a little-endian number; bytes past the end read as 0. -/
def leAt (bs : List Byte) (i n : Nat) : Nat := leNat ((bs.drop i).take n)

/-- The byte at position `i`, 0 past the end. -/
def byteAt (bs : List Byte) (i : Nat) : Nat := (bs.getD i 0).toNat

/-- `n` zero bytes. -/
def zeros (n : Nat) : List Byte := List.replicate n 0

/-- A string padded with zeros (or cut) to `n` bytes. -/
def padTo (n : Nat) (bs : List Byte) : List Byte := (bs ++ zeros (n - bs.length)).take n

end Sys2Proof.Machine
end

