-- ==== Sys2Proof/Machine/Crypto.lean ====
section
/-! DEFINITION. The algorithms the spec names by their standards: CRC-32C (R110), CRC-8 (R141), SHA-256 and HMAC-SHA-256
(R112), and AES-256 in Galois/counter mode (spec/20_crypto_trng.md). -/

namespace Sys2Proof.Machine

/-! ### CRC -/

/-- One bit of the reflected CRC-32C (polynomial 0x1EDC_6F41, reflected 0x82F6_3B78). -/
def crc32cBit (c : Nat) : Nat := if c % 2 = 1 then (c / 2) ^^^ 0x82F63B78 else c / 2

/-- One byte into the CRC-32C register. -/
def crc32cByte (c : Nat) (b : Byte) : Nat :=
  crc32cBit (crc32cBit (crc32cBit (crc32cBit (crc32cBit (crc32cBit (crc32cBit (crc32cBit (c ^^^ b.toNat))))))))

/-- CRC-32C of a byte string: initial value and final XOR 0xFFFF_FFFF (R110). -/
def crc32c (bs : List Byte) : Nat := bs.foldl crc32cByte 0xFFFFFFFF ^^^ 0xFFFFFFFF

/-- One bit of CRC-8 with polynomial 0x07. -/
def crc8Bit (c : Nat) : Nat := if 128 ≤ c then ((c * 2) % 256) ^^^ 0x07 else c * 2

/-- One byte into the CRC-8 register. -/
def crc8Byte (c : Nat) (b : Byte) : Nat :=
  crc8Bit (crc8Bit (crc8Bit (crc8Bit (crc8Bit (crc8Bit (crc8Bit (crc8Bit (c ^^^ b.toNat))))))))

/-- CRC-8 of a byte string, initial value 0x00 (R141). -/
def crc8 (bs : List Byte) : Nat := bs.foldl crc8Byte 0

/-! ### SHA-256 and HMAC -/

/-- Round constants of SHA-256, part 0. -/
def shaK0 : List Word :=
  [0x428a2f98, 0x71374491, 0xb5c0fbcf, 0xe9b5dba5, 0x3956c25b, 0x59f111f1, 0x923f82a4, 0xab1c5ed5,
   0xd807aa98, 0x12835b01, 0x243185be, 0x550c7dc3, 0x72be5d74, 0x80deb1fe, 0x9bdc06a7, 0xc19bf174,
   0xe49b69c1, 0xefbe4786, 0x0fc19dc6, 0x240ca1cc, 0x2de92c6f, 0x4a7484aa, 0x5cb0a9dc, 0x76f988da,
   0x983e5152, 0xa831c66d, 0xb00327c8, 0xbf597fc7, 0xc6e00bf3, 0xd5a79147, 0x06ca6351, 0x14292967]

/-- Round constants of SHA-256, part 1. -/
def shaK1 : List Word :=
  [0x27b70a85, 0x2e1b2138, 0x4d2c6dfc, 0x53380d13, 0x650a7354, 0x766a0abb, 0x81c2c92e, 0x92722c85,
   0xa2bfe8a1, 0xa81a664b, 0xc24b8b70, 0xc76c51a3, 0xd192e819, 0xd6990624, 0xf40e3585, 0x106aa070,
   0x19a4c116, 0x1e376c08, 0x2748774c, 0x34b0bcb5, 0x391c0cb3, 0x4ed8aa4a, 0x5b9cca4f, 0x682e6ff3,
   0x748f82ee, 0x78a5636f, 0x84c87814, 0x8cc70208, 0x90befffa, 0xa4506ceb, 0xbef9a3f7, 0xc67178f2]

/-- The initial hash value of SHA-256. -/
def shaH : List Word :=
  [0x6a09e667, 0xbb67ae85, 0x3c6ef372, 0xa54ff53a, 0x510e527f, 0x9b05688c, 0x1f83d9ab, 0x5be0cd19]

/-- Rotate a word right. -/
def rotr (x : Word) (n : Nat) : Word := (x >>> n) ||| (x <<< (32 - n))

/-- The big-endian word of the first four bytes of a string. -/
def beWord (bs : List Byte) : Word :=
  BitVec.ofNat 32 (byteAt bs 0 * 16777216 + byteAt bs 1 * 65536 + byteAt bs 2 * 256 + byteAt bs 3)

/-- The `n` low bytes of `x`, most significant first. -/
def beBytes (n x : Nat) : List Byte := (leBytes n x).reverse

/-- The big-endian number a byte string spells. -/
def beNat (bs : List Byte) : Nat := bs.foldl (fun a b => a * 256 + b.toNat) 0

/-- Cut a string into pieces of `n` bytes (`fuel` bounds their number). -/
def chunks (n : Nat) : Nat → List Byte → List (List Byte)
  | 0, _ => []
  | _, [] => []
  | f + 1, bs => bs.take n :: chunks n f (bs.drop n)

/-- The message padded to whole 64-byte blocks. -/
def shaPad (bs : List Byte) : List Byte :=
  let l := bs.length
  bs ++ [0x80] ++ zeros ((119 - l % 64) % 64) ++ beBytes 8 (8 * l)

/-- Extend the message schedule, held newest first, by `n` words. -/
def shaSched : Nat → List Word → List Word
  | 0, w => w
  | n + 1, w =>
    let w2 := w.getD 1 0
    let w15 := w.getD 14 0
    let s1 := rotr w2 17 ^^^ rotr w2 19 ^^^ (w2 >>> 10)
    let s0 := rotr w15 7 ^^^ rotr w15 18 ^^^ (w15 >>> 3)
    shaSched n ((s1 + w.getD 6 0 + s0 + w.getD 15 0) :: w)

/-- The eight working variables of SHA-256. -/
structure ShaVars where
  a : Word
  b : Word
  c : Word
  d : Word
  e : Word
  f : Word
  g : Word
  h : Word
deriving DecidableEq, Repr

/-- One round. -/
def shaRound (v : ShaVars) (kw : Word) : ShaVars :=
  let t1 := v.h + (rotr v.e 6 ^^^ rotr v.e 11 ^^^ rotr v.e 25) + ((v.e &&& v.f) ^^^ (~~~v.e &&& v.g)) + kw
  let t2 := (rotr v.a 2 ^^^ rotr v.a 13 ^^^ rotr v.a 22) + ((v.a &&& v.b) ^^^ (v.a &&& v.c) ^^^ (v.b &&& v.c))
  ⟨t1 + t2, v.a, v.b, v.c, v.d + t1, v.e, v.f, v.g⟩

/-- One 64-byte block into the hash value. -/
def shaBlock (h : List Word) (blk : List Byte) : List Word :=
  let w0 := (chunks 4 16 blk).map beWord
  let w := (shaSched 48 w0.reverse).reverse
  let g := fun i => h.getD i 0
  let v := (List.zipWith (· + ·) (shaK0 ++ shaK1) w).foldl shaRound ⟨g 0, g 1, g 2, g 3, g 4, g 5, g 6, g 7⟩
  [g 0 + v.a, g 1 + v.b, g 2 + v.c, g 3 + v.d, g 4 + v.e, g 5 + v.f, g 6 + v.g, g 7 + v.h]

/-- SHA-256 of a byte string: 32 bytes. -/
def sha256 (bs : List Byte) : List Byte :=
  let p := shaPad bs
  ((chunks 64 (p.length / 64) p).foldl shaBlock shaH).flatMap (fun w => beBytes 4 w.toNat)

/-- HMAC-SHA-256 under a key: 32 bytes. -/
def hmac256 (key msg : List Byte) : List Byte :=
  let k0 := padTo 64 (if 64 < key.length then sha256 key else key)
  sha256 (k0.map (· ^^^ 0x5C) ++ sha256 (k0.map (· ^^^ 0x36) ++ msg))

/-- The frame tag: HMAC-SHA-256 truncated to its first 16 bytes (R112). -/
def hmacTag (key msg : List Byte) : List Byte := (hmac256 key msg).take 16

/-! ### AES-256 -/

/-- The AES substitution box, entries 0 to 63. -/
def aesS0 : List Byte :=
  [0x63, 0x7c, 0x77, 0x7b, 0xf2, 0x6b, 0x6f, 0xc5, 0x30, 0x01, 0x67, 0x2b, 0xfe, 0xd7, 0xab, 0x76,
   0xca, 0x82, 0xc9, 0x7d, 0xfa, 0x59, 0x47, 0xf0, 0xad, 0xd4, 0xa2, 0xaf, 0x9c, 0xa4, 0x72, 0xc0,
   0xb7, 0xfd, 0x93, 0x26, 0x36, 0x3f, 0xf7, 0xcc, 0x34, 0xa5, 0xe5, 0xf1, 0x71, 0xd8, 0x31, 0x15,
   0x04, 0xc7, 0x23, 0xc3, 0x18, 0x96, 0x05, 0x9a, 0x07, 0x12, 0x80, 0xe2, 0xeb, 0x27, 0xb2, 0x75]

/-- The AES substitution box, entries 64 to 127. -/
def aesS1 : List Byte :=
  [0x09, 0x83, 0x2c, 0x1a, 0x1b, 0x6e, 0x5a, 0xa0, 0x52, 0x3b, 0xd6, 0xb3, 0x29, 0xe3, 0x2f, 0x84,
   0x53, 0xd1, 0x00, 0xed, 0x20, 0xfc, 0xb1, 0x5b, 0x6a, 0xcb, 0xbe, 0x39, 0x4a, 0x4c, 0x58, 0xcf,
   0xd0, 0xef, 0xaa, 0xfb, 0x43, 0x4d, 0x33, 0x85, 0x45, 0xf9, 0x02, 0x7f, 0x50, 0x3c, 0x9f, 0xa8,
   0x51, 0xa3, 0x40, 0x8f, 0x92, 0x9d, 0x38, 0xf5, 0xbc, 0xb6, 0xda, 0x21, 0x10, 0xff, 0xf3, 0xd2]

/-- The AES substitution box, entries 128 to 191. -/
def aesS2 : List Byte :=
  [0xcd, 0x0c, 0x13, 0xec, 0x5f, 0x97, 0x44, 0x17, 0xc4, 0xa7, 0x7e, 0x3d, 0x64, 0x5d, 0x19, 0x73,
   0x60, 0x81, 0x4f, 0xdc, 0x22, 0x2a, 0x90, 0x88, 0x46, 0xee, 0xb8, 0x14, 0xde, 0x5e, 0x0b, 0xdb,
   0xe0, 0x32, 0x3a, 0x0a, 0x49, 0x06, 0x24, 0x5c, 0xc2, 0xd3, 0xac, 0x62, 0x91, 0x95, 0xe4, 0x79,
   0xe7, 0xc8, 0x37, 0x6d, 0x8d, 0xd5, 0x4e, 0xa9, 0x6c, 0x56, 0xf4, 0xea, 0x65, 0x7a, 0xae, 0x08]

/-- The AES substitution box, entries 192 to 255. -/
def aesS3 : List Byte :=
  [0xba, 0x78, 0x25, 0x2e, 0x1c, 0xa6, 0xb4, 0xc6, 0xe8, 0xdd, 0x74, 0x1f, 0x4b, 0xbd, 0x8b, 0x8a,
   0x70, 0x3e, 0xb5, 0x66, 0x48, 0x03, 0xf6, 0x0e, 0x61, 0x35, 0x57, 0xb9, 0x86, 0xc1, 0x1d, 0x9e,
   0xe1, 0xf8, 0x98, 0x11, 0x69, 0xd9, 0x8e, 0x94, 0x9b, 0x1e, 0x87, 0xe9, 0xce, 0x55, 0x28, 0xdf,
   0x8c, 0xa1, 0x89, 0x0d, 0xbf, 0xe6, 0x42, 0x68, 0x41, 0x99, 0x2d, 0x0f, 0xb0, 0x54, 0xbb, 0x16]

/-- The AES substitution of a byte. -/
def aesSub (b : Byte) : Byte :=
  let i := b.toNat % 64
  match b.toNat / 64 with
  | 0 => aesS0.getD i 0
  | 1 => aesS1.getD i 0
  | 2 => aesS2.getD i 0
  | _ => aesS3.getD i 0

/-- Multiply by x in GF(2^8). -/
def xtime (b : Byte) : Byte := (b <<< 1) ^^^ (if 128 ≤ b.toNat then 0x1B else 0)

/-- XOR of two strings, byte by byte. -/
def xorBytes (a b : List Byte) : List Byte := List.zipWith (· ^^^ ·) a b

/-- Extend the AES-256 key schedule, 4-byte words newest first, by `n` words; `i` is the index of the next word. -/
def aesExpand : Nat → Nat → Byte → List (List Byte) → List (List Byte)
  | 0, _, _, ws => ws
  | n + 1, i, rc, ws =>
    let t := ws.getD 0 []
    let t1 := if i % 8 = 0 then xorBytes ((t.drop 1 ++ t.take 1).map aesSub) [rc, 0, 0, 0]
      else if i % 8 = 4 then t.map aesSub else t
    aesExpand n (i + 1) (if i % 8 = 0 then xtime rc else rc) (xorBytes (ws.getD 7 []) t1 :: ws)

/-- The 15 round keys of a 32-byte key, 16 bytes each. -/
def aesKeys (key : List Byte) : List (List Byte) :=
  let ws := (aesExpand 52 8 1 (chunks 4 8 (padTo 32 key)).reverse).reverse
  chunks 16 15 ws.flatten

/-- Rotate the rows of the state (column-major, as AES lays it out). -/
def aesShift (s : List Byte) : List Byte :=
  [0, 5, 10, 15, 4, 9, 14, 3, 8, 13, 2, 7, 12, 1, 6, 11].map (fun i => s.getD i 0)

/-- Mix one column. -/
def aesMixCol (c : List Byte) : List Byte :=
  let g := fun i => c.getD (i % 4) 0
  (List.range 4).map (fun i => xtime (g i) ^^^ xtime (g (i + 1)) ^^^ g (i + 1) ^^^ g (i + 2) ^^^ g (i + 3))

/-- Encrypt one 16-byte block under the round keys. -/
def aesEncrypt (ks : List (List Byte)) (blk : List Byte) : List Byte :=
  let s0 := xorBytes blk (ks.getD 0 [])
  let s13 := ((ks.drop 1).take 13).foldl
    (fun s k => xorBytes (((chunks 4 4 (aesShift (s.map aesSub))).map aesMixCol).flatten) k) s0
  xorBytes (aesShift (s13.map aesSub)) (ks.getD 14 [])

/-! ### Galois/counter mode -/

/-- Multiply in GF(2^128) as GCM does: `v` starts as the second factor, bits of the first are taken from the top. -/
def gfMulAux (x : Nat) : Nat → Nat → Nat → Nat
  | 0, _, z => z
  | n + 1, v, z =>
    let z1 := if bit x n then z ^^^ v else z
    gfMulAux x n (if v % 2 = 1 then (v / 2) ^^^ (0xE1 <<< 120) else v / 2) z1

/-- Product in GF(2^128). -/
def gfMul (x y : Nat) : Nat := gfMulAux x 128 y 0

/-- GHASH of a string of whole blocks under `h`. -/
def ghash (h : Nat) (bs : List Byte) : Nat :=
  (chunks 16 (bs.length / 16) bs).foldl (fun y b => gfMul (y ^^^ beNat b) h) 0

/-- A string padded with zeros to whole 16-byte blocks. -/
def pad16 (bs : List Byte) : List Byte := bs ++ zeros ((16 - bs.length % 16) % 16)

/-- The key stream from counter block `c` on, `n` blocks. -/
def gcmStream (ks : List (List Byte)) (iv : List Byte) : Nat → Nat → List Byte
  | _, 0 => []
  | c, n + 1 => aesEncrypt ks (iv ++ beBytes 4 c) ++ gcmStream ks iv (c + 1) n

/-- Encrypt or decrypt in counter mode with a 12-byte IV: the data blocks start at counter 2. -/
def gcmCrypt (key iv bs : List Byte) : List Byte :=
  xorBytes bs (gcmStream (aesKeys key) iv 2 ((bs.length + 15) / 16))

/-- The 16-byte GCM tag over associated data and ciphertext. -/
def gcmTag (key iv aad ct : List Byte) : List Byte :=
  let ks := aesKeys key
  let h := beNat (aesEncrypt ks (zeros 16))
  let s := ghash h (pad16 aad ++ pad16 ct ++ beBytes 8 (8 * aad.length) ++ beBytes 8 (8 * ct.length))
  xorBytes (aesEncrypt ks (iv ++ beBytes 4 1)) (beBytes 16 s)

end Sys2Proof.Machine
end

