-- ==== Sys2Proof/Machine/Flags.lean ====
section
/-! DEFINITION. Status codes and severities (Table 0-3, Table 22-4), and the state codes used in payloads and in the state
fields (Table 4-4). -/

namespace Sys2Proof.Machine

/-! ### Status codes -/

def St.ok : Nat := 0x0000
def St.accepted : Nat := 0x0001
def St.badFrame : Nat := 0x0101
def St.badCrc : Nat := 0x0102
def St.noCredit : Nat := 0x0103
def St.badOpcode : Nat := 0x0104
def St.badVersion : Nat := 0x0105
def St.notPermitted : Nat := 0x0106
def St.busy : Nat := 0x0107
def St.authFail : Nat := 0x0108
def St.tenantFaulted : Nat := 0x0109
def St.resetDone : Nat := 0x010a
def St.wrongState : Nat := 0x010b
def St.badPayload : Nat := 0x010c
def St.quotaExceeded : Nat := 0x0201
def St.jobNotFound : Nat := 0x0202
def St.tooLate : Nat := 0x0203
def St.notReady : Nat := 0x0204
def St.formNotFound : Nat := 0x0205
def St.formInUse : Nat := 0x0206
def St.noGain : Nat := 0x0301
def St.outputLimit : Nat := 0x0302
def St.corruptBlock : Nat := 0x0303
def St.ratioLimit : Nat := 0x0304
def St.spoiled : Nat := 0x0401
def St.jammed : Nat := 0x0402
def St.orphanComplete : Nat := 0x0403
def St.mediaOut : Nat := 0x0404
def St.coverOpen : Nat := 0x0405
def St.atRisk : Nat := 0x0406
def St.integrityUnknown : Nat := 0x0407
def St.spoiledBlank : Nat := 0x0408
def St.forecastShort : Nat := 0x0409
def St.energyShort : Nat := 0x040a
def St.layerOmitted : Nat := 0x040b
def St.bdLost : Nat := 0x040c
def St.motorFault : Nat := 0x040d
def St.phaseOrder : Nat := 0x040e
def St.motorReversed : Nat := 0x040f
def St.stepperFault : Nat := 0x0410
def St.sensorFault : Nat := 0x0411
def St.pathNotClear : Nat := 0x0412
def St.tokensCleared : Nat := 0x0413
def St.loopSaturated : Nat := 0x0414
def St.loopStale : Nat := 0x0415
def St.fuserFault : Nat := 0x0416
def St.hvFault : Nat := 0x0417
def St.laserFault : Nat := 0x0418
def St.thermSwapped : Nat := 0x0419
def St.warmupTimeout : Nat := 0x041a
def St.headFault : Nat := 0x041b
def St.cutFault : Nat := 0x041c
def St.elementDefect : Nat := 0x041d
def St.keyRevoked : Nat := 0x0501
def St.keyEmpty : Nat := 0x0502
def St.entropyUnavailable : Nat := 0x0503
def St.tagMismatch : Nat := 0x0504
def St.trngHealth : Nat := 0x0505
def St.trngFault : Nat := 0x0506
def St.patchSig : Nat := 0x0601
def St.patchCompat : Nat := 0x0602
def St.patchRollback : Nat := 0x0603
def St.patchFormat : Nat := 0x0604
def St.safeStop : Nat := 0x0701
def St.safeFinish : Nat := 0x0702
def St.powerFail : Nat := 0x0703
def St.tripped : Nat := 0x0704
def St.railWarn : Nat := 0x0705
def St.inputOv : Nat := 0x0706
def St.seqFail : Nat := 0x0707
def St.tjHot : Nat := 0x0708
def St.bankFault : Nat := 0x0709
def St.clkLost : Nat := 0x070a
def St.clkSwitch : Nat := 0x070b
def St.clkFail : Nat := 0x070c
def St.otpCorrupt : Nat := 0x070d
def St.bgLate : Nat := 0x070e
def St.journalFault : Nat := 0x070f
def St.dmaBadDesc : Nat := 0x0801
def St.lateWriteErr : Nat := 0x0802
def St.eccUncorrectable : Nat := 0x0803
def St.dmaTimeout : Nat := 0x0804
def St.busError : Nat := 0x0805

/-- A status code is a success only when its high byte is 0 (R17). -/
def St.success (c : Nat) : Bool := c / 256 == 0

/-- The severity Table 22-4 gives a code where no rule names one; the codes whose severity differs by place are raised
with the severity their own rule names. -/
def St.sev (c : Nat) : Nat :=
  if [0x0704].contains c then 6 else
  if [0x0701, 0x070c, 0x070d].contains c then 5 else
  if [0x0702].contains c then 4 else
  if [0x0402, 0x040c, 0x040d, 0x040f, 0x0410, 0x0416, 0x0417, 0x0418, 0x0419, 0x041a, 0x041b, 0x041c, 0x0703, 0x0706].contains c then 3 else
  if [0x0301, 0x0302, 0x0303, 0x0304, 0x0401, 0x0404, 0x0405, 0x0407, 0x0408, 0x0504, 0x0801, 0x0803, 0x0804, 0x0805].contains c then 2 else
  if [0x0101, 0x0102, 0x0103, 0x0104, 0x0105, 0x0106, 0x0107, 0x0108, 0x0109, 0x010b, 0x010c, 0x0201, 0x0202, 0x0203, 0x0204, 0x0205, 0x0206, 0x0502, 0x0503, 0x0802].contains c then 1 else
  0

/-- The severity of NOT_READY: S3 on the pages SCAN, LINE and PATH, S0 elsewhere (Table 22-4). -/
def St.notReadySev (p : Nat) : Nat := if p = 0x1F ∨ p = 0x22 ∨ p = 0x32 then 3 else 0

/-! ### State codes of Table 4-4 -/

def DevSt.off : Nat := 0
def DevSt.powerUp : Nat := 1
def DevSt.boot : Nat := 2
def DevSt.nominal : Nat := 3
def DevSt.baseline : Nat := 4
def DevSt.standby : Nat := 5
def DevSt.safeFinish : Nat := 6
def DevSt.safeStop : Nat := 7
def DevSt.tripped : Nat := 8
def LasSt.cold : Nat := 0
def LasSt.warming : Nat := 1
def LasSt.ready : Nat := 2
def LasSt.printing : Nat := 3
def LasSt.cooling : Nat := 4
def LasSt.stopped : Nat := 5
def LasSt.safe : Nat := 6
def ThmSt.idle : Nat := 0
def ThmSt.printing : Nat := 1
def ThmSt.starved : Nat := 2
def ThmSt.blocked : Nat := 3
def ThmSt.fault : Nat := 4

end Sys2Proof.Machine
end

