-- ==== Sys2Proof/Machine/BandCodec.lean ====
section
/-! DEFINITION. The band codec as functions on byte strings (spec/07_band_codec.md): block headers, predictors, the run and
value codes, the decoder's checks of Table 7-6 in order, and the encoder. -/

set_option linter.unusedVariables false

namespace Sys2Proof.Machine

/-! ### Block headers (Table 7-1) -/

/-- The fields of a block header. -/
structure BlockHdr where
  sync : Nat
  ver : Nat
  coding : Nat
  bppCode : Nat
  bandH : Nat
  dyn : Bool
  reserved : Bool
  width : Nat
  lines : Nat
  band : Nat
  plen : Nat
  outlen : Nat
  pcrc : Nat
deriving DecidableEq, Repr

/-- Read a header from its 32 bytes; `reserved` says that every reserved bit and byte is 0. -/
def parseHdr (b : List Byte) : BlockHdr :=
  let m := byteAt b 2
  { sync := byteAt b 0, ver := byteAt b 1, coding := m % 4, bppCode := bitsOf m 2 2, bandH := bitsOf m 4 2, dyn := bit m 6,
    reserved := ! bit m 7 && byteAt b 3 == 0 && leAt b 10 2 == 0 && leAt b 24 4 == 0,
    width := leAt b 4 2, lines := leAt b 6 2, band := leAt b 8 2, plen := leAt b 12 4, outlen := leAt b 16 4, pcrc := leAt b 20 4 }

/-- HCRC matches (step 1). -/
def hdrCrcOk (b : List Byte) : Bool := 32 ≤ b.length && leAt b 28 4 == crc32c (b.take 28)

/-- Bits per pixel of a BPP code. -/
def bppOf (c : Nat) : Nat := 2 ^ c

/-- Lines of a BAND_H code. -/
def bandLines (c : Nat) : Nat := 16 * 2 ^ c

/-- SYNC, VER, the reserved bits and the MODE combination are valid (R321). -/
def hdrValid (h : BlockHdr) : Bool :=
  h.sync == 0xEB && h.ver == 1 && h.reserved && h.bppCode != 3 &&
  (match h.coding with
   | 0 => ! h.dyn
   | 1 => h.bppCode == 0
   | 2 => h.bppCode != 0
   | _ => false)

/-- The bytes of a header (R319). -/
def hdrBytes (coding bppCode bandH : Nat) (dyn : Bool) (width lines band plen outlen pcrc : Nat) : List Byte :=
  let h := leBytes 2 (0xEB + 0x01 * 256) ++ [BitVec.ofNat 8 (coding + 4 * bppCode + 16 * bandH + 64 * b2n dyn), 0] ++
    leBytes 2 width ++ leBytes 2 lines ++ leBytes 2 band ++ zeros 2 ++ leBytes 4 plen ++ leBytes 4 outlen ++
    leBytes 4 pcrc ++ zeros 4
  h ++ leBytes 4 (crc32c h)

/-! ### Bits and pixels -/

/-- The bits of a byte, most significant first (R325). -/
def bitsMsb (b : Byte) : List Bool := (List.range 8).map (fun i => bit b.toNat (7 - i))

/-- The bit string of a payload. -/
def bitString (bs : List Byte) : List Bool := bs.flatMap bitsMsb

/-- A number from bits, most significant first. -/
def bitsNat (l : List Bool) : Nat := l.foldl (fun n b => 2 * n + b2n b) 0

/-- The `n` low bits of `x`, most significant first. -/
def natBits (n x : Nat) : List Bool := (List.range n).map (fun i => bit x (n - 1 - i))

/-- Pack bits into bytes, the last filled up with zeros. -/
def packBits : Nat → List Bool → List Byte
  | 0, _ => []
  | _, [] => []
  | f + 1, l => BitVec.ofNat 8 (bitsNat ((l ++ List.replicate 8 false).take 8)) :: packBits f (l.drop 8)

/-- The raster bytes of pixel values (R322): the leftmost pixel in the most significant bits. -/
def packPixels (bpp : Nat) (ps : List Nat) : List Byte :=
  packBits (ps.length * bpp / 8 + 1) (ps.flatMap (natBits bpp))

/-- The pixel values of raster bytes. -/
def unpackPixels (bpp : Nat) (bs : List Byte) : List Nat :=
  bs.flatMap (fun b => (List.range (8 / bpp)).map (fun i => bitsOf b.toNat (8 - bpp * (i + 1)) bpp))

/-! ### Predictors -/

/-- A decoded pixel of a block, 0 outside it on the left, right and above (R326). -/
def pixAt (w : Nat) (out : Array Nat) (x y : Int) : Nat :=
  if x < 0 ∨ (w : Int) ≤ x ∨ y < 0 then 0 else (out[y.toNat * w + x.toNat]?).getD 0

/-- The weighted sum S of the template, and so the predicted bit (Tables 7-2 and 7-3, R327). -/
def predBit (w : Nat) (out : Array Nat) (x y : Int) : Nat :=
  let p := fun dx dy => pixAt w out (x + dx) (y + dy)
  let s := 4 * (p (-1) 0 + p 0 (-1)) + 2 * (p (-1) (-1) + p 1 (-1)) +
    (p (-2) 0 + p (-2) (-1) + p 2 (-1) + p (-1) (-2) + p 0 (-2) + p 1 (-2))
  b2n (8 ≤ s)

/-- The neighbour prediction (R329). -/
def predNbr (w : Nat) (out : Array Nat) (x y : Int) : Nat :=
  let a := pixAt w out (x - 1) y
  let b := pixAt w out x (y - 1)
  let c := pixAt w out (x - 1) (y - 1)
  if max a b ≤ c then min a b else if c ≤ min a b then max a b else a + b - c

/-- The pixel of a residue at position `pos` (R328, R330). -/
def undoResidue (coding bpp w : Nat) (out : Array Nat) (m : Nat) : Nat :=
  let pos := out.size
  let x : Int := (pos % w : Nat)
  let y : Int := (pos / w : Nat)
  if coding = 1 then (predBit w out x y + m) % 2
  else
    let q := 2 ^ bpp
    let d := if m % 2 = 0 then m / 2 else q - (m + 1) / 2
    (predNbr w out x y + d) % q

/-- The residue of pixel `v` at position `pos` of a raster (R328, R330). -/
def residueOf (coding bpp w : Nat) (px : Array Nat) (pos : Nat) : Nat :=
  let x : Int := (pos % w : Nat)
  let y : Int := (pos / w : Nat)
  let v := (px[pos]?).getD 0
  if coding = 1 then (v + predBit w px x y) % 2
  else
    let q := 2 ^ bpp
    let d := (v + q - predNbr w px x y) % q
    if d < q / 2 then 2 * d else 2 * (q - d) - 1

/-! ### Code tables -/

/-- Lengths of the static run-class code (Table 7-4). -/
def staticRunLens : List Nat := [3, 3, 3, 3, 3, 3, 4, 4, 5, 5, 6, 6, 8, 8, 8, 8, 8, 8, 8, 8]

/-- Lengths of the static value code (Table 7-5), values from 1 upward. -/
def staticValLens (bpp : Nat) : List Nat :=
  if bpp = 2 then [1, 2, 2] else [2, 2, 3, 3, 5, 5, 5, 5, 5, 6, 6, 6, 6, 6, 6]

/-- Symbols with a code, ordered by length and then by index. -/
def codedSyms (lens : List Nat) : List (Nat × Nat) :=
  (List.range 16).flatMap (fun l =>
    if l = 0 then [] else (lens.mapIdx (fun i x => (i, x))).filter (fun p => p.2 == l))

/-- Assign canonical codes (R335): symbol, length, code. -/
def assignCodes : Nat → Nat → List (Nat × Nat) → List (Nat × Nat × Nat)
  | _, _, [] => []
  | code, len, (s, l) :: rest =>
    let c := code <<< (l - len)
    (s, l, c) :: assignCodes (c + 1) l rest

/-- The canonical code of a list of lengths (R335). -/
def canonical (lens : List Nat) : List (Nat × Nat × Nat) :=
  match codedSyms lens with
  | [] => []
  | (s, l) :: rest => (s, l, 0) :: assignCodes 1 l rest

/-- A table is valid (R336): the Kraft sum is 1, or it has one length and that is 1. -/
def tableValid (lens : List Nat) : Bool :=
  let nz := lens.filter (· != 0)
  nz == [1] || nz.foldl (fun n l => n + 2 ^ (15 - l)) 0 == 2 ^ 15

/-- Read one code: the symbol and the bits after it; `none` when the bits end first, `some none` for an invalid code, which is known once
no longer code is left (R336, R337). -/
def readCode (tab : List (Nat × Nat × Nat)) : Nat → Nat → Nat → List Bool → Option (Option (Nat × List Bool))
  | 0, _, _, _ => some none
  | _, _, _, [] => none
  | f + 1, len, acc, b :: rest =>
    let a := 2 * acc + b2n b
    match tab.find? (fun t => t.2.1 == len + 1 && t.2.2 == a) with
    | some t => some (some (t.1, rest))
    | none => if tab.all (fun t => t.2.1 ≤ len + 1) then some none else readCode tab f (len + 1) a rest

/-! ### The decoder -/

/-- What a decode ends with: the status, the failing step (0 on success), the cycle count of R347 and the pixels. -/
structure DecRes where
  status : Nat
  detail : Nat
  cycles : Nat
  pixels : Array Nat
deriving DecidableEq, Repr

/-- What the decoder is told of a block (spec/07, "Decoding a block"): BAND, WIDTH, BPP, the BAND_H code, the expected LINES
(`anyLines`: the last block of a form, where 1 to the band height pass), the bytes its units hold, OUT_MAX, RATIO_LOG2, and
the length its descriptor or envelope gives. -/
structure DecCtx where
  band : Nat
  width : Nat
  bpp : Nat
  bandH : Nat
  lines : Nat
  anyLines : Bool
  room : Nat
  outMax : Nat
  ratioLog2 : Nat
  given : Nat
deriving DecidableEq, Repr

/-- The walk over a coded payload (R331). `e` counts runs. -/
def decodeRuns (coding bpp w p : Nat) (rt vt : List (Nat × Nat × Nat)) (base : Nat) :
    Nat → Nat → List Bool → Array Nat → DecRes
  | 0, e, _, out => ⟨St.corruptBlock, 10, base + (out.size + 3) / 4 + e, out⟩
  | f + 1, e, bs, out =>
    let fail := fun (s k : Nat) => (⟨s, k, base + (out.size + 3) / 4 + e, out⟩ : DecRes)
    if p ≤ out.size then
      if bs.length < 8 && bs.all (! ·) then ⟨St.ok, 0, base + (p + 3) / 4 + e, out⟩ else fail St.corruptBlock 10
    else match readCode rt 15 0 0 bs with
    | none => fail St.corruptBlock 10
    | some none => fail St.corruptBlock 8
    | some (some (k, r1)) =>
      if r1.length < k then fail St.corruptBlock 10
      else
        let r := 2 ^ k - 1 + bitsNat (r1.take k)
        if p < out.size + r then fail St.outputLimit 9
        else
          let out1 := (List.range r).foldl (fun o _ => o.push (undoResidue coding bpp w o 0)) out
          let r2 := r1.drop k
          if p ≤ out1.size then decodeRuns coding bpp w p rt vt base f (e + 1) r2 out1
          else if coding = 1 then
            decodeRuns coding bpp w p rt vt base f (e + 1) r2 (out1.push (undoResidue coding bpp w out1 1))
          else match readCode vt 15 0 0 r2 with
          | none => fail St.corruptBlock 10
          | some none => fail St.corruptBlock 8
          | some (some (m, r3)) =>
            decodeRuns coding bpp w p rt vt base f (e + 1) r3 (out1.push (undoResidue coding bpp w out1 (m + 1)))

/-- Read `n` lengths of 4 bits. -/
def readLens (n : Nat) (bs : List Bool) : List Nat :=
  (List.range n).map (fun i => bitsNat ((bs.drop (4 * i)).take 4))

/-- Decode a coded payload: steps 8 to 10. -/
def decodeCoded (h : BlockHdr) (payload : List Byte) : DecRes :=
  let bpp := bppOf h.bppCode
  let bs := bitString payload
  let p := h.width * h.lines
  let nv := if h.coding = 1 then 0 else 2 ^ bpp - 1
  let base := 32 + 24 * b2n h.dyn
  if h.dyn then
    if bs.length < 4 * (20 + nv) then ⟨St.corruptBlock, 10, base, #[]⟩
    else
      let rl := readLens 20 bs
      let vl := readLens nv (bs.drop 80)
      if ! tableValid rl || (h.coding != 1 && ! tableValid vl) then ⟨St.corruptBlock, 8, base, #[]⟩
      else decodeRuns h.coding bpp h.width p (canonical rl) (canonical vl) base (p + 1) 0 (bs.drop (4 * (20 + nv))) #[]
  else decodeRuns h.coding bpp h.width p (canonical staticRunLens) (canonical (staticValLens bpp)) base (p + 1) 0 bs #[]

/-- Steps 1 to 7 of Table 7-6: the first that fails and its status. -/
def checkHdr (c : DecCtx) (blk : List Byte) : Option (Nat × Nat) :=
  let h := parseHdr blk
  if ! hdrCrcOk blk then some (1, St.corruptBlock)
  else if ! hdrValid h || 32 + h.plen != c.given then some (2, St.corruptBlock)
  else if h.band != c.band || h.width != c.width || bppOf h.bppCode != c.bpp || h.bandH != c.bandH ||
      ! (if c.anyLines then 1 ≤ h.lines && h.lines ≤ bandLines c.bandH else h.lines == c.lines) then some (3, St.corruptBlock)
  else if h.outlen != h.width * c.bpp / 8 * h.lines then some (4, St.corruptBlock)
  else if c.outMax < h.outlen || c.room < h.outlen then some (5, St.outputLimit)
  else if h.coding = 0 && h.plen != h.outlen then some (6, St.corruptBlock)
  else if h.coding != 0 && h.outlen ≤ h.plen then some (6, St.noGain)
  else if h.coding != 0 && h.plen * 2 ^ c.ratioLog2 < h.outlen then some (7, St.ratioLimit)
  else none

/-- Decode a block by the checks of Table 7-6 in order (R338). -/
def decodeBlock (c : DecCtx) (blk : List Byte) : DecRes :=
  match checkHdr c blk with
  | some (k, s) => ⟨s, k, 32, #[]⟩
  | none =>
    let h := parseHdr blk
    let payload := (blk.drop 32).take h.plen
    let r := if h.coding = 0 then
        (⟨St.ok, 0, 32 + (h.outlen + 3) / 4, (unpackPixels c.bpp payload).toArray⟩ : DecRes)
      else decodeCoded h payload
    if r.detail ≠ 0 then r
    else if crc32c payload ≠ h.pcrc then ⟨St.corruptBlock, 11, r.cycles, r.pixels⟩
    else r

/-! ### The encoder -/

/-- The runs of a residue sequence: zeros before each nonzero residue and that residue; a final run when it is above 0
(R332). -/
def runsOf : Nat → List Nat → List (Nat × Option Nat)
  | r, [] => if r = 0 then [] else [(r, none)]
  | r, m :: rest => if m = 0 then runsOf (r + 1) rest else (r, some m) :: runsOf 0 rest

/-- The class of a run. -/
def runClass (r : Nat) : Nat := (r + 1).log2

/-- The code bits of a symbol. -/
def codeBits (tab : List (Nat × Nat × Nat)) (s : Nat) : List Bool :=
  match tab.find? (fun t => t.1 == s) with
  | some t => natBits t.2.1 t.2.2
  | none => []

/-- The symbols of a residue sequence under two codes. -/
def codeRuns (rt vt : List (Nat × Nat × Nat)) (coding : Nat) (rs : List (Nat × Option Nat)) : List Bool :=
  rs.flatMap (fun x =>
    let k := runClass x.1
    codeBits rt k ++ natBits k (x.1 + 1 - 2 ^ k) ++
    (match x.2 with
     | some m => if coding = 1 then [] else codeBits vt (m - 1)
     | none => []))

/-- Insert by weight: an item goes before what weighs the same. -/
def pmMerge : Nat → List (Nat × List Nat) → List (Nat × List Nat) → List (Nat × List Nat)
  | 0, _, _ => []
  | _, [], b => b
  | _, a, [] => a
  | f + 1, x :: a, y :: b => if x.1 ≤ y.1 then x :: pmMerge f a (y :: b) else y :: pmMerge f (x :: a) b

/-- Pair up neighbours. -/
def pmPair : List (Nat × List Nat) → List (Nat × List Nat)
  | x :: y :: rest => (x.1 + y.1, x.2 ++ y.2) :: pmPair rest
  | _ => []

/-- The list after `n` rounds of package-merge. -/
def pmRounds (items : List (Nat × List Nat)) : Nat → List (Nat × List Nat)
  | 0 => items
  | n + 1 =>
    let ps := pmPair (pmRounds items n)
    pmMerge (items.length + ps.length) items ps

/-- Insert an item into a list ordered by weight, after those of equal weight. -/
def insW (x : Nat × List Nat) : List (Nat × List Nat) → List (Nat × List Nat)
  | [] => [x]
  | y :: l => if y.1 ≤ x.1 then y :: insW x l else x :: y :: l

/-- Package-merge lengths with a limit of 15 (R350). -/
def pmLens (counts : List Nat) : List Nat :=
  let items := ((counts.mapIdx (fun i c => (c, [i]))).filter (fun p => p.1 != 0)).foldl (fun l x => insW x l) []
  match items with
  | [] => counts.map (fun _ => 0)
  | [x] => counts.mapIdx (fun i _ => b2n (x.2 == [i]))
  | _ =>
    let sel := ((pmRounds items 14).take (2 * items.length - 2)).flatMap (·.2)
    counts.mapIdx (fun i _ => (sel.filter (· == i)).length)

/-- The coded payload with the static tables. -/
def staticPayload (coding bpp : Nat) (rs : List (Nat × Option Nat)) : List Byte :=
  let b := codeRuns (canonical staticRunLens) (canonical (staticValLens bpp)) coding rs
  packBits (b.length / 8 + 1) b

/-- The coded payload with dynamic tables (R334, R350). -/
def dynPayload (coding bpp : Nat) (rs : List (Nat × Option Nat)) : List Byte :=
  let rc := (List.range 20).map (fun k => (rs.filter (fun x => runClass x.1 == k)).length)
  let vc := if coding = 1 then [] else
    (List.range (2 ^ bpp - 1)).map (fun i => (rs.filter (fun x => x.2 == some (i + 1))).length)
  let rl := pmLens rc
  let vl := pmLens vc
  let b := (rl ++ vl).flatMap (natBits 4) ++ codeRuns (canonical rl) (canonical vl) coding rs
  packBits (b.length / 8 + 1) b

/-- Encode a raster (R348 to R350): the block, and whether a coded payload fell back to RAW. -/
def encodeBlock (effort width bpp bandH lines band : Nat) (raster : List Byte) : List Byte × Bool :=
  let bc := bpp.log2
  let outlen := raster.length
  let raw := hdrBytes 0 bc bandH false width lines band outlen outlen (crc32c raster) ++ raster
  if effort = 0 then (raw, false)
  else
    let coding := if bpp = 1 then 1 else 2
    let px := (unpackPixels bpp raster).toArray
    let rs := runsOf 0 ((List.range px.size).map (residueOf coding bpp width px))
    let sp := staticPayload coding bpp rs
    let dp := dynPayload coding bpp rs
    let useDyn := 2 ≤ effort && dp.length < sp.length
    let p := if useDyn then dp else sp
    if outlen ≤ p.length then (raw, true)
    else (hdrBytes coding bc bandH useDyn width lines band p.length outlen (crc32c p) ++ p, false)

end Sys2Proof.Machine
end

