-- ==== Sys2Proof/Config.lean ====
section
/-! DEFINITION. What an implementation fixes and the free values: constants without a body, so that no proof can see
what they are. -/

namespace Sys2Proof.Config

/-- A free value of 32 bits, by the index of the free-value counter: where the spec gives an effect and not the value
(log entry 6 lists every use). -/
opaque freeWord : Nat → Word

/-- The built-in coefficient set of loop L0 to L5 (R597), by channel and byte offset in the bank: the spec names the sets and gives no
values (log entry 14). -/
opaque loopCoef : Nat → Nat → Word

/-- How quantity `k` of a brushless drive's observer and loops is rounded to its fixed-point word: the spec gives the equations in SI units
and no word format (log entry 16). The argument is the exact value in the unit the state field names. -/
opaque obsRound : Nat → Int → Int

/-- The baseline program of sequencer `i` in ROM, by address: the spec names its entries and gives no words (log entry 13). -/
opaque romWord : Nat → Nat → BitVec 96

/-- What a word of a control store holds before the firmware has loaded the store: no defined content (R409; log entry 13). -/
opaque blankWord : Nat → Nat → BitVec 96

/-- Line boundaries in a metre of platen travel: the spec gives LINE_PITCH in microsteps and no length (log entry 20). -/
opaque linesPerMetre : Nat

/-- CH_MEAS of channel `n` from a code of ADC1: V in 10 mV (kind 0) or I in 10 mA (kind 1). The spec gives neither the rounding of V to 10 mV
nor the scale of a current sense (log entry 22). -/
opaque railMeas : Nat → Nat → Nat → Nat

end Sys2Proof.Config
end

