-- ==== Sys2Proof/Machine/RegMap.lean ====
section
/-! DEFINITION. The register map: every register of the spec's register tables, its fields, their access codes and reset values
(spec/26_register_index.md Tables 26-1 to 26-10; each group names the table of the chapter it is taken from).
The addresses follow R6: 0x4000_0000 + page * 0x1000 + offset. -/

namespace Sys2Proof.Machine

/-- Access codes of Table 0-2 (R10). -/
inductive Acc where
  | ro | rw | rws | w1c | w1s | wo | rc
deriving DecidableEq, Repr

/-- A field of a register: the register's address, its lowest bit and its width. -/
structure Fld where
  addr : Nat
  lo : Nat
  w : Nat
deriving DecidableEq, Repr

/-- A field of a register row: its lowest bit, its width and its access code. -/
structure FRow where
  lo : Nat
  w : Nat
  acc : Acc
deriving DecidableEq, Repr

/-- A register (or an array of registers): offset in the page, stride and count, reset word, fields. -/
structure RRow where
  off : Nat
  stride : Nat
  count : Nat
  rst : Nat
  flds : List FRow
deriving DecidableEq, Repr

/-- The base address of a page (R6). -/
def pageBase (p : Nat) : Nat := 0x40000000 + p * 0x1000

namespace Reg

/-! ### Table 1-7 (01_page_contract.md) -/
def PC_CTL : Nat := 0x40032100
def PC_CTL_POLICY : Fld := ⟨PC_CTL, 0, 1⟩
def PC_CTL_GEAR_MASK : Fld := ⟨PC_CTL, 4, 3⟩
def PC_CTL_MARGIN_BANDS : Fld := ⟨PC_CTL, 8, 4⟩
def PC_CTL_IDLE_COOL : Fld := ⟨PC_CTL, 16, 8⟩
/-! ### Table 1-8 (01_page_contract.md) -/
def PC_GEOM : Nat := 0x40032104
def PC_GEOM_EXPO_TO_NIP : Fld := ⟨PC_GEOM, 0, 16⟩
def PC_GEOM_REG_TO_NIP : Fld := ⟨PC_GEOM, 16, 16⟩
/-! ### Table 1-9 (01_page_contract.md) -/
def PC_TIME : Nat := 0x40032108
def PC_TIME_COMMIT_RETRY : Fld := ⟨PC_TIME, 0, 8⟩
def PC_TIME_HOLD_MAX : Fld := ⟨PC_TIME, 8, 8⟩
def PC_TIME_GAP_MIN : Fld := ⟨PC_TIME, 16, 8⟩
def PC_TIME_T_SHIFT : Fld := ⟨PC_TIME, 24, 8⟩
/-! ### Table 1-10 (01_page_contract.md) -/
def PC_MODEL0 : Nat := 0x4003210c
def PC_MODEL0_THR_FETCH : Fld := ⟨PC_MODEL0, 0, 16⟩
def PC_MODEL0_THR_AES : Fld := ⟨PC_MODEL0, 16, 16⟩
def PC_MODEL1 : Nat := 0x40032110
def PC_MODEL1_THR_DEC : Fld := ⟨PC_MODEL1, 0, 16⟩
def PC_MODEL1_T_PIPE : Fld := ⟨PC_MODEL1, 16, 16⟩
def PC_STAT : Nat := 0x40032120
def PC_STAT_RUN_GEAR : Fld := ⟨PC_STAT, 0, 2⟩
def PC_STAT_PROP_GEAR : Fld := ⟨PC_STAT, 4, 2⟩
def PC_STAT_HOLDING : Fld := ⟨PC_STAT, 8, 1⟩
def PC_STAT_SHIFTING : Fld := ⟨PC_STAT, 9, 1⟩
def PC_STAT_IN_PATH : Fld := ⟨PC_STAT, 12, 4⟩
def PC_STAT_HOLD_AGE : Fld := ⟨PC_STAT, 16, 16⟩
def PC_LAST : Nat := 0x40032124
def PC_LAST_STATUS : Fld := ⟨PC_LAST, 0, 16⟩
def PC_LAST_CHECK : Fld := ⟨PC_LAST, 16, 4⟩
def PC_LAST_TOKEN : Fld := ⟨PC_LAST, 24, 8⟩
def PC_SLACK : Nat := 0x40032128
def PC_SLACK_SLACK : Fld := ⟨PC_SLACK, 0, 32⟩
def PC_SLACK_AT : Nat := 0x4003212c
def PC_SLACK_AT_BAND : Fld := ⟨PC_SLACK_AT, 0, 16⟩
def PC_SLACK_AT_GEAR : Fld := ⟨PC_SLACK_AT, 16, 2⟩
def PC_SLACK_AT_TOKEN : Fld := ⟨PC_SLACK_AT, 24, 8⟩
def PC_INGEST (k : Nat) : Nat := 0x40032140 + 0x4 * k
def PC_INGEST_R_IN (k : Nat) : Fld := ⟨PC_INGEST k, 0, 32⟩
/-! ### Table 2-5 (02_tenants.md) -/
def BOOK_SNAP : Nat := 0x40001040
def BOOK_SNAP_SNAP : Fld := ⟨BOOK_SNAP, 0, 1⟩
def BOOK_SNAP_HELD : Fld := ⟨BOOK_SNAP, 1, 1⟩
def BOOK_SNAP_SNAP_SEQ : Fld := ⟨BOOK_SNAP, 16, 16⟩
def TEN_RESET : Nat := 0x40001044
def TEN_RESET_RST : Fld := ⟨TEN_RESET, 0, 8⟩
def TEN_STAT : Nat := 0x40001048
def TEN_STAT_FAULTED : Fld := ⟨TEN_STAT, 0, 8⟩
def TEN_STAT_OPEN : Fld := ⟨TEN_STAT, 8, 8⟩
def TEN_STAT_RESETTING : Fld := ⟨TEN_STAT, 16, 8⟩
def GAL_BOOK0 : Nat := 0x4000104c
def GAL_BOOK0_FREE : Fld := ⟨GAL_BOOK0, 0, 7⟩
def GAL_BOOK0_FILLING : Fld := ⟨GAL_BOOK0, 8, 7⟩
def GAL_BOOK0_READY : Fld := ⟨GAL_BOOK0, 16, 7⟩
def GAL_BOOK0_SCANNING : Fld := ⟨GAL_BOOK0, 24, 7⟩
def GAL_BOOK1 : Nat := 0x40001050
def GAL_BOOK1_RELEASING : Fld := ⟨GAL_BOOK1, 0, 7⟩
def TOK_ISSUED : Nat := 0x40001054
def TOK_ISSUED_COUNT : Fld := ⟨TOK_ISSUED, 0, 32⟩
def TOK_PATH : Nat := 0x40001058
def TOK_PATH_IN_PATH : Fld := ⟨TOK_PATH, 0, 4⟩
def TOK_PATH_EXPECTED : Fld := ⟨TOK_PATH, 8, 4⟩
def TOK_EXITED : Nat := 0x4000105c
def TOK_EXITED_COUNT : Fld := ⟨TOK_EXITED, 0, 32⟩
def TOK_CLEARED : Nat := 0x40001060
def TOK_CLEARED_COUNT : Fld := ⟨TOK_CLEARED, 0, 32⟩
def DMA_OWN0 : Nat := 0x40001064
def DMA_OWN0_OWN : Fld := ⟨DMA_OWN0, 0, 32⟩
def DMA_OWN1 : Nat := 0x40001068
def DMA_OWN1_OWN : Fld := ⟨DMA_OWN1, 0, 16⟩
def CHBIND (k : Nat) : Nat := 0x40001080 + 0x4 * k
def CHBIND_TENANT (k : Nat) : Fld := ⟨CHBIND k, 0, 3⟩
def CHBIND_BOUND (k : Nat) : Fld := ⟨CHBIND k, 7, 1⟩
def TCFG (k : Nat) : Nat := 0x400010c0 + 0x4 * k
def TCFG_WEIGHT_L (k : Nat) : Fld := ⟨TCFG k, 0, 4⟩
def TCFG_WEIGHT_T (k : Nat) : Fld := ⟨TCFG k, 4, 4⟩
def TCFG_CREDIT_LIMIT (k : Nat) : Fld := ⟨TCFG k, 8, 5⟩
def TCFG_JOB_MAX (k : Nat) : Fld := ⟨TCFG k, 16, 4⟩
def TCFG_KEEPALIVE (k : Nat) : Fld := ⟨TCFG k, 20, 8⟩
def TCFG_AUTO_RST (k : Nat) : Fld := ⟨TCFG k, 28, 1⟩
def GQ (k : Nat) : Nat := 0x400010e0 + 0x4 * k
def GQ_GQ_MIN (k : Nat) : Fld := ⟨GQ k, 0, 7⟩
def GQ_GQ_MAX (k : Nat) : Fld := ⟨GQ k, 8, 7⟩
def GQ_SPOOL_QUOTA (k : Nat) : Fld := ⟨GQ k, 16, 16⟩
/-! ### Table 2-6 (02_tenants.md) -/
def TQ_STAT (i : Nat) : Nat := pageBase (0x2 + i) + 0x40
def TQ_STAT_STATE (i : Nat) : Fld := ⟨TQ_STAT i, 0, 3⟩
def TQ_STAT_CRED_FREE (i : Nat) : Fld := ⟨TQ_STAT i, 8, 5⟩
def TQ_STAT_CRED_OUT (i : Nat) : Fld := ⟨TQ_STAT i, 16, 5⟩
def TQ_STAT_RESP_FILL (i : Nat) : Fld := ⟨TQ_STAT i, 24, 6⟩
def TQ_EPOCH (i : Nat) : Nat := pageBase (0x2 + i) + 0x44
def TQ_EPOCH_EPOCH (i : Nat) : Fld := ⟨TQ_EPOCH i, 0, 16⟩
def TQ_JOBS (i : Nat) : Nat := pageBase (0x2 + i) + 0x48
def TQ_JOBS_JOBS_USED (i : Nat) : Fld := ⟨TQ_JOBS i, 0, 4⟩
def TQ_JOBS_SHEETS_QUEUED (i : Nat) : Fld := ⟨TQ_JOBS i, 8, 8⟩
def TQ_JOBS_RCPT_QUEUED (i : Nat) : Fld := ⟨TQ_JOBS i, 16, 8⟩
def TQ_GAL (i : Nat) : Nat := pageBase (0x2 + i) + 0x4c
def TQ_GAL_HELD (i : Nat) : Fld := ⟨TQ_GAL i, 0, 7⟩
def TQ_GAL_GUAR (i : Nat) : Fld := ⟨TQ_GAL i, 8, 7⟩
def TQ_GAL_USABLE (i : Nat) : Fld := ⟨TQ_GAL i, 16, 7⟩
def TQ_SPOOL (i : Nat) : Nat := pageBase (0x2 + i) + 0x50
def TQ_SPOOL_USED (i : Nat) : Fld := ⟨TQ_SPOOL i, 0, 20⟩
def TQ_ORPH (i : Nat) : Nat := pageBase (0x2 + i) + 0x54
def TQ_ORPH_ORPH_CNT (i : Nat) : Fld := ⟨TQ_ORPH i, 0, 4⟩
def TQ_ORPH_ORPH_LOST (i : Nat) : Fld := ⟨TQ_ORPH i, 8, 8⟩
def TQ_ERRCNT (i : Nat) : Nat := pageBase (0x2 + i) + 0x58
def TQ_ERRCNT_DROPPED (i : Nat) : Fld := ⟨TQ_ERRCNT i, 0, 16⟩
def TQ_ERRCNT_NOCREDIT (i : Nat) : Fld := ⟨TQ_ERRCNT i, 16, 16⟩
def TQ_SNAP (i : Nat) : Nat := pageBase (0x2 + i) + 0x5c
def TQ_SNAP_SNAP (i : Nat) : Fld := ⟨TQ_SNAP i, 0, 1⟩
def TQ_SNAP_HELD (i : Nat) : Fld := ⟨TQ_SNAP i, 1, 1⟩
def WRITE_FENCE (i : Nat) : Nat := pageBase (0x2 + i) + 0x80
def WRITE_FENCE_VAL (i : Nat) : Fld := ⟨WRITE_FENCE i, 0, 32⟩
/-! ### Table 3-9 (03_host_ports.md) -/
def USB_CTL : Nat := 0x40035040
def USB_CTL_ATTACH : Fld := ⟨USB_CTL, 0, 1⟩
def USB_CTL_REATTACH : Fld := ⟨USB_CTL, 1, 1⟩
def USB_CTL_HS_EN : Fld := ⟨USB_CTL, 2, 1⟩
def USB_CTL_RWAKE_EN : Fld := ⟨USB_CTL, 3, 1⟩
def USB_CTL_PAIRS : Fld := ⟨USB_CTL, 8, 8⟩
def USB_CTL_PRN_PAIR : Fld := ⟨USB_CTL, 16, 3⟩
def USB_CTL_PRN_EN : Fld := ⟨USB_CTL, 19, 1⟩
def USB_CTL_PRN_PROTO : Fld := ⟨USB_CTL, 20, 2⟩
def USB_STAT : Nat := 0x40035044
def USB_STAT_SPEED : Fld := ⟨USB_STAT, 0, 2⟩
def USB_STAT_SUSPENDED : Fld := ⟨USB_STAT, 2, 1⟩
def USB_STAT_CONFIGURED : Fld := ⟨USB_STAT, 3, 1⟩
def USB_STAT_FS_FALLBACK : Fld := ⟨USB_STAT, 4, 1⟩
def USB_STAT_SOF_LOCK : Fld := ⟨USB_STAT, 5, 1⟩
def USB_STAT_ADDR : Fld := ⟨USB_STAT, 8, 7⟩
def USB_ID : Nat := 0x40035048
def USB_ID_VID : Fld := ⟨USB_ID, 0, 16⟩
def USB_ID_PID : Fld := ⟨USB_ID, 16, 16⟩
def USB_DMA : Nat := 0x4003504c
def USB_DMA_DMA_MODE : Fld := ⟨USB_DMA, 0, 8⟩
def USB_ERR : Nat := 0x40035050
def USB_ERR_RESYNC : Fld := ⟨USB_ERR, 0, 8⟩
def USB_ERR_NOTICE_LOST : Fld := ⟨USB_ERR, 8, 8⟩
def USB_ERR_BUS_RESETS : Fld := ⟨USB_ERR, 16, 8⟩
/-! ### Table 3-10 (03_host_ports.md) -/
def SPIT_CFG : Nat := 0x40036040
def SPIT_CFG_QUAD_EN : Fld := ⟨SPIT_CFG, 0, 1⟩
def SPIT_CFG_RA_CRC : Fld := ⟨SPIT_CFG, 1, 1⟩
def SPIT_CFG_WAIT_MAX : Fld := ⟨SPIT_CFG, 8, 8⟩
def SPIT_STAT : Nat := 0x40036044
def SPIT_STAT_RX_FREE : Fld := ⟨SPIT_STAT, 0, 12⟩
def SPIT_STAT_WBUF_FREE : Fld := ⟨SPIT_STAT, 16, 4⟩
def SPIT_STAT_HI : Fld := ⟨SPIT_STAT, 20, 12⟩
def SPIT_RESP : Nat := 0x40036048
def SPIT_RESP_AVAIL : Fld := ⟨SPIT_RESP, 0, 16⟩
def SPIT_ERR : Nat := 0x4003604c
def SPIT_ERR_RESYNC : Fld := ⟨SPIT_ERR, 0, 8⟩
def SPIT_ERR_NOTICE_LOST : Fld := ⟨SPIT_ERR, 8, 8⟩
def SPIT_ERR_WDROP : Fld := ⟨SPIT_ERR, 16, 8⟩
def SPIT_ERR_RA_CRC_ERR : Fld := ⟨SPIT_ERR, 24, 8⟩
/-! ### Table 3-11 (03_host_ports.md) -/
def UART_CFG (i : Nat) : Nat := pageBase (0x37 + i) + 0x40
def UART_CFG_PARITY (i : Nat) : Fld := ⟨UART_CFG i, 0, 2⟩
def UART_CFG_FLOW (i : Nat) : Fld := ⟨UART_CFG i, 2, 1⟩
def UART_CFG_RS485 (i : Nat) : Fld := ⟨UART_CFG i, 3, 1⟩
def UART_CFG_DE_POL (i : Nat) : Fld := ⟨UART_CFG i, 4, 1⟩
def UART_CFG_FRAME_GAP (i : Nat) : Fld := ⟨UART_CFG i, 8, 8⟩
def UART_BAUD (i : Nat) : Nat := pageBase (0x37 + i) + 0x44
def UART_BAUD_BAUD_DIV (i : Nat) : Fld := ⟨UART_BAUD i, 0, 20⟩
def UART_TURN (i : Nat) : Nat := pageBase (0x37 + i) + 0x48
def UART_TURN_TURN_PRE (i : Nat) : Fld := ⟨UART_TURN i, 0, 8⟩
def UART_TURN_TURN_POST (i : Nat) : Fld := ⟨UART_TURN i, 8, 8⟩
def UART_TURN_TURN_GAP (i : Nat) : Fld := ⟨UART_TURN i, 16, 8⟩
def UART_STAT (i : Nat) : Nat := pageBase (0x37 + i) + 0x4c
def UART_STAT_RX_FILL (i : Nat) : Fld := ⟨UART_STAT i, 0, 9⟩
def UART_ERR (i : Nat) : Nat := pageBase (0x37 + i) + 0x50
def UART_ERR_PARITY_ERR (i : Nat) : Fld := ⟨UART_ERR i, 0, 8⟩
def UART_ERR_FRAMING_ERR (i : Nat) : Fld := ⟨UART_ERR i, 8, 8⟩
def UART_ERR_RESYNC (i : Nat) : Fld := ⟨UART_ERR i, 16, 8⟩
def UART_ERR_COLLISION (i : Nat) : Fld := ⟨UART_ERR i, 24, 8⟩
def UART_ERR1 (i : Nat) : Nat := pageBase (0x37 + i) + 0x54
def UART_ERR1_NOTICE_LOST (i : Nat) : Fld := ⟨UART_ERR1 i, 0, 8⟩
/-! ### Table 3-12 (03_host_ports.md) -/
def CAN_CTL : Nat := 0x40039040
def CAN_CTL_FD_EN : Fld := ⟨CAN_CTL, 0, 1⟩
def CAN_CTL_BRS : Fld := ⟨CAN_CTL, 1, 1⟩
def CAN_CTL_CLASSIC_TP : Fld := ⟨CAN_CTL, 2, 1⟩
def CAN_CTL_TDC_EN : Fld := ⟨CAN_CTL, 3, 1⟩
def CAN_CTL_AUTO_BOR : Fld := ⟨CAN_CTL, 4, 1⟩
def CAN_CTL_BOR : Fld := ⟨CAN_CTL, 5, 1⟩
def CAN_NBT : Nat := 0x40039044
def CAN_NBT_NBRP : Fld := ⟨CAN_NBT, 0, 8⟩
def CAN_NBT_NTSEG1 : Fld := ⟨CAN_NBT, 8, 8⟩
def CAN_NBT_NTSEG2 : Fld := ⟨CAN_NBT, 16, 7⟩
def CAN_NBT_NSJW : Fld := ⟨CAN_NBT, 24, 7⟩
def CAN_DBT : Nat := 0x40039048
def CAN_DBT_DBRP : Fld := ⟨CAN_DBT, 0, 5⟩
def CAN_DBT_DTSEG1 : Fld := ⟨CAN_DBT, 8, 5⟩
def CAN_DBT_DTSEG2 : Fld := ⟨CAN_DBT, 16, 4⟩
def CAN_DBT_DSJW : Fld := ⟨CAN_DBT, 24, 4⟩
def CAN_TP : Nat := 0x4003904c
def CAN_TP_BS : Fld := ⟨CAN_TP, 0, 8⟩
def CAN_TP_STMIN : Fld := ⟨CAN_TP, 8, 8⟩
def CAN_TP_WFT_MAX : Fld := ⟨CAN_TP, 16, 8⟩
def CAN_TP_PAD_EN : Fld := ⟨CAN_TP, 24, 1⟩
def CAN_STAT : Nat := 0x40039050
def CAN_STAT_TEC : Fld := ⟨CAN_STAT, 0, 8⟩
def CAN_STAT_REC : Fld := ⟨CAN_STAT, 8, 8⟩
def CAN_STAT_STATE : Fld := ⟨CAN_STAT, 16, 2⟩
def CAN_ERR : Nat := 0x40039054
def CAN_ERR_RESYNC : Fld := ⟨CAN_ERR, 0, 8⟩
def CAN_ERR_NOTICE_LOST : Fld := ⟨CAN_ERR, 8, 8⟩
def CAN_ERR_TP_TIMEOUT : Fld := ⟨CAN_ERR, 16, 8⟩
def CAN_ERR_BUS_OFF : Fld := ⟨CAN_ERR, 24, 8⟩
def CAN_RXID (k : Nat) : Nat := 0x40039060 + 0x8 * k
def CAN_RXID_ID (k : Nat) : Fld := ⟨CAN_RXID k, 0, 29⟩
def CAN_RXID_EN (k : Nat) : Fld := ⟨CAN_RXID k, 30, 1⟩
def CAN_RXID_IDE (k : Nat) : Fld := ⟨CAN_RXID k, 31, 1⟩
def CAN_TXID (k : Nat) : Nat := 0x40039064 + 0x8 * k
def CAN_TXID_ID (k : Nat) : Fld := ⟨CAN_TXID k, 0, 29⟩
def CAN_TXID_IDE (k : Nat) : Fld := ⟨CAN_TXID k, 31, 1⟩
/-! ### Table 5-6 (05_registers_events.md) -/
def PG_ID (i : Nat) : Nat := pageBase i + 0x0
def PG_ID_REV (i : Nat) : Fld := ⟨PG_ID i, 0, 8⟩
def PG_ID_INSTANCE (i : Nat) : Fld := ⟨PG_ID i, 8, 8⟩
def PG_ID_BLOCK (i : Nat) : Fld := ⟨PG_ID i, 16, 16⟩
def PG_CAP (i : Nat) : Nat := pageBase i + 0x4
def PG_CAP_NSRC (i : Nat) : Fld := ⟨PG_CAP i, 0, 6⟩
def PG_CAP_HAS_SHADOW (i : Nat) : Fld := ⟨PG_CAP i, 8, 1⟩
def PG_CAP_BLK_CAP (i : Nat) : Fld := ⟨PG_CAP i, 16, 16⟩
def PG_CTL (i : Nat) : Nat := pageBase i + 0x8
def PG_CTL_EN (i : Nat) : Fld := ⟨PG_CTL i, 0, 1⟩
def PG_CTL_SOFT_RST (i : Nat) : Fld := ⟨PG_CTL i, 1, 1⟩
def PG_CTL_FREEZE (i : Nat) : Fld := ⟨PG_CTL i, 4, 1⟩
def PG_CTL_SHADOW_COMMIT (i : Nat) : Fld := ⟨PG_CTL i, 8, 1⟩
def PG_STAT (i : Nat) : Nat := pageBase i + 0xc
def PG_STAT_READY (i : Nat) : Fld := ⟨PG_STAT i, 0, 1⟩
def PG_STAT_BUSY (i : Nat) : Fld := ⟨PG_STAT i, 1, 1⟩
def PG_STAT_FAULT (i : Nat) : Fld := ⟨PG_STAT i, 2, 1⟩
def PG_STAT_STATE (i : Nat) : Fld := ⟨PG_STAT i, 4, 4⟩
def EVT_RAW (i : Nat) : Nat := pageBase i + 0x10
def EVT_RAW_RAW (i : Nat) : Fld := ⟨EVT_RAW i, 0, 32⟩
def EVT_EN (i : Nat) : Nat := pageBase i + 0x14
def EVT_EN_EN (i : Nat) : Fld := ⟨EVT_EN i, 0, 32⟩
def EVT_PEND (i : Nat) : Nat := pageBase i + 0x18
def EVT_PEND_PEND (i : Nat) : Fld := ⟨EVT_PEND i, 0, 32⟩
def EVT_SET (i : Nat) : Nat := pageBase i + 0x1c
def EVT_SET_SET (i : Nat) : Fld := ⟨EVT_SET i, 0, 32⟩
def PG_LOCK (i : Nat) : Nat := pageBase i + 0x20
def PG_LOCK_LOCK (i : Nat) : Fld := ⟨PG_LOCK i, 0, 1⟩
def PG_OWNER (i : Nat) : Nat := pageBase i + 0x24
def PG_OWNER_RD_MASK (i : Nat) : Fld := ⟨PG_OWNER i, 0, 8⟩
def PG_OWNER_WR_MASK (i : Nat) : Fld := ⟨PG_OWNER i, 8, 8⟩
def PG_OWNER_FW_HOLD (i : Nat) : Fld := ⟨PG_OWNER i, 16, 1⟩
def FAULT_CODE (i : Nat) : Nat := pageBase i + 0x28
def FAULT_CODE_CODE (i : Nat) : Fld := ⟨FAULT_CODE i, 0, 16⟩
def FAULT_CODE_SEV (i : Nat) : Fld := ⟨FAULT_CODE i, 16, 3⟩
def FAULT_INFO (i : Nat) : Nat := pageBase i + 0x2c
def FAULT_INFO_FIRST (i : Nat) : Fld := ⟨FAULT_INFO i, 0, 16⟩
def FAULT_INFO_DETAIL (i : Nat) : Fld := ⟨FAULT_INFO i, 16, 16⟩
/-! ### Table 5-7 (05_registers_events.md) -/
def EVT_TIME : Nat := 0x4000a040
def EVT_TIME_TIME : Fld := ⟨EVT_TIME, 0, 32⟩
def EVT_LAST : Nat := 0x4000a044
def EVT_LAST_SEQ : Fld := ⟨EVT_LAST, 0, 32⟩
def EVT_CFG : Nat := 0x4000a048
def EVT_CFG_RD_AUTOINC : Fld := ⟨EVT_CFG, 0, 1⟩
def EVT_TSEV : Nat := 0x4000a04c
def EVT_TSEV_TSEV0 : Fld := ⟨EVT_TSEV, 0, 3⟩
def EVT_TSEV_TSEV1 : Fld := ⟨EVT_TSEV, 3, 3⟩
def EVT_TSEV_TSEV2 : Fld := ⟨EVT_TSEV, 6, 3⟩
def EVT_TSEV_TSEV3 : Fld := ⟨EVT_TSEV, 9, 3⟩
def EVT_TSEV_TSEV4 : Fld := ⟨EVT_TSEV, 12, 3⟩
def EVT_TSEV_TSEV5 : Fld := ⟨EVT_TSEV, 15, 3⟩
def EVT_TSEV_TSEV6 : Fld := ⟨EVT_TSEV, 18, 3⟩
def EVT_TSEV_TSEV7 : Fld := ⟨EVT_TSEV, 21, 3⟩
def IRQ_ROUTE0 : Nat := 0x4000a050
def IRQ_ROUTE0_TEN : Fld := ⟨IRQ_ROUTE0, 0, 8⟩
def IRQ_ROUTE0_DEV : Fld := ⟨IRQ_ROUTE0, 8, 1⟩
def IRQ_ROUTE0_OD : Fld := ⟨IRQ_ROUTE0, 16, 1⟩
def IRQ_ROUTE1 : Nat := 0x4000a054
def IRQ_ROUTE1_TEN : Fld := ⟨IRQ_ROUTE1, 0, 8⟩
def IRQ_ROUTE1_DEV : Fld := ⟨IRQ_ROUTE1, 8, 1⟩
def IRQ_ROUTE1_OD : Fld := ⟨IRQ_ROUTE1, 16, 1⟩
def IRQ_STAT : Nat := 0x4000a058
def IRQ_STAT_ASSERTED : Fld := ⟨IRQ_STAT, 0, 2⟩
def EVT_DROP : Nat := 0x4000a05c
def EVT_DROP_LOST : Fld := ⟨EVT_DROP, 0, 16⟩
def EVT_RD_SEQ : Nat := 0x4000a060
def EVT_RD_SEQ_SEQ : Fld := ⟨EVT_RD_SEQ, 0, 32⟩
def EVT_RD_STAT : Nat := 0x4000a064
def EVT_RD_STAT_VALID : Fld := ⟨EVT_RD_STAT, 0, 1⟩
def EVT_RD_STAT_GAP : Fld := ⟨EVT_RD_STAT, 1, 1⟩
def EVT_RD (k : Nat) : Nat := 0x4000a070 + 0x4 * k
def EVT_RD_WORD (k : Nat) : Fld := ⟨EVT_RD k, 0, 32⟩
/-! ### Table 5-10 (05_registers_events.md) -/
def BR_CFG : Nat := 0x4000b040
def BR_CFG_TIMEOUT : Fld := ⟨BR_CFG, 0, 8⟩
def BR_FILL0 : Nat := 0x4000b044
def BR_FILL0_FILL0 : Fld := ⟨BR_FILL0, 0, 5⟩
def BR_FILL0_FILL1 : Fld := ⟨BR_FILL0, 8, 5⟩
def BR_FILL0_FILL2 : Fld := ⟨BR_FILL0, 16, 5⟩
def BR_FILL0_FILL3 : Fld := ⟨BR_FILL0, 24, 5⟩
def BR_FILL1 : Nat := 0x4000b048
def BR_FILL1_FILL4 : Fld := ⟨BR_FILL1, 0, 5⟩
def BR_FILL1_FILL5 : Fld := ⟨BR_FILL1, 8, 5⟩
def BR_FILL1_FILL6 : Fld := ⟨BR_FILL1, 16, 5⟩
def BR_FILL1_FILL7 : Fld := ⟨BR_FILL1, 24, 5⟩
def BR_ECC : Nat := 0x4000b04c
def BR_ECC_CORR : Fld := ⟨BR_ECC, 0, 16⟩
def BR_ECC_UNCORR : Fld := ⟨BR_ECC, 16, 16⟩
def FW_LE_ADDR : Nat := 0x4000b050
def FW_LE_ADDR_ADDR : Fld := ⟨FW_LE_ADDR, 0, 32⟩
def FW_LE_INFO : Nat := 0x4000b054
def FW_LE_INFO_REASON : Fld := ⟨FW_LE_INFO, 0, 4⟩
/-! ### Table 5-8 (05_registers_events.md) -/
def LE_STAT (i : Nat) : Nat := pageBase (0x2 + i) + 0x84
def LE_STAT_COUNT (i : Nat) : Fld := ⟨LE_STAT i, 0, 3⟩
def LE_STAT_OVF (i : Nat) : Fld := ⟨LE_STAT i, 8, 1⟩
def LE_ADDR (i : Nat) : Nat := pageBase (0x2 + i) + 0x88
def LE_ADDR_ADDR (i : Nat) : Fld := ⟨LE_ADDR i, 0, 32⟩
def LE_INFO (i : Nat) : Nat := pageBase (0x2 + i) + 0x8c
def LE_INFO_TAG (i : Nat) : Fld := ⟨LE_INFO i, 0, 16⟩
def LE_INFO_REASON (i : Nat) : Fld := ⟨LE_INFO i, 16, 4⟩
def LE_DATA (i : Nat) : Nat := pageBase (0x2 + i) + 0x90
def LE_DATA_DATA (i : Nat) : Fld := ⟨LE_DATA i, 0, 32⟩
def LE_POP (i : Nat) : Nat := pageBase (0x2 + i) + 0x94
def LE_POP_POP (i : Nat) : Fld := ⟨LE_POP i, 0, 1⟩
/-! ### Table 6-10 (06_memory_dma.md) -/
def MEM_CFG : Nat := 0x40018040
def MEM_CFG_WB_CORR : Fld := ⟨MEM_CFG, 0, 1⟩
def MEM_INJ : Nat := 0x40018044
def MEM_INJ_BANK : Fld := ⟨MEM_INJ, 0, 4⟩
def MEM_INJ_DOUBLE : Fld := ⟨MEM_INJ, 4, 1⟩
def MEM_INJ_ARM : Fld := ⟨MEM_INJ, 8, 1⟩
def MEM_ERR : Nat := 0x40018048
def MEM_ERR_CORR : Fld := ⟨MEM_ERR, 0, 16⟩
def MEM_ERR_UNCORR : Fld := ⟨MEM_ERR, 16, 16⟩
def MEM_ERR_ADDR : Nat := 0x4001804c
def MEM_ERR_ADDR_ADDR : Fld := ⟨MEM_ERR_ADDR, 0, 32⟩
def MEM_BANK_ERR : Nat := 0x40018050
def MEM_BANK_ERR_BANKS : Fld := ⟨MEM_BANK_ERR, 0, 16⟩
def FAB_STAT : Nat := 0x40018054
def FAB_STAT_P0_WAIT_MAX : Fld := ⟨FAB_STAT, 0, 16⟩
def FAB_STAT_RAISED : Fld := ⟨FAB_STAT, 16, 16⟩
/-! ### Table 6-11 (06_memory_dma.md) -/
def XSPI_CFG : Nat := 0x40019040
def XSPI_CFG_CS0_EN : Fld := ⟨XSPI_CFG, 0, 1⟩
def XSPI_CFG_CS1_EN : Fld := ⟨XSPI_CFG, 1, 1⟩
def XSPI_CFG_CLK_DIV : Fld := ⟨XSPI_CFG, 2, 2⟩
def XSPI_STAT : Nat := 0x40019044
def XSPI_STAT_CS0_MODE : Fld := ⟨XSPI_STAT, 0, 2⟩
def XSPI_STAT_CS1_MODE : Fld := ⟨XSPI_STAT, 2, 2⟩
def XSPI_STAT_CS0_SFDP : Fld := ⟨XSPI_STAT, 4, 1⟩
def XSPI_STAT_CS1_SFDP : Fld := ⟨XSPI_STAT, 5, 1⟩
def XSPI_STAT_SUSPEND : Fld := ⟨XSPI_STAT, 6, 1⟩
def XSPI_STAT_DQS_DLY : Fld := ⟨XSPI_STAT, 8, 6⟩
def CS0_SIZE : Nat := 0x40019048
def CS0_SIZE_BYTES : Fld := ⟨CS0_SIZE, 0, 32⟩
def CS1_SIZE : Nat := 0x4001904c
def CS1_SIZE_BYTES : Fld := ⟨CS1_SIZE, 0, 32⟩
def RAM_CFG : Nat := 0x40019050
def RAM_CFG_RD_OP : Fld := ⟨RAM_CFG, 0, 8⟩
def RAM_CFG_WR_OP : Fld := ⟨RAM_CFG, 8, 8⟩
def RAM_CFG_LATENCY : Fld := ⟨RAM_CFG, 16, 5⟩
def RAM_CFG_FIXED_LAT : Fld := ⟨RAM_CFG, 21, 1⟩
def RAM_CFG_SIZE : Fld := ⟨RAM_CFG, 24, 3⟩
def RAM_CFG_ENTER : Fld := ⟨RAM_CFG, 28, 4⟩
def RAM_TIMING : Nat := 0x40019054
def RAM_TIMING_CEM_MAX : Fld := ⟨RAM_TIMING, 0, 12⟩
def NOR_PATCH : Nat := 0x40019058
def NOR_PATCH_BASE : Fld := ⟨NOR_PATCH, 0, 10⟩
def NOR_PATCH_SIZE : Fld := ⟨NOR_PATCH, 16, 10⟩
def NOR_JOURNAL : Nat := 0x4001905c
def NOR_JOURNAL_BASE : Fld := ⟨NOR_JOURNAL, 0, 10⟩
def NOR_JOURNAL_SIZE : Fld := ⟨NOR_JOURNAL, 16, 10⟩
def NOR_FORMS : Nat := 0x40019060
def NOR_FORMS_BASE : Fld := ⟨NOR_FORMS, 0, 10⟩
def NOR_FORMS_SIZE : Fld := ⟨NOR_FORMS, 16, 10⟩
def XSPI_ERR : Nat := 0x40019064
def XSPI_ERR_SETUP_FAIL : Fld := ⟨XSPI_ERR, 0, 8⟩
def XSPI_ERR_TIMEOUTS : Fld := ⟨XSPI_ERR, 8, 8⟩
def XSPI_ERR_RECAL : Fld := ⟨XSPI_ERR, 16, 8⟩
def XSPI_CMD_OP : Nat := 0x40019100
def XSPI_CMD_OP_OP : Fld := ⟨XSPI_CMD_OP, 0, 16⟩
def XSPI_CMD_ADDR : Nat := 0x40019104
def XSPI_CMD_ADDR_ADDR : Fld := ⟨XSPI_CMD_ADDR, 0, 32⟩
def XSPI_CMD_CTL : Nat := 0x40019108
def XSPI_CMD_CTL_LEN : Fld := ⟨XSPI_CMD_CTL, 0, 9⟩
def XSPI_CMD_CTL_GO : Fld := ⟨XSPI_CMD_CTL, 16, 1⟩
def XSPI_CMD_DATA (k : Nat) : Nat := 0x40019110 + 0x4 * k
def XSPI_CMD_DATA_DATA (k : Nat) : Fld := ⟨XSPI_CMD_DATA k, 0, 32⟩
/-! ### Table 6-12 (06_memory_dma.md) -/
def DMA_DESC (i : Nat) (k : Nat) : Nat := pageBase (0x1a + i) + 0x60 + 0x4 * k
def DMA_DESC_WORD (i : Nat) (k : Nat) : Fld := ⟨DMA_DESC i k, 0, 32⟩
def DMA_POST (i : Nat) : Nat := pageBase (0x1a + i) + 0x78
def DMA_POST_CH (i : Nat) : Fld := ⟨DMA_POST i, 0, 3⟩
def DMA_POST_POST_REFUSED (i : Nat) : Fld := ⟨DMA_POST i, 8, 1⟩
/-! ### Table 6-12 (06_memory_dma.md) -/
def DCH_CTL (i : Nat) : Nat := pageBase (0x1A + i / 8) + 0x100 + 0x40 * (i % 8) + 0x0
def DCH_CTL_EN (i : Nat) : Fld := ⟨DCH_CTL i, 0, 1⟩
def DCH_CTL_ABORT (i : Nat) : Fld := ⟨DCH_CTL i, 1, 1⟩
def DCH_CTL_END_BAR (i : Nat) : Fld := ⟨DCH_CTL i, 2, 1⟩
def DCH_CTL_PORT_TIMEOUT (i : Nat) : Fld := ⟨DCH_CTL i, 8, 8⟩
def DCH_STAT (i : Nat) : Nat := pageBase (0x1A + i / 8) + 0x100 + 0x40 * (i % 8) + 0x4
def DCH_STAT_STATE (i : Nat) : Fld := ⟨DCH_STAT i, 0, 3⟩
def DCH_STAT_QUEUED (i : Nat) : Fld := ⟨DCH_STAT i, 4, 5⟩
def DCH_STAT_ACTIVE (i : Nat) : Fld := ⟨DCH_STAT i, 9, 1⟩
def DCH_STAT_OWNER (i : Nat) : Fld := ⟨DCH_STAT i, 16, 4⟩
def DCH_POSTED (i : Nat) : Nat := pageBase (0x1A + i / 8) + 0x100 + 0x40 * (i % 8) + 0x8
def DCH_POSTED_COUNT (i : Nat) : Fld := ⟨DCH_POSTED i, 0, 32⟩
def DCH_RETIRED (i : Nat) : Nat := pageBase (0x1A + i / 8) + 0x100 + 0x40 * (i % 8) + 0xc
def DCH_RETIRED_COUNT (i : Nat) : Fld := ⟨DCH_RETIRED i, 0, 32⟩
def DCH_LAST (i : Nat) : Nat := pageBase (0x1A + i / 8) + 0x100 + 0x40 * (i % 8) + 0x10
def DCH_LAST_TAG (i : Nat) : Fld := ⟨DCH_LAST i, 0, 16⟩
def DCH_LAST_RESULT (i : Nat) : Fld := ⟨DCH_LAST i, 16, 4⟩
def DCH_LAST_STATUS (i : Nat) : Nat := pageBase (0x1A + i / 8) + 0x100 + 0x40 * (i % 8) + 0x14
def DCH_LAST_STATUS_STATUS (i : Nat) : Fld := ⟨DCH_LAST_STATUS i, 0, 32⟩
def DCH_LAST_BYTES (i : Nat) : Nat := pageBase (0x1A + i / 8) + 0x100 + 0x40 * (i % 8) + 0x18
def DCH_LAST_BYTES_DONE_BYTES (i : Nat) : Fld := ⟨DCH_LAST_BYTES i, 0, 32⟩
def DCH_CNT (i : Nat) : Nat := pageBase (0x1A + i / 8) + 0x100 + 0x40 * (i % 8) + 0x1c
def DCH_CNT_BAD (i : Nat) : Fld := ⟨DCH_CNT i, 0, 16⟩
def DCH_CNT_DROPPED (i : Nat) : Fld := ⟨DCH_CNT i, 16, 16⟩
def DCH_LE_STAT (i : Nat) : Nat := pageBase (0x1A + i / 8) + 0x100 + 0x40 * (i % 8) + 0x20
def DCH_LE_STAT_COUNT (i : Nat) : Fld := ⟨DCH_LE_STAT i, 0, 3⟩
def DCH_LE_STAT_OVF (i : Nat) : Fld := ⟨DCH_LE_STAT i, 8, 1⟩
def DCH_LE_ADDR (i : Nat) : Nat := pageBase (0x1A + i / 8) + 0x100 + 0x40 * (i % 8) + 0x24
def DCH_LE_ADDR_ADDR (i : Nat) : Fld := ⟨DCH_LE_ADDR i, 0, 32⟩
def DCH_LE_INFO (i : Nat) : Nat := pageBase (0x1A + i / 8) + 0x100 + 0x40 * (i % 8) + 0x28
def DCH_LE_INFO_TAG (i : Nat) : Fld := ⟨DCH_LE_INFO i, 0, 16⟩
def DCH_LE_INFO_REASON (i : Nat) : Fld := ⟨DCH_LE_INFO i, 16, 4⟩
def DCH_LE_POP (i : Nat) : Nat := pageBase (0x1A + i / 8) + 0x100 + 0x40 * (i % 8) + 0x2c
def DCH_LE_POP_POP (i : Nat) : Fld := ⟨DCH_LE_POP i, 0, 1⟩
/-! ### Table 7-7 (07_band_codec.md) -/
def CODEC_CFG : Nat := 0x4001c040
def CODEC_CFG_EFFORT : Fld := ⟨CODEC_CFG, 0, 2⟩
def CODEC_CFG_RECODE : Fld := ⟨CODEC_CFG, 2, 1⟩
def CODEC_CFG_RATIO_LOG2 : Fld := ⟨CODEC_CFG, 8, 5⟩
def CODEC_LIMIT : Nat := 0x4001c044
def CODEC_LIMIT_OUT_MAX : Fld := ⟨CODEC_LIMIT, 0, 20⟩
def CODEC_STAT : Nat := 0x4001c048
def CODEC_STAT_DEC_BUSY : Fld := ⟨CODEC_STAT, 0, 1⟩
def CODEC_STAT_SUSPENDED : Fld := ⟨CODEC_STAT, 1, 1⟩
def CODEC_STAT_ENC_BUSY : Fld := ⟨CODEC_STAT, 2, 1⟩
def CODEC_STAT_Q0_DEPTH : Fld := ⟨CODEC_STAT, 8, 4⟩
def CODEC_STAT_Q1_DEPTH : Fld := ⟨CODEC_STAT, 12, 4⟩
def CODEC_STAT_Q2_DEPTH : Fld := ⟨CODEC_STAT, 16, 4⟩
def DEC_COUNT : Nat := 0x4001c04c
def DEC_COUNT_BLOCKS : Fld := ⟨DEC_COUNT, 0, 32⟩
def DEC_ERR : Nat := 0x4001c050
def DEC_ERR_CORRUPT : Fld := ⟨DEC_ERR, 0, 8⟩
def DEC_ERR_OUTLIMIT : Fld := ⟨DEC_ERR, 8, 8⟩
def DEC_ERR_NOGAIN : Fld := ⟨DEC_ERR, 16, 8⟩
def DEC_ERR_RATIO : Fld := ⟨DEC_ERR, 24, 8⟩
def DEC_LAST : Nat := 0x4001c054
def DEC_LAST_STATUS : Fld := ⟨DEC_LAST, 0, 16⟩
def DEC_LAST_DETAIL : Fld := ⟨DEC_LAST, 16, 4⟩
def DEC_LAST_QUEUE : Fld := ⟨DEC_LAST, 20, 2⟩
def DEC_LAST_LAYER : Fld := ⟨DEC_LAST, 22, 2⟩
def DEC_LAST_TOKEN : Fld := ⟨DEC_LAST, 24, 8⟩
def DEC_LAST_BAND : Nat := 0x4001c058
def DEC_LAST_BAND_BAND : Fld := ⟨DEC_LAST_BAND, 0, 16⟩
def DEC_LAST_BAND_JOB : Fld := ⟨DEC_LAST_BAND, 16, 16⟩
def DEC_CYCLES : Nat := 0x4001c05c
def DEC_CYCLES_CYCLES : Fld := ⟨DEC_CYCLES, 0, 32⟩
def ENC_COUNT : Nat := 0x4001c060
def ENC_COUNT_BLOCKS : Fld := ⟨ENC_COUNT, 0, 16⟩
def ENC_COUNT_RAW_FALLBACK : Fld := ⟨ENC_COUNT, 16, 16⟩
/-! ### Table 8-4 (08_layers.md) -/
def GAL_CFG : Nat := 0x4001d040
def GAL_CFG_ZERO_REL : Fld := ⟨GAL_CFG, 0, 1⟩
def GAL_CFG_CACHE_MAX : Fld := ⟨GAL_CFG, 8, 5⟩
def GAL_CFG_TH_BANDS : Fld := ⟨GAL_CFG, 16, 4⟩
def GAL_SEL : Nat := 0x4001d044
def GAL_SEL_UNIT : Fld := ⟨GAL_SEL, 0, 7⟩
def GAL_UNIT0 : Nat := 0x4001d048
def GAL_UNIT0_STATE : Fld := ⟨GAL_UNIT0, 0, 3⟩
def GAL_UNIT0_TENANT : Fld := ⟨GAL_UNIT0, 4, 4⟩
def GAL_UNIT0_KIND : Fld := ⟨GAL_UNIT0, 8, 2⟩
def GAL_UNIT0_LAYER : Fld := ⟨GAL_UNIT0, 10, 2⟩
def GAL_UNIT0_TOKEN : Fld := ⟨GAL_UNIT0, 16, 8⟩
def GAL_UNIT1 : Nat := 0x4001d04c
def GAL_UNIT1_BAND : Fld := ⟨GAL_UNIT1, 0, 16⟩
def GAL_UNIT1_JOB : Fld := ⟨GAL_UNIT1, 16, 16⟩
def GAL_WAIT : Nat := 0x4001d050
def GAL_WAIT_UNITS : Fld := ⟨GAL_WAIT, 0, 7⟩
def GAL_WAIT_GRANTS : Fld := ⟨GAL_WAIT, 8, 8⟩
def GAL_CACHE : Nat := 0x4001d054
def GAL_CACHE_HITS : Fld := ⟨GAL_CACHE, 0, 16⟩
def GAL_CACHE_MISSES : Fld := ⟨GAL_CACHE, 16, 16⟩
def GAL_TH : Nat := 0x4001d058
def GAL_TH_FILL : Fld := ⟨GAL_TH, 0, 7⟩
def GAL_TH_AHEAD : Fld := ⟨GAL_TH, 16, 16⟩
/-! ### Table 8-5 (08_layers.md) -/
def IMPO_CFG : Nat := 0x4001e040
def IMPO_CFG_COMPOSE_LEAD : Fld := ⟨IMPO_CFG, 0, 5⟩
def IMPO_STAT : Nat := 0x4001e044
def IMPO_STAT_BAND : Fld := ⟨IMPO_STAT, 0, 16⟩
def IMPO_STAT_TOKEN : Fld := ⟨IMPO_STAT, 16, 8⟩
def IMPO_STAT_LEAD : Fld := ⟨IMPO_STAT, 24, 8⟩
def IMPO_CNT : Nat := 0x4001e048
def IMPO_CNT_VOIDED : Fld := ⟨IMPO_CNT, 0, 16⟩
def IMPO_CNT_OMITTED : Fld := ⟨IMPO_CNT, 16, 16⟩
def IMPO_LAST : Nat := 0x4001e04c
def IMPO_LAST_PAYLOAD : Fld := ⟨IMPO_LAST, 0, 32⟩
def IMPO_LATE : Nat := 0x4001e050
def IMPO_LATE_COUNT : Fld := ⟨IMPO_LATE, 0, 16⟩
/-! ### Table 9-13 (09_kestrel.md) -/
def SEQ_CTL (i : Nat) : Nat := pageBase (0x1f + 3 * i) + 0x40
def SEQ_CTL_ENTRY (i : Nat) : Fld := ⟨SEQ_CTL i, 0, 4⟩
def SEQ_CTL_GO (i : Nat) : Fld := ⟨SEQ_CTL i, 4, 1⟩
def SEQ_CTL_HALT (i : Nat) : Fld := ⟨SEQ_CTL i, 5, 1⟩
def SEQ_STAT (i : Nat) : Nat := pageBase (0x1f + 3 * i) + 0x44
def SEQ_STAT_STATE (i : Nat) : Fld := ⟨SEQ_STAT i, 0, 2⟩
def SEQ_STAT_ENT_PEND (i : Nat) : Fld := ⟨SEQ_STAT i, 4, 1⟩
def SEQ_STAT_PC (i : Nat) : Fld := ⟨SEQ_STAT i, 16, 12⟩
def SEQ_STAT_SP (i : Nat) : Fld := ⟨SEQ_STAT i, 28, 3⟩
def SEQ_FAULT (i : Nat) : Nat := pageBase (0x1f + 3 * i) + 0x48
def SEQ_FAULT_KIND (i : Nat) : Fld := ⟨SEQ_FAULT i, 0, 4⟩
def SEQ_FAULT_PC (i : Nat) : Fld := ⟨SEQ_FAULT i, 16, 12⟩
def SEQ_FLAG (i : Nat) : Nat := pageBase (0x1f + 3 * i) + 0x4c
def SEQ_FLAG_FLAG (i : Nat) : Fld := ⟨SEQ_FLAG i, 0, 4⟩
def SEQ_SIG (i : Nat) : Nat := pageBase (0x1f + 3 * i) + 0x50
def SEQ_SIG_SIG (i : Nat) : Fld := ⟨SEQ_SIG i, 0, 4⟩
def SEQ_WDOG (i : Nat) : Nat := pageBase (0x1f + 3 * i) + 0x54
def SEQ_WDOG_WAIT_MAX (i : Nat) : Fld := ⟨SEQ_WDOG i, 0, 20⟩
def TMR_PRE (i : Nat) : Nat := pageBase (0x1f + 3 * i) + 0x58
def TMR_PRE_PRE0 (i : Nat) : Fld := ⟨TMR_PRE i, 0, 8⟩
def TMR_PRE_PRE1 (i : Nat) : Fld := ⟨TMR_PRE i, 8, 8⟩
def TMR_PRE_PRE2 (i : Nat) : Fld := ⟨TMR_PRE i, 16, 8⟩
def TMR_PRE_PRE3 (i : Nat) : Fld := ⟨TMR_PRE i, 24, 8⟩
def SEQ_GR (i : Nat) (k : Nat) : Nat := pageBase (0x1f + 3 * i) + 0x60 + 0x4 * k
def SEQ_GR_GR (i : Nat) (k : Nat) : Fld := ⟨SEQ_GR i k, 0, 32⟩
def SEQ_P (i : Nat) (k : Nat) : Nat := pageBase (0x1f + 3 * i) + 0x400 + 0x4 * k
def SEQ_P_P (i : Nat) (k : Nat) : Fld := ⟨SEQ_P i k, 0, 32⟩
/-! ### Table 9-14 (09_kestrel.md) -/
def CS_ADDR (i : Nat) : Nat := pageBase (0x20 + 3 * i) + 0x40
def CS_ADDR_ADDR (i : Nat) : Fld := ⟨CS_ADDR i, 0, 12⟩
def CS_ADDR_AUTOINC (i : Nat) : Fld := ⟨CS_ADDR i, 16, 1⟩
def CS_DATA0 (i : Nat) : Nat := pageBase (0x20 + 3 * i) + 0x44
def CS_DATA0_D (i : Nat) : Fld := ⟨CS_DATA0 i, 0, 32⟩
def CS_DATA1 (i : Nat) : Nat := pageBase (0x20 + 3 * i) + 0x48
def CS_DATA1_D (i : Nat) : Fld := ⟨CS_DATA1 i, 0, 32⟩
def CS_DATA2 (i : Nat) : Nat := pageBase (0x20 + 3 * i) + 0x4c
def CS_DATA2_D (i : Nat) : Fld := ⟨CS_DATA2 i, 0, 32⟩
def CS_CMD (i : Nat) : Nat := pageBase (0x20 + 3 * i) + 0x50
def CS_CMD_WRITE (i : Nat) : Fld := ⟨CS_CMD i, 0, 1⟩
def CS_CMD_READ (i : Nat) : Fld := ⟨CS_CMD i, 1, 1⟩
def CS_STAT (i : Nat) : Nat := pageBase (0x20 + 3 * i) + 0x54
def CS_STAT_WR_REFUSED (i : Nat) : Fld := ⟨CS_STAT i, 0, 1⟩
def CS_ERR (i : Nat) : Nat := pageBase (0x20 + 3 * i) + 0x58
def CS_ERR_CORR (i : Nat) : Fld := ⟨CS_ERR i, 0, 16⟩
def CS_ERR_UNCORR (i : Nat) : Fld := ⟨CS_ERR i, 16, 16⟩
def CS_ERR_ADDR (i : Nat) : Nat := pageBase (0x20 + 3 * i) + 0x5c
def CS_ERR_ADDR_ADDR (i : Nat) : Fld := ⟨CS_ERR_ADDR i, 0, 12⟩
def CS_CRC (i : Nat) : Nat := pageBase (0x20 + 3 * i) + 0x60
def CS_CRC_CRC (i : Nat) : Fld := ⟨CS_CRC i, 0, 32⟩
def CS_CRC_CTL (i : Nat) : Nat := pageBase (0x20 + 3 * i) + 0x64
def CS_CRC_CTL_CRC_GO (i : Nat) : Fld := ⟨CS_CRC_CTL i, 0, 1⟩
def CS_CRC_CTL_CRC_LAST (i : Nat) : Fld := ⟨CS_CRC_CTL i, 16, 12⟩
/-! ### Table 10-5 (10_scan_video.md) -/
def BD_CFG : Nat := 0x4001f080
def BD_CFG_W_MIN : Fld := ⟨BD_CFG, 0, 8⟩
def BD_CFG_W_MAX : Fld := ⟨BD_CFG, 8, 12⟩
def BD_CFG_BD_POL : Fld := ⟨BD_CFG, 20, 1⟩
def BD_CFG_EOS_EN : Fld := ⟨BD_CFG, 21, 1⟩
def BD_CFG_BD_LOSS : Fld := ⟨BD_CFG, 24, 4⟩
def BD_WINCFG : Nat := 0x4001f084
def BD_WINCFG_WIN_PRE : Fld := ⟨BD_WINCFG, 0, 12⟩
def BD_WINCFG_WIN_POST : Fld := ⟨BD_WINCFG, 16, 12⟩
def BD_NOM : Nat := 0x4001f088
def BD_NOM_NOM : Fld := ⟨BD_NOM, 0, 20⟩
def BD_STAT : Nat := 0x4001f08c
def BD_STAT_FACET : Fld := ⟨BD_STAT, 0, 3⟩
def BD_STAT_QUALIFIED : Fld := ⟨BD_STAT, 4, 1⟩
def BD_STAT_INDEXED : Fld := ⟨BD_STAT, 5, 1⟩
def BD_STAT_LOST : Fld := ⟨BD_STAT, 6, 1⟩
def BD_STAT_MISS_RUN : Fld := ⟨BD_STAT, 8, 4⟩
def BD_PERIOD : Nat := 0x4001f090
def BD_PERIOD_PERIOD : Fld := ⟨BD_PERIOD, 0, 20⟩
def REV_PERIOD : Nat := 0x4001f094
def REV_PERIOD_PERIOD : Fld := ⟨REV_PERIOD, 0, 24⟩
def SPEED_TRIM : Nat := 0x4001f098
def SPEED_TRIM_TRIM : Fld := ⟨SPEED_TRIM, 0, 16⟩
def BD_CNT : Nat := 0x4001f09c
def BD_CNT_MISSES : Fld := ⟨BD_CNT, 0, 16⟩
def BD_CNT_REJECTS : Fld := ⟨BD_CNT, 16, 16⟩
def FT_CTL : Nat := 0x4001f0a0
def FT_CTL_LEARN_EN : Fld := ⟨FT_CTL, 0, 1⟩
def FT_CTL_SET_VALID : Fld := ⟨FT_CTL, 1, 1⟩
def FT_CTL_SET_LEN_VALID : Fld := ⟨FT_CTL, 2, 1⟩
def FT_CTL_RELEARN : Fld := ⟨FT_CTL, 3, 1⟩
def FT_CTL_LEARN_SHIFT : Fld := ⟨FT_CTL, 4, 4⟩
def FT_CTL_IDX_REVS : Fld := ⟨FT_CTL, 8, 8⟩
def FT_CTL_IDX_MARGIN : Fld := ⟨FT_CTL, 16, 16⟩
def FT_STAT : Nat := 0x4001f0a4
def FT_STAT_VALID : Fld := ⟨FT_STAT, 0, 1⟩
def FT_STAT_LEN_VALID : Fld := ⟨FT_STAT, 1, 1⟩
def FT_STAT_REVS : Fld := ⟨FT_STAT, 8, 8⟩
def FT_STAT_MARGIN : Fld := ⟨FT_STAT, 16, 16⟩
def SCAN_ERR : Nat := 0x4001f0a8
def SCAN_ERR_LATE_GO : Fld := ⟨SCAN_ERR, 0, 8⟩
def SCAN_ERR_EOS_MISS : Fld := ⟨SCAN_ERR, 8, 8⟩
def SCAN_ERR_OVERLAP : Fld := ⟨SCAN_ERR, 16, 8⟩
def SCAN_ERR_ARM_REFUSED : Fld := ⟨SCAN_ERR, 24, 8⟩
def FT_A (k : Nat) : Nat := 0x4001f0b0 + 0x8 * k
def FT_A_INT_ERR (k : Nat) : Fld := ⟨FT_A k, 0, 16⟩
def FT_A_START_OFS (k : Nat) : Fld := ⟨FT_A k, 16, 16⟩
def FT_B (k : Nat) : Nat := 0x4001f0b4 + 0x8 * k
def FT_B_TRIM (k : Nat) : Fld := ⟨FT_B k, 0, 16⟩
def SHEET_ARM0 : Nat := 0x4001f100
def SHEET_ARM0_LINES : Fld := ⟨SHEET_ARM0, 0, 16⟩
def SHEET_ARM0_TOKEN : Fld := ⟨SHEET_ARM0, 16, 8⟩
def SHEET_ARM1 : Nat := 0x4001f104
def SHEET_ARM1_LEAD : Fld := ⟨SHEET_ARM1, 0, 16⟩
def SHEET_ARM1_BLANK : Fld := ⟨SHEET_ARM1, 16, 1⟩
def SHEET_LINE : Nat := 0x4001f108
def SHEET_LINE_LINE_NO : Fld := ⟨SHEET_LINE, 0, 16⟩
def SHEET_LINE_TOKEN : Fld := ⟨SHEET_LINE, 16, 8⟩
def SHEET_LINE_IMG : Fld := ⟨SHEET_LINE, 24, 1⟩
def SHEET_LINE_GATED : Fld := ⟨SHEET_LINE, 25, 1⟩
def SHEET_LINE_ARMED : Fld := ⟨SHEET_LINE, 26, 2⟩
/-! ### Table 10-7 (10_scan_video.md) -/
def VID_CFG : Nat := 0x40021040
def VID_CFG_VID_INV : Fld := ⟨VID_CFG, 0, 1⟩
def VID_CFG_XALIGN : Fld := ⟨VID_CFG, 1, 1⟩
def VID_CFG_JUST : Fld := ⟨VID_CFG, 2, 2⟩
def VID_CFG_X_OFS : Fld := ⟨VID_CFG, 16, 16⟩
def PWM_LUT2 : Nat := 0x40021044
def PWM_LUT2_W : Fld := ⟨PWM_LUT2, 0, 20⟩
def PWM_LUT4_0 : Nat := 0x40021048
def PWM_LUT4_0_W : Fld := ⟨PWM_LUT4_0, 0, 30⟩
def PWM_LUT4_1 : Nat := 0x4002104c
def PWM_LUT4_1_W : Fld := ⟨PWM_LUT4_1, 0, 30⟩
def PWM_LUT4_2 : Nat := 0x40021050
def PWM_LUT4_2_W : Fld := ⟨PWM_LUT4_2, 0, 20⟩
def PIX_FREQ : Nat := 0x40021054
def PIX_FREQ_HZ : Fld := ⟨PIX_FREQ, 0, 27⟩
def VID_STAT : Nat := 0x40021058
def VID_STAT_PIX_LOCK : Fld := ⟨VID_STAT, 0, 1⟩
def VID_STAT_LINE_COMPLETE : Fld := ⟨VID_STAT, 1, 1⟩
def VID_STAT_GATED : Fld := ⟨VID_STAT, 2, 1⟩
def VID_STAT_LINE_ACTIVE : Fld := ⟨VID_STAT, 3, 1⟩
def VID_LINES : Nat := 0x4002105c
def VID_LINES_COUNT : Fld := ⟨VID_LINES, 0, 32⟩
/-! ### Table 11-4 (11_brushless.md) -/
def BL_CTL (i : Nat) : Nat := pageBase (0x25 + i) + 0x40
def BL_CTL_RUN (i : Nat) : Fld := ⟨BL_CTL i, 0, 1⟩
def BL_CTL_STOP_MODE (i : Nat) : Fld := ⟨BL_CTL i, 1, 2⟩
def BL_CTL_CLR_FAULT (i : Nat) : Fld := ⟨BL_CTL i, 3, 1⟩
def BL_CTL_CMD_SRC (i : Nat) : Fld := ⟨BL_CTL i, 4, 2⟩
def BL_CTL_START_MODE (i : Nat) : Fld := ⟨BL_CTL i, 6, 1⟩
def BL_CTL_CATCH_EN (i : Nat) : Fld := ⟨BL_CTL i, 7, 1⟩
def BL_CTL_DIR_SRC (i : Nat) : Fld := ⟨BL_CTL i, 8, 2⟩
def BL_CTL_REVERSE (i : Nat) : Fld := ⟨BL_CTL i, 10, 1⟩
def BL_CTL_MAP_SWAP (i : Nat) : Fld := ⟨BL_CTL i, 11, 1⟩
def BL_CTL_ENG_DEP (i : Nat) : Fld := ⟨BL_CTL i, 12, 1⟩
def BL_SPD_CMD (i : Nat) : Nat := pageBase (0x25 + i) + 0x44
def BL_SPD_CMD_SPEED (i : Nat) : Fld := ⟨BL_SPD_CMD i, 0, 20⟩
def BL_MOTOR (i : Nat) : Nat := pageBase (0x25 + i) + 0x48
def BL_MOTOR_POLE_PAIRS (i : Nat) : Fld := ⟨BL_MOTOR i, 0, 4⟩
def BL_MOTOR_RATED (i : Nat) : Fld := ⟨BL_MOTOR i, 16, 16⟩
def BL_RL (i : Nat) : Nat := pageBase (0x25 + i) + 0x4c
def BL_RL_RS (i : Nat) : Fld := ⟨BL_RL i, 0, 16⟩
def BL_RL_LQ (i : Nat) : Fld := ⟨BL_RL i, 16, 16⟩
def BL_PSI (i : Nat) : Nat := pageBase (0x25 + i) + 0x50
def BL_PSI_PSI (i : Nat) : Fld := ⟨BL_PSI i, 0, 16⟩
def BL_PWM (i : Nat) : Nat := pageBase (0x25 + i) + 0x54
def BL_PWM_PWM_F (i : Nat) : Fld := ⟨BL_PWM i, 0, 10⟩
def BL_PWM_DEAD (i : Nat) : Fld := ⟨BL_PWM i, 16, 8⟩
def BL_SENSE (i : Nat) : Nat := pageBase (0x25 + i) + 0x58
def BL_SENSE_CS_GAIN (i : Nat) : Fld := ⟨BL_SENSE i, 0, 2⟩
def BL_SENSE_SHUNT (i : Nat) : Fld := ⟨BL_SENSE i, 16, 16⟩
def BL_ILIM (i : Nat) : Nat := pageBase (0x25 + i) + 0x5c
def BL_ILIM_I_MAX (i : Nat) : Fld := ⟨BL_ILIM i, 0, 16⟩
def BL_ILIM_OC_TRIP (i : Nat) : Fld := ⟨BL_ILIM i, 16, 16⟩
def BL_VDS (i : Nat) : Nat := pageBase (0x25 + i) + 0x60
def BL_VDS_VDS_TH (i : Nat) : Fld := ⟨BL_VDS i, 0, 12⟩
def BL_VDS_VM_UV (i : Nat) : Fld := ⟨BL_VDS i, 16, 12⟩
def BL_ACC (i : Nat) : Nat := pageBase (0x25 + i) + 0x64
def BL_ACC_ACC (i : Nat) : Fld := ⟨BL_ACC i, 0, 16⟩
def BL_ACC_DEC (i : Nat) : Fld := ⟨BL_ACC i, 16, 16⟩
def BL_SPD_PI (i : Nat) : Nat := pageBase (0x25 + i) + 0x68
def BL_SPD_PI_KP (i : Nat) : Fld := ⟨BL_SPD_PI i, 0, 16⟩
def BL_SPD_PI_KI (i : Nat) : Fld := ⟨BL_SPD_PI i, 16, 16⟩
def BL_CUR_PI (i : Nat) : Nat := pageBase (0x25 + i) + 0x6c
def BL_CUR_PI_KP (i : Nat) : Fld := ⟨BL_CUR_PI i, 0, 16⟩
def BL_CUR_PI_KI (i : Nat) : Fld := ⟨BL_CUR_PI i, 16, 16⟩
def BL_OBS (i : Nat) : Nat := pageBase (0x25 + i) + 0x70
def BL_OBS_OBS_BW (i : Nat) : Fld := ⟨BL_OBS i, 0, 16⟩
def BL_OBS_PLL_BW (i : Nat) : Fld := ⟨BL_OBS i, 16, 16⟩
def BL_START (i : Nat) : Nat := pageBase (0x25 + i) + 0x74
def BL_START_IF_I (i : Nat) : Fld := ⟨BL_START i, 0, 16⟩
def BL_START_IF_ACC (i : Nat) : Fld := ⟨BL_START i, 16, 16⟩
def BL_HANDOVER (i : Nat) : Nat := pageBase (0x25 + i) + 0x78
def BL_HANDOVER_HO_UP (i : Nat) : Fld := ⟨BL_HANDOVER i, 0, 10⟩
def BL_HANDOVER_HO_DN (i : Nat) : Fld := ⟨BL_HANDOVER i, 10, 10⟩
def BL_HANDOVER_HO_TOL (i : Nat) : Fld := ⟨BL_HANDOVER i, 20, 8⟩
def BL_HFI (i : Nat) : Nat := pageBase (0x25 + i) + 0x7c
def BL_HFI_HFI_V (i : Nat) : Fld := ⟨BL_HFI i, 0, 16⟩
def BL_HFI_HFI_DIV (i : Nat) : Fld := ⟨BL_HFI i, 16, 4⟩
def BL_CATCH (i : Nat) : Nat := pageBase (0x25 + i) + 0x80
def BL_CATCH_CATCH_T (i : Nat) : Fld := ⟨BL_CATCH i, 0, 8⟩
def BL_CATCH_CATCH_MIN (i : Nat) : Fld := ⟨BL_CATCH i, 8, 16⟩
def BL_CATCH_BRAKE_MAX (i : Nat) : Fld := ⟨BL_CATCH i, 24, 8⟩
def BL_IPOS (i : Nat) : Nat := pageBase (0x25 + i) + 0x84
def BL_IPOS_IP_T (i : Nat) : Fld := ⟨BL_IPOS i, 0, 8⟩
def BL_IPOS_IP_GAP (i : Nat) : Fld := ⟨BL_IPOS i, 8, 8⟩
def BL_IPOS_IP_IMAX (i : Nat) : Fld := ⟨BL_IPOS i, 16, 16⟩
def BL_LOCK (i : Nat) : Nat := pageBase (0x25 + i) + 0x88
def BL_LOCK_LOCK_TOL (i : Nat) : Fld := ⟨BL_LOCK i, 0, 16⟩
def BL_LOCK_LOCK_T (i : Nat) : Fld := ⟨BL_LOCK i, 16, 8⟩
def BL_CHK (i : Nat) : Nat := pageBase (0x25 + i) + 0x8c
def BL_CHK_OPEN_PCT (i : Nat) : Fld := ⟨BL_CHK i, 0, 8⟩
def BL_CHK_IMBAL_PCT (i : Nat) : Fld := ⟨BL_CHK i, 8, 8⟩
def BL_STAT (i : Nat) : Nat := pageBase (0x25 + i) + 0x90
def BL_STAT_SPD_LOCK (i : Nat) : Fld := ⟨BL_STAT i, 0, 1⟩
def BL_STAT_PH_LOCK (i : Nat) : Fld := ⟨BL_STAT i, 1, 1⟩
def BL_STAT_HFI_ACTIVE (i : Nat) : Fld := ⟨BL_STAT i, 2, 1⟩
def BL_STAT_OBS_ACTIVE (i : Nat) : Fld := ⟨BL_STAT i, 3, 1⟩
def BL_STAT_BD_FUSED (i : Nat) : Fld := ⟨BL_STAT i, 4, 1⟩
def BL_STAT_CURVE_ON (i : Nat) : Fld := ⟨BL_STAT i, 5, 1⟩
def BL_STAT_DIR_RESULT (i : Nat) : Fld := ⟨BL_STAT i, 6, 2⟩
def BL_SPEED (i : Nat) : Nat := pageBase (0x25 + i) + 0x94
def BL_SPEED_SPEED (i : Nat) : Fld := ⟨BL_SPEED i, 0, 24⟩
def BL_CMD_NOW (i : Nat) : Nat := pageBase (0x25 + i) + 0x98
def BL_CMD_NOW_SPEED (i : Nat) : Fld := ⟨BL_CMD_NOW i, 0, 20⟩
def BL_ANGLE (i : Nat) : Nat := pageBase (0x25 + i) + 0x9c
def BL_ANGLE_THETA (i : Nat) : Fld := ⟨BL_ANGLE i, 0, 16⟩
def BL_IDQ (i : Nat) : Nat := pageBase (0x25 + i) + 0xa0
def BL_IDQ_IQ (i : Nat) : Fld := ⟨BL_IDQ i, 0, 16⟩
def BL_IDQ_ID (i : Nat) : Fld := ⟨BL_IDQ i, 16, 16⟩
def BL_VBUS (i : Nat) : Nat := pageBase (0x25 + i) + 0xa4
def BL_VBUS_VM (i : Nat) : Fld := ⟨BL_VBUS i, 0, 16⟩
def BL_ERR (i : Nat) : Nat := pageBase (0x25 + i) + 0xa8
def BL_ERR_OC_PERIODS (i : Nat) : Fld := ⟨BL_ERR i, 0, 8⟩
def BL_ERR_HO_MISMATCH (i : Nat) : Fld := ⟨BL_ERR i, 8, 8⟩
def BL_ERR_FUSE_REJ (i : Nat) : Fld := ⟨BL_ERR i, 16, 8⟩
def BL_ERR_RESTARTS (i : Nat) : Fld := ⟨BL_ERR i, 24, 8⟩
def BL_FUSE (i : Nat) : Nat := pageBase (0x25 + i) + 0xc0
def BL_FUSE_BD_FUSE_EN (i : Nat) : Fld := ⟨BL_FUSE i, 0, 1⟩
def BL_FUSE_FUSE_G (i : Nat) : Fld := ⟨BL_FUSE i, 8, 8⟩
def BL_FUSE_BD_OFS (i : Nat) : Fld := ⟨BL_FUSE i, 16, 16⟩
def BL_PHASE (i : Nat) : Nat := pageBase (0x25 + i) + 0xc4
def BL_PHASE_PH_OFS (i : Nat) : Fld := ⟨BL_PHASE i, 0, 16⟩
def BL_PHASE_PH_TOL (i : Nat) : Fld := ⟨BL_PHASE i, 16, 8⟩
def BL_PHASE_KPH (i : Nat) : Fld := ⟨BL_PHASE i, 24, 8⟩
def BL_PHASE2 (i : Nat) : Nat := pageBase (0x25 + i) + 0xc8
def BL_PHASE2_PH_TRIM (i : Nat) : Fld := ⟨BL_PHASE2 i, 0, 16⟩
def BL_PHASE2_PHASE_ERR (i : Nat) : Fld := ⟨BL_PHASE2 i, 16, 16⟩
def GEAR_SPD (i : Nat) (k : Nat) : Nat := pageBase (0x25 + i) + 0xd0 + 0x4 * k
def GEAR_SPD_SPEED (i : Nat) (k : Nat) : Fld := ⟨GEAR_SPD i k, 0, 20⟩
def BL_CURVE (i : Nat) : Nat := pageBase (0x25 + i) + 0xe0
def BL_CURVE_CURVE_SRC (i : Nat) : Fld := ⟨BL_CURVE i, 0, 2⟩
def BL_CURVE_NPTS (i : Nat) : Fld := ⟨BL_CURVE i, 4, 4⟩
def BL_CURVE_HYST (i : Nat) : Fld := ⟨BL_CURVE i, 8, 16⟩
def BL_CURVE_X (i : Nat) : Nat := pageBase (0x25 + i) + 0xe4
def BL_CURVE_X_X (i : Nat) : Fld := ⟨BL_CURVE_X i, 0, 16⟩
def BL_CURVE_X_X_NOW (i : Nat) : Fld := ⟨BL_CURVE_X i, 16, 16⟩
def CURVE (i : Nat) (k : Nat) : Nat := pageBase (0x25 + i) + 0x100 + 0x4 * k
def CURVE_X (i : Nat) (k : Nat) : Fld := ⟨CURVE i k, 0, 16⟩
def CURVE_Y (i : Nat) (k : Nat) : Fld := ⟨CURVE i k, 16, 16⟩
/-! ### Table 12-8 (12_steppers_path.md) -/
def ST_CTL (i : Nat) : Nat := pageBase (0x28 + i) + 0x40
def ST_CTL_DRV_EN (i : Nat) : Fld := ⟨ST_CTL i, 0, 1⟩
def ST_CTL_MODE (i : Nat) : Fld := ⟨ST_CTL i, 1, 1⟩
def ST_CTL_DIR_INV (i : Nat) : Fld := ⟨ST_CTL i, 2, 1⟩
def ST_CTL_PARK (i : Nat) : Fld := ⟨ST_CTL i, 3, 1⟩
def ST_CTL_CLR_FAULT (i : Nat) : Fld := ⟨ST_CTL i, 4, 1⟩
def ST_CTL_MRES (i : Nat) : Fld := ⟨ST_CTL i, 8, 4⟩
def ST_CTL_ROLE (i : Nat) : Fld := ⟨ST_CTL i, 12, 1⟩
def ST_CTL_HOME_STOP (i : Nat) : Fld := ⟨ST_CTL i, 13, 1⟩
def ST_CUR (i : Nat) : Nat := pageBase (0x28 + i) + 0x44
def ST_CUR_I_RUN (i : Nat) : Fld := ⟨ST_CUR i, 0, 8⟩
def ST_CUR_I_HOLD (i : Nat) : Fld := ⟨ST_CUR i, 8, 8⟩
def ST_CUR_I_BOOST (i : Nat) : Fld := ⟨ST_CUR i, 16, 8⟩
def ST_CUR_HOLD_DLY (i : Nat) : Fld := ⟨ST_CUR i, 24, 8⟩
def ST_CHOP (i : Nat) : Nat := pageBase (0x28 + i) + 0x48
def ST_CHOP_TOFF (i : Nat) : Fld := ⟨ST_CHOP i, 0, 8⟩
def ST_CHOP_DECAY (i : Nat) : Fld := ⟨ST_CHOP i, 8, 2⟩
def ST_CHOP_FAST_PCT (i : Nat) : Fld := ⟨ST_CHOP i, 12, 4⟩
def ST_CHOP_BLANK (i : Nat) : Fld := ⟨ST_CHOP i, 16, 8⟩
def ST_SCALE (i : Nat) : Nat := pageBase (0x28 + i) + 0x4c
def ST_SCALE_SCALE (i : Nat) : Fld := ⟨ST_SCALE i, 0, 32⟩
def ST_STAT (i : Nat) : Nat := pageBase (0x28 + i) + 0x50
def ST_STAT_STATE (i : Nat) : Fld := ⟨ST_STAT i, 0, 3⟩
def ST_STAT_POS_STATE (i : Nat) : Fld := ⟨ST_STAT i, 4, 2⟩
def ST_STAT_BOOST (i : Nat) : Fld := ⟨ST_STAT i, 6, 1⟩
def ST_STAT_QUEUED (i : Nat) : Fld := ⟨ST_STAT i, 8, 4⟩
def ST_POS (i : Nat) : Nat := pageBase (0x28 + i) + 0x54
def ST_POS_POS (i : Nat) : Fld := ⟨ST_POS i, 0, 32⟩
def ST_VEL (i : Nat) : Nat := pageBase (0x28 + i) + 0x58
def ST_VEL_VEL (i : Nat) : Fld := ⟨ST_VEL i, 0, 32⟩
def ST_INDEX (i : Nat) : Nat := pageBase (0x28 + i) + 0x5c
def ST_INDEX_INDEX (i : Nat) : Fld := ⟨ST_INDEX i, 0, 10⟩
def ST_DC (i : Nat) : Nat := pageBase (0x28 + i) + 0x60
def ST_DC_DUTY (i : Nat) : Fld := ⟨ST_DC i, 0, 10⟩
def ST_DC_DIR (i : Nat) : Fld := ⟨ST_DC i, 12, 1⟩
def ST_DC_BRAKE (i : Nat) : Fld := ⟨ST_DC i, 13, 1⟩
def ST_DC_DC_ILIM (i : Nat) : Fld := ⟨ST_DC i, 16, 8⟩
def ST_DC_STALL_T (i : Nat) : Fld := ⟨ST_DC i, 24, 8⟩
def ST_DC_STAT (i : Nat) : Nat := pageBase (0x28 + i) + 0x64
def ST_DC_STAT_I (i : Nat) : Fld := ⟨ST_DC_STAT i, 0, 16⟩
def ST_DC_STAT_STALLED (i : Nat) : Fld := ⟨ST_DC_STAT i, 16, 1⟩
def ST_DC_STAT_HOME (i : Nat) : Fld := ⟨ST_DC_STAT i, 17, 1⟩
def ST_ERR (i : Nat) : Nat := pageBase (0x28 + i) + 0x68
def ST_ERR_OC_EVENTS (i : Nat) : Fld := ⟨ST_ERR i, 0, 8⟩
def ST_ERR_LATE_START (i : Nat) : Fld := ⟨ST_ERR i, 8, 8⟩
def ST_ERR_LOST (i : Nat) : Fld := ⟨ST_ERR i, 16, 8⟩
/-! ### Table 12-9 (12_steppers_path.md) -/
def MS_SEG (k : Nat) : Nat := 0x4002c040 + 0x4 * k
def MS_SEG_VAL (k : Nat) : Fld := ⟨MS_SEG k, 0, 32⟩
def MS_POST : Nat := 0x4002c050
def MS_POST_GO : Fld := ⟨MS_POST, 0, 1⟩
def MS_POST_POST_REFUSED : Fld := ⟨MS_POST, 8, 1⟩
def MS_BLEND : Nat := 0x4002c054
def MS_BLEND_BLEND_KIND : Fld := ⟨MS_BLEND, 0, 2⟩
def MS_BLEND_BLEND_T : Fld := ⟨MS_BLEND, 8, 8⟩
def MS_QSTAT : Nat := 0x4002c058
def MS_QSTAT_QUEUED1 : Fld := ⟨MS_QSTAT, 0, 4⟩
def MS_QSTAT_QUEUED2 : Fld := ⟨MS_QSTAT, 4, 4⟩
def MS_QSTAT_QUEUED3 : Fld := ⟨MS_QSTAT, 8, 4⟩
def MS_QSTAT_QUEUED4 : Fld := ⟨MS_QSTAT, 12, 4⟩
def MS_TICKS : Nat := 0x4002c05c
def MS_TICKS_TICKS : Fld := ⟨MS_TICKS, 0, 32⟩
/-! ### Table 12-10 (12_steppers_path.md) -/
def PT_GEOM0 : Nat := 0x40032040
def PT_GEOM0_PICK_TO_SNS : Fld := ⟨PT_GEOM0, 0, 16⟩
def PT_GEOM0_SNS_TO_REG : Fld := ⟨PT_GEOM0, 16, 16⟩
def PT_GEOM1 : Nat := 0x40032044
def PT_GEOM1_REG_SNS_OFS : Fld := ⟨PT_GEOM1, 0, 16⟩
def PT_GEOM1_BUCKLE : Fld := ⟨PT_GEOM1, 16, 8⟩
def PT_GEOM1_PICK_RUNOUT : Fld := ⟨PT_GEOM1, 24, 8⟩
def PT_GEOM2 : Nat := 0x40032048
def PT_GEOM2_REG_TO_EXIT : Fld := ⟨PT_GEOM2, 0, 16⟩
def PT_FEED : Nat := 0x4003204c
def PT_FEED_PICK_V : Fld := ⟨PT_FEED, 0, 16⟩
def PT_FEED_T_LAUNCH : Fld := ⟨PT_FEED, 16, 4⟩
def PT_FEED_T_PICKACC : Fld := ⟨PT_FEED, 24, 8⟩
def PT_WIN : Nat := 0x40032050
def PT_WIN_WIN_PCT : Fld := ⟨PT_WIN, 0, 8⟩
def PT_WIN_WIN_MM : Fld := ⟨PT_WIN, 8, 8⟩
def PT_WIN_CLEAR_T : Fld := ⟨PT_WIN, 16, 16⟩
def PT_LAUNCH : Nat := 0x40032054
def PT_LAUNCH_LAUNCH_TRIM : Fld := ⟨PT_LAUNCH, 0, 16⟩
def PT_LED : Nat := 0x40032058
def PT_LED_LED0_MA : Fld := ⟨PT_LED, 0, 6⟩
def PT_LED_LED1_MA : Fld := ⟨PT_LED, 8, 6⟩
def PT_LED_LED2_MA : Fld := ⟨PT_LED, 16, 6⟩
def PT_LED_LED3_MA : Fld := ⟨PT_LED, 24, 6⟩
def PT_SNS_CFG (k : Nat) : Nat := 0x40032060 + 0x4 * k
def PT_SNS_CFG_MODE (k : Nat) : Fld := ⟨PT_SNS_CFG k, 0, 2⟩
def PT_SNS_CFG_POL (k : Nat) : Fld := ⟨PT_SNS_CFG k, 2, 1⟩
def PT_SNS_CFG_DEB (k : Nat) : Fld := ⟨PT_SNS_CFG k, 4, 4⟩
def PT_SNS_CFG_TH (k : Nat) : Fld := ⟨PT_SNS_CFG k, 8, 10⟩
def PT_SNS_CFG_HYS (k : Nat) : Fld := ⟨PT_SNS_CFG k, 20, 6⟩
def PT_SNS_CFG_LED (k : Nat) : Fld := ⟨PT_SNS_CFG k, 28, 2⟩
def PT_SNS_STAT : Nat := 0x40032078
def PT_SNS_STAT_OCC : Fld := ⟨PT_SNS_STAT, 0, 6⟩
def PT_SNS_STAT_FAULTED : Fld := ⟨PT_SNS_STAT, 8, 6⟩
def PT_SNS_FAULT : Nat := 0x4003207c
def PT_SNS_FAULT_KIND0 : Fld := ⟨PT_SNS_FAULT, 0, 3⟩
def PT_SNS_FAULT_KIND1 : Fld := ⟨PT_SNS_FAULT, 4, 3⟩
def PT_SNS_FAULT_KIND2 : Fld := ⟨PT_SNS_FAULT, 8, 3⟩
def PT_SNS_FAULT_KIND3 : Fld := ⟨PT_SNS_FAULT, 12, 3⟩
def PT_SNS_FAULT_KIND4 : Fld := ⟨PT_SNS_FAULT, 16, 3⟩
def PT_SNS_FAULT_KIND5 : Fld := ⟨PT_SNS_FAULT, 20, 3⟩
def PT_SNS_LVL (k : Nat) : Nat := 0x40032080 + 0x4 * k
def PT_SNS_LVL_LEVEL (k : Nat) : Fld := ⟨PT_SNS_LVL k, 0, 10⟩
def PT_SNS_LVL_DARK (k : Nat) : Fld := ⟨PT_SNS_LVL k, 16, 10⟩
def PT_JAM : Nat := 0x400320a0
def PT_JAM_TOKEN : Fld := ⟨PT_JAM, 0, 8⟩
def PT_JAM_CAUSE : Fld := ⟨PT_JAM, 8, 4⟩
def PT_JAM_SENSOR : Fld := ⟨PT_JAM, 12, 4⟩
def PT_JAM_ACTIVE : Fld := ⟨PT_JAM, 16, 1⟩
def PT_JAM_COVER_CYCLED : Fld := ⟨PT_JAM, 17, 1⟩
def PT_JAM_JAMMED : Fld := ⟨PT_JAM, 24, 8⟩
def PT_CNT : Nat := 0x400320a4
def PT_CNT_JAMS : Fld := ⟨PT_CNT, 0, 16⟩
def PT_CNT_STRAYS : Fld := ⟨PT_CNT, 16, 16⟩
def TK_A (k : Nat) : Nat := 0x40032200 + 0x10 * k
def TK_A_TOKEN (k : Nat) : Fld := ⟨TK_A k, 0, 8⟩
def TK_A_STATE (k : Nat) : Fld := ⟨TK_A k, 8, 3⟩
def TK_A_TENANT (k : Nat) : Fld := ⟨TK_A k, 12, 4⟩
def TK_A_GEAR (k : Nat) : Fld := ⟨TK_A k, 16, 2⟩
def TK_A_NEXT_EDGE (k : Nat) : Fld := ⟨TK_A k, 20, 4⟩
def TK_TREL (k : Nat) : Nat := 0x40032204 + 0x10 * k
def TK_TREL_T_REL (k : Nat) : Fld := ⟨TK_TREL k, 0, 32⟩
def TK_OPEN (k : Nat) : Nat := 0x40032208 + 0x10 * k
def TK_OPEN_OPEN (k : Nat) : Fld := ⟨TK_OPEN k, 0, 32⟩
def TK_CLOSE (k : Nat) : Nat := 0x4003220c + 0x10 * k
def TK_CLOSE_CLOSE (k : Nat) : Fld := ⟨TK_CLOSE k, 0, 32⟩
/-! ### Table 13-3 (13_loops.md) -/
def LOOP_TICK : Nat := 0x4002d040
def LOOP_TICK_TICK : Fld := ⟨LOOP_TICK, 0, 32⟩
def LOOP_STAT : Nat := 0x4002d044
def LOOP_STAT_RUN : Fld := ⟨LOOP_STAT, 0, 8⟩
def LOOP_STAT_FAULT : Fld := ⟨LOOP_STAT, 8, 8⟩
def LOOP_STAT_SAT : Fld := ⟨LOOP_STAT, 16, 8⟩
/-! ### Table 13-4 (13_loops.md) -/
def LP_CTL (i : Nat) : Nat := pageBase 0x2D + 0x100 + 0x80 * i + 0x0
def LP_CTL_EN (i : Nat) : Fld := ⟨LP_CTL i, 0, 1⟩
def LP_CTL_INIT (i : Nat) : Fld := ⟨LP_CTL i, 1, 1⟩
def LP_CTL_SWAP (i : Nat) : Fld := ⟨LP_CTL i, 2, 1⟩
def LP_CTL_BUMPLESS (i : Nat) : Fld := ⟨LP_CTL i, 3, 1⟩
def LP_CTL_CLR_FAULT (i : Nat) : Fld := ⟨LP_CTL i, 4, 1⟩
def LP_PERIOD (i : Nat) : Nat := pageBase 0x2D + 0x100 + 0x80 * i + 0x4
def LP_PERIOD_PERIOD (i : Nat) : Fld := ⟨LP_PERIOD i, 0, 17⟩
def LP_PHASE (i : Nat) : Nat := pageBase 0x2D + 0x100 + 0x80 * i + 0x8
def LP_PHASE_PHASE (i : Nat) : Fld := ⟨LP_PHASE i, 0, 17⟩
def LP_REF (i : Nat) : Nat := pageBase 0x2D + 0x100 + 0x80 * i + 0xc
def LP_REF_REF (i : Nat) : Fld := ⟨LP_REF i, 0, 32⟩
def LP_REF_STEP (i : Nat) : Nat := pageBase 0x2D + 0x100 + 0x80 * i + 0x10
def LP_REF_STEP_STEP (i : Nat) : Fld := ⟨LP_REF_STEP i, 0, 31⟩
def LP_UMIN (i : Nat) : Nat := pageBase 0x2D + 0x100 + 0x80 * i + 0x14
def LP_UMIN_UMIN (i : Nat) : Fld := ⟨LP_UMIN i, 0, 32⟩
def LP_UMAX (i : Nat) : Nat := pageBase 0x2D + 0x100 + 0x80 * i + 0x18
def LP_UMAX_UMAX (i : Nat) : Fld := ⟨LP_UMAX i, 0, 32⟩
def LP_UOFF (i : Nat) : Nat := pageBase 0x2D + 0x100 + 0x80 * i + 0x1c
def LP_UOFF_UOFF (i : Nat) : Fld := ⟨LP_UOFF i, 0, 32⟩
def LP_IN (i : Nat) : Nat := pageBase 0x2D + 0x100 + 0x80 * i + 0x20
def LP_IN_IN_SEL (i : Nat) : Fld := ⟨LP_IN i, 0, 6⟩
def LP_IN_STALE_N (i : Nat) : Fld := ⟨LP_IN i, 8, 8⟩
def LP_IN_SAT_T (i : Nat) : Fld := ⟨LP_IN i, 16, 16⟩
def LP_IN_GAIN (i : Nat) : Nat := pageBase 0x2D + 0x100 + 0x80 * i + 0x24
def LP_IN_GAIN_GAIN (i : Nat) : Fld := ⟨LP_IN_GAIN i, 0, 32⟩
def LP_IN_OFS (i : Nat) : Nat := pageBase 0x2D + 0x100 + 0x80 * i + 0x28
def LP_IN_OFS_OFS (i : Nat) : Fld := ⟨LP_IN_OFS i, 0, 32⟩
def LP_OUT (i : Nat) : Nat := pageBase 0x2D + 0x100 + 0x80 * i + 0x2c
def LP_OUT_PIN (i : Nat) : Fld := ⟨LP_OUT i, 0, 1⟩
def LP_STAT (i : Nat) : Nat := pageBase 0x2D + 0x100 + 0x80 * i + 0x30
def LP_STAT_STATE (i : Nat) : Fld := ⟨LP_STAT i, 0, 2⟩
def LP_STAT_SAT (i : Nat) : Fld := ⟨LP_STAT i, 2, 1⟩
def LP_STAT_SAT_HIGH (i : Nat) : Fld := ⟨LP_STAT i, 3, 1⟩
def LP_STAT_BANK (i : Nat) : Fld := ⟨LP_STAT i, 4, 1⟩
def LP_STAT_SWAP_PEND (i : Nat) : Fld := ⟨LP_STAT i, 5, 1⟩
def LP_STAT_STALE_RUN (i : Nat) : Fld := ⟨LP_STAT i, 8, 8⟩
def LP_STAT_SAT_RUN (i : Nat) : Fld := ⟨LP_STAT i, 16, 16⟩
def LP_R (i : Nat) : Nat := pageBase 0x2D + 0x100 + 0x80 * i + 0x34
def LP_R_R (i : Nat) : Fld := ⟨LP_R i, 0, 32⟩
def LP_Y (i : Nat) : Nat := pageBase 0x2D + 0x100 + 0x80 * i + 0x38
def LP_Y_Y (i : Nat) : Fld := ⟨LP_Y i, 0, 32⟩
def LP_U (i : Nat) : Nat := pageBase 0x2D + 0x100 + 0x80 * i + 0x3c
def LP_U_U (i : Nat) : Fld := ⟨LP_U i, 0, 32⟩
def LP_URAW (i : Nat) : Nat := pageBase 0x2D + 0x100 + 0x80 * i + 0x40
def LP_URAW_URAW (i : Nat) : Fld := ⟨LP_URAW i, 0, 32⟩
def LP_Z (i : Nat) : Nat := pageBase 0x2D + 0x100 + 0x80 * i + 0x44
def LP_Z_Z (i : Nat) : Fld := ⟨LP_Z i, 0, 32⟩
def LP_XH (i : Nat) (k : Nat) : Nat := pageBase 0x2D + 0x100 + 0x80 * i + 0x48 + 0x4 * k
def LP_XH_XH (i : Nat) (k : Nat) : Fld := ⟨LP_XH i k, 0, 32⟩
def LP_XI (i : Nat) (k : Nat) : Nat := pageBase 0x2D + 0x100 + 0x80 * i + 0x58 + 0x4 * k
def LP_XI_XI (i : Nat) (k : Nat) : Fld := ⟨LP_XI i k, 0, 32⟩
def LP_ZI (i : Nat) : Nat := pageBase 0x2D + 0x100 + 0x80 * i + 0x68
def LP_ZI_ZI (i : Nat) : Fld := ⟨LP_ZI i, 0, 32⟩
def LP_CNT (i : Nat) : Nat := pageBase 0x2D + 0x100 + 0x80 * i + 0x6c
def LP_CNT_SAT_ARITH (i : Nat) : Fld := ⟨LP_CNT i, 0, 16⟩
/-! ### Table 13-6 (13_loops.md) -/
def LC_STAT : Nat := 0x4002e040
def LC_STAT_COEF_REFUSED : Fld := ⟨LC_STAT, 0, 16⟩
def LC_STAT_ACTIVE : Fld := ⟨LC_STAT, 16, 8⟩
/-! ### Table 14-4 (14_fuser_hv_laser.md) -/
def FU_SP0 : Nat := 0x4002f040
def FU_SP0_SP_G1 : Fld := ⟨FU_SP0, 0, 9⟩
def FU_SP0_SP_G2 : Fld := ⟨FU_SP0, 16, 9⟩
def FU_SP1 : Nat := 0x4002f044
def FU_SP1_SP_G3 : Fld := ⟨FU_SP1, 0, 9⟩
def FU_SP1_WIN : Fld := ⟨FU_SP1, 16, 8⟩
def FU_SP1_LIMIT : Fld := ⟨FU_SP1, 24, 8⟩
def FU_WARM : Nat := 0x4002f048
def FU_WARM_WARM_MAX : Fld := ⟨FU_WARM, 0, 8⟩
def FU_WARM_SETTLE : Fld := ⟨FU_WARM, 8, 8⟩
def FU_WARM_CORR_T : Fld := ⟨FU_WARM, 16, 4⟩
def FU_WARM_CORR_RISE : Fld := ⟨FU_WARM, 24, 8⟩
def FU_CORR : Nat := 0x4002f04c
def FU_CORR_HEAD_RISE : Fld := ⟨FU_CORR, 0, 8⟩
def FU_CORR_CORR_FORCE : Fld := ⟨FU_CORR, 8, 1⟩
def FU_NTC : Nat := 0x4002f050
def FU_NTC_NTC_RES : Fld := ⟨FU_NTC, 0, 16⟩
def FU_NTC_BETA : Fld := ⟨FU_NTC, 16, 16⟩
def FU_PULL : Nat := 0x4002f054
def FU_PULL_PULLUP : Fld := ⟨FU_PULL, 0, 16⟩
def FU_HTR : Nat := 0x4002f058
def FU_HTR_HTR_PER : Fld := ⟨FU_HTR, 0, 16⟩
def FU_HTR_HTR_OPEN : Fld := ⟨FU_HTR, 16, 8⟩
def FU_HTR_HTR_OC : Fld := ⟨FU_HTR, 24, 8⟩
def FU_OT : Nat := 0x4002f05c
def FU_OT_OT_CODE : Fld := ⟨FU_OT, 0, 10⟩
def FU_OT_OT_OTP : Fld := ⟨FU_OT, 16, 10⟩
def FU_OT_EFF : Nat := 0x4002f060
def FU_OT_EFF_OT_EFF : Fld := ⟨FU_OT_EFF, 0, 10⟩
def FU_CLR : Nat := 0x4002f064
def FU_CLR_OT_CLR : Fld := ⟨FU_CLR, 0, 1⟩
def FU_STAT : Nat := 0x4002f068
def FU_STAT_IN_WIN : Fld := ⟨FU_STAT, 0, 1⟩
def FU_STAT_SETTLED : Fld := ⟨FU_STAT, 1, 1⟩
def FU_STAT_OT_LATCH : Fld := ⟨FU_STAT, 2, 1⟩
def FU_STAT_HTR_ON : Fld := ⟨FU_STAT, 3, 1⟩
def FU_STAT_CORR_RESULT : Fld := ⟨FU_STAT, 4, 2⟩
def FU_STAT_CORR_RUN : Fld := ⟨FU_STAT, 6, 1⟩
def FU_STAT_TH_STATE : Fld := ⟨FU_STAT, 8, 2⟩
def FU_TEMP : Nat := 0x4002f06c
def FU_TEMP_TEMP : Fld := ⟨FU_TEMP, 0, 16⟩
def FU_TEMP_RATIO : Fld := ⟨FU_TEMP, 16, 12⟩
def FU_HTR_I : Nat := 0x4002f070
def FU_HTR_I_I : Fld := ⟨FU_HTR_I, 0, 16⟩
def FU_CORR_STAT : Nat := 0x4002f074
def FU_CORR_STAT_F_RISE : Fld := ⟨FU_CORR_STAT, 0, 8⟩
def FU_CORR_STAT_H_RISE : Fld := ⟨FU_CORR_STAT, 8, 8⟩
/-! ### Table 14-5 (14_fuser_hv_laser.md) -/
def HV_SP0 : Nat := 0x40030040
def HV_SP0_CHG_SP : Fld := ⟨HV_SP0, 0, 16⟩
def HV_SP0_DEV_SP : Fld := ⟨HV_SP0, 16, 16⟩
def HV_SP1 : Nat := 0x40030044
def HV_SP1_TR_G1 : Fld := ⟨HV_SP1, 0, 10⟩
def HV_SP1_TR_G2 : Fld := ⟨HV_SP1, 16, 10⟩
def HV_SP2 : Nat := 0x40030048
def HV_SP2_TR_G3 : Fld := ⟨HV_SP2, 0, 10⟩
def HV_FS0 : Nat := 0x4003004c
def HV_FS0_CHG_REF_FS : Fld := ⟨HV_FS0, 0, 16⟩
def HV_FS0_CHG_FB_FS : Fld := ⟨HV_FS0, 16, 16⟩
def HV_FS1 : Nat := 0x40030050
def HV_FS1_DEV_REF_FS : Fld := ⟨HV_FS1, 0, 16⟩
def HV_FS1_DEV_FB_FS : Fld := ⟨HV_FS1, 16, 16⟩
def HV_FS2 : Nat := 0x40030054
def HV_FS2_TR_REF_FS : Fld := ⟨HV_FS2, 0, 16⟩
def HV_FS2_TR_FB_FS : Fld := ⟨HV_FS2, 16, 16⟩
def HV_CFG : Nat := 0x40030058
def HV_CFG_HV_WIN : Fld := ⟨HV_CFG, 0, 8⟩
def HV_CFG_HV_RAMP : Fld := ⟨HV_CFG, 8, 8⟩
def HV_STAT : Nat := 0x4003005c
def HV_STAT_READY : Fld := ⟨HV_STAT, 0, 3⟩
def HV_STAT_HV_EN : Fld := ⟨HV_STAT, 3, 1⟩
def HV_STAT_BRINGUP : Fld := ⟨HV_STAT, 4, 1⟩
def HV_STAT_CHANNEL : Fld := ⟨HV_STAT, 5, 2⟩
/-! ### Table 14-6 (14_fuser_hv_laser.md) -/
def LS_CTL : Nat := 0x40031040
def LS_CTL_ARM : Fld := ⟨LS_CTL, 0, 1⟩
def LS_CTL_OP_CLR : Fld := ⟨LS_CTL, 1, 1⟩
def LS_CTL_COV_EN : Fld := ⟨LS_CTL, 4, 2⟩
def LS_P : Nat := 0x40031044
def LS_P_P_SET : Fld := ⟨LS_P, 0, 16⟩
def LS_P_APC_WIN : Fld := ⟨LS_P, 16, 8⟩
def LS_P_MIN_SPD : Fld := ⟨LS_P, 24, 8⟩
def LS_FS : Nat := 0x40031048
def LS_FS_PD_FS : Fld := ⟨LS_FS, 0, 16⟩
def LS_FS_IB_FS : Fld := ⟨LS_FS, 16, 16⟩
def LS_BIAS : Nat := 0x4003104c
def LS_BIAS_IB_MAX : Fld := ⟨LS_BIAS, 0, 16⟩
def LS_BIAS_IB_START : Fld := ⟨LS_BIAS, 16, 16⟩
def LS_OP : Nat := 0x40031050
def LS_OP_OP_CODE : Fld := ⟨LS_OP, 0, 10⟩
def LS_OP_OP_OTP : Fld := ⟨LS_OP, 16, 10⟩
def LS_OP_EFF : Nat := 0x40031054
def LS_OP_EFF_OP_EFF : Fld := ⟨LS_OP_EFF, 0, 10⟩
def LS_STAT : Nat := 0x40031058
def LS_STAT_PERMIT : Fld := ⟨LS_STAT, 0, 1⟩
def LS_STAT_ILK : Fld := ⟨LS_STAT, 1, 1⟩
def LS_STAT_COV_OPEN : Fld := ⟨LS_STAT, 2, 2⟩
def LS_STAT_OP_LATCH : Fld := ⟨LS_STAT, 4, 1⟩
def LS_STAT_SPD_OK : Fld := ⟨LS_STAT, 5, 1⟩
def LS_STAT_VLASER_OK : Fld := ⟨LS_STAT, 6, 1⟩
def LS_STAT_APC_SETTLED : Fld := ⟨LS_STAT, 7, 1⟩
def LS_CNT : Nat := 0x4003105c
def LS_CNT_ILK_OPEN : Fld := ⟨LS_CNT, 0, 16⟩
def LS_CNT_OP_TRIPS : Fld := ⟨LS_CNT, 16, 16⟩
/-! ### Table 15-4 (15_thermal_head.md) -/
def HD_CFG : Nat := 0x40024040
def HD_CFG_DOTS : Fld := ⟨HD_CFG, 0, 11⟩
def HD_CFG_LANES : Fld := ⟨HD_CFG, 12, 2⟩
def HD_CFG_DPI : Fld := ⟨HD_CFG, 14, 1⟩
def HD_CFG_SHIFT_DIR : Fld := ⟨HD_CFG, 15, 1⟩
def HD_CFG_XALIGN : Fld := ⟨HD_CFG, 16, 1⟩
def HD_CFG_NGROUPS : Fld := ⟨HD_CFG, 17, 3⟩
def HD_CFG_SIM : Fld := ⟨HD_CFG, 20, 2⟩
def HD_CFG_CLK_DIV : Fld := ⟨HD_CFG, 24, 4⟩
def HD_POS : Nat := 0x40024044
def HD_POS_HX_OFS : Fld := ⟨HD_POS, 0, 16⟩
def HD_PITCH : Nat := 0x40024048
def HD_PITCH_LINE_PITCH : Fld := ⟨HD_PITCH, 0, 24⟩
def HD_RATE : Nat := 0x4002404c
def HD_RATE_RATE_MAX : Fld := ⟨HD_RATE, 0, 12⟩
def HD_RATE_RESUME_PCT : Fld := ⟨HD_RATE, 12, 7⟩
def HD_RATE_RATE_HYS : Fld := ⟨HD_RATE, 20, 8⟩
def HD_ENERGY : Nat := 0x40024050
def HD_ENERGY_R_AVG : Fld := ⟨HD_ENERGY, 0, 12⟩
def HD_ENERGY_R_AUTO : Fld := ⟨HD_ENERGY, 12, 1⟩
def HD_ENERGY_PRE_PCT : Fld := ⟨HD_ENERGY, 16, 8⟩
def HD_ENERGY_SET_GAP : Fld := ⟨HD_ENERGY, 24, 8⟩
def HD_VH : Nat := 0x40024054
def HD_VH_VH_MIN : Fld := ⟨HD_VH, 0, 16⟩
def HD_VH_VH_MAX : Fld := ⟨HD_VH, 16, 16⟩
def HD_NTC : Nat := 0x40024058
def HD_NTC_NTC_RES : Fld := ⟨HD_NTC, 0, 16⟩
def HD_NTC_BETA : Fld := ⟨HD_NTC, 16, 16⟩
def HD_TH : Nat := 0x4002405c
def HD_TH_PULLUP : Fld := ⟨HD_TH, 0, 16⟩
def HD_TH_BIN_BASE : Fld := ⟨HD_TH, 16, 8⟩
def HD_TH_BIN_STEP : Fld := ⟨HD_TH, 24, 4⟩
def HD_LIM : Nat := 0x40024060
def HD_LIM_HEAD_TMAX : Fld := ⟨HD_LIM, 0, 8⟩
def HD_LIM_BLK_DEB : Fld := ⟨HD_LIM, 8, 8⟩
def HD_LIM_CLEAR_T : Fld := ⟨HD_LIM, 16, 16⟩
def HD_DEF : Nat := 0x40024064
def HD_DEF_DEF_PCT : Fld := ⟨HD_DEF, 0, 8⟩
def HD_DEF_SUB_EN : Fld := ⟨HD_DEF, 8, 1⟩
def HD_DEF_SUB_DIR : Fld := ⟨HD_DEF, 9, 1⟩
def HD_DEF_R_LEAD : Fld := ⟨HD_DEF, 16, 16⟩
def HD_CUT0 : Nat := 0x40024068
def HD_CUT0_CUT_FEED : Fld := ⟨HD_CUT0, 0, 12⟩
def HD_CUT0_CUT_TMAX : Fld := ⟨HD_CUT0, 16, 8⟩
def HD_CUT1 : Nat := 0x4002406c
def HD_CUT1_CUT_FULL : Fld := ⟨HD_CUT1, 0, 16⟩
def HD_CUT1_CUT_PART : Fld := ⟨HD_CUT1, 16, 16⟩
def HD_CUT2 : Nat := 0x40024070
def HD_CUT2_CUT_V : Fld := ⟨HD_CUT2, 0, 20⟩
def HD_CUT2_PART_T : Fld := ⟨HD_CUT2, 24, 8⟩
def HD_CTL : Nat := 0x40024074
def HD_CTL_HD_CLR : Fld := ⟨HD_CTL, 0, 1⟩
def HD_CTL_DEF_CLR : Fld := ⟨HD_CTL, 1, 1⟩
def HD_STAT : Nat := 0x40024078
def HD_STAT_TEMP_BIN : Fld := ⟨HD_STAT, 0, 4⟩
def HD_STAT_GATE : Fld := ⟨HD_STAT, 4, 3⟩
def HD_STAT_GATED : Fld := ⟨HD_STAT, 7, 1⟩
def HD_STAT_PLATEN_RUN : Fld := ⟨HD_STAT, 8, 1⟩
def HD_STAT_HOMED : Fld := ⟨HD_STAT, 9, 1⟩
def HD_STAT_CAUSES : Fld := ⟨HD_STAT, 16, 16⟩
def HD_TEMP : Nat := 0x4002407c
def HD_TEMP_TEMP : Fld := ⟨HD_TEMP, 0, 16⟩
def HD_TEMP_RATIO : Fld := ⟨HD_TEMP, 16, 12⟩
def HD_RATE_STAT : Nat := 0x40024080
def HD_RATE_STAT_TARGET : Fld := ⟨HD_RATE_STAT, 0, 12⟩
def HD_RATE_STAT_NOW : Fld := ⟨HD_RATE_STAT, 12, 12⟩
def HD_FIT : Nat := 0x40024084
def HD_FIT_R_FIT : Fld := ⟨HD_FIT, 0, 12⟩
def HD_FIT_SCHED : Fld := ⟨HD_FIT, 16, 16⟩
def HD_W01 : Nat := 0x40024088
def HD_W01_W0 : Fld := ⟨HD_W01, 0, 16⟩
def HD_W01_W1 : Fld := ⟨HD_W01, 16, 16⟩
def HD_W23 : Nat := 0x4002408c
def HD_W23_W2 : Fld := ⟨HD_W23, 0, 16⟩
def HD_W23_W3 : Fld := ⟨HD_W23, 16, 16⟩
def HD_VHEAD : Nat := 0x40024090
def HD_VHEAD_VH : Fld := ⟨HD_VHEAD, 0, 16⟩
def HD_CNT0 : Nat := 0x40024094
def HD_CNT0_STARVE_STOPS : Fld := ⟨HD_CNT0, 0, 16⟩
def HD_CNT0_OVERRUN : Fld := ⟨HD_CNT0, 16, 16⟩
def HD_CNT1 : Nat := 0x40024098
def HD_CNT1_SUBST : Fld := ⟨HD_CNT1, 0, 16⟩
def HD_CNT1_LOST_DOTS : Fld := ⟨HD_CNT1, 16, 8⟩
def HD_CNT1_PRE_REFUSED : Fld := ⟨HD_CNT1, 24, 8⟩
def HD_MEAS : Nat := 0x4002409c
def HD_MEAS_DONE_ELEMS : Fld := ⟨HD_MEAS, 0, 11⟩
def HD_MEAS_SWEEP_DONE : Fld := ⟨HD_MEAS, 16, 1⟩
def HD_RES_SEL : Nat := 0x400240a0
def HD_RES_SEL_ELEM : Fld := ⟨HD_RES_SEL, 0, 11⟩
def HD_RES_VAL : Nat := 0x400240a4
def HD_RES_VAL_OHM : Fld := ⟨HD_RES_VAL, 0, 12⟩
def HD_DEF_SEL : Nat := 0x400240a8
def HD_DEF_SEL_ENTRY : Fld := ⟨HD_DEF_SEL, 0, 6⟩
def HD_DEF_ENT : Nat := 0x400240ac
def HD_DEF_ENT_ELEM : Fld := ⟨HD_DEF_ENT, 0, 11⟩
def HD_DEF_ENT_KIND : Fld := ⟨HD_DEF_ENT, 12, 2⟩
def HD_DEF_ENT_VALID : Fld := ⟨HD_DEF_ENT, 15, 1⟩
def HD_DEF_CNT : Nat := 0x400240b0
def HD_DEF_CNT_COUNT : Fld := ⟨HD_DEF_CNT, 0, 7⟩
def HD_ETAB (k : Nat) : Nat := 0x40024100 + 0x4 * k
def HD_ETAB_E0 (k : Nat) : Fld := ⟨HD_ETAB k, 0, 10⟩
def HD_ETAB_E1 (k : Nat) : Fld := ⟨HD_ETAB k, 16, 10⟩
/-! ### Table 16-10 (16_power.md) -/
def PWR_CMD : Nat := 0x4000e040
def PWR_CMD_STBY : Fld := ⟨PWR_CMD, 0, 1⟩
def PWR_CMD_WAKE : Fld := ⟨PWR_CMD, 1, 1⟩
def PWR_CMD_CYCLE : Fld := ⟨PWR_CMD, 2, 1⟩
def PWR_IN : Nat := 0x4000e044
def PWR_IN_VIN : Fld := ⟨PWR_IN, 0, 16⟩
def PWR_IN_VM : Fld := ⟨PWR_IN, 16, 16⟩
def PWR_TJ : Nat := 0x4000e048
def PWR_TJ_TJ : Fld := ⟨PWR_TJ, 0, 16⟩
def PWR_ON : Nat := 0x4000e04c
def PWR_ON_ON : Fld := ⟨PWR_ON, 0, 16⟩
def PWR_ON_PG : Fld := ⟨PWR_ON, 16, 16⟩
def PWR_LOCKOFF : Nat := 0x4000e050
def PWR_LOCKOFF_LOCKOFF : Fld := ⟨PWR_LOCKOFF, 0, 16⟩
def PWR_FORCED : Nat := 0x4000e054
def PWR_FORCED_FORCED : Fld := ⟨PWR_FORCED, 0, 16⟩
def CH_CFG (k : Nat) : Nat := 0x4000e100 + 0x10 * k
def CH_CFG_B_ACT (k : Nat) : Fld := ⟨CH_CFG k, 0, 2⟩
def CH_CFG_VSEL (k : Nat) : Fld := ⟨CH_CFG k, 2, 1⟩
def CH_CFG_SS_T (k : Nat) : Fld := ⟨CH_CFG k, 8, 8⟩
def CH_CFG_OC_TRIP (k : Nat) : Fld := ⟨CH_CFG k, 16, 16⟩
def CH_LIM (k : Nat) : Nat := 0x4000e104 + 0x10 * k
def CH_LIM_OPEN_I (k : Nat) : Fld := ⟨CH_LIM k, 0, 16⟩
def CH_LIM_OPEN_T (k : Nat) : Fld := ⟨CH_LIM k, 16, 8⟩
def CH_LIM_UVW (k : Nat) : Fld := ⟨CH_LIM k, 24, 8⟩
def CH_STAT (k : Nat) : Nat := 0x4000e108 + 0x10 * k
def CH_STAT_STATE (k : Nat) : Fld := ⟨CH_STAT k, 0, 2⟩
def CH_STAT_PG (k : Nat) : Fld := ⟨CH_STAT k, 3, 1⟩
def CH_STAT_DOWN (k : Nat) : Fld := ⟨CH_STAT k, 4, 1⟩
def CH_STAT_WARN (k : Nat) : Fld := ⟨CH_STAT k, 8, 5⟩
def CH_MEAS (k : Nat) : Nat := 0x4000e10c + 0x10 * k
def CH_MEAS_V (k : Nat) : Fld := ⟨CH_MEAS k, 0, 16⟩
def CH_MEAS_I (k : Nat) : Fld := ⟨CH_MEAS k, 16, 16⟩
/-! ### Table 16-11 (16_power.md) -/
def PSEQ_REQ : Nat := 0x4000f040
def PSEQ_REQ_REQ : Fld := ⟨PSEQ_REQ, 0, 8⟩
def PSEQ_STAT : Nat := 0x4000f044
def PSEQ_STAT_RUNNING : Fld := ⟨PSEQ_STAT, 0, 1⟩
def PSEQ_STAT_VEC : Fld := ⟨PSEQ_STAT, 1, 3⟩
def PSEQ_STAT_STEP : Fld := ⟨PSEQ_STAT, 4, 6⟩
def PSEQ_STAT_PEND : Fld := ⟨PSEQ_STAT, 16, 8⟩
def PSEQ_LAST : Nat := 0x4000f048
def PSEQ_LAST_STEP : Fld := ⟨PSEQ_LAST, 0, 6⟩
def PSEQ_LAST_VEC : Fld := ⟨PSEQ_LAST, 8, 3⟩
def PSEQ_LAST_CODE : Fld := ⟨PSEQ_LAST, 16, 8⟩
def PSEQ_LAST_RESULT : Fld := ⟨PSEQ_LAST, 24, 2⟩
def PSEQ_CTL : Nat := 0x4000f04c
def PSEQ_CTL_FW_ACK : Fld := ⟨PSEQ_CTL, 0, 1⟩
def PSEQ_CTL_PU_FAILS : Fld := ⟨PSEQ_CTL, 8, 2⟩
def PSEQ_CTL_PU_HALT : Fld := ⟨PSEQ_CTL, 10, 1⟩
def PSEQ_VEC0 : Nat := 0x4000f050
def PSEQ_VEC0_VEC0 : Fld := ⟨PSEQ_VEC0, 0, 6⟩
def PSEQ_VEC0_VEC1 : Fld := ⟨PSEQ_VEC0, 8, 6⟩
def PSEQ_VEC0_VEC2 : Fld := ⟨PSEQ_VEC0, 16, 6⟩
def PSEQ_VEC0_VEC3 : Fld := ⟨PSEQ_VEC0, 24, 6⟩
def PSEQ_VEC1 : Nat := 0x4000f054
def PSEQ_VEC1_VEC4 : Fld := ⟨PSEQ_VEC1, 0, 6⟩
def PSEQ_VEC1_VEC5 : Fld := ⟨PSEQ_VEC1, 8, 6⟩
def PSEQ_VEC1_VEC6 : Fld := ⟨PSEQ_VEC1, 16, 6⟩
def PSEQ_VEC1_VEC7 : Fld := ⟨PSEQ_VEC1, 24, 6⟩
def PSEQ_STEP (k : Nat) : Nat := 0x4000f100 + 0x4 * k
def PSEQ_STEP_STEP (k : Nat) : Fld := ⟨PSEQ_STEP k, 0, 32⟩
/-! ### Table 16-12 (16_power.md) -/
def PF_STAT : Nat := 0x40010040
def PF_STAT_PFW : Fld := ⟨PF_STAT, 0, 1⟩
def PF_STAT_VIN_OK : Fld := ⟨PF_STAT, 1, 1⟩
def PF_STAT_VM_OK : Fld := ⟨PF_STAT, 2, 1⟩
def PF_STAT_INPUT_OV : Fld := ⟨PF_STAT, 3, 1⟩
def PF_STAT_TJ_HOT : Fld := ⟨PF_STAT, 4, 1⟩
def PF_STAT_RB_ON : Fld := ⟨PF_STAT, 5, 1⟩
def PF_CFG : Nat := 0x40010044
def PF_CFG_PFW_TH : Fld := ⟨PF_CFG, 0, 16⟩
def PF_CFG_PFW_DEB : Fld := ⟨PF_CFG, 16, 8⟩
def PF_CFG_TJ_WARN : Fld := ⟨PF_CFG, 24, 8⟩
def PF_WIN : Nat := 0x40010048
def PF_WIN_PF_WINDOW : Fld := ⟨PF_WIN, 0, 10⟩
def PF_VREF : Nat := 0x4001004c
def PF_VREF_VIN_REF : Fld := ⟨PF_VREF, 0, 16⟩
def TRIP_REC : Nat := 0x40010050
def TRIP_REC_CAUSE : Fld := ⟨TRIP_REC, 0, 4⟩
def TRIP_REC_CHANNEL : Fld := ⟨TRIP_REC, 4, 4⟩
def TRIP_REC_VALID : Fld := ⟨TRIP_REC, 8, 1⟩
def TRIP_REC_COUNT : Fld := ⟨TRIP_REC, 16, 8⟩
def TRIP_TIME : Nat := 0x40010054
def TRIP_TIME_TIME : Fld := ⟨TRIP_TIME, 0, 32⟩
def PF_CNT : Nat := 0x40010058
def PF_CNT_PFW : Fld := ⟨PF_CNT, 0, 16⟩
def PF_CNT_WARN : Fld := ⟨PF_CNT, 16, 16⟩
/-! ### Table 17-4 (17_ride_through.md) -/
def HL_CFG : Nat := 0x40011040
def HL_CFG_VSET : Fld := ⟨HL_CFG, 0, 16⟩
def HL_CFG_VMIN : Fld := ⟨HL_CFG, 16, 16⟩
def HL_CHG : Nat := 0x40011044
def HL_CHG_ICHG : Fld := ⟨HL_CHG, 0, 12⟩
def HL_CHG_EFF : Fld := ⟨HL_CHG, 16, 8⟩
def HL_CHG_MARGIN : Fld := ⟨HL_CHG, 24, 8⟩
def HL_PRIDE0 : Nat := 0x40011048
def HL_PRIDE0_P_G1 : Fld := ⟨HL_PRIDE0, 0, 16⟩
def HL_PRIDE0_P_G2 : Fld := ⟨HL_PRIDE0, 16, 16⟩
def HL_PRIDE1 : Nat := 0x4001104c
def HL_PRIDE1_P_G3 : Fld := ⟨HL_PRIDE1, 0, 16⟩
def HL_PRIDE1_REC_LEAD : Fld := ⟨HL_PRIDE1, 16, 8⟩
def HL_MEAS_CFG : Nat := 0x40011050
def HL_MEAS_CFG_R_BLEED : Fld := ⟨HL_MEAS_CFG, 0, 16⟩
def HL_MEAS_CFG_DV_MEAS : Fld := ⟨HL_MEAS_CFG, 16, 12⟩
def HL_MEAS_PER : Nat := 0x40011054
def HL_MEAS_PER_MEAS_PER : Fld := ⟨HL_MEAS_PER, 0, 16⟩
def HL_LIM : Nat := 0x40011058
def HL_LIM_C_MIN : Fld := ⟨HL_LIM, 0, 16⟩
def HL_LIM_ESR_MAX : Fld := ⟨HL_LIM, 16, 16⟩
def HL_CTL : Nat := 0x4001105c
def HL_CTL_MEAS_GO : Fld := ⟨HL_CTL, 0, 1⟩
def HL_CTL_MEAS_ABORT : Fld := ⟨HL_CTL, 1, 1⟩
def HL_STAT : Nat := 0x40011060
def HL_STAT_STATE : Fld := ⟨HL_STAT, 0, 3⟩
def HL_STAT_FULL : Fld := ⟨HL_STAT, 3, 1⟩
def HL_STAT_C_VALID : Fld := ⟨HL_STAT, 4, 1⟩
def HL_STAT_RESTORED : Fld := ⟨HL_STAT, 5, 1⟩
def HL_STAT_DG_ON : Fld := ⟨HL_STAT, 6, 1⟩
def HL_STAT_BLD_ON : Fld := ⟨HL_STAT, 7, 1⟩
def HL_STAT_CAUSES : Fld := ⟨HL_STAT, 8, 8⟩
def HL_VBANK : Nat := 0x40011064
def HL_VBANK_VBANK : Fld := ⟨HL_VBANK, 0, 16⟩
def HL_VBANK_I_NOW : Fld := ⟨HL_VBANK, 16, 16⟩
def HL_C : Nat := 0x40011068
def HL_C_C : Fld := ⟨HL_C, 0, 32⟩
def HL_ESR : Nat := 0x4001106c
def HL_ESR_ESR : Fld := ⟨HL_ESR, 0, 16⟩
def HL_ESR_AGE : Fld := ⟨HL_ESR, 16, 16⟩
def HL_E_AVAIL : Nat := 0x40011070
def HL_E_AVAIL_E : Fld := ⟨HL_E_AVAIL, 0, 32⟩
def HL_E_REQ : Nat := 0x40011074
def HL_E_REQ_E : Fld := ⟨HL_E_REQ, 0, 32⟩
def HL_MEAS_T : Nat := 0x40011078
def HL_MEAS_T_T : Fld := ⟨HL_MEAS_T, 0, 32⟩
def HL_PF0 : Nat := 0x40011080
def HL_PF0_PFW_TIME : Fld := ⟨HL_PF0, 0, 32⟩
def HL_PF1 : Nat := 0x40011084
def HL_PF1_NITEM : Fld := ⟨HL_PF1, 0, 8⟩
def HL_PF1_EJECTED : Fld := ⟨HL_PF1, 8, 8⟩
def HL_PF1_CUT_OFF : Fld := ⟨HL_PF1, 16, 8⟩
def HL_PF1_LOST : Fld := ⟨HL_PF1, 24, 8⟩
def HL_PF2 : Nat := 0x40011088
def HL_PF2_VBANK_REC : Fld := ⟨HL_PF2, 0, 16⟩
def HL_PF2_VIN_PFW : Fld := ⟨HL_PF2, 16, 16⟩
/-! ### Table 18-3 (18_clocks.md) -/
def CK_CFG : Nat := 0x4000c040
def CK_CFG_XO_EN : Fld := ⟨CK_CFG, 0, 1⟩
def CK_CFG_REFIN_EN : Fld := ⟨CK_CFG, 1, 1⟩
def CK_CFG_XO_EXT : Fld := ⟨CK_CFG, 2, 1⟩
def CK_REFIN : Nat := 0x4000c044
def CK_REFIN_REFIN_HZ : Fld := ⟨CK_REFIN, 0, 26⟩
def CK_QUAL : Nat := 0x4000c048
def CK_QUAL_QUAL_HOLD : Fld := ⟨CK_QUAL, 0, 16⟩
def CK_QUAL_XO_WAIT : Fld := ⟨CK_QUAL, 16, 8⟩
def CK_RAMP : Nat := 0x4000c04c
def CK_RAMP_RAMP_DWELL : Fld := ⟨CK_RAMP, 0, 8⟩
def CK_RAMP_DIV_RAMP_MAX : Fld := ⟨CK_RAMP, 8, 5⟩
def CK_SRC_STAT : Nat := 0x4000c050
def CK_SRC_STAT_XO : Fld := ⟨CK_SRC_STAT, 0, 2⟩
def CK_SRC_STAT_REFIN : Fld := ⟨CK_SRC_STAT, 2, 2⟩
def CK_SRC_STAT_XO_HELD : Fld := ⟨CK_SRC_STAT, 4, 1⟩
def CK_SRC_STAT_REFIN_HELD : Fld := ⟨CK_SRC_STAT, 5, 1⟩
def CK_SRC_STAT_IRC_OK : Fld := ⟨CK_SRC_STAT, 6, 1⟩
def CK_SRC_STAT_LPO_OK : Fld := ⟨CK_SRC_STAT, 7, 1⟩
def CK_SYS_STAT : Nat := 0x4000c054
def CK_SYS_STAT_REF : Fld := ⟨CK_SYS_STAT, 0, 2⟩
def CK_SYS_STAT_LOCKED : Fld := ⟨CK_SYS_STAT, 2, 1⟩
def CK_SYS_STAT_HOLDOVER : Fld := ⟨CK_SYS_STAT, 3, 1⟩
def CK_SYS_STAT_SW_STATE : Fld := ⟨CK_SYS_STAT, 4, 3⟩
def CK_SYS_STAT_TARGET : Fld := ⟨CK_SYS_STAT, 8, 2⟩
def CK_AUX_STAT : Nat := 0x4000c058
def CK_AUX_STAT_USB_REF : Fld := ⟨CK_AUX_STAT, 0, 2⟩
def CK_AUX_STAT_USB_LOCK : Fld := ⟨CK_AUX_STAT, 2, 1⟩
def CK_AUX_STAT_PIX_REF : Fld := ⟨CK_AUX_STAT, 3, 1⟩
def CK_CNT : Nat := 0x4000c05c
def CK_CNT_SWITCHES : Fld := ⟨CK_CNT, 0, 8⟩
def CK_CNT_REVERSALS : Fld := ⟨CK_CNT, 8, 8⟩
def CK_CNT_LOSSES : Fld := ⟨CK_CNT, 16, 8⟩
def CK_LAST : Nat := 0x4000c060
def CK_LAST_PAYLOAD : Fld := ⟨CK_LAST, 0, 32⟩
def CK_LAST_TIME : Nat := 0x4000c064
def CK_LAST_TIME_TIME : Fld := ⟨CK_LAST_TIME, 0, 32⟩
/-! ### Table 18-4 (18_clocks.md) -/
def CK_OFFNOM0 : Nat := 0x4000d040
def CK_OFFNOM0_D : Fld := ⟨CK_OFFNOM0, 0, 32⟩
def CK_OFFNOM1 : Nat := 0x4000d044
def CK_OFFNOM1_D : Fld := ⟨CK_OFFNOM1, 0, 10⟩
def CK_DOM (k : Nat) : Nat := 0x4000d100 + 0x4 * k
def CK_DOM_DIV (k : Nat) : Fld := ⟨CK_DOM k, 0, 8⟩
def CK_DOM_NOM (k : Nat) : Fld := ⟨CK_DOM k, 8, 8⟩
def CK_DOM_ON_IRC (k : Nat) : Fld := ⟨CK_DOM k, 16, 1⟩
/-! ### Table 19-10 (19_boot_otp_patches.md) -/
def OTP_STAT : Nat := 0x40012040
def OTP_STAT_SENSED : Fld := ⟨OTP_STAT, 0, 1⟩
def OTP_STAT_LOCKED : Fld := ⟨OTP_STAT, 1, 3⟩
def OTP_STAT_PASSED : Fld := ⟨OTP_STAT, 4, 3⟩
def OTP_STAT_DBG_LOCKED : Fld := ⟨OTP_STAT, 7, 1⟩
def OTP_ECC : Nat := 0x40012044
def OTP_ECC_CORR : Fld := ⟨OTP_ECC, 0, 16⟩
def OTP_ECC_UNCORR : Fld := ⟨OTP_ECC, 16, 16⟩
def OTP_ECC_ADDR : Nat := 0x40012048
def OTP_ECC_ADDR_ECC_ADDR : Fld := ⟨OTP_ECC_ADDR, 0, 10⟩
def OTP_RD_ADDR : Nat := 0x4001204c
def OTP_RD_ADDR_ADDR : Fld := ⟨OTP_RD_ADDR, 0, 10⟩
def OTP_RD_DATA : Nat := 0x40012050
def OTP_RD_DATA_DATA : Fld := ⟨OTP_RD_DATA, 0, 32⟩
def OTP_SECVER : Nat := 0x40012054
def OTP_SECVER_SEC_VER : Fld := ⟨OTP_SECVER, 0, 7⟩
def OTP_PG_ADDR : Nat := 0x40012058
def OTP_PG_ADDR_ADDR : Fld := ⟨OTP_PG_ADDR, 0, 10⟩
def OTP_PG_DATA : Nat := 0x4001205c
def OTP_PG_DATA_DATA : Fld := ⟨OTP_PG_DATA, 0, 32⟩
def OTP_PG_CTL : Nat := 0x40012060
def OTP_PG_CTL_GO : Fld := ⟨OTP_PG_CTL, 0, 1⟩
def OTP_PG_CTL_FINAL : Fld := ⟨OTP_PG_CTL, 1, 1⟩
def OTP_PG_CTL_KEY : Fld := ⟨OTP_PG_CTL, 16, 16⟩
def OTP_PG_STAT : Nat := 0x40012064
def OTP_PG_STAT_BUSY : Fld := ⟨OTP_PG_STAT, 0, 1⟩
def OTP_PG_STAT_RESULT : Fld := ⟨OTP_PG_STAT, 1, 3⟩
def OTP_PG_STAT_REASON : Fld := ⟨OTP_PG_STAT, 4, 4⟩
def OTP_RAW : Nat := 0x40012068
def OTP_RAW_RAW : Fld := ⟨OTP_RAW, 0, 32⟩
/-! ### Table 19-11 (19_boot_otp_patches.md) -/
def BT_STAT : Nat := 0x40013040
def BT_STAT_STEP : Fld := ⟨BT_STAT, 0, 4⟩
def BT_STAT_DECISION : Fld := ⟨BT_STAT, 4, 2⟩
def BT_STAT_SOURCE : Fld := ⟨BT_STAT, 6, 2⟩
def BT_STAT_WINDOW : Fld := ⟨BT_STAT, 8, 1⟩
def BT_STAT_PUSHING : Fld := ⟨BT_STAT, 9, 1⟩
def BT_PATCH : Nat := 0x40013044
def BT_PATCH_LAST : Fld := ⟨BT_PATCH, 0, 16⟩
def BT_PATCH_STEP : Fld := ⟨BT_PATCH, 16, 4⟩
def BT_BUNDLE : Nat := 0x40013048
def BT_BUNDLE_BUNDLE_ID : Fld := ⟨BT_BUNDLE, 0, 32⟩
def BT_SECVER : Nat := 0x4001304c
def BT_SECVER_SENSED : Fld := ⟨BT_SECVER, 0, 7⟩
def BT_SECVER_BUNDLE : Fld := ⟨BT_SECVER, 8, 7⟩
def BT_SECVER_RAISED : Fld := ⟨BT_SECVER, 16, 1⟩
def BT_FEATURE : Nat := 0x40013050
def BT_FEATURE_FEATURE : Fld := ⟨BT_FEATURE, 0, 32⟩
def BT_BUILD : Nat := 0x40013054
def BT_BUILD_ROM_BUILD : Fld := ⟨BT_BUILD, 0, 16⟩
def BT_BUILD_STEPPING : Fld := ⟨BT_BUILD, 16, 8⟩
def BT_TIME : Nat := 0x40013058
def BT_TIME_MS : Fld := ⟨BT_TIME, 0, 16⟩
def BT_REMAP : Nat := 0x4001305c
def BT_REMAP_REMAP_EN : Fld := ⟨BT_REMAP, 0, 32⟩
/-! ### Table 20-4 (20_crypto_trng.md) -/
def CR_CFG : Nat := 0x40014040
def CR_CFG_WIPE : Fld := ⟨CR_CFG, 0, 1⟩
def CR_STAT : Nat := 0x40014044
def CR_STAT_AES_BUSY : Fld := ⟨CR_STAT, 0, 1⟩
def CR_STAT_SHA_BUSY : Fld := ⟨CR_STAT, 1, 1⟩
def CR_STAT_PKA_BUSY : Fld := ⟨CR_STAT, 2, 1⟩
def CR_STAT_AES_OP : Fld := ⟨CR_STAT, 4, 3⟩
def CR_DEC : Nat := 0x40014048
def CR_DEC_BYTES : Fld := ⟨CR_DEC, 0, 32⟩
def CR_ERR : Nat := 0x4001404c
def CR_ERR_TAG_FAIL : Fld := ⟨CR_ERR, 0, 8⟩
def CR_ERR_REVOKED : Fld := ⟨CR_ERR, 8, 8⟩
def CR_ERR_EMPTY : Fld := ⟨CR_ERR, 16, 8⟩
def CR_ERR_UNWRAP_FAIL : Fld := ⟨CR_ERR, 24, 8⟩
/-! ### Table 20-5 (20_crypto_trng.md) -/
def KS_OWN0 : Nat := 0x40015040
def KS_OWN0_OWN : Fld := ⟨KS_OWN0, 0, 32⟩
def KS_OWN1 : Nat := 0x40015044
def KS_OWN1_OWN : Fld := ⟨KS_OWN1, 0, 32⟩
def KS_TYPE : Nat := 0x40015048
def KS_TYPE_TYPE : Fld := ⟨KS_TYPE, 0, 32⟩
def KS_USE : Nat := 0x4001504c
def KS_USE_IN_USE : Fld := ⟨KS_USE, 0, 16⟩
def KS_ERASE : Nat := 0x40015050
def KS_ERASE_ERASE : Fld := ⟨KS_ERASE, 0, 16⟩
def KS_LAST : Nat := 0x40015054
def KS_LAST_SLOT : Fld := ⟨KS_LAST, 0, 4⟩
def KS_LAST_ABORTED : Fld := ⟨KS_LAST, 8, 8⟩
/-! ### Table 20-6 (20_crypto_trng.md) -/
def TR_CFG : Nat := 0x40016040
def TR_CFG_RESEED_REQ : Fld := ⟨TR_CFG, 0, 16⟩
def TR_CFG_RESEED_MS : Fld := ⟨TR_CFG, 16, 16⟩
def TR_STAT : Nat := 0x40016044
def TR_STAT_STATE : Fld := ⟨TR_STAT, 0, 3⟩
def TR_STAT_SEEDED : Fld := ⟨TR_STAT, 3, 1⟩
def TR_STAT_LATCHED : Fld := ⟨TR_STAT, 4, 1⟩
def TR_STAT_QUEUED : Fld := ⟨TR_STAT, 8, 5⟩
def TR_STAT_B13 : Fld := ⟨TR_STAT, 13, 1⟩
def TR_STAT_FAILS : Fld := ⟨TR_STAT, 14, 2⟩
def TR_CNT : Nat := 0x40016048
def TR_CNT_RCT_FAIL : Fld := ⟨TR_CNT, 0, 8⟩
def TR_CNT_APT_FAIL : Fld := ⟨TR_CNT, 8, 8⟩
def TR_CNT_UNAVAIL : Fld := ⟨TR_CNT, 16, 16⟩
def TR_RESEEDS : Nat := 0x4001604c
def TR_RESEEDS_COUNT : Fld := ⟨TR_RESEEDS, 0, 32⟩
def TR_LAST_FAIL : Nat := 0x40016050
def TR_LAST_FAIL_TIME : Fld := ⟨TR_LAST_FAIL, 0, 32⟩
def TR_CUT : Nat := 0x40016054
def TR_CUT_RCT_C : Fld := ⟨TR_CUT, 0, 6⟩
def TR_CUT_APT_C : Fld := ⟨TR_CUT, 16, 10⟩
/-! ### Table 21-5 (21_lockstep_safety.md) -/
def LK_STAT : Nat := 0x40017040
def LK_STAT_MODE : Fld := ⟨LK_STAT, 0, 2⟩
def LK_STAT_WD_ARMED : Fld := ⟨LK_STAT, 2, 1⟩
def LK_STAT_GRACE : Fld := ⟨LK_STAT, 3, 1⟩
def LK_STAT_SNAP : Fld := ⟨LK_STAT, 4, 4⟩
def LK_CFG : Nat := 0x40017044
def LK_CFG_FINISH_MAX : Fld := ⟨LK_CFG, 0, 8⟩
def LK_CFG_SAFE_FAN : Fld := ⟨LK_CFG, 8, 1⟩
def LK_KICK : Nat := 0x40017048
def LK_KICK_KICK : Fld := ⟨LK_KICK, 0, 32⟩
def LK_COMMIT : Nat := 0x4001704c
def LK_COMMIT_SLOT : Fld := ⟨LK_COMMIT, 0, 4⟩
def LK_INJ : Nat := 0x40017050
def LK_INJ_TESTS : Fld := ⟨LK_INJ, 0, 32⟩
def LK_INJ_TIME : Nat := 0x40017054
def LK_INJ_TIME_TIME : Fld := ⟨LK_INJ_TIME, 0, 32⟩
def LK_REC : Nat := 0x40017058
def LK_REC_CAUSE : Fld := ⟨LK_REC, 0, 4⟩
def LK_REC_STOP_CAUSE : Fld := ⟨LK_REC, 4, 4⟩
def LK_REC_LANE : Fld := ⟨LK_REC, 8, 8⟩
def LK_REC_VALID : Fld := ⟨LK_REC, 16, 1⟩
def LK_REC_COUNT : Fld := ⟨LK_REC, 24, 8⟩
def LK_REC_TIME : Nat := 0x4001705c
def LK_REC_TIME_TIME : Fld := ⟨LK_REC_TIME, 0, 32⟩
def LK_REC_SHEETS : Nat := 0x40017060
def LK_REC_SHEETS_SNAP : Fld := ⟨LK_REC_SHEETS, 0, 4⟩
def LK_REC_SHEETS_EXITED : Fld := ⟨LK_REC_SHEETS, 4, 4⟩
def LK_REC_SHEETS_CUT_OFF : Fld := ⟨LK_REC_SHEETS, 8, 4⟩
def LK_REC_SHEETS_FINISH_MS : Fld := ⟨LK_REC_SHEETS, 16, 16⟩
def LK_FULLRST : Nat := 0x40017064
def LK_FULLRST_KEY : Fld := ⟨LK_FULLRST, 0, 16⟩
def LK_FORCE : Nat := 0x40017068
def LK_FORCE_KEY : Fld := ⟨LK_FORCE, 0, 16⟩
def LK_FORCE_ACTION : Fld := ⟨LK_FORCE, 16, 2⟩
/-! ### Table 23-7 (23_background.md) -/
def BG_CFG : Nat := 0x4003d040
def BG_CFG_SCRUB_US : Fld := ⟨BG_CFG, 0, 9⟩
def BG_CFG_LPC_APPLY : Fld := ⟨BG_CFG, 9, 1⟩
def BG_PER0 : Nat := 0x4003d044
def BG_PER0_FACET_PER : Fld := ⟨BG_PER0, 0, 16⟩
def BG_PER0_HEADRES_PER : Fld := ⟨BG_PER0, 16, 16⟩
def BG_PER1 : Nat := 0x4003d048
def BG_PER1_STORE_PER : Fld := ⟨BG_PER1, 0, 16⟩
def BG_STAT : Nat := 0x4003d04c
def BG_STAT_RUN : Fld := ⟨BG_STAT, 0, 4⟩
def BG_STAT_PENDING : Fld := ⟨BG_STAT, 8, 8⟩
def BG_STAT_HOLD_L : Fld := ⟨BG_STAT, 16, 1⟩
def BG_STAT_HOLD_T : Fld := ⟨BG_STAT, 17, 1⟩
def BG_SCRUB : Nat := 0x4003d050
def BG_SCRUB_PASSES : Fld := ⟨BG_SCRUB, 0, 32⟩
def BG_SCRUB_POS : Nat := 0x4003d054
def BG_SCRUB_POS_ADDR : Fld := ⟨BG_SCRUB_POS, 0, 32⟩
def BG_LATE : Nat := 0x4003d058
def BG_LATE_COUNT : Fld := ⟨BG_LATE, 0, 8⟩
def BG_LATE_TASK : Fld := ⟨BG_LATE, 8, 4⟩
def BG_CAL : Nat := 0x4003d05c
def BG_CAL_CAL : Fld := ⟨BG_CAL, 0, 4⟩
def BG_CAL_RESULT : Fld := ⟨BG_CAL, 4, 1⟩
def BG_CAL_RUNNING : Fld := ⟨BG_CAL, 5, 1⟩
def BG_CAL_VALUE : Nat := 0x4003d060
def BG_CAL_VALUE_VALUE : Fld := ⟨BG_CAL_VALUE, 0, 32⟩
def BG_LPC : Nat := 0x4003d064
def BG_LPC_I_TH : Fld := ⟨BG_LPC, 0, 16⟩
def BG_LPC_SLOPE : Fld := ⟨BG_LPC, 16, 16⟩
def BG_REF_SCAN : Nat := 0x4003d068
def BG_REF_SCAN_CRC : Fld := ⟨BG_REF_SCAN, 0, 32⟩
def BG_REF_LINE : Nat := 0x4003d06c
def BG_REF_LINE_CRC : Fld := ⟨BG_REF_LINE, 0, 32⟩
/-! ### Table 23-7 (23_background.md) -/
def LF_SEL : Nat := 0x4003e040
def LF_SEL_INDEX : Fld := ⟨LF_SEL, 0, 5⟩
def LF_LO : Nat := 0x4003e044
def LF_LO_VALUE : Fld := ⟨LF_LO, 0, 32⟩
def LF_HI : Nat := 0x4003e048
def LF_HI_VALUE : Fld := ⟨LF_HI, 0, 32⟩
def LF_BOUND : Nat := 0x4003e04c
def LF_BOUND_BOUND : Fld := ⟨LF_BOUND, 0, 32⟩
def LF_STAT : Nat := 0x4003e050
def LF_STAT_RESTORED : Fld := ⟨LF_STAT, 0, 1⟩
def LF_STAT_WAITING : Fld := ⟨LF_STAT, 8, 24⟩
/-! ### Table 23-7 (23_background.md) -/
def JR_STAT : Nat := 0x4003f040
def JR_STAT_STATE : Fld := ⟨JR_STAT, 0, 2⟩
def JR_STAT_ERASED : Fld := ⟨JR_STAT, 8, 8⟩
def JR_STAT_SEGS : Fld := ⟨JR_STAT, 16, 8⟩
def JR_HEAD : Nat := 0x4003f044
def JR_HEAD_OFFSET : Fld := ⟨JR_HEAD, 0, 26⟩
def JR_SEQ : Nat := 0x4003f048
def JR_SEQ_SEQ : Fld := ⟨JR_SEQ, 0, 32⟩
def JR_CNT : Nat := 0x4003f04c
def JR_CNT_RECORDS : Fld := ⟨JR_CNT, 0, 16⟩
def JR_CNT_TORN : Fld := ⟨JR_CNT, 16, 8⟩
def JR_CNT_PROG_FAIL : Fld := ⟨JR_CNT, 24, 8⟩
def JR_WEAR : Nat := 0x4003f050
def JR_WEAR_MIN : Fld := ⟨JR_WEAR, 0, 16⟩
def JR_WEAR_MAX : Fld := ⟨JR_WEAR, 16, 16⟩
def JR_CFG : Nat := 0x4003f054
def JR_CFG_WEAR_MAX : Fld := ⟨JR_CFG, 0, 16⟩
def JR_CFG_FLUSH : Fld := ⟨JR_CFG, 16, 1⟩
/-! ### Table 24-6 (24_pins_package.md) -/
def PM_FUNC0 : Nat := 0x4003c040
def PM_FUNC0_FUNC : Fld := ⟨PM_FUNC0, 0, 32⟩
def PM_FUNC1 : Nat := 0x4003c044
def PM_FUNC1_FUNC : Fld := ⟨PM_FUNC1, 0, 24⟩
def PM_OUT : Nat := 0x4003c048
def PM_OUT_OUT : Fld := ⟨PM_OUT, 0, 28⟩
def PM_OE : Nat := 0x4003c04c
def PM_OE_OE : Fld := ⟨PM_OE, 0, 28⟩
def PM_OD : Nat := 0x4003c050
def PM_OD_OD : Fld := ⟨PM_OD, 0, 28⟩
def PM_PULL : Nat := 0x4003c054
def PM_PULL_PULL : Fld := ⟨PM_PULL, 0, 28⟩
def PM_IN : Nat := 0x4003c058
def PM_IN_IN : Fld := ⟨PM_IN, 0, 28⟩
/-! ### Table 25-19 (25_electrical.md) -/
def AD_SCAN (i : Nat) : Nat := pageBase (0x33 + i) + 0x40
def AD_SCAN_SCAN (i : Nat) : Fld := ⟨AD_SCAN i, 0, 32⟩
def AD_FWMASK (i : Nat) : Nat := pageBase (0x33 + i) + 0x44
def AD_FWMASK_MASK (i : Nat) : Fld := ⟨AD_FWMASK i, 0, 32⟩
def AD_STAT (i : Nat) : Nat := pageBase (0x33 + i) + 0x48
def AD_STAT_ROUND (i : Nat) : Fld := ⟨AD_STAT i, 0, 6⟩
def AD_CNT (i : Nat) : Nat := pageBase (0x33 + i) + 0x4c
def AD_CNT_COUNT (i : Nat) : Fld := ⟨AD_CNT i, 0, 32⟩
def AD_DATA (i : Nat) (k : Nat) : Nat := pageBase (0x33 + i) + 0x100 + 0x4 * k
def AD_DATA_CODE (i : Nat) (k : Nat) : Fld := ⟨AD_DATA i k, 0, 12⟩
def AD_DATA_SEQ (i : Nat) (k : Nat) : Fld := ⟨AD_DATA i k, 16, 16⟩
/-! ### Table 25-20 (25_electrical.md) -/
def I2C_CFG (i : Nat) : Nat := pageBase (0x3a + i) + 0x40
def I2C_CFG_SPEED (i : Nat) : Fld := ⟨I2C_CFG i, 0, 2⟩
def I2C_CFG_STRETCH_MAX (i : Nat) : Fld := ⟨I2C_CFG i, 8, 8⟩
def I2C_CMD (i : Nat) : Nat := pageBase (0x3a + i) + 0x44
def I2C_CMD_ADDR (i : Nat) : Fld := ⟨I2C_CMD i, 0, 7⟩
def I2C_CMD_WLEN (i : Nat) : Fld := ⟨I2C_CMD i, 8, 6⟩
def I2C_CMD_RLEN (i : Nat) : Fld := ⟨I2C_CMD i, 16, 6⟩
def I2C_CMD_GO (i : Nat) : Fld := ⟨I2C_CMD i, 24, 1⟩
def I2C_STAT (i : Nat) : Nat := pageBase (0x3a + i) + 0x48
def I2C_STAT_BUSY (i : Nat) : Fld := ⟨I2C_STAT i, 0, 1⟩
def I2C_STAT_NACK_ADDR (i : Nat) : Fld := ⟨I2C_STAT i, 1, 1⟩
def I2C_STAT_NACK_DATA (i : Nat) : Fld := ⟨I2C_STAT i, 2, 1⟩
def I2C_STAT_ARB_LOST (i : Nat) : Fld := ⟨I2C_STAT i, 3, 1⟩
def I2C_STAT_TIMEOUT (i : Nat) : Fld := ⟨I2C_STAT i, 4, 1⟩
def I2C_STAT_DONE_BYTES (i : Nat) : Fld := ⟨I2C_STAT i, 8, 6⟩
def I2C_BUF (i : Nat) (k : Nat) : Nat := pageBase (0x3a + i) + 0x80 + 0x4 * k
def I2C_BUF_DATA (i : Nat) (k : Nat) : Fld := ⟨I2C_BUF i k, 0, 32⟩
/-! ### Table 26-2 (26_register_index.md) -/
def SYS_BUILD : Nat := 0x40000040
def SYS_BUILD_ROM_BUILD : Fld := ⟨SYS_BUILD, 0, 16⟩
def SYS_BUILD_STEPPING : Fld := ⟨SYS_BUILD, 16, 8⟩
def SYS_UID0 : Nat := 0x40000044
def SYS_UID0_UID : Fld := ⟨SYS_UID0, 0, 32⟩
def SYS_UID1 : Nat := 0x40000048
def SYS_UID1_UID : Fld := ⟨SYS_UID1, 0, 32⟩
def SYS_FEATURE : Nat := 0x4000004c
def SYS_FEATURE_FEATURE : Fld := ⟨SYS_FEATURE, 0, 32⟩
def SYS_GRADE : Nat := 0x40000050
def SYS_GRADE_GRADE : Fld := ⟨SYS_GRADE, 0, 2⟩
def SYS_GRADE_LOT : Fld := ⟨SYS_GRADE, 8, 24⟩
def SYS_STATE_TIME : Nat := 0x40000054
def SYS_STATE_TIME_TIME : Fld := ⟨SYS_STATE_TIME, 0, 32⟩
/-! ### Table 26-3 (26_register_index.md) -/
def DBG_STAT : Nat := 0x40040040
def DBG_STAT_PORT_EN : Fld := ⟨DBG_STAT, 0, 1⟩
def DBG_STAT_TAP_RESET : Fld := ⟨DBG_STAT, 1, 1⟩
def DBG_STAT_BSCAN : Fld := ⟨DBG_STAT, 2, 1⟩

end Reg

def rows_PATH_0 : List RRow := [
  ⟨0x100,0x0,1,0x1e0270,[⟨0,1,.rws⟩, ⟨4,3,.rws⟩, ⟨8,4,.rws⟩, ⟨16,8,.rws⟩]⟩,
  ⟨0x104,0x0,1,0xbb80960,[⟨0,16,.rws⟩, ⟨16,16,.rws⟩]⟩,
  ⟨0x108,0x0,1,0x1e1e640a,[⟨0,8,.rws⟩, ⟨8,8,.rws⟩, ⟨16,8,.rws⟩, ⟨24,8,.rws⟩]⟩,
  ⟨0x10c,0x0,1,0x960050,[⟨0,16,.rws⟩, ⟨16,16,.rws⟩]⟩,
  ⟨0x110,0x0,1,0x140258,[⟨0,16,.rws⟩, ⟨16,16,.rws⟩]⟩,
  ⟨0x120,0x0,1,0x0,[⟨0,2,.ro⟩, ⟨4,2,.ro⟩, ⟨8,1,.ro⟩, ⟨9,1,.ro⟩, ⟨12,4,.ro⟩, ⟨16,16,.ro⟩]⟩,
  ⟨0x124,0x0,1,0x0,[⟨0,16,.ro⟩, ⟨16,4,.ro⟩, ⟨24,8,.ro⟩]⟩,
  ⟨0x128,0x0,1,0x0,[⟨0,32,.ro⟩]⟩,
  ⟨0x12c,0x0,1,0x0,[⟨0,16,.ro⟩, ⟨16,2,.ro⟩, ⟨24,8,.ro⟩]⟩,
  ⟨0x140,0x4,8,0x0,[⟨0,32,.ro⟩]⟩,
  ⟨0x40,0x0,1,0x25800fa,[⟨0,16,.rws⟩, ⟨16,16,.rws⟩]⟩,
  ⟨0x44,0x0,1,0x321e0064,[⟨0,16,.rws⟩, ⟨16,8,.rws⟩, ⟨24,8,.rws⟩]⟩,
  ⟨0x48,0x0,1,0x4b0,[⟨0,16,.rws⟩]⟩,
  ⟨0x4c,0x0,1,0xa0800fa,[⟨0,16,.rws⟩, ⟨16,4,.rws⟩, ⟨24,8,.rws⟩]⟩,
  ⟨0x50,0x0,1,0x1f43205,[⟨0,8,.rws⟩, ⟨8,8,.rws⟩, ⟨16,16,.rws⟩]⟩,
  ⟨0x54,0x0,1,0x0,[⟨0,16,.rws⟩]⟩,
  ⟨0x58,0x0,1,0xa,[⟨0,6,.rws⟩, ⟨8,6,.rws⟩, ⟨16,6,.rws⟩, ⟨24,6,.rws⟩]⟩,
  ⟨0x60,0x4,6,0x2012c32,[⟨0,2,.rws⟩, ⟨2,1,.rws⟩, ⟨4,4,.rws⟩, ⟨8,10,.rws⟩, ⟨20,6,.rws⟩, ⟨28,2,.rws⟩]⟩,
  ⟨0x78,0x0,1,0x0,[⟨0,6,.ro⟩, ⟨8,6,.ro⟩]⟩,
  ⟨0x7c,0x0,1,0x0,[⟨0,3,.ro⟩, ⟨4,3,.ro⟩, ⟨8,3,.ro⟩, ⟨12,3,.ro⟩, ⟨16,3,.ro⟩, ⟨20,3,.ro⟩]⟩]
def rows_PATH_1 : List RRow := [
  ⟨0x80,0x4,6,0x0,[⟨0,10,.ro⟩, ⟨16,10,.ro⟩]⟩,
  ⟨0xa0,0x0,1,0x0,[⟨0,8,.ro⟩, ⟨8,4,.ro⟩, ⟨12,4,.ro⟩, ⟨16,1,.ro⟩, ⟨17,1,.ro⟩, ⟨24,8,.ro⟩]⟩,
  ⟨0xa4,0x0,1,0x0,[⟨0,16,.rc⟩, ⟨16,16,.rc⟩]⟩,
  ⟨0x200,0x10,4,0x0,[⟨0,8,.ro⟩, ⟨8,3,.ro⟩, ⟨12,4,.ro⟩, ⟨16,2,.ro⟩, ⟨20,4,.ro⟩]⟩,
  ⟨0x204,0x10,4,0x0,[⟨0,32,.ro⟩]⟩,
  ⟨0x208,0x10,4,0x0,[⟨0,32,.ro⟩]⟩,
  ⟨0x20c,0x10,4,0x0,[⟨0,32,.ro⟩]⟩]
def rows_PATH : List RRow := rows_PATH_0 ++ rows_PATH_1
def rows_TEN : List RRow := [
  ⟨0x40,0x0,1,0x0,[⟨0,1,.rw⟩, ⟨1,1,.ro⟩, ⟨16,16,.ro⟩]⟩,
  ⟨0x44,0x0,1,0x0,[⟨0,8,.w1s⟩]⟩,
  ⟨0x48,0x0,1,0x0,[⟨0,8,.ro⟩, ⟨8,8,.ro⟩, ⟨16,8,.ro⟩]⟩,
  ⟨0x4c,0x0,1,0x60,[⟨0,7,.ro⟩, ⟨8,7,.ro⟩, ⟨16,7,.ro⟩, ⟨24,7,.ro⟩]⟩,
  ⟨0x50,0x0,1,0x0,[⟨0,7,.ro⟩]⟩,
  ⟨0x54,0x0,1,0x0,[⟨0,32,.ro⟩]⟩,
  ⟨0x58,0x0,1,0x0,[⟨0,4,.ro⟩, ⟨8,4,.ro⟩]⟩,
  ⟨0x5c,0x0,1,0x0,[⟨0,32,.ro⟩]⟩,
  ⟨0x60,0x0,1,0x0,[⟨0,32,.ro⟩]⟩,
  ⟨0x64,0x0,1,0xffffffff,[⟨0,32,.rw⟩]⟩,
  ⟨0x68,0x0,1,0xffff,[⟨0,16,.rw⟩]⟩,
  ⟨0x80,0x4,16,0x80,[⟨0,3,.rw⟩, ⟨7,1,.rw⟩]⟩,
  ⟨0xc0,0x4,8,0x81011,[⟨0,4,.rw⟩, ⟨4,4,.rw⟩, ⟨8,5,.rw⟩, ⟨16,4,.rw⟩, ⟨20,8,.rw⟩, ⟨28,1,.rw⟩]⟩,
  ⟨0xe0,0x4,8,0x403008,[⟨0,7,.rw⟩, ⟨8,7,.rw⟩, ⟨16,16,.rw⟩]⟩]
def rows_TQ : List RRow := [
  ⟨0x40,0x0,1,0x1000,[⟨0,3,.ro⟩, ⟨8,5,.ro⟩, ⟨16,5,.ro⟩, ⟨24,6,.ro⟩]⟩,
  ⟨0x44,0x0,1,0x0,[⟨0,16,.ro⟩]⟩,
  ⟨0x48,0x0,1,0x0,[⟨0,4,.ro⟩, ⟨8,8,.ro⟩, ⟨16,8,.ro⟩]⟩,
  ⟨0x4c,0x0,1,0x800,[⟨0,7,.ro⟩, ⟨8,7,.ro⟩, ⟨16,7,.ro⟩]⟩,
  ⟨0x50,0x0,1,0x0,[⟨0,20,.ro⟩]⟩,
  ⟨0x54,0x0,1,0x0,[⟨0,4,.ro⟩, ⟨8,8,.rc⟩]⟩,
  ⟨0x58,0x0,1,0x0,[⟨0,16,.rc⟩, ⟨16,16,.rc⟩]⟩,
  ⟨0x5c,0x0,1,0x0,[⟨0,1,.rw⟩, ⟨1,1,.ro⟩]⟩,
  ⟨0x80,0x0,1,0x0,[⟨0,32,.ro⟩]⟩,
  ⟨0x84,0x0,1,0x0,[⟨0,3,.ro⟩, ⟨8,1,.w1c⟩]⟩,
  ⟨0x88,0x0,1,0x0,[⟨0,32,.ro⟩]⟩,
  ⟨0x8c,0x0,1,0x0,[⟨0,16,.ro⟩, ⟨16,4,.ro⟩]⟩,
  ⟨0x90,0x0,1,0x0,[⟨0,32,.ro⟩]⟩,
  ⟨0x94,0x0,1,0x0,[⟨0,1,.wo⟩]⟩]
def rows_USB : List RRow := [
  ⟨0x40,0x0,1,0x20010d,[⟨0,1,.rw⟩, ⟨1,1,.wo⟩, ⟨2,1,.rws⟩, ⟨3,1,.rw⟩, ⟨8,8,.rws⟩, ⟨16,3,.rws⟩, ⟨19,1,.rws⟩, ⟨20,2,.rws⟩]⟩,
  ⟨0x44,0x0,1,0x0,[⟨0,2,.ro⟩, ⟨2,1,.ro⟩, ⟨3,1,.ro⟩, ⟨4,1,.ro⟩, ⟨5,1,.ro⟩, ⟨8,7,.ro⟩]⟩,
  ⟨0x48,0x0,1,0x0,[⟨0,16,.ro⟩, ⟨16,16,.ro⟩]⟩,
  ⟨0x4c,0x0,1,0x0,[⟨0,8,.ro⟩]⟩,
  ⟨0x50,0x0,1,0x0,[⟨0,8,.rc⟩, ⟨8,8,.rc⟩, ⟨16,8,.rc⟩]⟩]
def rows_SPIT : List RRow := [
  ⟨0x40,0x0,1,0x4001,[⟨0,1,.rw⟩, ⟨1,1,.rw⟩, ⟨8,8,.rw⟩]⟩,
  ⟨0x44,0x0,1,0x80800,[⟨0,12,.ro⟩, ⟨16,4,.ro⟩, ⟨20,12,.ro⟩]⟩,
  ⟨0x48,0x0,1,0x0,[⟨0,16,.ro⟩]⟩,
  ⟨0x4c,0x0,1,0x0,[⟨0,8,.rc⟩, ⟨8,8,.rc⟩, ⟨16,8,.rc⟩, ⟨24,8,.rc⟩]⟩]
def rows_UART : List RRow := [
  ⟨0x40,0x0,1,0x1410,[⟨0,2,.rws⟩, ⟨2,1,.rws⟩, ⟨3,1,.rws⟩, ⟨4,1,.rws⟩, ⟨8,8,.rws⟩]⟩,
  ⟨0x44,0x0,1,0x22c,[⟨0,20,.rws⟩]⟩,
  ⟨0x48,0x0,1,0xa0101,[⟨0,8,.rws⟩, ⟨8,8,.rws⟩, ⟨16,8,.rws⟩]⟩,
  ⟨0x4c,0x0,1,0x0,[⟨0,9,.ro⟩]⟩,
  ⟨0x50,0x0,1,0x0,[⟨0,8,.rc⟩, ⟨8,8,.rc⟩, ⟨16,8,.rc⟩, ⟨24,8,.rc⟩]⟩,
  ⟨0x54,0x0,1,0x0,[⟨0,8,.rc⟩]⟩]
def rows_CAN : List RRow := [
  ⟨0x40,0x0,1,0x1b,[⟨0,1,.rws⟩, ⟨1,1,.rws⟩, ⟨2,1,.rws⟩, ⟨3,1,.rws⟩, ⟨4,1,.rw⟩, ⟨5,1,.wo⟩]⟩,
  ⟨0x44,0x0,1,0xf0f3e01,[⟨0,8,.rws⟩, ⟨8,8,.rws⟩, ⟨16,7,.rws⟩, ⟨24,7,.rws⟩]⟩,
  ⟨0x48,0x0,1,0x9091c00,[⟨0,5,.rws⟩, ⟨8,5,.rws⟩, ⟨16,4,.rws⟩, ⟨24,4,.rws⟩]⟩,
  ⟨0x4c,0x0,1,0x1000000,[⟨0,8,.rw⟩, ⟨8,8,.rw⟩, ⟨16,8,.rw⟩, ⟨24,1,.rw⟩]⟩,
  ⟨0x50,0x0,1,0x0,[⟨0,8,.ro⟩, ⟨8,8,.ro⟩, ⟨16,2,.ro⟩]⟩,
  ⟨0x54,0x0,1,0x0,[⟨0,8,.rc⟩, ⟨8,8,.rc⟩, ⟨16,8,.rc⟩, ⟨24,8,.rc⟩]⟩,
  ⟨0x60,0x8,4,0x0,[⟨0,29,.rws⟩, ⟨30,1,.rws⟩, ⟨31,1,.rws⟩]⟩,
  ⟨0x64,0x8,4,0x0,[⟨0,29,.rws⟩, ⟨31,1,.rws⟩]⟩]
def rows_HDR : List RRow := [
  ⟨0x0,0x0,1,0x1,[⟨0,8,.ro⟩, ⟨8,8,.ro⟩, ⟨16,16,.ro⟩]⟩,
  ⟨0x4,0x0,1,0x0,[⟨0,6,.ro⟩, ⟨8,1,.ro⟩, ⟨16,16,.ro⟩]⟩,
  ⟨0x8,0x0,1,0x1,[⟨0,1,.rw⟩, ⟨1,1,.wo⟩, ⟨4,1,.rw⟩, ⟨8,1,.w1s⟩]⟩,
  ⟨0xc,0x0,1,0x0,[⟨0,1,.ro⟩, ⟨1,1,.ro⟩, ⟨2,1,.ro⟩, ⟨4,4,.ro⟩]⟩,
  ⟨0x10,0x0,1,0x0,[⟨0,32,.ro⟩]⟩,
  ⟨0x14,0x0,1,0x0,[⟨0,32,.rw⟩]⟩,
  ⟨0x18,0x0,1,0x0,[⟨0,32,.w1c⟩]⟩,
  ⟨0x1c,0x0,1,0x0,[⟨0,32,.wo⟩]⟩,
  ⟨0x20,0x0,1,0x0,[⟨0,1,.w1s⟩]⟩,
  ⟨0x24,0x0,1,0x0,[⟨0,8,.rw⟩, ⟨8,8,.rw⟩, ⟨16,1,.ro⟩]⟩,
  ⟨0x28,0x0,1,0x0,[⟨0,16,.ro⟩, ⟨16,3,.ro⟩]⟩,
  ⟨0x2c,0x0,1,0x0,[⟨0,16,.rc⟩, ⟨16,16,.ro⟩]⟩]
def rows_EVT : List RRow := [
  ⟨0x40,0x0,1,0x0,[⟨0,32,.ro⟩]⟩,
  ⟨0x44,0x0,1,0x0,[⟨0,32,.ro⟩]⟩,
  ⟨0x48,0x0,1,0x1,[⟨0,1,.rw⟩]⟩,
  ⟨0x4c,0x0,1,0x6db6db,[⟨0,3,.rw⟩, ⟨3,3,.rw⟩, ⟨6,3,.rw⟩, ⟨9,3,.rw⟩, ⟨12,3,.rw⟩, ⟨15,3,.rw⟩, ⟨18,3,.rw⟩, ⟨21,3,.rw⟩]⟩,
  ⟨0x50,0x0,1,0x10101,[⟨0,8,.rw⟩, ⟨8,1,.rw⟩, ⟨16,1,.rw⟩]⟩,
  ⟨0x54,0x0,1,0x10000,[⟨0,8,.rw⟩, ⟨8,1,.rw⟩, ⟨16,1,.rw⟩]⟩,
  ⟨0x58,0x0,1,0x0,[⟨0,2,.ro⟩]⟩,
  ⟨0x5c,0x0,1,0x0,[⟨0,16,.rc⟩]⟩,
  ⟨0x60,0x0,1,0x0,[⟨0,32,.rw⟩]⟩,
  ⟨0x64,0x0,1,0x0,[⟨0,1,.ro⟩, ⟨1,1,.ro⟩]⟩,
  ⟨0x70,0x4,4,0x0,[⟨0,32,.ro⟩]⟩]
def rows_BRIDGE : List RRow := [
  ⟨0x40,0x0,1,0x64,[⟨0,8,.rw⟩]⟩,
  ⟨0x44,0x0,1,0x0,[⟨0,5,.ro⟩, ⟨8,5,.ro⟩, ⟨16,5,.ro⟩, ⟨24,5,.ro⟩]⟩,
  ⟨0x48,0x0,1,0x0,[⟨0,5,.ro⟩, ⟨8,5,.ro⟩, ⟨16,5,.ro⟩, ⟨24,5,.ro⟩]⟩,
  ⟨0x4c,0x0,1,0x0,[⟨0,16,.rc⟩, ⟨16,16,.rc⟩]⟩,
  ⟨0x50,0x0,1,0x0,[⟨0,32,.ro⟩]⟩,
  ⟨0x54,0x0,1,0x0,[⟨0,4,.rc⟩]⟩]
def rows_MEM : List RRow := [
  ⟨0x40,0x0,1,0x1,[⟨0,1,.rws⟩]⟩,
  ⟨0x44,0x0,1,0x0,[⟨0,4,.rw⟩, ⟨4,1,.rw⟩, ⟨8,1,.w1s⟩]⟩,
  ⟨0x48,0x0,1,0x0,[⟨0,16,.rc⟩, ⟨16,16,.rc⟩]⟩,
  ⟨0x4c,0x0,1,0x0,[⟨0,32,.ro⟩]⟩,
  ⟨0x50,0x0,1,0x0,[⟨0,16,.rc⟩]⟩,
  ⟨0x54,0x0,1,0x0,[⟨0,16,.rc⟩, ⟨16,16,.rc⟩]⟩]
def rows_XSPI : List RRow := [
  ⟨0x40,0x0,1,0x3,[⟨0,1,.rws⟩, ⟨1,1,.rws⟩, ⟨2,2,.rws⟩]⟩,
  ⟨0x44,0x0,1,0x0,[⟨0,2,.ro⟩, ⟨2,2,.ro⟩, ⟨4,1,.ro⟩, ⟨5,1,.ro⟩, ⟨6,1,.ro⟩, ⟨8,6,.ro⟩]⟩,
  ⟨0x48,0x0,1,0x0,[⟨0,32,.ro⟩]⟩,
  ⟨0x4c,0x0,1,0x0,[⟨0,32,.ro⟩]⟩,
  ⟨0x50,0x0,1,0x1627deee,[⟨0,8,.rws⟩, ⟨8,8,.rws⟩, ⟨16,5,.rws⟩, ⟨21,1,.rws⟩, ⟨24,3,.rws⟩, ⟨28,4,.rws⟩]⟩,
  ⟨0x54,0x0,1,0x2f8,[⟨0,12,.rws⟩]⟩,
  ⟨0x58,0x0,1,0x0,[⟨0,10,.ro⟩, ⟨16,10,.ro⟩]⟩,
  ⟨0x5c,0x0,1,0x0,[⟨0,10,.ro⟩, ⟨16,10,.ro⟩]⟩,
  ⟨0x60,0x0,1,0x0,[⟨0,10,.ro⟩, ⟨16,10,.ro⟩]⟩,
  ⟨0x64,0x0,1,0x0,[⟨0,8,.rc⟩, ⟨8,8,.rc⟩, ⟨16,8,.rc⟩]⟩,
  ⟨0x100,0x0,1,0x0,[⟨0,16,.rw⟩]⟩,
  ⟨0x104,0x0,1,0x0,[⟨0,32,.rw⟩]⟩,
  ⟨0x108,0x0,1,0x0,[⟨0,9,.rw⟩, ⟨16,1,.w1s⟩]⟩,
  ⟨0x110,0x4,64,0x0,[⟨0,32,.rw⟩]⟩]
def rows_DMA : List RRow := [
  ⟨0x60,0x4,6,0x0,[⟨0,32,.rw⟩]⟩,
  ⟨0x78,0x0,1,0x0,[⟨0,3,.wo⟩, ⟨8,1,.w1c⟩]⟩]
def rows_DMACH : List RRow := [
  ⟨0x100,0x40,8,0xa05,[⟨0,1,.rw⟩, ⟨1,1,.wo⟩, ⟨2,1,.rws⟩, ⟨8,8,.rws⟩]⟩,
  ⟨0x104,0x40,8,0x0,[⟨0,3,.ro⟩, ⟨4,5,.ro⟩, ⟨9,1,.ro⟩, ⟨16,4,.ro⟩]⟩,
  ⟨0x108,0x40,8,0x0,[⟨0,32,.ro⟩]⟩,
  ⟨0x10c,0x40,8,0x0,[⟨0,32,.ro⟩]⟩,
  ⟨0x110,0x40,8,0x0,[⟨0,16,.ro⟩, ⟨16,4,.ro⟩]⟩,
  ⟨0x114,0x40,8,0x0,[⟨0,32,.ro⟩]⟩,
  ⟨0x118,0x40,8,0x0,[⟨0,32,.ro⟩]⟩,
  ⟨0x11c,0x40,8,0x0,[⟨0,16,.rc⟩, ⟨16,16,.rc⟩]⟩,
  ⟨0x120,0x40,8,0x0,[⟨0,3,.ro⟩, ⟨8,1,.w1c⟩]⟩,
  ⟨0x124,0x40,8,0x0,[⟨0,32,.ro⟩]⟩,
  ⟨0x128,0x40,8,0x0,[⟨0,16,.ro⟩, ⟨16,4,.ro⟩]⟩,
  ⟨0x12c,0x40,8,0x0,[⟨0,1,.wo⟩]⟩]
def rows_CODEC : List RRow := [
  ⟨0x40,0x0,1,0x1102,[⟨0,2,.rws⟩, ⟨2,1,.rws⟩, ⟨8,5,.rws⟩]⟩,
  ⟨0x44,0x0,1,0x50000,[⟨0,20,.rws⟩]⟩,
  ⟨0x48,0x0,1,0x0,[⟨0,1,.ro⟩, ⟨1,1,.ro⟩, ⟨2,1,.ro⟩, ⟨8,4,.ro⟩, ⟨12,4,.ro⟩, ⟨16,4,.ro⟩]⟩,
  ⟨0x4c,0x0,1,0x0,[⟨0,32,.ro⟩]⟩,
  ⟨0x50,0x0,1,0x0,[⟨0,8,.rc⟩, ⟨8,8,.rc⟩, ⟨16,8,.rc⟩, ⟨24,8,.rc⟩]⟩,
  ⟨0x54,0x0,1,0x0,[⟨0,16,.ro⟩, ⟨16,4,.ro⟩, ⟨20,2,.ro⟩, ⟨22,2,.ro⟩, ⟨24,8,.ro⟩]⟩,
  ⟨0x58,0x0,1,0x0,[⟨0,16,.ro⟩, ⟨16,16,.ro⟩]⟩,
  ⟨0x5c,0x0,1,0x0,[⟨0,32,.ro⟩]⟩,
  ⟨0x60,0x0,1,0x0,[⟨0,16,.ro⟩, ⟨16,16,.ro⟩]⟩]
def rows_GALLEY : List RRow := [
  ⟨0x40,0x0,1,0x40001,[⟨0,1,.rws⟩, ⟨8,5,.rws⟩, ⟨16,4,.rws⟩]⟩,
  ⟨0x44,0x0,1,0x0,[⟨0,7,.rw⟩]⟩,
  ⟨0x48,0x0,1,0xf0,[⟨0,3,.ro⟩, ⟨4,4,.ro⟩, ⟨8,2,.ro⟩, ⟨10,2,.ro⟩, ⟨16,8,.ro⟩]⟩,
  ⟨0x4c,0x0,1,0x0,[⟨0,16,.ro⟩, ⟨16,16,.ro⟩]⟩,
  ⟨0x50,0x0,1,0x0,[⟨0,7,.ro⟩, ⟨8,8,.ro⟩]⟩,
  ⟨0x54,0x0,1,0x0,[⟨0,16,.rc⟩, ⟨16,16,.rc⟩]⟩,
  ⟨0x58,0x0,1,0x0,[⟨0,7,.ro⟩, ⟨16,16,.ro⟩]⟩]
def rows_IMPO : List RRow := [
  ⟨0x40,0x0,1,0x4,[⟨0,5,.rws⟩]⟩,
  ⟨0x44,0x0,1,0x0,[⟨0,16,.ro⟩, ⟨16,8,.ro⟩, ⟨24,8,.ro⟩]⟩,
  ⟨0x48,0x0,1,0x0,[⟨0,16,.rc⟩, ⟨16,16,.rc⟩]⟩,
  ⟨0x4c,0x0,1,0x0,[⟨0,32,.ro⟩]⟩,
  ⟨0x50,0x0,1,0x0,[⟨0,16,.rc⟩]⟩]
def rows_SEQ : List RRow := [
  ⟨0x40,0x0,1,0x0,[⟨0,4,.rw⟩, ⟨4,1,.w1s⟩, ⟨5,1,.w1s⟩]⟩,
  ⟨0x44,0x0,1,0x0,[⟨0,2,.ro⟩, ⟨4,1,.ro⟩, ⟨16,12,.ro⟩, ⟨28,3,.ro⟩]⟩,
  ⟨0x48,0x0,1,0x0,[⟨0,4,.ro⟩, ⟨16,12,.ro⟩]⟩,
  ⟨0x4c,0x0,1,0x0,[⟨0,4,.w1s⟩]⟩,
  ⟨0x50,0x0,1,0x0,[⟨0,4,.w1c⟩]⟩,
  ⟨0x54,0x0,1,0x7d0,[⟨0,20,.rw⟩]⟩,
  ⟨0x58,0x0,1,0x0,[⟨0,8,.rw⟩, ⟨8,8,.rw⟩, ⟨16,8,.rw⟩, ⟨24,8,.rw⟩]⟩,
  ⟨0x60,0x4,8,0x0,[⟨0,32,.ro⟩]⟩,
  ⟨0x400,0x4,256,0x1c00,[⟨0,32,.rws⟩]⟩]
def rows_CS : List RRow := [
  ⟨0x40,0x0,1,0x10000,[⟨0,12,.rw⟩, ⟨16,1,.rw⟩]⟩,
  ⟨0x44,0x0,1,0x0,[⟨0,32,.rw⟩]⟩,
  ⟨0x48,0x0,1,0x0,[⟨0,32,.rw⟩]⟩,
  ⟨0x4c,0x0,1,0x0,[⟨0,32,.rw⟩]⟩,
  ⟨0x50,0x0,1,0x0,[⟨0,1,.wo⟩, ⟨1,1,.wo⟩]⟩,
  ⟨0x54,0x0,1,0x0,[⟨0,1,.w1c⟩]⟩,
  ⟨0x58,0x0,1,0x0,[⟨0,16,.rc⟩, ⟨16,16,.rc⟩]⟩,
  ⟨0x5c,0x0,1,0x0,[⟨0,12,.ro⟩]⟩,
  ⟨0x60,0x0,1,0x0,[⟨0,32,.ro⟩]⟩,
  ⟨0x64,0x0,1,0xfff0000,[⟨0,1,.w1s⟩, ⟨16,12,.rw⟩]⟩]
def rows_SCAN : List RRow := [
  ⟨0x80,0x0,1,0x301900a,[⟨0,8,.rws⟩, ⟨8,12,.rws⟩, ⟨20,1,.rws⟩, ⟨21,1,.rws⟩, ⟨24,4,.rws⟩]⟩,
  ⟨0x84,0x0,1,0x1900190,[⟨0,12,.rws⟩, ⟨16,12,.rws⟩]⟩,
  ⟨0x88,0x0,1,0xa55d7,[⟨0,20,.rws⟩]⟩,
  ⟨0x8c,0x0,1,0x0,[⟨0,3,.ro⟩, ⟨4,1,.ro⟩, ⟨5,1,.ro⟩, ⟨6,1,.ro⟩, ⟨8,4,.ro⟩]⟩,
  ⟨0x90,0x0,1,0x0,[⟨0,20,.ro⟩]⟩,
  ⟨0x94,0x0,1,0x0,[⟨0,24,.ro⟩]⟩,
  ⟨0x98,0x0,1,0x0,[⟨0,16,.ro⟩]⟩,
  ⟨0x9c,0x0,1,0x0,[⟨0,16,.rc⟩, ⟨16,16,.rc⟩]⟩,
  ⟨0xa0,0x0,1,0x201041,[⟨0,1,.rw⟩, ⟨1,1,.w1s⟩, ⟨2,1,.w1s⟩, ⟨3,1,.w1s⟩, ⟨4,4,.rw⟩, ⟨8,8,.rw⟩, ⟨16,16,.rw⟩]⟩,
  ⟨0xa4,0x0,1,0x0,[⟨0,1,.ro⟩, ⟨1,1,.ro⟩, ⟨8,8,.ro⟩, ⟨16,16,.ro⟩]⟩,
  ⟨0xa8,0x0,1,0x0,[⟨0,8,.rc⟩, ⟨8,8,.rc⟩, ⟨16,8,.rc⟩, ⟨24,8,.rc⟩]⟩,
  ⟨0xb0,0x8,6,0x0,[⟨0,16,.rw⟩, ⟨16,16,.rw⟩]⟩,
  ⟨0xb4,0x8,6,0x0,[⟨0,16,.rw⟩]⟩,
  ⟨0x100,0x0,1,0x0,[⟨0,16,.rw⟩, ⟨16,8,.rw⟩]⟩,
  ⟨0x104,0x0,1,0x0,[⟨0,16,.rw⟩, ⟨16,1,.rw⟩]⟩,
  ⟨0x108,0x0,1,0x8000,[⟨0,16,.ro⟩, ⟨16,8,.ro⟩, ⟨24,1,.ro⟩, ⟨25,1,.ro⟩, ⟨26,2,.ro⟩]⟩]
def rows_VIDEO : List RRow := [
  ⟨0x40,0x0,1,0x0,[⟨0,1,.rws⟩, ⟨1,1,.rws⟩, ⟨2,2,.rws⟩, ⟨16,16,.rws⟩]⟩,
  ⟨0x44,0x0,1,0x82ca0,[⟨0,20,.rws⟩]⟩,
  ⟨0x48,0x0,1,0xa418820,[⟨0,30,.rws⟩]⟩,
  ⟨0x4c,0x0,1,0x18b524e6,[⟨0,30,.rws⟩]⟩,
  ⟨0x50,0x0,1,0x83dcd,[⟨0,20,.rws⟩]⟩,
  ⟨0x54,0x0,1,0x237d627,[⟨0,27,.rws⟩]⟩,
  ⟨0x58,0x0,1,0x0,[⟨0,1,.ro⟩, ⟨1,1,.ro⟩, ⟨2,1,.ro⟩, ⟨3,1,.ro⟩]⟩,
  ⟨0x5c,0x0,1,0x0,[⟨0,32,.ro⟩]⟩]
def rows_BLDC_0 : List RRow := [
  ⟨0x40,0x0,1,0x10a2,[⟨0,1,.rws⟩, ⟨1,2,.rws⟩, ⟨3,1,.w1s⟩, ⟨4,2,.rws⟩, ⟨6,1,.rws⟩, ⟨7,1,.rws⟩, ⟨8,2,.rws⟩, ⟨10,1,.rws⟩, ⟨11,1,.rw⟩, ⟨12,1,.rws⟩]⟩,
  ⟨0x44,0x0,1,0x0,[⟨0,20,.rws⟩]⟩,
  ⟨0x48,0x0,1,0xc3500002,[⟨0,4,.rws⟩, ⟨16,16,.rws⟩]⟩,
  ⟨0x4c,0x0,1,0xc801f4,[⟨0,16,.rws⟩, ⟨16,16,.rws⟩]⟩,
  ⟨0x50,0x0,1,0x3e8,[⟨0,16,.rws⟩]⟩,
  ⟨0x54,0x0,1,0xa0190,[⟨0,10,.rws⟩, ⟨16,8,.rws⟩]⟩,
  ⟨0x58,0x0,1,0x640001,[⟨0,2,.rws⟩, ⟨16,16,.rws⟩]⟩,
  ⟨0x5c,0x0,1,0xfa007d0,[⟨0,16,.rws⟩, ⟨16,16,.rws⟩]⟩,
  ⟨0x60,0x0,1,0xb580320,[⟨0,12,.rws⟩, ⟨16,12,.rws⟩]⟩,
  ⟨0x64,0x0,1,0x27102710,[⟨0,16,.rws⟩, ⟨16,16,.rws⟩]⟩,
  ⟨0x68,0x0,1,0x1000040,[⟨0,16,.rws⟩, ⟨16,16,.rws⟩]⟩,
  ⟨0x6c,0x0,1,0x7d001f4,[⟨0,16,.rws⟩, ⟨16,16,.rws⟩]⟩,
  ⟨0x70,0x0,1,0xc807d0,[⟨0,16,.rws⟩, ⟨16,16,.rws⟩]⟩,
  ⟨0x74,0x0,1,0x3e803e8,[⟨0,16,.rws⟩, ⟨16,16,.rws⟩]⟩,
  ⟨0x78,0x0,1,0x140c83c,[⟨0,10,.rws⟩, ⟨10,10,.rws⟩, ⟨20,8,.rws⟩]⟩,
  ⟨0x7c,0x0,1,0x107d0,[⟨0,16,.rws⟩, ⟨16,4,.rws⟩]⟩,
  ⟨0x80,0x0,1,0x3200c814,[⟨0,8,.rws⟩, ⟨8,16,.rws⟩, ⟨24,8,.rws⟩]⟩,
  ⟨0x84,0x0,1,0xbb8053c,[⟨0,8,.rws⟩, ⟨8,8,.rws⟩, ⟨16,16,.rws⟩]⟩,
  ⟨0x88,0x0,1,0x320005,[⟨0,16,.rws⟩, ⟨16,8,.rws⟩]⟩,
  ⟨0x8c,0x0,1,0x1914,[⟨0,8,.rws⟩, ⟨8,8,.rws⟩]⟩]
def rows_BLDC_1 : List RRow := [
  ⟨0x90,0x0,1,0x0,[⟨0,1,.ro⟩, ⟨1,1,.ro⟩, ⟨2,1,.ro⟩, ⟨3,1,.ro⟩, ⟨4,1,.ro⟩, ⟨5,1,.ro⟩, ⟨6,2,.ro⟩]⟩,
  ⟨0x94,0x0,1,0x0,[⟨0,24,.ro⟩]⟩,
  ⟨0x98,0x0,1,0x0,[⟨0,20,.ro⟩]⟩,
  ⟨0x9c,0x0,1,0x0,[⟨0,16,.ro⟩]⟩,
  ⟨0xa0,0x0,1,0x0,[⟨0,16,.ro⟩, ⟨16,16,.ro⟩]⟩,
  ⟨0xa4,0x0,1,0x0,[⟨0,16,.ro⟩]⟩,
  ⟨0xa8,0x0,1,0x0,[⟨0,8,.rc⟩, ⟨8,8,.rc⟩, ⟨16,8,.rc⟩, ⟨24,8,.rc⟩]⟩,
  ⟨0xc0,0x0,1,0x2001,[⟨0,1,.rws⟩, ⟨8,8,.rws⟩, ⟨16,16,.ro⟩]⟩,
  ⟨0xc4,0x0,1,0xa0a0000,[⟨0,16,.rws⟩, ⟨16,8,.rws⟩, ⟨24,8,.rws⟩]⟩,
  ⟨0xc8,0x0,1,0x3e8,[⟨0,16,.rws⟩, ⟨16,16,.ro⟩]⟩,
  ⟨0xd0,0x4,3,0x0,[⟨0,20,.rws⟩]⟩,
  ⟨0xe0,0x0,1,0x3221,[⟨0,2,.rws⟩, ⟨4,4,.rws⟩, ⟨8,16,.rws⟩]⟩,
  ⟨0xe4,0x0,1,0x0,[⟨0,16,.rw⟩, ⟨16,16,.ro⟩]⟩,
  ⟨0x100,0x4,16,0x0,[⟨0,16,.rws⟩, ⟨16,16,.rws⟩]⟩]
def rows_BLDC : List RRow := rows_BLDC_0 ++ rows_BLDC_1
def rows_STEP : List RRow := [
  ⟨0x40,0x0,1,0x2000,[⟨0,1,.rws⟩, ⟨1,1,.rws⟩, ⟨2,1,.rws⟩, ⟨3,1,.w1s⟩, ⟨4,1,.w1s⟩, ⟨8,4,.rws⟩, ⟨12,1,.rws⟩, ⟨13,1,.rws⟩]⟩,
  ⟨0x44,0x0,1,0x14961e64,[⟨0,8,.rws⟩, ⟨8,8,.rws⟩, ⟨16,8,.rws⟩, ⟨24,8,.rws⟩]⟩,
  ⟨0x48,0x0,1,0x324264,[⟨0,8,.rws⟩, ⟨8,2,.rws⟩, ⟨12,4,.rws⟩, ⟨16,8,.rws⟩]⟩,
  ⟨0x4c,0x0,1,0x3200000,[⟨0,32,.rws⟩]⟩,
  ⟨0x50,0x0,1,0x0,[⟨0,3,.ro⟩, ⟨4,2,.ro⟩, ⟨6,1,.ro⟩, ⟨8,4,.ro⟩]⟩,
  ⟨0x54,0x0,1,0x0,[⟨0,32,.ro⟩]⟩,
  ⟨0x58,0x0,1,0x0,[⟨0,32,.ro⟩]⟩,
  ⟨0x5c,0x0,1,0x0,[⟨0,10,.ro⟩]⟩,
  ⟨0x60,0x0,1,0x14c80000,[⟨0,10,.rws⟩, ⟨12,1,.rws⟩, ⟨13,1,.rws⟩, ⟨16,8,.rws⟩, ⟨24,8,.rws⟩]⟩,
  ⟨0x64,0x0,1,0x0,[⟨0,16,.ro⟩, ⟨16,1,.ro⟩, ⟨17,1,.ro⟩]⟩,
  ⟨0x68,0x0,1,0x0,[⟨0,8,.rc⟩, ⟨8,8,.rc⟩, ⟨16,8,.rc⟩]⟩]
def rows_MOTION : List RRow := [
  ⟨0x40,0x4,4,0x0,[⟨0,32,.rw⟩]⟩,
  ⟨0x50,0x0,1,0x0,[⟨0,1,.wo⟩, ⟨8,1,.w1c⟩]⟩,
  ⟨0x54,0x0,1,0x502,[⟨0,2,.rw⟩, ⟨8,8,.rw⟩]⟩,
  ⟨0x58,0x0,1,0x0,[⟨0,4,.ro⟩, ⟨4,4,.ro⟩, ⟨8,4,.ro⟩, ⟨12,4,.ro⟩]⟩,
  ⟨0x5c,0x0,1,0x0,[⟨0,32,.ro⟩]⟩]
def rows_LOOP : List RRow := [
  ⟨0x40,0x0,1,0x0,[⟨0,32,.ro⟩]⟩,
  ⟨0x44,0x0,1,0x0,[⟨0,8,.ro⟩, ⟨8,8,.ro⟩, ⟨16,8,.ro⟩]⟩]
def rows_LOOPCH_0 : List RRow := [
  ⟨0x100,0x80,8,0x8,[⟨0,1,.rw⟩, ⟨1,1,.w1s⟩, ⟨2,1,.w1s⟩, ⟨3,1,.rw⟩, ⟨4,1,.w1s⟩]⟩,
  ⟨0x104,0x80,8,0x186a0,[⟨0,17,.rws⟩]⟩,
  ⟨0x108,0x80,8,0x0,[⟨0,17,.rws⟩]⟩,
  ⟨0x10c,0x80,8,0x0,[⟨0,32,.rws⟩]⟩,
  ⟨0x110,0x80,8,0x0,[⟨0,31,.rws⟩]⟩,
  ⟨0x114,0x80,8,0x0,[⟨0,32,.rws⟩]⟩,
  ⟨0x118,0x80,8,0x0,[⟨0,32,.rws⟩]⟩,
  ⟨0x11c,0x80,8,0x0,[⟨0,32,.rws⟩]⟩,
  ⟨0x120,0x80,8,0x320400,[⟨0,6,.rws⟩, ⟨8,8,.rws⟩, ⟨16,16,.rws⟩]⟩,
  ⟨0x124,0x80,8,0x1000000,[⟨0,32,.rws⟩]⟩,
  ⟨0x128,0x80,8,0x0,[⟨0,32,.rws⟩]⟩,
  ⟨0x12c,0x80,8,0x0,[⟨0,1,.rws⟩]⟩,
  ⟨0x130,0x80,8,0x0,[⟨0,2,.ro⟩, ⟨2,1,.ro⟩, ⟨3,1,.ro⟩, ⟨4,1,.ro⟩, ⟨5,1,.ro⟩, ⟨8,8,.ro⟩, ⟨16,16,.ro⟩]⟩,
  ⟨0x134,0x80,8,0x0,[⟨0,32,.ro⟩]⟩,
  ⟨0x138,0x80,8,0x0,[⟨0,32,.ro⟩]⟩,
  ⟨0x13c,0x80,8,0x0,[⟨0,32,.ro⟩]⟩,
  ⟨0x140,0x80,8,0x0,[⟨0,32,.ro⟩]⟩,
  ⟨0x144,0x80,8,0x0,[⟨0,32,.ro⟩]⟩,
  ⟨0x148,0x80,8,0x0,[⟨0,32,.ro⟩]⟩,
  ⟨0x14c,0x80,8,0x0,[⟨0,32,.ro⟩]⟩]
def rows_LOOPCH_1 : List RRow := [
  ⟨0x150,0x80,8,0x0,[⟨0,32,.ro⟩]⟩,
  ⟨0x154,0x80,8,0x0,[⟨0,32,.ro⟩]⟩,
  ⟨0x158,0x80,8,0x0,[⟨0,32,.rws⟩]⟩,
  ⟨0x15c,0x80,8,0x0,[⟨0,32,.rws⟩]⟩,
  ⟨0x160,0x80,8,0x0,[⟨0,32,.rws⟩]⟩,
  ⟨0x164,0x80,8,0x0,[⟨0,32,.rws⟩]⟩,
  ⟨0x168,0x80,8,0x0,[⟨0,32,.rws⟩]⟩,
  ⟨0x16c,0x80,8,0x0,[⟨0,16,.rc⟩]⟩]
def rows_LOOPCH : List RRow := rows_LOOPCH_0 ++ rows_LOOPCH_1
def rows_LOOPC_0 : List RRow := [
  ⟨0x40,0x0,1,0x0,[⟨0,16,.rc⟩, ⟨16,8,.ro⟩]⟩,
  ⟨0x100,0xc0,16,0,[⟨0,3,.rw⟩]⟩,
  ⟨0x104,0xc0,16,0,[⟨0,32,.rw⟩]⟩,
  ⟨0x108,0xc0,16,0,[⟨0,32,.rw⟩]⟩,
  ⟨0x10c,0xc0,16,0,[⟨0,32,.rw⟩]⟩,
  ⟨0x110,0xc0,16,0,[⟨0,32,.rw⟩]⟩,
  ⟨0x114,0xc0,16,0,[⟨0,32,.rw⟩]⟩,
  ⟨0x118,0xc0,16,0,[⟨0,32,.rw⟩]⟩,
  ⟨0x11c,0xc0,16,0,[⟨0,32,.rw⟩]⟩,
  ⟨0x120,0xc0,16,0,[⟨0,32,.rw⟩]⟩,
  ⟨0x124,0xc0,16,0,[⟨0,32,.rw⟩]⟩,
  ⟨0x128,0xc0,16,0,[⟨0,32,.rw⟩]⟩,
  ⟨0x12c,0xc0,16,0,[⟨0,32,.rw⟩]⟩,
  ⟨0x130,0xc0,16,0,[⟨0,32,.rw⟩]⟩,
  ⟨0x134,0xc0,16,0,[⟨0,32,.rw⟩]⟩,
  ⟨0x138,0xc0,16,0,[⟨0,32,.rw⟩]⟩,
  ⟨0x13c,0xc0,16,0,[⟨0,32,.rw⟩]⟩,
  ⟨0x140,0xc0,16,0,[⟨0,32,.rw⟩]⟩,
  ⟨0x144,0xc0,16,0,[⟨0,32,.rw⟩]⟩,
  ⟨0x148,0xc0,16,0,[⟨0,32,.rw⟩]⟩]
def rows_LOOPC_1 : List RRow := [
  ⟨0x14c,0xc0,16,0,[⟨0,32,.rw⟩]⟩,
  ⟨0x150,0xc0,16,0,[⟨0,32,.rw⟩]⟩,
  ⟨0x154,0xc0,16,0,[⟨0,32,.rw⟩]⟩,
  ⟨0x158,0xc0,16,0,[⟨0,32,.rw⟩]⟩,
  ⟨0x15c,0xc0,16,0,[⟨0,32,.rw⟩]⟩,
  ⟨0x160,0xc0,16,0,[⟨0,32,.rw⟩]⟩,
  ⟨0x164,0xc0,16,0,[⟨0,32,.rw⟩]⟩,
  ⟨0x168,0xc0,16,0,[⟨0,32,.rw⟩]⟩,
  ⟨0x16c,0xc0,16,0,[⟨0,32,.rw⟩]⟩,
  ⟨0x170,0xc0,16,0,[⟨0,32,.rw⟩]⟩,
  ⟨0x174,0xc0,16,0,[⟨0,32,.rw⟩]⟩,
  ⟨0x178,0xc0,16,0,[⟨0,32,.rw⟩]⟩,
  ⟨0x17c,0xc0,16,0,[⟨0,32,.rw⟩]⟩,
  ⟨0x180,0xc0,16,0,[⟨0,32,.rw⟩]⟩,
  ⟨0x184,0xc0,16,0,[⟨0,32,.rw⟩]⟩,
  ⟨0x188,0xc0,16,0,[⟨0,32,.rw⟩]⟩]
def rows_LOOPC : List RRow := rows_LOOPC_0 ++ rows_LOOPC_1
def rows_FUSER : List RRow := [
  ⟨0x40,0x0,1,0xaf00b9,[⟨0,9,.rws⟩, ⟨16,9,.rws⟩]⟩,
  ⟨0x44,0x0,1,0x190500a5,[⟨0,9,.rws⟩, ⟨16,8,.rws⟩, ⟨24,8,.rws⟩]⟩,
  ⟨0x48,0x0,1,0x140a145a,[⟨0,8,.rws⟩, ⟨8,8,.rws⟩, ⟨16,4,.rws⟩, ⟨24,8,.rws⟩]⟩,
  ⟨0x4c,0x0,1,0x2,[⟨0,8,.rws⟩, ⟨8,1,.w1s⟩]⟩,
  ⟨0x50,0x0,1,0xf6e03e8,[⟨0,16,.rws⟩, ⟨16,16,.rws⟩]⟩,
  ⟨0x54,0x0,1,0x64,[⟨0,16,.rws⟩]⟩,
  ⟨0x58,0x0,1,0x500a0064,[⟨0,16,.rws⟩, ⟨16,8,.rws⟩, ⟨24,8,.rws⟩]⟩,
  ⟨0x5c,0x0,1,0x0,[⟨0,10,.rw⟩, ⟨16,10,.ro⟩]⟩,
  ⟨0x60,0x0,1,0x2c,[⟨0,10,.ro⟩]⟩,
  ⟨0x64,0x0,1,0x0,[⟨0,1,.w1s⟩]⟩,
  ⟨0x68,0x0,1,0x0,[⟨0,1,.ro⟩, ⟨1,1,.ro⟩, ⟨2,1,.ro⟩, ⟨3,1,.ro⟩, ⟨4,2,.ro⟩, ⟨6,1,.ro⟩, ⟨8,2,.ro⟩]⟩,
  ⟨0x6c,0x0,1,0x0,[⟨0,16,.ro⟩, ⟨16,12,.ro⟩]⟩,
  ⟨0x70,0x0,1,0x0,[⟨0,16,.ro⟩]⟩,
  ⟨0x74,0x0,1,0x0,[⟨0,8,.ro⟩, ⟨8,8,.ro⟩]⟩]
def rows_HV : List RRow := [
  ⟨0x40,0x0,1,0xfe3efd76,[⟨0,16,.rws⟩, ⟨16,16,.rws⟩]⟩,
  ⟨0x44,0x0,1,0x640096,[⟨0,10,.rws⟩, ⟨16,10,.rws⟩]⟩,
  ⟨0x48,0x0,1,0x4b,[⟨0,10,.rws⟩]⟩,
  ⟨0x4c,0x0,1,0xfb50fb50,[⟨0,16,.rws⟩, ⟨16,16,.rws⟩]⟩,
  ⟨0x50,0x0,1,0xfc18fc18,[⟨0,16,.rws⟩, ⟨16,16,.rws⟩]⟩,
  ⟨0x54,0x0,1,0xc81388,[⟨0,16,.rws⟩, ⟨16,16,.rws⟩]⟩,
  ⟨0x58,0x0,1,0x3203,[⟨0,8,.rws⟩, ⟨8,8,.rws⟩]⟩,
  ⟨0x5c,0x0,1,0x0,[⟨0,3,.ro⟩, ⟨3,1,.ro⟩, ⟨4,1,.ro⟩, ⟨5,2,.ro⟩]⟩]
def rows_LASER : List RRow := [
  ⟨0x40,0x0,1,0x30,[⟨0,1,.rw⟩, ⟨1,1,.w1s⟩, ⟨4,2,.rw⟩]⟩,
  ⟨0x44,0x0,1,0x5a02012c,[⟨0,16,.rws⟩, ⟨16,8,.rws⟩, ⟨24,8,.rws⟩]⟩,
  ⟨0x48,0x0,1,0x32001f4,[⟨0,16,.rws⟩, ⟨16,16,.rws⟩]⟩,
  ⟨0x4c,0x0,1,0x12c0258,[⟨0,16,.rws⟩, ⟨16,16,.rws⟩]⟩,
  ⟨0x50,0x0,1,0x3ff,[⟨0,10,.rw⟩, ⟨16,10,.ro⟩]⟩,
  ⟨0x54,0x0,1,0x300,[⟨0,10,.ro⟩]⟩,
  ⟨0x58,0x0,1,0x0,[⟨0,1,.ro⟩, ⟨1,1,.ro⟩, ⟨2,2,.ro⟩, ⟨4,1,.ro⟩, ⟨5,1,.ro⟩, ⟨6,1,.ro⟩, ⟨7,1,.ro⟩]⟩,
  ⟨0x5c,0x0,1,0x0,[⟨0,16,.rc⟩, ⟨16,16,.rc⟩]⟩]
def rows_HEAD_0 : List RRow := [
  ⟨0x40,0x0,1,0x4162240,[⟨0,11,.rws⟩, ⟨12,2,.rws⟩, ⟨14,1,.rws⟩, ⟨15,1,.rws⟩, ⟨16,1,.rws⟩, ⟨17,3,.rws⟩, ⟨20,2,.rws⟩, ⟨24,4,.rws⟩]⟩,
  ⟨0x44,0x0,1,0x0,[⟨0,16,.rws⟩]⟩,
  ⟨0x48,0x0,1,0x6419,[⟨0,24,.rws⟩]⟩,
  ⟨0x4c,0x0,1,0x519960,[⟨0,12,.rws⟩, ⟨12,7,.rws⟩, ⟨20,8,.rws⟩]⟩,
  ⟨0x50,0x0,1,0x641e128a,[⟨0,12,.rws⟩, ⟨12,1,.rws⟩, ⟨16,8,.rws⟩, ⟨24,8,.rws⟩]⟩,
  ⟨0x54,0x0,1,0x65904e20,[⟨0,16,.rws⟩, ⟨16,16,.rws⟩]⟩,
  ⟨0x58,0x0,1,0xf6e0bb8,[⟨0,16,.rws⟩, ⟨16,16,.rws⟩]⟩,
  ⟨0x5c,0x0,1,0x5f603e8,[⟨0,16,.rws⟩, ⟨16,8,.rws⟩, ⟨24,4,.rws⟩]⟩,
  ⟨0x60,0x0,1,0x1f40541,[⟨0,8,.rws⟩, ⟨8,8,.rws⟩, ⟨16,16,.rws⟩]⟩,
  ⟨0x64,0x0,1,0x10f,[⟨0,8,.rws⟩, ⟨8,1,.rws⟩, ⟨9,1,.rws⟩, ⟨16,16,.rws⟩]⟩,
  ⟨0x68,0x0,1,0x640060,[⟨0,12,.rws⟩, ⟨16,8,.rws⟩]⟩,
  ⟨0x6c,0x0,1,0xd480fa0,[⟨0,16,.rws⟩, ⟨16,16,.rws⟩]⟩,
  ⟨0x70,0x0,1,0x50004e20,[⟨0,20,.rws⟩, ⟨24,8,.rws⟩]⟩,
  ⟨0x74,0x0,1,0x0,[⟨0,1,.w1s⟩, ⟨1,1,.w1s⟩]⟩,
  ⟨0x78,0x0,1,0x0,[⟨0,4,.ro⟩, ⟨4,3,.ro⟩, ⟨7,1,.ro⟩, ⟨8,1,.ro⟩, ⟨9,1,.ro⟩, ⟨16,16,.ro⟩]⟩,
  ⟨0x7c,0x0,1,0x0,[⟨0,16,.ro⟩, ⟨16,12,.ro⟩]⟩,
  ⟨0x80,0x0,1,0x0,[⟨0,12,.ro⟩, ⟨12,12,.ro⟩]⟩,
  ⟨0x84,0x0,1,0x960,[⟨0,12,.ro⟩, ⟨16,16,.ro⟩]⟩,
  ⟨0x88,0x0,1,0x0,[⟨0,16,.ro⟩, ⟨16,16,.ro⟩]⟩,
  ⟨0x8c,0x0,1,0x0,[⟨0,16,.ro⟩, ⟨16,16,.ro⟩]⟩]
def rows_HEAD_1 : List RRow := [
  ⟨0x90,0x0,1,0x0,[⟨0,16,.ro⟩]⟩,
  ⟨0x94,0x0,1,0x0,[⟨0,16,.rc⟩, ⟨16,16,.rc⟩]⟩,
  ⟨0x98,0x0,1,0x0,[⟨0,16,.rc⟩, ⟨16,8,.rc⟩, ⟨24,8,.rc⟩]⟩,
  ⟨0x9c,0x0,1,0x0,[⟨0,11,.ro⟩, ⟨16,1,.ro⟩]⟩,
  ⟨0xa0,0x0,1,0x0,[⟨0,11,.rw⟩]⟩,
  ⟨0xa4,0x0,1,0x0,[⟨0,12,.ro⟩]⟩,
  ⟨0xa8,0x0,1,0x0,[⟨0,6,.rw⟩]⟩,
  ⟨0xac,0x0,1,0x0,[⟨0,11,.rw⟩, ⟨12,2,.ro⟩, ⟨15,1,.rw⟩]⟩,
  ⟨0xb0,0x0,1,0x0,[⟨0,7,.ro⟩]⟩,
  ⟨0x100,0x4,32,0x0,[⟨0,10,.rws⟩, ⟨16,10,.rws⟩]⟩]
def rows_HEAD : List RRow := rows_HEAD_0 ++ rows_HEAD_1
def rows_PWR : List RRow := [
  ⟨0x40,0x0,1,0x0,[⟨0,1,.w1s⟩, ⟨1,1,.w1s⟩, ⟨2,1,.w1s⟩]⟩,
  ⟨0x44,0x0,1,0x0,[⟨0,16,.ro⟩, ⟨16,16,.ro⟩]⟩,
  ⟨0x48,0x0,1,0x0,[⟨0,16,.ro⟩]⟩,
  ⟨0x4c,0x0,1,0x0,[⟨0,16,.ro⟩, ⟨16,16,.ro⟩]⟩,
  ⟨0x50,0x0,1,0x0,[⟨0,16,.ro⟩]⟩,
  ⟨0x54,0x0,1,0x0,[⟨0,16,.ro⟩]⟩,
  ⟨0x100,0x10,16,0x12c0a00,[⟨0,2,.rws⟩, ⟨2,1,.rws⟩, ⟨8,8,.rws⟩, ⟨16,16,.rws⟩]⟩,
  ⟨0x104,0x10,16,0x5a0a0000,[⟨0,16,.rws⟩, ⟨16,8,.rws⟩, ⟨24,8,.rws⟩]⟩,
  ⟨0x108,0x10,16,0x10,[⟨0,2,.ro⟩, ⟨3,1,.ro⟩, ⟨4,1,.ro⟩, ⟨8,5,.ro⟩]⟩,
  ⟨0x10c,0x10,16,0x0,[⟨0,16,.ro⟩, ⟨16,16,.ro⟩]⟩]
def rows_PSEQ : List RRow := [
  ⟨0x40,0x0,1,0x0,[⟨0,8,.w1s⟩]⟩,
  ⟨0x44,0x0,1,0x0,[⟨0,1,.ro⟩, ⟨1,3,.ro⟩, ⟨4,6,.ro⟩, ⟨16,8,.ro⟩]⟩,
  ⟨0x48,0x0,1,0x0,[⟨0,6,.ro⟩, ⟨8,3,.ro⟩, ⟨16,8,.ro⟩, ⟨24,2,.ro⟩]⟩,
  ⟨0x4c,0x0,1,0x0,[⟨0,1,.rw⟩, ⟨8,2,.ro⟩, ⟨10,1,.ro⟩]⟩,
  ⟨0x50,0x0,1,0x15120a00,[⟨0,6,.rws⟩, ⟨8,6,.rws⟩, ⟨16,6,.rws⟩, ⟨24,6,.rws⟩]⟩,
  ⟨0x54,0x0,1,0x2e28221c,[⟨0,6,.rws⟩, ⟨8,6,.rws⟩, ⟨16,6,.rws⟩, ⟨24,6,.rws⟩]⟩,
  ⟨0x100,0x4,64,0x50000120,[⟨0,32,.rws⟩]⟩]
def rows_PFAULT : List RRow := [
  ⟨0x40,0x0,1,0x0,[⟨0,1,.ro⟩, ⟨1,1,.ro⟩, ⟨2,1,.ro⟩, ⟨3,1,.ro⟩, ⟨4,1,.ro⟩, ⟨5,1,.ro⟩]⟩,
  ⟨0x44,0x0,1,0x87140000,[⟨0,16,.rw⟩, ⟨16,8,.rw⟩, ⟨24,8,.rw⟩]⟩,
  ⟨0x48,0x0,1,0x1f4,[⟨0,10,.rw⟩]⟩,
  ⟨0x4c,0x0,1,0x0,[⟨0,16,.ro⟩]⟩,
  ⟨0x50,0x0,1,0x0,[⟨0,4,.ro⟩, ⟨4,4,.ro⟩, ⟨8,1,.w1c⟩, ⟨16,8,.ro⟩]⟩,
  ⟨0x54,0x0,1,0x0,[⟨0,32,.ro⟩]⟩,
  ⟨0x58,0x0,1,0x0,[⟨0,16,.rc⟩, ⟨16,16,.rc⟩]⟩]
def rows_HOLD : List RRow := [
  ⟨0x40,0x0,1,0x23285dc0,[⟨0,16,.rws⟩, ⟨16,16,.rws⟩]⟩,
  ⟨0x44,0x0,1,0x145a01f4,[⟨0,12,.rws⟩, ⟨16,8,.rws⟩, ⟨24,8,.rws⟩]⟩,
  ⟨0x48,0x0,1,0x1e00258,[⟨0,16,.rws⟩, ⟨16,16,.rws⟩]⟩,
  ⟨0x4c,0x0,1,0x1401a4,[⟨0,16,.rws⟩, ⟨16,8,.rws⟩]⟩,
  ⟨0x50,0x0,1,0x7d003e8,[⟨0,16,.rws⟩, ⟨16,12,.rws⟩]⟩,
  ⟨0x54,0x0,1,0x258,[⟨0,16,.rws⟩]⟩,
  ⟨0x58,0x0,1,0x1f4000a,[⟨0,16,.rws⟩, ⟨16,16,.rws⟩]⟩,
  ⟨0x5c,0x0,1,0x0,[⟨0,1,.w1s⟩, ⟨1,1,.w1s⟩]⟩,
  ⟨0x60,0x0,1,0x0,[⟨0,3,.ro⟩, ⟨3,1,.ro⟩, ⟨4,1,.ro⟩, ⟨5,1,.ro⟩, ⟨6,1,.ro⟩, ⟨7,1,.ro⟩, ⟨8,8,.ro⟩]⟩,
  ⟨0x64,0x0,1,0x0,[⟨0,16,.ro⟩, ⟨16,16,.ro⟩]⟩,
  ⟨0x68,0x0,1,0x0,[⟨0,32,.ro⟩]⟩,
  ⟨0x6c,0x0,1,0x0,[⟨0,16,.ro⟩, ⟨16,16,.ro⟩]⟩,
  ⟨0x70,0x0,1,0x0,[⟨0,32,.ro⟩]⟩,
  ⟨0x74,0x0,1,0x0,[⟨0,32,.ro⟩]⟩,
  ⟨0x78,0x0,1,0x0,[⟨0,32,.ro⟩]⟩,
  ⟨0x80,0x0,1,0x0,[⟨0,32,.ro⟩]⟩,
  ⟨0x84,0x0,1,0x0,[⟨0,8,.ro⟩, ⟨8,8,.ro⟩, ⟨16,8,.ro⟩, ⟨24,8,.ro⟩]⟩,
  ⟨0x88,0x0,1,0x0,[⟨0,16,.ro⟩, ⟨16,16,.ro⟩]⟩]
def rows_CLK0 : List RRow := [
  ⟨0x40,0x0,1,0x1,[⟨0,1,.rws⟩, ⟨1,1,.rws⟩, ⟨2,1,.rws⟩]⟩,
  ⟨0x44,0x0,1,0x989680,[⟨0,26,.rws⟩]⟩,
  ⟨0x48,0x0,1,0xa0064,[⟨0,16,.rws⟩, ⟨16,8,.rws⟩]⟩,
  ⟨0x4c,0x0,1,0x1020,[⟨0,8,.rws⟩, ⟨8,5,.rws⟩]⟩,
  ⟨0x50,0x0,1,0xc0,[⟨0,2,.ro⟩, ⟨2,2,.ro⟩, ⟨4,1,.ro⟩, ⟨5,1,.ro⟩, ⟨6,1,.ro⟩, ⟨7,1,.ro⟩]⟩,
  ⟨0x54,0x0,1,0x0,[⟨0,2,.ro⟩, ⟨2,1,.ro⟩, ⟨3,1,.ro⟩, ⟨4,3,.ro⟩, ⟨8,2,.ro⟩]⟩,
  ⟨0x58,0x0,1,0x0,[⟨0,2,.ro⟩, ⟨2,1,.ro⟩, ⟨3,1,.ro⟩]⟩,
  ⟨0x5c,0x0,1,0x0,[⟨0,8,.rc⟩, ⟨8,8,.rc⟩, ⟨16,8,.rc⟩]⟩,
  ⟨0x60,0x0,1,0x0,[⟨0,32,.ro⟩]⟩,
  ⟨0x64,0x0,1,0x0,[⟨0,32,.ro⟩]⟩]
def rows_CLK1 : List RRow := [
  ⟨0x40,0x0,1,0x0,[⟨0,32,.ro⟩]⟩,
  ⟨0x44,0x0,1,0x0,[⟨0,10,.ro⟩]⟩,
  ⟨0x100,0x4,64,0x0,[⟨0,8,.ro⟩, ⟨8,8,.ro⟩, ⟨16,1,.ro⟩]⟩]
def rows_OTP : List RRow := [
  ⟨0x40,0x0,1,0x0,[⟨0,1,.ro⟩, ⟨1,3,.ro⟩, ⟨4,3,.ro⟩, ⟨7,1,.ro⟩]⟩,
  ⟨0x44,0x0,1,0x0,[⟨0,16,.ro⟩, ⟨16,16,.ro⟩]⟩,
  ⟨0x48,0x0,1,0x0,[⟨0,10,.ro⟩]⟩,
  ⟨0x4c,0x0,1,0x0,[⟨0,10,.rw⟩]⟩,
  ⟨0x50,0x0,1,0x0,[⟨0,32,.ro⟩]⟩,
  ⟨0x54,0x0,1,0x0,[⟨0,7,.ro⟩]⟩,
  ⟨0x58,0x0,1,0x0,[⟨0,10,.rw⟩]⟩,
  ⟨0x5c,0x0,1,0x0,[⟨0,32,.rw⟩]⟩,
  ⟨0x60,0x0,1,0x0,[⟨0,1,.wo⟩, ⟨1,1,.wo⟩, ⟨16,16,.wo⟩]⟩,
  ⟨0x64,0x0,1,0x0,[⟨0,1,.ro⟩, ⟨1,3,.ro⟩, ⟨4,4,.ro⟩]⟩,
  ⟨0x68,0x0,1,0x0,[⟨0,32,.ro⟩]⟩]
def rows_BOOT : List RRow := [
  ⟨0x40,0x0,1,0x0,[⟨0,4,.ro⟩, ⟨4,2,.ro⟩, ⟨6,2,.ro⟩, ⟨8,1,.ro⟩, ⟨9,1,.ro⟩]⟩,
  ⟨0x44,0x0,1,0x0,[⟨0,16,.ro⟩, ⟨16,4,.ro⟩]⟩,
  ⟨0x48,0x0,1,0x0,[⟨0,32,.ro⟩]⟩,
  ⟨0x4c,0x0,1,0x0,[⟨0,7,.ro⟩, ⟨8,7,.ro⟩, ⟨16,1,.ro⟩]⟩,
  ⟨0x50,0x0,1,0x0,[⟨0,32,.ro⟩]⟩,
  ⟨0x54,0x0,1,0xa10137,[⟨0,16,.ro⟩, ⟨16,8,.ro⟩]⟩,
  ⟨0x58,0x0,1,0x0,[⟨0,16,.ro⟩]⟩,
  ⟨0x5c,0x0,1,0x0,[⟨0,32,.ro⟩]⟩]
def rows_CRYPT : List RRow := [
  ⟨0x40,0x0,1,0x1,[⟨0,1,.rws⟩]⟩,
  ⟨0x44,0x0,1,0x0,[⟨0,1,.ro⟩, ⟨1,1,.ro⟩, ⟨2,1,.ro⟩, ⟨4,3,.ro⟩]⟩,
  ⟨0x48,0x0,1,0x0,[⟨0,32,.ro⟩]⟩,
  ⟨0x4c,0x0,1,0x0,[⟨0,8,.rc⟩, ⟨8,8,.rc⟩, ⟨16,8,.rc⟩, ⟨24,8,.rc⟩]⟩]
def rows_KEYS : List RRow := [
  ⟨0x40,0x0,1,0xfffffffe,[⟨0,32,.rw⟩]⟩,
  ⟨0x44,0x0,1,0xffffffff,[⟨0,32,.rw⟩]⟩,
  ⟨0x48,0x0,1,0x3,[⟨0,32,.ro⟩]⟩,
  ⟨0x4c,0x0,1,0x0,[⟨0,16,.ro⟩]⟩,
  ⟨0x50,0x0,1,0x0,[⟨0,16,.w1s⟩]⟩,
  ⟨0x54,0x0,1,0x0,[⟨0,4,.ro⟩, ⟨8,8,.ro⟩]⟩]
def rows_TRNG : List RRow := [
  ⟨0x40,0x0,1,0x3e80100,[⟨0,16,.rw⟩, ⟨16,16,.rw⟩]⟩,
  ⟨0x44,0x0,1,0x0,[⟨0,3,.ro⟩, ⟨3,1,.ro⟩, ⟨4,1,.ro⟩, ⟨8,5,.ro⟩, ⟨13,1,.ro⟩, ⟨14,2,.ro⟩]⟩,
  ⟨0x48,0x0,1,0x0,[⟨0,8,.rc⟩, ⟨8,8,.rc⟩, ⟨16,16,.rc⟩]⟩,
  ⟨0x4c,0x0,1,0x0,[⟨0,32,.ro⟩]⟩,
  ⟨0x50,0x0,1,0x0,[⟨0,32,.ro⟩]⟩,
  ⟨0x54,0x0,1,0x31b0029,[⟨0,6,.ro⟩, ⟨16,10,.ro⟩]⟩]
def rows_LOCK : List RRow := [
  ⟨0x40,0x0,1,0x0,[⟨0,2,.ro⟩, ⟨2,1,.ro⟩, ⟨3,1,.ro⟩, ⟨4,4,.ro⟩]⟩,
  ⟨0x44,0x0,1,0x32,[⟨0,8,.rw⟩, ⟨8,1,.rw⟩]⟩,
  ⟨0x48,0x0,1,0x0,[⟨0,32,.wo⟩]⟩,
  ⟨0x4c,0x0,1,0x0,[⟨0,4,.w1s⟩]⟩,
  ⟨0x50,0x0,1,0x0,[⟨0,32,.ro⟩]⟩,
  ⟨0x54,0x0,1,0x0,[⟨0,32,.ro⟩]⟩,
  ⟨0x58,0x0,1,0x0,[⟨0,4,.ro⟩, ⟨4,4,.ro⟩, ⟨8,8,.ro⟩, ⟨16,1,.w1c⟩, ⟨24,8,.ro⟩]⟩,
  ⟨0x5c,0x0,1,0x0,[⟨0,32,.ro⟩]⟩,
  ⟨0x60,0x0,1,0x0,[⟨0,4,.ro⟩, ⟨4,4,.ro⟩, ⟨8,4,.ro⟩, ⟨16,16,.ro⟩]⟩,
  ⟨0x64,0x0,1,0x0,[⟨0,16,.wo⟩]⟩,
  ⟨0x68,0x0,1,0x0,[⟨0,16,.wo⟩, ⟨16,2,.wo⟩]⟩]
def rows_BG : List RRow := [
  ⟨0x40,0x0,1,0x100,[⟨0,9,.rws⟩, ⟨9,1,.rws⟩]⟩,
  ⟨0x44,0x0,1,0x180258,[⟨0,16,.rws⟩, ⟨16,16,.rws⟩]⟩,
  ⟨0x48,0x0,1,0x3e8,[⟨0,16,.rws⟩]⟩,
  ⟨0x4c,0x0,1,0x0,[⟨0,4,.ro⟩, ⟨8,8,.ro⟩, ⟨16,1,.ro⟩, ⟨17,1,.ro⟩]⟩,
  ⟨0x50,0x0,1,0x0,[⟨0,32,.ro⟩]⟩,
  ⟨0x54,0x0,1,0x20000000,[⟨0,32,.ro⟩]⟩,
  ⟨0x58,0x0,1,0x0,[⟨0,8,.rc⟩, ⟨8,4,.ro⟩]⟩,
  ⟨0x5c,0x0,1,0x0,[⟨0,4,.ro⟩, ⟨4,1,.ro⟩, ⟨5,1,.ro⟩]⟩,
  ⟨0x60,0x0,1,0x0,[⟨0,32,.ro⟩]⟩,
  ⟨0x64,0x0,1,0x0,[⟨0,16,.ro⟩, ⟨16,16,.ro⟩]⟩,
  ⟨0x68,0x0,1,0x0,[⟨0,32,.ro⟩]⟩,
  ⟨0x6c,0x0,1,0x0,[⟨0,32,.ro⟩]⟩]
def rows_LIFE : List RRow := [
  ⟨0x40,0x0,1,0x0,[⟨0,5,.rw⟩]⟩,
  ⟨0x44,0x0,1,0x0,[⟨0,32,.ro⟩]⟩,
  ⟨0x48,0x0,1,0x0,[⟨0,32,.ro⟩]⟩,
  ⟨0x4c,0x0,1,0x0,[⟨0,32,.ro⟩]⟩,
  ⟨0x50,0x0,1,0x0,[⟨0,1,.ro⟩, ⟨8,24,.ro⟩]⟩]
def rows_JOURNAL : List RRow := [
  ⟨0x40,0x0,1,0x0,[⟨0,2,.ro⟩, ⟨8,8,.ro⟩, ⟨16,8,.ro⟩]⟩,
  ⟨0x44,0x0,1,0x0,[⟨0,26,.ro⟩]⟩,
  ⟨0x48,0x0,1,0x0,[⟨0,32,.ro⟩]⟩,
  ⟨0x4c,0x0,1,0x0,[⟨0,16,.rc⟩, ⟨16,8,.ro⟩, ⟨24,8,.rc⟩]⟩,
  ⟨0x50,0x0,1,0x0,[⟨0,16,.ro⟩, ⟨16,16,.ro⟩]⟩,
  ⟨0x54,0x0,1,0x64,[⟨0,16,.rw⟩, ⟨16,1,.w1s⟩]⟩]
def rows_PINMUX : List RRow := [
  ⟨0x40,0x0,1,0x0,[⟨0,32,.rw⟩]⟩,
  ⟨0x44,0x0,1,0x0,[⟨0,24,.rw⟩]⟩,
  ⟨0x48,0x0,1,0x0,[⟨0,28,.rw⟩]⟩,
  ⟨0x4c,0x0,1,0x0,[⟨0,28,.rw⟩]⟩,
  ⟨0x50,0x0,1,0x0,[⟨0,28,.rw⟩]⟩,
  ⟨0x54,0x0,1,0xf02543f,[⟨0,28,.rw⟩]⟩,
  ⟨0x58,0x0,1,0x0,[⟨0,28,.ro⟩]⟩]
def rows_ADC : List RRow := [
  ⟨0x40,0x0,1,0x0,[⟨0,32,.rws⟩]⟩,
  ⟨0x44,0x0,1,0x0,[⟨0,32,.ro⟩]⟩,
  ⟨0x48,0x0,1,0x0,[⟨0,6,.ro⟩]⟩,
  ⟨0x4c,0x0,1,0x0,[⟨0,32,.ro⟩]⟩,
  ⟨0x100,0x4,32,0x0,[⟨0,12,.ro⟩, ⟨16,16,.ro⟩]⟩]
def rows_I2C : List RRow := [
  ⟨0x40,0x0,1,0xa00,[⟨0,2,.rws⟩, ⟨8,8,.rws⟩]⟩,
  ⟨0x44,0x0,1,0x0,[⟨0,7,.rw⟩, ⟨8,6,.rw⟩, ⟨16,6,.rw⟩, ⟨24,1,.w1s⟩]⟩,
  ⟨0x48,0x0,1,0x0,[⟨0,1,.ro⟩, ⟨1,1,.ro⟩, ⟨2,1,.ro⟩, ⟨3,1,.ro⟩, ⟨4,1,.ro⟩, ⟨8,6,.ro⟩]⟩,
  ⟨0x80,0x4,8,0x0,[⟨0,32,.rw⟩]⟩]
def rows_SYS : List RRow := [
  ⟨0x40,0x0,1,0xa10137,[⟨0,16,.ro⟩, ⟨16,8,.ro⟩]⟩,
  ⟨0x44,0x0,1,0x0,[⟨0,32,.ro⟩]⟩,
  ⟨0x48,0x0,1,0x0,[⟨0,32,.ro⟩]⟩,
  ⟨0x4c,0x0,1,0x0,[⟨0,32,.ro⟩]⟩,
  ⟨0x50,0x0,1,0x0,[⟨0,2,.ro⟩, ⟨8,24,.ro⟩]⟩,
  ⟨0x54,0x0,1,0x0,[⟨0,32,.ro⟩]⟩]
def rows_DEBUG : List RRow := [
  ⟨0x40,0x0,1,0x2,[⟨0,1,.ro⟩, ⟨1,1,.ro⟩, ⟨2,1,.ro⟩]⟩]

/-- The block registers of page `p`: the tables of the chapter named for the page (Table 26-1). -/
def pageRows (p : Nat) : List RRow :=
  match p with
  | 0x0 => rows_SYS
  | 0x1 => rows_TEN
  | 0x2 => rows_TQ
  | 0x3 => rows_TQ
  | 0x4 => rows_TQ
  | 0x5 => rows_TQ
  | 0x6 => rows_TQ
  | 0x7 => rows_TQ
  | 0x8 => rows_TQ
  | 0x9 => rows_TQ
  | 0xa => rows_EVT
  | 0xb => rows_BRIDGE
  | 0xc => rows_CLK0
  | 0xd => rows_CLK1
  | 0xe => rows_PWR
  | 0xf => rows_PSEQ
  | 0x10 => rows_PFAULT
  | 0x11 => rows_HOLD
  | 0x12 => rows_OTP
  | 0x13 => rows_BOOT
  | 0x14 => rows_CRYPT
  | 0x15 => rows_KEYS
  | 0x16 => rows_TRNG
  | 0x17 => rows_LOCK
  | 0x18 => rows_MEM
  | 0x19 => rows_XSPI
  | 0x1a => rows_DMA ++ rows_DMACH
  | 0x1b => rows_DMA ++ rows_DMACH
  | 0x1c => rows_CODEC
  | 0x1d => rows_GALLEY
  | 0x1e => rows_IMPO
  | 0x1f => rows_SEQ ++ rows_SCAN
  | 0x20 => rows_CS
  | 0x21 => rows_VIDEO
  | 0x22 => rows_SEQ
  | 0x23 => rows_CS
  | 0x24 => rows_HEAD
  | 0x25 => rows_BLDC
  | 0x26 => rows_BLDC
  | 0x27 => rows_BLDC
  | 0x28 => rows_STEP
  | 0x29 => rows_STEP
  | 0x2a => rows_STEP
  | 0x2b => rows_STEP
  | 0x2c => rows_MOTION
  | 0x2d => rows_LOOP ++ rows_LOOPCH
  | 0x2e => rows_LOOPC
  | 0x2f => rows_FUSER
  | 0x30 => rows_HV
  | 0x31 => rows_LASER
  | 0x32 => rows_PATH
  | 0x33 => rows_ADC
  | 0x34 => rows_ADC
  | 0x35 => rows_USB
  | 0x36 => rows_SPIT
  | 0x37 => rows_UART
  | 0x38 => rows_UART
  | 0x39 => rows_CAN
  | 0x3a => rows_I2C
  | 0x3b => rows_I2C
  | 0x3c => rows_PINMUX
  | 0x3d => rows_BG
  | 0x3e => rows_LIFE
  | 0x3f => rows_JOURNAL
  | 0x40 => rows_DEBUG
  | _ => []

/-- Reset words that differ along an array or between the pages of a block (offset in the page, word):
the reset columns that name a table or a list of values. -/
def resetOverrides (p : Nat) : List (Nat × Nat) :=
  match p with
  | 0x1 => [(0x84, 0x0), (0x88, 0x0), (0x8c, 0x0), (0x90, 0x0), (0x94, 0x0), (0x98, 0x0), (0x9c, 0x0), (0xa4, 0x0), (0xa8, 0x0), (0xac, 0x0), (0xb0, 0x0), (0xb4, 0x0), (0xb8, 0x0)]
  | 0xe => [(0x110, 0x960a00), (0x130, 0x1e0a00), (0x140, 0xa00), (0x150, 0x3200a01), (0x160, 0x7d00a01), (0x170, 0x5dc0a01), (0x180, 0x320a01), (0x190, 0xc80a01), (0x1a0, 0x5dc0a01), (0x1b0, 0xc80a00), (0x1c0, 0xa00), (0x1d0, 0xa00), (0x1e0, 0xa00), (0x1f0, 0xa00)]
  | 0xf => [(0x104, 0x10000001), (0x108, 0x43a00a00), (0x10c, 0x10000002), (0x110, 0x43a00501), (0x114, 0x10000004), (0x118, 0x43a00502), (0x11c, 0x10000008), (0x120, 0x43a00503), (0x124, 0x0), (0x128, 0x2001ffe0), (0x12c, 0x30200001), (0x130, 0x20010008), (0x134, 0x20010004), (0x138, 0x3010000a), (0x13c, 0x20010002), (0x140, 0x20010001), (0x144, 0x0), (0x148, 0x50000224), (0x14c, 0x2001ffe0), (0x150, 0x0), (0x154, 0x4383e821), (0x158, 0x10000860), (0x15c, 0x43800a05), (0x160, 0x43800a06), (0x164, 0x10000080), (0x168, 0x43800a07), (0x16c, 0x0), (0x170, 0x20000c00), (0x174, 0x41e00a25), (0x178, 0x20000080), (0x17c, 0x4201f426), (0x180, 0x20000360), (0x184, 0x0), (0x188, 0x20010008), (0x18c, 0x20010004), (0x190, 0x3010000a), (0x194, 0x20010002), (0x198, 0x20010001), (0x19c, 0x0), (0x1a0, 0x50000321), (0x1a4, 0x10000700), (0x1a8, 0x43600a08), (0x1ac, 0x43600a09), (0x1b0, 0x43600a0a), (0x1b4, 0x0), (0x1b8, 0x20010700), (0x1bc, 0x0), (0x1c0, 0x0), (0x1c4, 0x0), (0x1c8, 0x0), (0x1cc, 0x0), (0x1d0, 0x0), (0x1d4, 0x0), (0x1d8, 0x20000700), (0x1dc, 0x50000467), (0x1e0, 0x200008e0), (0x1e4, 0x50000567), (0x1e8, 0x2001000f), (0x1ec, 0x50000667), (0x1f0, 0x0), (0x1f4, 0x0), (0x1f8, 0x0), (0x1fc, 0x0)]
  | 0x1f => [(0x404, 0x8ca0), (0x408, 0x640), (0x40c, 0x4b0), (0x410, 0x3f), (0x414, 0x1f4), (0x418, 0xc), (0x41c, 0x1a7), (0x420, 0x0), (0x424, 0x0), (0x428, 0x0), (0x42c, 0x0), (0x430, 0x0), (0x434, 0x0), (0x438, 0x0), (0x43c, 0x0), (0x440, 0x0), (0x444, 0x0), (0x448, 0x0), (0x44c, 0x0), (0x450, 0x0), (0x454, 0x0), (0x458, 0x0), (0x45c, 0x0), (0x460, 0x0), (0x464, 0x0), (0x468, 0x0), (0x46c, 0x0), (0x470, 0x0), (0x474, 0x0), (0x478, 0x0), (0x47c, 0x0), (0x480, 0x0), (0x484, 0x0), (0x488, 0x0), (0x48c, 0x0), (0x490, 0x0), (0x494, 0x0), (0x498, 0x0), (0x49c, 0x0), (0x4a0, 0x0), (0x4a4, 0x0), (0x4a8, 0x0), (0x4ac, 0x0), (0x4b0, 0x0), (0x4b4, 0x0), (0x4b8, 0x0), (0x4bc, 0x0), (0x4c0, 0x0), (0x4c4, 0x0), (0x4c8, 0x0), (0x4cc, 0x0), (0x4d0, 0x0), (0x4d4, 0x0), (0x4d8, 0x0), (0x4dc, 0x0), (0x4e0, 0x0), (0x4e4, 0x0), (0x4e8, 0x0), (0x4ec, 0x0), (0x4f0, 0x0), (0x4f4, 0x0), (0x4f8, 0x0), (0x4fc, 0x0), (0x500, 0x0), (0x504, 0x0), (0x508, 0x0), (0x50c, 0x0), (0x510, 0x0), (0x514, 0x0), (0x518, 0x0), (0x51c, 0x0), (0x520, 0x0), (0x524, 0x0), (0x528, 0x0), (0x52c, 0x0), (0x530, 0x0), (0x534, 0x0), (0x538, 0x0), (0x53c, 0x0), (0x540, 0x0), (0x544, 0x0), (0x548, 0x0), (0x54c, 0x0), (0x550, 0x0), (0x554, 0x0), (0x558, 0x0), (0x55c, 0x0), (0x560, 0x0), (0x564, 0x0), (0x568, 0x0), (0x56c, 0x0), (0x570, 0x0), (0x574, 0x0), (0x578, 0x0), (0x57c, 0x0), (0x580, 0x0), (0x584, 0x0), (0x588, 0x0), (0x58c, 0x0), (0x590, 0x0), (0x594, 0x0), (0x598, 0x0), (0x59c, 0x0), (0x5a0, 0x0), (0x5a4, 0x0), (0x5a8, 0x0), (0x5ac, 0x0), (0x5b0, 0x0), (0x5b4, 0x0), (0x5b8, 0x0), (0x5bc, 0x0), (0x5c0, 0x0), (0x5c4, 0x0), (0x5c8, 0x0), (0x5cc, 0x0), (0x5d0, 0x0), (0x5d4, 0x0), (0x5d8, 0x0), (0x5dc, 0x0), (0x5e0, 0x0), (0x5e4, 0x0), (0x5e8, 0x0), (0x5ec, 0x0), (0x5f0, 0x0), (0x5f4, 0x0), (0x5f8, 0x0), (0x5fc, 0x0), (0x600, 0x0), (0x604, 0x0), (0x608, 0x0), (0x60c, 0x0), (0x610, 0x0), (0x614, 0x0), (0x618, 0x0), (0x61c, 0x0), (0x620, 0x0), (0x624, 0x0), (0x628, 0x0), (0x62c, 0x0), (0x630, 0x0), (0x634, 0x0), (0x638, 0x0), (0x63c, 0x0), (0x640, 0x0), (0x644, 0x0), (0x648, 0x0), (0x64c, 0x0), (0x650, 0x0), (0x654, 0x0), (0x658, 0x0), (0x65c, 0x0), (0x660, 0x0), (0x664, 0x0), (0x668, 0x0), (0x66c, 0x0), (0x670, 0x0), (0x674, 0x0), (0x678, 0x0), (0x67c, 0x0), (0x680, 0x0), (0x684, 0x0), (0x688, 0x0), (0x68c, 0x0), (0x690, 0x0), (0x694, 0x0), (0x698, 0x0), (0x69c, 0x0), (0x6a0, 0x0), (0x6a4, 0x0), (0x6a8, 0x0), (0x6ac, 0x0), (0x6b0, 0x0), (0x6b4, 0x0), (0x6b8, 0x0), (0x6bc, 0x0), (0x6c0, 0x0), (0x6c4, 0x0), (0x6c8, 0x0), (0x6cc, 0x0), (0x6d0, 0x0), (0x6d4, 0x0), (0x6d8, 0x0), (0x6dc, 0x0), (0x6e0, 0x0), (0x6e4, 0x0), (0x6e8, 0x0), (0x6ec, 0x0), (0x6f0, 0x0), (0x6f4, 0x0), (0x6f8, 0x0), (0x6fc, 0x0), (0x700, 0x0), (0x704, 0x0), (0x708, 0x0), (0x70c, 0x0), (0x710, 0x0), (0x714, 0x0), (0x718, 0x0), (0x71c, 0x0), (0x720, 0x0), (0x724, 0x0), (0x728, 0x0), (0x72c, 0x0), (0x730, 0x0), (0x734, 0x0), (0x738, 0x0), (0x73c, 0x0), (0x740, 0x0), (0x744, 0x0), (0x748, 0x0), (0x74c, 0x0), (0x750, 0x0), (0x754, 0x0), (0x758, 0x0), (0x75c, 0x0), (0x760, 0x0), (0x764, 0x0), (0x768, 0x0), (0x76c, 0x0), (0x770, 0x0), (0x774, 0x0), (0x778, 0x0), (0x77c, 0x0), (0x780, 0x0), (0x784, 0x0), (0x788, 0x0), (0x78c, 0x0), (0x790, 0x0), (0x794, 0x0), (0x798, 0x0), (0x79c, 0x0), (0x7a0, 0x0), (0x7a4, 0x0), (0x7a8, 0x0), (0x7ac, 0x0), (0x7b0, 0x0), (0x7b4, 0x0), (0x7b8, 0x0), (0x7bc, 0x0), (0x7c0, 0x0), (0x7c4, 0x0), (0x7c8, 0x0), (0x7cc, 0x0), (0x7d0, 0x0), (0x7d4, 0x0), (0x7d8, 0x0), (0x7dc, 0x0), (0x7e0, 0x0), (0x7e4, 0x0), (0x7e8, 0x0), (0x7ec, 0x0), (0x7f0, 0x0), (0x7f4, 0x0), (0x7f8, 0x0), (0x7fc, 0x0)]
  | 0x22 => [(0x54, 0x0), (0x400, 0x9c40), (0x404, 0x0), (0x408, 0x0), (0x40c, 0x1f4), (0x410, 0xff), (0x414, 0x0), (0x418, 0x3e8), (0x41c, 0x0), (0x420, 0x0), (0x424, 0x0), (0x428, 0x0), (0x42c, 0x0), (0x430, 0x0), (0x434, 0x0), (0x438, 0x0), (0x43c, 0x0), (0x440, 0x0), (0x444, 0x0), (0x448, 0x0), (0x44c, 0x0), (0x450, 0x0), (0x454, 0x0), (0x458, 0x0), (0x45c, 0x0), (0x460, 0x0), (0x464, 0x0), (0x468, 0x0), (0x46c, 0x0), (0x470, 0x0), (0x474, 0x0), (0x478, 0x0), (0x47c, 0x0), (0x480, 0x0), (0x484, 0x0), (0x488, 0x0), (0x48c, 0x0), (0x490, 0x0), (0x494, 0x0), (0x498, 0x0), (0x49c, 0x0), (0x4a0, 0x0), (0x4a4, 0x0), (0x4a8, 0x0), (0x4ac, 0x0), (0x4b0, 0x0), (0x4b4, 0x0), (0x4b8, 0x0), (0x4bc, 0x0), (0x4c0, 0x0), (0x4c4, 0x0), (0x4c8, 0x0), (0x4cc, 0x0), (0x4d0, 0x0), (0x4d4, 0x0), (0x4d8, 0x0), (0x4dc, 0x0), (0x4e0, 0x0), (0x4e4, 0x0), (0x4e8, 0x0), (0x4ec, 0x0), (0x4f0, 0x0), (0x4f4, 0x0), (0x4f8, 0x0), (0x4fc, 0x0), (0x500, 0x0), (0x504, 0x0), (0x508, 0x0), (0x50c, 0x0), (0x510, 0x0), (0x514, 0x0), (0x518, 0x0), (0x51c, 0x0), (0x520, 0x0), (0x524, 0x0), (0x528, 0x0), (0x52c, 0x0), (0x530, 0x0), (0x534, 0x0), (0x538, 0x0), (0x53c, 0x0), (0x540, 0x0), (0x544, 0x0), (0x548, 0x0), (0x54c, 0x0), (0x550, 0x0), (0x554, 0x0), (0x558, 0x0), (0x55c, 0x0), (0x560, 0x0), (0x564, 0x0), (0x568, 0x0), (0x56c, 0x0), (0x570, 0x0), (0x574, 0x0), (0x578, 0x0), (0x57c, 0x0), (0x580, 0x0), (0x584, 0x0), (0x588, 0x0), (0x58c, 0x0), (0x590, 0x0), (0x594, 0x0), (0x598, 0x0), (0x59c, 0x0), (0x5a0, 0x0), (0x5a4, 0x0), (0x5a8, 0x0), (0x5ac, 0x0), (0x5b0, 0x0), (0x5b4, 0x0), (0x5b8, 0x0), (0x5bc, 0x0), (0x5c0, 0x0), (0x5c4, 0x0), (0x5c8, 0x0), (0x5cc, 0x0), (0x5d0, 0x0), (0x5d4, 0x0), (0x5d8, 0x0), (0x5dc, 0x0), (0x5e0, 0x0), (0x5e4, 0x0), (0x5e8, 0x0), (0x5ec, 0x0), (0x5f0, 0x0), (0x5f4, 0x0), (0x5f8, 0x0), (0x5fc, 0x0), (0x600, 0x0), (0x604, 0x0), (0x608, 0x0), (0x60c, 0x0), (0x610, 0x0), (0x614, 0x0), (0x618, 0x0), (0x61c, 0x0), (0x620, 0x0), (0x624, 0x0), (0x628, 0x0), (0x62c, 0x0), (0x630, 0x0), (0x634, 0x0), (0x638, 0x0), (0x63c, 0x0), (0x640, 0x0), (0x644, 0x0), (0x648, 0x0), (0x64c, 0x0), (0x650, 0x0), (0x654, 0x0), (0x658, 0x0), (0x65c, 0x0), (0x660, 0x0), (0x664, 0x0), (0x668, 0x0), (0x66c, 0x0), (0x670, 0x0), (0x674, 0x0), (0x678, 0x0), (0x67c, 0x0), (0x680, 0x0), (0x684, 0x0), (0x688, 0x0), (0x68c, 0x0), (0x690, 0x0), (0x694, 0x0), (0x698, 0x0), (0x69c, 0x0), (0x6a0, 0x0), (0x6a4, 0x0), (0x6a8, 0x0), (0x6ac, 0x0), (0x6b0, 0x0), (0x6b4, 0x0), (0x6b8, 0x0), (0x6bc, 0x0), (0x6c0, 0x0), (0x6c4, 0x0), (0x6c8, 0x0), (0x6cc, 0x0), (0x6d0, 0x0), (0x6d4, 0x0), (0x6d8, 0x0), (0x6dc, 0x0), (0x6e0, 0x0), (0x6e4, 0x0), (0x6e8, 0x0), (0x6ec, 0x0), (0x6f0, 0x0), (0x6f4, 0x0), (0x6f8, 0x0), (0x6fc, 0x0), (0x700, 0x0), (0x704, 0x0), (0x708, 0x0), (0x70c, 0x0), (0x710, 0x0), (0x714, 0x0), (0x718, 0x0), (0x71c, 0x0), (0x720, 0x0), (0x724, 0x0), (0x728, 0x0), (0x72c, 0x0), (0x730, 0x0), (0x734, 0x0), (0x738, 0x0), (0x73c, 0x0), (0x740, 0x0), (0x744, 0x0), (0x748, 0x0), (0x74c, 0x0), (0x750, 0x0), (0x754, 0x0), (0x758, 0x0), (0x75c, 0x0), (0x760, 0x0), (0x764, 0x0), (0x768, 0x0), (0x76c, 0x0), (0x770, 0x0), (0x774, 0x0), (0x778, 0x0), (0x77c, 0x0), (0x780, 0x0), (0x784, 0x0), (0x788, 0x0), (0x78c, 0x0), (0x790, 0x0), (0x794, 0x0), (0x798, 0x0), (0x79c, 0x0), (0x7a0, 0x0), (0x7a4, 0x0), (0x7a8, 0x0), (0x7ac, 0x0), (0x7b0, 0x0), (0x7b4, 0x0), (0x7b8, 0x0), (0x7bc, 0x0), (0x7c0, 0x0), (0x7c4, 0x0), (0x7c8, 0x0), (0x7cc, 0x0), (0x7d0, 0x0), (0x7d4, 0x0), (0x7d8, 0x0), (0x7dc, 0x0), (0x7e0, 0x0), (0x7e4, 0x0), (0x7e8, 0x0), (0x7ec, 0x0), (0x7f0, 0x0), (0x7f4, 0x0), (0x7f8, 0x0), (0x7fc, 0x0)]
  | 0x23 => [(0x64, 0x7ff0000)]
  | 0x26 => [(0x40, 0x10e2), (0x48, 0xfa00002), (0x54, 0xa00c8), (0xc0, 0x2000), (0xd0, 0x7530), (0xd4, 0x4e20), (0xd8, 0x3a98)]
  | 0x27 => [(0x40, 0x82), (0x48, 0x17700002), (0x54, 0xa00c8), (0xc0, 0x2000)]
  | 0x2d => [(0x184, 0xfa), (0x188, 0x1), (0x204, 0x3e8), (0x208, 0x2), (0x284, 0x3e8), (0x288, 0x3), (0x304, 0x3e8), (0x308, 0x4), (0x384, 0x3e8), (0x388, 0x5), (0x404, 0x3e8), (0x408, 0x6), (0x484, 0x3e8), (0x488, 0x7)]
  | 0x32 => [(0x64, 0x12012c32), (0x68, 0x22012c32), (0x6c, 0x32012c32), (0x70, 0x2012c31), (0x74, 0x12012c30)]
  | _ => []

/-- PG_OWNER after reset: Table 26-1, and R68 for the TQ pages. -/
def ownerReset (p : Nat) : Nat :=
  if 2 ≤ p ∧ p ≤ 9 then (1 <<< (p - 2)) <<< 8 ||| 1 <<< (p - 2) ||| 1
  else match p with
  | 0xb => 0x101
  | 0x15 => 0x101
  | 0x1a => 0xffff
  | 0x1b => 0xffff
  | 0x20 => 0x1
  | 0x23 => 0x1
  | 0x2e => 0x101
  | 0x40 => 0x101
  | _ => 0x1ff

/-- NSRC of PG_CAP (R1010, Table 26-1). -/
def nsrc (p : Nat) : Nat :=
  match p with
  | 0x0 => 1
  | 0x2 => 7
  | 0x3 => 7
  | 0x4 => 7
  | 0x5 => 7
  | 0x6 => 7
  | 0x7 => 7
  | 0x8 => 7
  | 0x9 => 7
  | 0xa => 2
  | 0xc => 3
  | 0xe => 3
  | 0xf => 2
  | 0x10 => 3
  | 0x11 => 3
  | 0x12 => 2
  | 0x13 => 2
  | 0x14 => 2
  | 0x15 => 2
  | 0x16 => 4
  | 0x17 => 3
  | 0x1c => 2
  | 0x1d => 1
  | 0x1e => 2
  | 0x1f => 9
  | 0x22 => 3
  | 0x24 => 5
  | 0x25 => 5
  | 0x26 => 5
  | 0x27 => 5
  | 0x28 => 3
  | 0x29 => 3
  | 0x2a => 3
  | 0x2b => 5
  | 0x2c => 1
  | 0x2d => 16
  | 0x2f => 4
  | 0x30 => 2
  | 0x31 => 4
  | 0x32 => 5
  | 0x3a => 1
  | 0x3b => 1
  | 0x3c => 28
  | 0x3d => 3
  | 0x3f => 2
  | _ => 0

/-- The pages without a shadow-commit boundary (Table 5-2, first row; R247). -/
def noBoundary (p : Nat) : Bool :=
  p < 0xC || [0xD, 0x10, 0x12, 0x13, 0x15, 0x16, 0x17, 0x20, 0x23, 0x2E, 0x36, 0x3C, 0x3E, 0x3F, 0x40].contains p

/-- The first page of the block of page `p` (R1009, Table 26-1). -/
def blockFirst (p : Nat) : Nat :=
  if 2 ≤ p ∧ p ≤ 9 then 2
  else match p with
  | 0xd => 0xc | 0x1b => 0x1a | 0x26 => 0x25 | 0x27 => 0x25 | 0x29 => 0x28 | 0x2a => 0x28 | 0x2b => 0x28
  | 0x34 => 0x33 | 0x38 => 0x37 | 0x3b => 0x3a | _ => p

/-- Whether offset `o` is a register of row `r`. -/
def RRow.hits (r : RRow) (o : Nat) : Bool :=
  if r.stride = 0 then o == r.off
  else r.off ≤ o && (o - r.off) % r.stride == 0 && (o - r.off) / r.stride < r.count

/-- The row that defines offset `o` of page `p`, the common header first (Table 5-6). -/
def findRow (p o : Nat) : Option RRow :=
  if o < 0x40 then rows_HDR.find? (·.hits o) else (pageRows p).find? (·.hits o)

/-- The page number of an address of the register space, or none (R215). -/
def pageOf (a : Nat) : Option Nat :=
  if 0x40000000 ≤ a ∧ a ≤ 0x40040fff then some ((a - 0x40000000) / 0x1000) else none

/-- The word a register holds after a device reset (R16). -/
def resetWord (a : Nat) : BitVec 32 :=
  match pageOf a with
  | none => 0
  | some p =>
    let o := a % 0x1000
    if o = 0x24 then BitVec.ofNat 32 (ownerReset p)
    else match (resetOverrides p).find? (fun x => x.1 == o) with
      | some x => BitVec.ofNat 32 x.2
      | none => match findRow p o with
        | some r => BitVec.ofNat 32 r.rst
        | none => 0

end Sys2Proof.Machine
end

