-- ==== Sys2Proof/Machine/State.lean ====
section
/-! DEFINITION. The state of the block as plain data: every register (one sparse map over the register map of
RegMap.lean), and beside the registers the structures each chapter of the spec gives its units, the memories, and the
queue of waiting commands. -/

namespace Sys2Proof.Machine

/-- Why a step can fault. The spec gives every command of the table an effect, so no command raises a fault; the type has its one
constructor because the host's interface asks for a type. -/
inductive Fault where
  /-- Raised by no command: a name kept for a term whose operands lie outside the ranges of `Sys2Proof.WellFormed`, of which the spec
  says nothing. Safe: a stop where nothing is said. -/
  | illFormed
deriving DecidableEq, Repr

/-- Why a command can be refused. -/
inductive Refusal where
  /-- Raised by the arm of a command of the table that has no meaning yet. Safe: the model stops. -/
  | notModelled (mnemonic : String)
deriving DecidableEq, Repr

/-! ### Registers, pages, the event spine and the register bridge (spec/05_registers_events.md) -/

/-- An event record as a page raises it, before acceptance (Table 5-4). -/
structure EvRec where
  src : Nat
  ten : Nat
  code : Nat
  sev : Nat
  synth : Bool
  payload : Word
deriving DecidableEq, Repr

/-- A record in the ring: its sequence number and its timestamp beside it (R258, R259). `bad`: an uncorrectable
SRAM error made it unreadable (R1016). -/
structure RingRec where
  seq : Nat
  time : Nat
  ev : EvRec
  bad : Bool
deriving DecidableEq, Repr

/-- An active fault condition of a page (R252): its own key, its status, its severity and its DETAIL. -/
structure FaultCond where
  key : Nat
  code : Nat
  sev : Nat
  detail : Nat
deriving DecidableEq, Repr

/-- What a page holds beside its registers: the 4-entry record buffer and the count of lost records (R255, R262),
the active fault conditions (R252), the arming of FIRST (R254), the FREEZE image and its instant (R242, R243), the
SHADOW_COMMIT that waits, by channel (R246), and SOFT_RST in progress (R241). -/
structure Page where
  buf : List EvRec
  lost : Nat
  faults : List FaultCond
  firstArmed : Bool
  image : Option (List (Nat × Word))
  frozeAt : Nat
  commitWait : List Nat
  inReset : Bool
deriving DecidableEq, Repr

/-- A page after reset. -/
def Page.reset : Page := ⟨[], 0, [], true, none, 0, [], false⟩

/-- A posted register write in a tenant's queue (R221). -/
structure PostedWrite where
  addr : Nat
  data : Word
  tag : Nat
deriving DecidableEq, Repr

/-- An entry of a late-error record (Table 5-8). -/
structure LateErr where
  addr : Nat
  data : Word
  tag : Nat
  reason : Nat
deriving DecidableEq, Repr

/-- A fence that waits (R231): for whom it waits (`what` 0: the REG_FENCE command with sequence number `seq`; 1: a read
of WRITE_FENCE) and the number of completed writes it waits for. -/
structure Fence where
  what : Nat
  seq : Nat
  target : Nat
deriving DecidableEq, Repr

/-- The bridge's part of one tenant: its write queue, the number of writes posted, completed and refused since its
last reset, its late-error FIFO and the fences that wait (R220 to R232). -/
structure BridgeT where
  queue : List PostedWrite
  posted : Nat
  done : Nat
  err : Nat
  late : List LateErr
  fences : List Fence
deriving DecidableEq, Repr

/-- A tenant's bridge state after reset and after a tenant reset. -/
def BridgeT.reset : BridgeT := ⟨[], 0, 0, 0, [], []⟩

/-- The event spine: the next sequence number, the ring (newest first), the instant of the last SPINE firing of each
tenant page and the firings held back (R258, R264, R266). -/
structure Spine where
  nextSeq : Nat
  ring : List RingRec
  fired : List (Option Nat)
  heldBack : List Bool
deriving DecidableEq, Repr

/-- The spine after reset: the first record accepted has number 1 (R258). -/
def Spine.reset : Spine := ⟨1, [], List.replicate 8 none, List.replicate 8 false⟩


/-! ### Tenants, channels, sheets and jobs (spec/01 to spec/04) -/

/-- Tenant states (TQ_STAT.STATE, Table 2-6). -/
inductive TState where
  | closed | opened | faulted | resetting
deriving DecidableEq, Repr

/-- A frame accepted into a tenant's command queue (Table 3-1): the channel it came on, its opcode and SEQ, its 16 header
bytes, its payload and its tag (empty when it carried none). -/
structure Frame where
  ch : Nat
  opcode : Nat
  seq : Nat
  hdr : List Byte
  payload : List Byte
  tag : List Byte
deriving DecidableEq, Repr

/-- A response waiting in a response queue (R120, R121). `act` and `arg` say what happens when it is placed: 1 the sheet
`arg` is QUEUED (R180), 2 the session closes, 3 job slot `arg` is freed (R189), 4 the receipt of job `arg` waits for the
scheduler (R177); 0 nothing. -/
structure Resp where
  ch : Nat
  opcode : Nat
  seq : Nat
  status : Nat
  unsol : Bool
  payload : List Byte
  act : Nat
  arg : Nat
deriving DecidableEq, Repr

/-- A deferred command in progress (R161): its opcode, sequence number, channel and the values it works on. -/
structure Deferred where
  opcode : Nat
  seq : Nat
  ch : Nat
  args : List Nat
  bytes : List Byte
deriving DecidableEq, Repr

/-- An orphan record (Table 2-3). -/
structure Orphan where
  epoch : Nat
  job : Nat
  index : Nat
  final : Nat
  token : Nat
  flags : Nat
  voided : Nat
deriving DecidableEq, Repr

/-- Sheet states, in the code order of Table 1-2. -/
inductive SheetState where
  | queued | staged | held | committed | imaging | fusing | ejected | spoiled | spoiledBlank | jammed
deriving DecidableEq, Repr

/-- A layer descriptor (Table 4-8). -/
structure LayerDesc where
  source : Nat
  rop : Nat
  required : Bool
  encrypted : Bool
  keySlot : Nat
  arg : Nat
deriving DecidableEq, Repr

/-- A layer's stream in the spool (R182): the 64 KiB extents of PSRAM that hold it, its length in bytes, whether LAST was
received, the band from which a damaged header makes the stream corrupt (R343), the byte ranges (start, end) marked
corrupt after transfer errors (R299, R304), and recoded blocks (R353): band, address, length and the length replaced. -/
structure Stream where
  exts : List Nat
  len : Nat
  last : Bool
  corruptFrom : Option Nat
  bad : List (Nat × Nat)
  overExts : List (Nat × Nat × Nat × Nat)
deriving DecidableEq, Repr

/-- An empty stream. -/
def Stream.empty : Stream := ⟨[], 0, false, none, [], []⟩

/-- A laser sheet's record (R22, spec/01): identity, format, geometry, layers and their streams, state, token and flags; the
hold, release and commit attempt; the gear fixed at commit; the bands decided at their deadlines, voided bands with the
reason, partial voids (band, first line), omitted layer-bands, layer-bands that failed (layer, band, reason), layer-bands
whose fetch was posted. Instants are microseconds of `now`. -/
structure Sheet where
  tenant : Nat
  epoch : Nat
  job : Nat
  index : Nat
  bpp : Nat
  bandH : Nat
  width : Nat
  length : Nat
  top : Nat
  lines : Nat
  sizes : List Nat
  layers : List LayerDesc
  streams : List Stream
  placed : Bool
  state : SheetState
  token : Nat
  spoil : Bool
  atRisk : Bool
  integrity : Bool
  revoked : Bool
  cancelled : Bool
  gear : Nat
  blank : Bool
  released : Bool
  order : Nat
  heldAt : Nat
  selected : Bool
  tRel : Nat
  failCheck : Nat
  decided : Nat
  voided : List (Nat × Nat)
  voidFrom : List (Nat × Nat)
  omitted : List (Nat × Nat)
  failed : List (Nat × Nat × Nat)
deriving DecidableEq, Repr

/-- A job slot in use (JOB_START, R176, R177). Thermal jobs hold their one stream and their receipt's state. `told`: the job report is placed or waits. -/
structure Job where
  num : Nat
  thermal : Bool
  bpp : Nat
  bandH : Nat
  width : Nat
  rate : Nat
  energy : Nat
  state : Nat
  cut : Nat
  defined : Nat
  final : Nat
  printed : Nat
  epoch : Nat
  stream : Stream
  waiting : Bool
  told : Bool
deriving DecidableEq, Repr

/-- A form store in progress (R192): the form's number, FLAGS bit ENCODE, BPP, WIDTH, BAND_H, the data so
far, the blocks the encoder has made of it, and whether the LAST part has been taken (R193). -/
structure FormPart where
  id : Nat
  encode : Bool
  bpp : Nat
  width : Nat
  bandH : Nat
  data : List Byte
  blocks : List (List Byte)
  last : Bool
deriving DecidableEq, Repr

/-- A tenant context (spec/02, "Tenant contexts"): session state, epoch, CREDIT_LIMIT in force, agreed minor version, tags
and their slot; command and response queues and the responses that wait for room (R74); outstanding and returned
credits (R71, R123); the channel of the last accepted frame (R121); deferred commands (R161); job slots; the instants of
recent protocol errors and of the keepalive's start; orphan records (R98); event subscription (R197); bytes accepted in
the ingest window (R42); the form stores in progress; whether a session has ever been open since the
device reset (the limit in force is then the session's); and the tenant's sheet statistics. -/
structure Tenant where
  state : TState
  epoch : Nat
  limit : Nat
  minor : Nat
  tags : Bool
  tagSlot : Nat
  cmdQ : List Frame
  respQ : List Resp
  respWait : List Resp
  credOut : Nat
  retCred : Nat
  lastCh : Nat
  deferred : List Deferred
  jobs : List Job
  nextJob : Nat
  errTimes : List Nat
  keepFrom : Nat
  orphans : List Orphan
  minSev : Nat
  skipped : Nat
  winBytes : Nat
  formParts : List FormPart
  everOpen : Bool
  stats : List Nat
deriving DecidableEq, Repr

/-- A tenant after a device reset: CLOSED, CREDIT_LIMIT 16 in force, no push (MIN_SEV 7). -/
def Tenant.reset : Tenant :=
  { state := .closed, epoch := 0, limit := 16, minor := 0, tags := false, tagSlot := 0, cmdQ := [], respQ := [],
    respWait := [], credOut := 0, retCred := 0, lastCh := 16, deferred := [], jobs := [], nextJob := 1, errTimes := [],
    keepFrom := 0, orphans := [], minSev := 7, skipped := 0, winBytes := 0, formParts := [], everOpen := false,
    stats := List.replicate 10 0 }

/-- A notice waiting on a channel (R117, R119). -/
structure Notice where
  opcode : Nat
  seq : Nat
  status : Nat
  exp : Nat
deriving DecidableEq, Repr

/-- A port channel (Table 2-2): the tenant it is bound to, a binding that waits (R62), the bytes held (with their UART
error mark), the bytes still to be skipped (Table 3-2 step 2), whether a resync run is open (R115), expected and last
accepted SEQ, unsent notices, the frames being sent (marked when a response) and the tenant they are for, the bytes
of job data still expected in DMA mode and those that wait for PORT_IN (R131, R187). -/
structure Chan where
  bind : Option Nat
  pend : Option (Option Nat)
  rx : List (Byte × Bool)
  skip : Nat
  inResync : Bool
  expSeq : Option Nat
  lastSeq : Option Nat
  notices : List Notice
  out : List (Bool × List Byte)
  dmaLeft : Nat
  dmaIn : List Byte
deriving DecidableEq, Repr

/-- A channel after reset, bound as Table 2-2 gives. -/
def Chan.reset (c : Nat) : Chan :=
  { bind := if c = 0 ∨ c = 8 ∨ c = 15 then some 0 else none, pend := none, rx := [], skip := 0, inResync := false,
    expSeq := none, lastSeq := none, notices := [], out := [], dmaLeft := 0, dmaIn := [] }

/-- A USB, SPI, UART and CAN port's state beside its registers: host-enabled remote wakeup, the last
EP9 report sent (R128, R130), the status of the last refused vendor request (Table 3-5), the bytes
of the last control data stage, the wakeup signal, the wait of a re-attach (R133, R134); the SPI transaction in progress
(its command byte, 0 between transactions, its MISO bytes, whether LSTAT bit 4 is set now and whether this transaction sets it for the next) with the posted-word buffer (R139 to R146); UART bytes held back by CTS_N (R149)
and collisions of the frame being sent (R152); CAN bus-off and a recovery asked for by BOR (R158), receptions in progress and bytes still to transmit per stream (R154,
R157), WAIT frames in a row and flow control taken from the host. -/
structure Ports where
  usbWake : Bool
  usbLast : List Byte
  usbRefused : Nat
  usbIn : List Byte
  usbStall : Bool
  usbWakeSig : Bool
  reattach : Nat
  spiCmd : Nat
  spiMiso : List Byte
  spiBad : Bool
  spiMark : Bool
  wbuf : List (Nat × Word)
  ctsHeld : List Bool
  collisions : List Nat
  canBusOff : Bool
  canRx : List Bool
  canRecover : Bool
  canTx : List Nat
  canWaits : List Nat
  canBs : List Nat
  canSt : List Nat
deriving DecidableEq, Repr

/-- The ports after reset. -/
def Ports.reset : Ports :=
  { usbWake := false, usbLast := zeros 8, usbRefused := 0, usbIn := [],
    usbStall := false, usbWakeSig := false, reattach := 0, spiCmd := 0, spiMiso := [], spiBad := false, spiMark := false,
    wbuf := [], ctsHeld := [false, false], collisions := [0, 0], canBusOff := false,
    canRx := List.replicate 4 false, canRecover := false, canTx := [0, 0, 0, 0], canWaits := [0, 0, 0, 0],
    canBs := [0, 0, 0, 0], canSt := [0, 0, 0, 0] }

/-- A stored form (R192 to R195): its owner (8 for shared), its format, its address in NOR and its blocks: offset, length and
lines of each. -/
structure Form where
  owner : Nat
  id : Nat
  bpp : Nat
  bandH : Nat
  width : Nat
  base : Nat
  blocks : List (Nat × Nat × Nat)
deriving DecidableEq, Repr

/-- A scheduler's current tenant and count (spec/02, "Scheduling across tenants"). -/
structure Sched where
  cur : Nat
  used : Nat
deriving DecidableEq, Repr

/-! ### Memory and DMA (spec/06_memory_dma.md) -/

/-- The descriptor a DMA channel works on (Table 6-4): its queue slot, its words 0 to 5, the bytes written so far, the late
errors counted for its barrier, the key snapshot of a FETCH_DEC, slot and key (R855), and
whether its GCM tag matches. -/
structure ActiveDesc where
  slot : Nat
  words : List Nat
  done : Nat
  snap : Option (Nat × List Byte)
  tagOk : Bool
deriving DecidableEq, Repr

/-- The DATA_DMA chain a channel carries (R187, R296 to R305): the tenant, its epoch and the SEQ, the layer stream (job, index,
layer), the stream offset where the chain starts and the bytes its retired descriptors cover, the bytes stored, the status
so far, whether its END descriptor has retired, whether the response has been placed, and whether the sheet has reached a final
state (R306); the descriptors still to be posted, when the queue has room; and the extents it writes to. -/
structure DChain where
  ten : Nat
  epoch : Nat
  seq : Nat
  job : Nat
  index : Nat
  layer : Nat
  start : Nat
  pos : Nat
  stored : Nat
  status : Nat
  ended : Bool
  answered : Bool
  final : Bool
  todo : List (List Nat)
  exts : List Nat
deriving DecidableEq, Repr

/-- A DMA channel beside its registers: the next slot to fetch and the number queued (R286, R288), the active
descriptor, whether it waits for the acknowledgement of a BARRIER (R292), a pending stop (`some true`: drop the queue,
R307), the late-error FIFO (address, TAG, reason; R300), the late errors since the last BARRIER retired (R303), and the DATA_DMA chain
it carries. -/
structure DmaCh where
  head : Nat
  queued : Nat
  active : Option ActiveDesc
  barWait : Bool
  stop : Option Bool
  late : List (Nat × Nat × Nat)
  leSeen : Nat
  chain : Option DChain
deriving DecidableEq, Repr

/-- A channel after reset. -/
def DmaCh.reset : DmaCh := ⟨0, 0, none, false, none, [], 0, none⟩

/-! ### Codec queues and galley units (spec/07_band_codec.md, spec/08_layers.md) -/

/-- A block in a decoder queue (R337): the bytes the descriptor delivered, the length it or its envelope gives, the channel it
came through, AUX0 and AUX1, the epoch, whether its GCM tag is still to be checked (R313), and whether it is a form's. -/
structure CBlock where
  bytes : List Byte
  given : Nat
  ch : Nat
  band : Nat
  layer : Nat
  token : Nat
  job : Nat
  index : Nat
  epoch : Nat
  needTag : Bool
  form : Bool
deriving DecidableEq, Repr

/-- A raster in the encoder's queue 2 (R348, R352): a band of a form (`form`, FORM_ID in `job`) or of a job layer. -/
structure EncBlk where
  form : Bool
  ten : Nat
  epoch : Nat
  job : Nat
  index : Nat
  layer : Nat
  band : Nat
  width : Nat
  bpp : Nat
  bandH : Nat
  lines : Nat
  raster : List Byte
deriving DecidableEq, Repr

/-- The codec's queues, and whether a queue 1 block is suspended (R345). -/
structure Codec where
  q0 : List CBlock
  q1 : List CBlock
  q2 : List EncBlk
  suspended : Bool
deriving DecidableEq, Repr

/-- States of a galley unit, in the code order of GAL_UNIT0 (Table 8-4). -/
inductive UState where
  | free | filling | ready | scanning | releasing
deriving DecidableEq, Repr

/-- A galley unit (Table 8-4): state, tenant charged, kind (0 layer-band, 1 composite, 2 thermal, 3 cache), the band it
holds (sheet, receipt, or FORM_ID in `job` with the form's owner in `index`), whether its block is decoded and its tag
settled, the instant of its last use as a cached band, and whether an uncorrectable error was found in it. -/
structure GUnit where
  state : UState
  tenant : Nat
  kind : Nat
  layer : Nat
  token : Nat
  band : Nat
  epoch : Nat
  job : Nat
  index : Nat
  part : Nat
  dec : Bool
  tag : Bool
  used : Nat
  ecc : Bool
deriving DecidableEq, Repr

/-- A FREE unit. -/
def GUnit.reset : GUnit := ⟨.free, 0xF, 0, 0, 0, 0, 0, 0, 0, 0, false, false, 0, false⟩

/-- A request of the firmware for the units of a band (R361): laser (kind 0) or thermal (kind 2), and since when it waits. -/
structure GReq where
  kind : Nat
  ten : Nat
  epoch : Nat
  job : Nat
  index : Nat
  band : Nat
  since : Nat
  told : Bool
deriving DecidableEq, Repr


/-! ### Microsequencers (spec/09_kestrel.md) -/

/-- A Kestrel sequencer beside its registers: the store's words written since it was last loaded from ROM (unlisted words are what
the load left, or nothing defined before the first load, R409, R420), whether it has been loaded; loop counters, timers (count,
running), the return stack (top first), the flags, the level lines as driven, the pulse lines whose pulse the driven block
has not yet taken, the latched conditions (bit COND - 32, R390), the entry last started or taken, and what POUT last wrote to
each port. -/
structure Seq where
  store : List (Nat × BitVec 96)
  rom : Bool
  lc : List Nat
  tm : List (Nat × Bool)
  stack : List Nat
  fz : Bool
  fn : Bool
  fc : Bool
  level : Nat
  pulse : Nat
  latch : Nat
  entry : Nat
  ports : List Nat
deriving DecidableEq, Repr

/-- A sequencer after a device reset (R409). -/
def Seq.reset : Seq :=
  { store := [], rom := false, lc := [0, 0, 0, 0], tm := List.replicate 4 (0, false), stack := [], fz := false, fn := false,
    fc := false, level := 0, pulse := 0, latch := 0, entry := 0, ports := List.replicate 16 0 }


/-! ### Scanning and video (spec/10_scan_video.md) -/

/-- An armed sheet (R447 to R453): the sheet it is, its image lines and LEAD, its line number (none before its first used-facet BD)
and whether it is gated. -/
structure Armed where
  ten : Nat
  epoch : Nat
  job : Nat
  index : Nat
  token : Nat
  lines : Nat
  lead : Nat
  line : Option Int
  gated : Bool
deriving DecidableEq, Repr

/-- SCAN and VIDEO beside their registers. Armed sheets, older first; the mask of used facets in force (R445). The window:
armed, and the instant from which it is open, in sixteenths of a cycle of CLK_SCAN (R428); the last BD's timestamp. The
revolution in progress: intervals by facet, whether a BD was synthesised in it, EOS distances by facet, whether an EOS may be
captured (R441), revolutions with an EOS update (R440). Indexing (R437): whether it runs, pulses since qualification, whether
this revolution holds a synthesised BD, the intervals of this revolution, the sums over the revolutions taken and their number.
Video: the values latched at LINE_GO, whether LINE_GO came since the BD, the line being fetched with its bytes and the line
being sent; the last APC sample and whether it has been taken since the BD; whether it is still to be delivered to L1; whether
the last SHEET_ARM0 write was refused (R897). -/
structure Scan where
  armed : List Armed
  mask : Nat
  winArmed : Bool
  openAt : Option Nat
  tLast : Option Nat
  rev : List (Nat × Nat)
  revSyn : Bool
  eos : List (Nat × Nat)
  eosOpen : Bool
  lenRevs : Nat
  idxOn : Bool
  idxK : Nat
  idxBad : Bool
  idxCur : List Nat
  idxSum : List Nat
  idxRevs : Nat
  phase : Nat
  trim : Nat
  goSeen : Bool
  fetched : List Byte
  sending : List Byte
  apc : Nat
  apcDone : Bool
  apcFresh : Bool
  armRef : Bool
deriving DecidableEq, Repr

/-- SCAN and VIDEO after a device reset. -/
def Scan.reset : Scan :=
  { armed := [], mask := 0, winArmed := false, openAt := none, tLast := none, rev := [], revSyn := false, eos := [],
    eosOpen := false, lenRevs := 0, idxOn := false, idxK := 0, idxBad := false, idxCur := [], idxSum := [0, 0, 0, 0, 0, 0],
    idxRevs := 0, phase := 0, trim := 0, goSeen := false, fetched := [], sending := [], apc := 0, apcDone := false,
    apcFresh := false, armRef := false }


/-! ### Brushless drives (spec/11_brushless.md) -/

/-- A brushless drive beside its registers; its state is STATE of its page. When the state was entered, and PWM periods since;
STOPPING because VM_BLDC sagged (R512) or for a change of phase order (R503). START above HO_UP since, speed inside the lock
window since, RUN below HO_DN since, restarts (instants), the last phase-order correction, OC periods in a row and whether this
one tripped. The loops: period count, integrators, references, the I/F angle and speed, the HFI angle, the observer's estimates
(Table "The observer": i and e in alpha and beta, w, th), sums of squared phase currents over the electrical turn, the three
duties in 2^-16. The stored curve's state is CURVE_ON. M1: BDs learned and their sum, rejections in a row, PHASE_ERR inside
PH_TOL since, the trim of R499 in ppm, what the gates do. The applied command in 2^-16 of 0.1 rpm;
whether STOPPING was entered from RUN (R474). -/
structure Bldc where
  since : Nat
  periods : Nat
  sag : Bool
  order : Bool
  hoAt : Option Nat
  lockAt : Option Nat
  lowAt : Option Nat
  restarts : List Nat
  corrAt : Option Nat
  ocRun : Nat
  ocNow : Bool
  spdInt : Int
  dInt : Int
  qInt : Int
  qRef : Int
  startAng : Int
  startSpd : Int
  iA : Int
  iB : Int
  eA : Int
  eB : Int
  w : Int
  th : Int
  sq : List Nat
  turnN : Nat
  duty : List Int
  learnN : Nat
  learnSum : Int
  rejRun : Nat
  phAt : Option Nat
  trimPpm : Int
  gates : Nat
  cmdX : Nat
  fromRun : Bool
deriving DecidableEq, Repr

/-- A drive after a device reset: OFF, all gates off. `gates` is 0 all off, 1 switching, 2 three low sides on. -/
def Bldc.reset : Bldc :=
  { since := 0, periods := 0, sag := false, order := false, hoAt := none, lockAt := none, lowAt := none, restarts := [],
    corrAt := none, ocRun := 0, ocNow := false, spdInt := 0, dInt := 0, qInt := 0, qRef := 0, startAng := 0, startSpd := 0, iA := 0,
    iB := 0, eA := 0, eB := 0, w := 0, th := 0, sq := [0, 0, 0], turnN := 0, duty := [0, 0, 0], learnN := 0, learnSum := 0,
    rejRun := 0, phAt := none, trimPpm := 0, gates := 0, cmdX := 0, fromRun := false }


/-! ### Steppers and the paper path (spec/12_steppers_path.md) -/

/-- A profile segment (Table 12-2). -/
structure Seg where
  kind : Nat
  startEn : Bool
  evt : Bool
  tag : Nat
  vEnd : Int
  ticks : Nat
  start : Nat
deriving DecidableEq, Repr

/-- A stepper axis beside its registers: queued segments, the segment that runs with its start position, start velocity and the ticks
done; the velocity now; since when it stands still; the ramp of a park (1) or of energising (2) with its start, 0 for none; whether
the bridges drive. -/
structure Axis where
  queue : List Seg
  cur : Option (Seg × Int × Int × Nat)
  vel : Int
  stillAt : Option Nat
  ramp : Nat
  rampAt : Nat
  drive : Bool
deriving DecidableEq, Repr

/-- An axis after a device reset. -/
def Axis.reset : Axis :=
  { queue := [], cur := none, vel := 0, stillAt := none, ramp := 0, rampAt := 0, drive := false }

/-- A paper sensor's debounce and fault filter (R540 to R542): the samples that differ from the
debounced state in a row with the instant of the first, and the fault kind seen with its run length. -/
structure Sns where
  run : Nat
  firstAt : Nat
  fKind : Nat
  fRun : Nat
deriving DecidableEq, Repr

/-- An input at reset. -/
def Sns.reset : Sns := ⟨0, 0, 0, 0⟩

/-- A tracker slot (Table 12-10): token, state code, the sheet (tenant, epoch, job, index), its gear, release instant and length; the
instant of its pick; the windows not yet closed (cause of Table 12-7, opening, closing) and those that wait for their reference edge
(offsets from it); whether it is still in EXPECTED; whether S1 is stopping it at the registration roller. -/
structure Slot where
  token : Nat
  state : Nat
  ten : Nat
  epoch : Nat
  job : Nat
  index : Nat
  gear : Nat
  tRel : Nat
  length : Nat
  pickAt : Nat
  wins : List (Nat × Nat × Nat)
  expected : Bool
  rel : List (Nat × Nat × Nat)
  stopping : Bool
deriving DecidableEq, Repr

/-- A FREE slot. -/
def Slot.reset : Slot :=
  { token := 0, state := 0, ten := 0, epoch := 0, job := 0, index := 0, gear := 0, tRel := 0, length := 0, pickAt := 0,
    wins := [], expected := false, rel := [], stopping := false }

/-- The path beside its registers: slots, sensors, cover inputs ILK_N, COV0_N and COV1_N (open, samples that differ), and
whether the path was found not clear since the last cover opening (R562). -/
structure Path where
  slots : List Slot
  sns : List Sns
  covers : List (Bool × Nat)
  told : Bool
deriving DecidableEq, Repr

/-- The path after a device reset; covers read closed until sampled otherwise. -/
def Path.reset : Path :=
  { slots := List.replicate 4 Slot.reset, sns := List.replicate 6 Sns.reset, covers := List.replicate 3 (false, 0),
    told := false }

/-- The laser engine beside its state code (Table 1-1): when the state was entered, causes that hold it in STOPPED (page, cause), whether it
stops after the last exit (R466, R644), the gear to change to, the gear whose change is in progress, the release that a later one
keeps GAP_MIN from (instant, length, gear), and the end assumed of a gear change (R39). -/
structure Engine where
  since : Nat
  causes : List (Nat × Nat)
  stopAfter : Bool
  pendGear : Nat
  target : Nat
  lastRel : Option (Nat × Nat × Nat)
  shiftEnd : Nat
deriving DecidableEq, Repr

/-- The engine after a device reset: COLD. -/
def Engine.reset : Engine :=
  { since := 0, causes := [], stopAfter := false, pendGear := 0, target := 1, lastRel := none, shiftEnd := 0 }


/-! ### Control loops (spec/13_loops.md) -/

/-- A loop channel beside its registers: the last measurement its source delivered and whether it was delivered since the last sample
(R573, R598), whether the next sample initialises the states (R583), the instant of the SWAP request (R590), and whether
LOOP_SATURATED has been raised since the last unsaturated sample (R581). -/
structure LoopCh where
  y : Int
  fresh : Bool
  init : Bool
  swapAt : Nat
  satTold : Bool
deriving DecidableEq, Repr


/-! ### Fuser, high voltage and laser (spec/14_fuser_hv_laser.md) -/

/-- The process outputs beside their registers. Fuser: open and short readings in a row, inside the window since, whether a correlation
test is due (R620) and the running one's start (instant, fuser and head temperature in 0.1 degC), the on-time of the
heater period in 0.1 ms, periods with no current in a row. High voltage: the channel in
bring-up and the instant its reference reaches the setpoint, channels brought up, per channel inside HV_WIN since, collapsed
since and above 110 % since; the last feedback per channel in 2^-16 of its unit. Laser: APC samples in band and samples without light
in a row. Whether a fault of the block is held (the output stays off): fuser, HV, laser. The instant the heater period began. -/
structure Proc where
  opens : Nat
  shorts : Nat
  winAt : Option Nat
  corrDue : Bool
  corr : Option (Nat × Int × Int)
  onTime : Nat
  openRun : Nat
  hvCh : Option Nat
  hvEnd : Nat
  hvUp : Nat
  hvWinAt : List (Option Nat)
  hvLowAt : List (Option Nat)
  hvOverAt : List (Option Nat)
  hvFb : List Int
  apcRun : Nat
  darkRun : Nat
  held : List Bool
  perAt : Nat
deriving DecidableEq, Repr

/-- The process outputs after a device reset: a correlation test is due (R620). -/
def Proc.reset : Proc :=
  { opens := 0, shorts := 0, winAt := none, corrDue := true, corr := none, onTime := 0, openRun := 0, hvCh := none, hvEnd := 0,
    hvUp := 0, hvWinAt := [none, none, none], hvLowAt := [none, none, none], hvOverAt := [none, none, none], hvFb := [0, 0, 0], apcRun := 0,
    darkRun := 0, held := [false, false, false], perAt := 0 }


/-! ### The thermal line head (spec/15_thermal_head.md) -/

/-- What the platen and the LINE programs are busy with: nothing, a receipt's lines, its feed before the cut, its cut, its homing, a
FEED command's feed or its cut (with the tenant). -/
inductive HdJob where
  | none | lines | cutFeed | cut | homing | feed (ten : Nat) | feedCut (ten : Nat)
deriving DecidableEq, Repr

/-- The head beside its registers. The job in hand; the next receipt line to shift, the line shifted, lines latched so far; the dots
shifted; of the line latched the width of each dot (0: it does not fire) and the four class widths; the dots fired in the two lines
before; the preheat pattern, pulses and on-time used of the line; the schedule so far in cycles; the train that runs, in cycles (0:
none); whether SHIFT_DONE, STROBE_DONE, STEP_DONE, MEAS_DONE and CUT_DONE are true. The platen: start position, boundaries passed,
the stop it is in (1 starved, 2 cancelled, 3 last line), feed lines left. Starvation stops, lines printed and cut made of the
receipt. The element being measured, elements measured in the sweep, resistances, the defect map (element, kind) by entry and
the map in force since the last line boundary (R682). Since when a gate input is asserted, or all are clear; since when VHEAD is out of its window with HEAD_EN 1;
thermistor readings in a row; whether VHEAD is inside its window; start and kind of the cut; whether a receipt whose lines are done
waits for JOB_END; whether a cut was stopped by a gate (R664); the cut (0 not
started, 1 started by CUT_GO, 2 SNS4 has become occupied since); whether a line is between LATCH and LINE_DONE, and whether a boundary
passed meanwhile. -/
structure Head where
  job : HdJob
  next : Nat
  shifted : Option Nat
  latched : Nat
  shiftDots : List Bool
  lineW : List Nat
  widths : List Nat
  h1 : List Bool
  h2 : List Bool
  pre : List Bool
  preN : Nat
  preUsed : Nat
  sched : Nat
  train : Nat
  shiftDone : Bool
  strobeDone : Bool
  stepDone : Bool
  measDone : Bool
  cutDone : Bool
  start : Int
  bounds : Nat
  stopping : Nat
  feedLeft : Nat
  stops : Nat
  printed : Nat
  cutMade : Nat
  elem : Nat
  elems : List Nat
  res : List (Nat × Nat)
  defects : List (Option (Nat × Nat))
  defsUsed : List (Option (Nat × Nat))
  condAt : Option Nat
  clearAt : Option Nat
  vhAt : Option Nat
  opens : Nat
  shorts : Nat
  vhOk : Bool
  cutAt : Nat
  cutKind : Nat
  waiting : Bool
  homeLost : Bool
  cutOn : Nat
  lineOn : Bool
  overran : Bool
deriving DecidableEq, Repr

/-- The head after a device reset. -/
def Head.reset : Head :=
  { job := .none, next := 0, shifted := none, latched := 0, shiftDots := [], lineW := [], widths := [0, 0, 0, 0], h1 := [], h2 := [],
    pre := [], preN := 0, preUsed := 0, sched := 0, train := 0, shiftDone := false, strobeDone := false, stepDone := false,
    measDone := false, cutDone := false, start := 0, bounds := 0, stopping := 0, feedLeft := 0, stops := 0, printed := 0,
    cutMade := 0, elem := 0, elems := [], res := [], defects := List.replicate 64 none, defsUsed := [],
    condAt := none, clearAt := none, vhAt := none, opens := 0, shorts := 0, vhOk := true, cutAt := 0, cutKind := 0,
    waiting := false, homeLost := false, cutOn := 0, lineOn := false, overran := false }


/-! ### Rails, the sequencer and the hold-up bank (spec/16_power.md, spec/17_ride_through.md) -/

/-- The power side beside its registers: a class A trip since the device reset (R725), the channels held off by B_ACT 1 (R738) and
those being discharged (R700), the sequencer's phase (0 idle, 1 running, 2 in a WAIT, 3 in a WAITC) and whether its next
step is the one after step 63 (R705), a wake source that waits, VIN_REF taken (R742); the instant, the VIN and the
the µs the power-fail warning lasts (R743 to R746, R771), and whether the hardware shutdown has been started by a
request that leads to OFF. -/
structure Pw where
  tripped : Bool
  clsB : Nat
  dchg : Nat
  phase : Nat
  past : Bool
  wakePend : Bool
  vinRef : Bool
  pfwAt : Nat
  pfwVin : Nat
  pfwWin : Nat
deriving DecidableEq, Repr

/-- The power side after a device reset. -/
def Pw.reset : Pw :=
  { tripped := false, clsB := 0, dchg := 0, phase := 0, past := false, wakePend := false, vinRef := false, pfwAt := 0,
    pfwVin := 0, pfwWin := 500000 }

/-- An item of the power-fail record (R773): tenant, epoch, job, sheet index (none for the receipt), token,
and once the sheet has reached its final state the status, FLAGS bits and voided bands of its report. -/
structure PfItem where
  ten : Nat
  epoch : Nat
  job : Nat
  index : Option Nat
  token : Nat
  final : Option (Nat × Nat × Nat)
deriving DecidableEq, Repr

/-- The hold-up bank beside its registers: a measurement that is due and the running one's samples and instant (R759, R760), the
first FULL after BOOT, the instant of the last stored result, what the power-fail record will say (items, lost sheets and
receipts per tenant, VBANK at PFW) and whether it has been written (R770, R773), and how the last
measurement ended: 0 not yet, 1 stored, 2 NO_BANK, 3 MEAS_TIMEOUT, 4 abandoned. -/
structure Hold where
  due : Bool
  v0 : Nat
  v1 : Nat
  t1 : Nat
  sawFull : Bool
  storedAt : Nat
  items : List PfItem
  lostSheets : List Nat
  lostRcpts : List Nat
  vbankPfw : Nat
  written : Bool
  result : Nat
deriving DecidableEq, Repr

/-- The bank after a device reset. -/
def Hold.reset : Hold :=
  { due := false, v0 := 0, v1 := 0, t1 := 0, sawFull := false, storedAt := 0, items := [], lostSheets := List.replicate 8 0,
    lostRcpts := List.replicate 8 0, vbankPfw := 0, written := false, result := 0 }


/-! ### Clocks (spec/18_clocks.md) -/

/-- The clocks beside their registers. Per domain 0 to 41 its ratio in eighths and where it stands: 0 at nominal on SYSPLL, 1 up-ramp on
SYSPLL, 2 down-ramp on the IRC, 3 at ratio 1 on the IRC, 4 up-ramp on the IRC, 5 down-ramp on SYSPLL, 6 reversing (R798, R805). The
instant phase 1 began and the reference then; whether XO_WAIT has passed at BOOT (R796); whether the XO has been QUALIFIED since the
device reset (R787). -/
structure Clk where
  doms : List (Nat × Nat)
  startAt : Nat
  oldRef : Nat
  xoOver : Bool
  xoSeen : Bool
deriving DecidableEq, Repr

/-- The clocks after a device reset: every SYSPLL domain on the IRC at ratio 1 (R796). -/
def Clk.reset : Clk :=
  { doms := List.replicate 42 (8, 3), startAt := 0, oldRef := 0, xoOver := false, xoSeen := false }


/-! ### Boot and OTP (spec/19_boot_otp_patches.md) -/

/-- A burn or finalisation in progress (R827, R829): the word and its data, the requesting tenant (0xF for the firmware), and
whether it is a finalisation. -/
structure OtpBurn where
  word : Nat
  data : Nat
  ten : Nat
  final : Bool
deriving DecidableEq, Repr

/-- The OTP array: burned words, the shadows sensed at the last BOOT, the words burned and whether INTEGRATOR has been finalised
since the last device reset, and the burn in progress (R816 to R829). -/
structure Otp where
  array : List (Nat × Word)
  shadow : List (Nat × Word)
  burned : List Nat
  finalised : Bool
  busy : Option OtpBurn
deriving DecidableEq, Repr

/-- A word that has never been burned reads 0 (Table 19-3). -/
def otpBlank (_ : Nat) : Word := 0

/-- A shipped part's OTP (DESIGN CHOICE, log entry 8): the contents the vendor burns are not in the spec, so VENDOR holds nothing
but its digest and lock, and DEVICE the feature word 0x3F, grade 1, its digest and its lock; INTEGRATOR and COUNTERS are
blank. -/
def Otp.reset : Otp :=
  { array := otpImage, shadow := [], burned := [], finalised := false, busy := none }
where
  /-- The words that do not read 0. -/
  otpImage : List (Nat × Word) := [(247, 0x89A602ED), (248, 0xFC6A61D8), (249, 0x9A7081E6), (250, 0x43BB2F19), (251, 0x6C243C2E), (252,
    0xA8591700), (253, 0x6B19609E), (254, 0xEADE8B8F), (255, 0x5AA5C33C), (258, 0x0000003F), (259, 0x00000001),
    (375, 0x83EC1A1D), (376, 0xA2A3EF31), (377, 0xAC2BCBBB), (378, 0x816F8989), (379, 0xC0AB5FD9), (380,
    0x2373870F), (381, 0x5B5573FA), (382, 0x222FFB9A), (383, 0x5AA5C33C)]

/-- A push in progress (R836 to R838): the tenant, the bytes so far and the instant of the last chunk. -/
structure Push where
  ten : Nat
  bytes : List Byte
  when : Nat
deriving DecidableEq, Repr

/-- The boot sequence beside its registers (Table 19-9): the instants BOOT was entered and the window opened, the push in
progress, a push that has reached LAST, the records of the applied bundle (R833), whether the bundle has been decided and
whether it leads to BASELINE, and the SEC_VER to which the thermometer is to be raised (R843). -/
structure Boot where
  enteredAt : Nat
  windowAt : Nat
  push : Option Push
  pushed : Option (List Byte)
  applied : List Byte
  decided : Bool
  baseline : Bool
  raiseTo : Nat
deriving DecidableEq, Repr

/-- Boot state after a device reset. -/
def Boot.reset : Boot :=
  { enteredAt := 0, windowAt := 0, push := none, pushed := none, applied := [], decided := false, baseline := false,
    raiseTo := 0 }

/-! ### Keys and random numbers (spec/20_crypto_trng.md) -/

/-- A key slot: 0 empty, 1 AES-256, 2 HMAC (3: the device root in slot 0), the key's bytes, and the load count (R854).
Its owner is the nibble of KS_OWN0 or KS_OWN1. -/
structure KeySlot where
  typ : Nat
  key : List Byte
  count : Nat
deriving DecidableEq, Repr

/-- A RANDOM_GET that waits in the DRBG's queue (R868). -/
structure RandReq where
  ten : Nat
  seq : Nat
  len : Nat
deriving DecidableEq, Repr

/-- The entropy source and the DRBG (R863 to R876): the start phase (0 none, 1 settling, 2 start-up test, 3 collecting, 4
seed ready, 5 running), samples left to settle, whether this start is a recovery and its instant; the window's position,
first sample, matches, the run of equal samples and the last sample; the group being collected and the most recent good
group (newest first); instants of recent health failures; the CTR_DRBG state (none before it is instantiated), requests
and instant since the last seed, the limits in force, and the queue. -/
structure Trng where
  phase : Nat
  settle : Nat
  recover : Bool
  startAt : Nat
  pos : Nat
  first : Bool
  hits : Nat
  run : Nat
  last : Bool
  group : List Bool
  good : List Bool
  fails : List Nat
  drbg : Option (List Byte × List Byte)
  reqs : Nat
  seedAt : Nat
  reqLim : Nat
  msLim : Nat
  queue : List RandReq
deriving DecidableEq, Repr

/-- Before the first start. -/
def Trng.reset : Trng :=
  { phase := 0, settle := 0, recover := false, startAt := 0, pos := 0, first := false, hits := 0, run := 0, last := false,
    group := [], good := [], fails := [], drbg := none, reqs := 0, seedAt := 0, reqLim := 256, msLim := 1000, queue := [] }


/-! ### The interlock block (spec/21_lockstep_safety.md) -/

/-- The interlock block beside its registers: SAFE_FINISH's instant and FINISH_MAX in
ms as taken at entry (R902), the snapshot's tokens (R897), the span's start of the watchdog
(R888), and an ACTION of LK_FORCE that waits (R909). -/
structure Lock where
  enteredAt : Nat
  finishMs : Nat
  snap : List Nat
  kickAt : Nat
  force : Nat
deriving DecidableEq, Repr

/-- The interlock block after a device reset. -/
def Lock.reset : Lock := ⟨0, 5000, [], 0, 0⟩


/-! ### Background work (spec/23_background.md) -/

/-- Life counters (Table 23-6): value, waiting increments, bound and sub-unit remainder of each of the 24 (R955). -/
structure Life where
  value : List Nat
  pend : List Nat
  bound : List Nat
  rest : List Nat
deriving DecidableEq, Repr

/-- Life counters before a mount (R957). -/
def Life.reset : Life := ⟨List.replicate 24 0, List.replicate 24 0, List.replicate 24 0, List.replicate 24 0⟩

/-- The journal beside its registers: records that wait to be written (type and body), the write failures in the OPEN segment
(R946), the known erase counts of erased segments by index (R948), segments retired (R949), TORN segments to be erased, and the power-fail record a mount found unreported, with its
address in the partition (R951, R775). -/
structure Journal where
  queue : List (Nat × List Byte)
  fails : Nat
  erases : List (Nat × Nat)
  retired : List Nat
  torn : List Nat
  pfRec : Option (Nat × List Byte)
deriving DecidableEq, Repr

/-- The journal before a mount. -/
def Journal.reset : Journal := ⟨[], 0, [], [], [], none⟩

/-- Background tasks: those that are due with the instant they fell due and whether their lateness has been told (R934); the instant
each task's period last ended; stores marked for rebuild (R937); and the calibration that runs (Table 23-2): its kind, its tenant and
its start. -/
structure Bg where
  due : List (Nat × Nat × Bool)
  last : List Nat
  rebuild : List Bool
  cal : Option (Nat × Nat)
  calAt : Nat
deriving DecidableEq, Repr

/-- Background work after a device reset. -/
def Bg.reset : Bg := ⟨[], List.replicate 9 0, [false, false], none, 0⟩

/-! ### The whole machine -/

/-- Everything the spec gives the block but the addressed memories and the queue of commands. -/
structure Dev where
  /-- registers, sparse relative to `resetWord` (Table 26-1 and the register tables). -/
  regs : List (Nat × Word)
  /-- RWS shadows written and not yet taken into use (R244), by register address. -/
  shadows : List (Nat × Word)
  /-- microseconds since VAON rose; the 1 µs always-on counter is this modulo 2^32 (R260). -/
  now : Nat
  /-- the MODEL's own counter of free values taken so far (no register of the spec). -/
  free : Nat
  /-- pages 0x00 to 0x40. -/
  pages : List Page
  /-- the event spine. -/
  spine : Spine
  /-- the bridge, per tenant. -/
  bridges : List BridgeT
  /-- the words the bridge answered the last read with (R220). -/
  lastRead : List Word
  /-- tenants T0 to T7. -/
  tenants : List Tenant
  /-- channels 0 to 15 (Table 2-2). -/
  chans : List Chan
  /-- the port machines. -/
  ports : Ports
  /-- laser sheets defined and not yet reported, in definition order. -/
  sheets : List Sheet
  /-- stored forms. -/
  forms : List Form
  /-- the laser scheduler. -/
  laserSched : Sched
  /-- the thermal scheduler. -/
  thermalSched : Sched
  /-- the global snapshot: its instant and the book registers copied (R103). -/
  globalSnap : Option (Nat × List (Nat × Word))
  /-- the TQ snapshots (R104). -/
  tqSnaps : List (Option (Nat × List (Nat × Word)))
  /-- the owner in effect of each DMA channel (R69, R70). -/
  dmaOwner : List Nat
  /-- DMA channels 0 to 15. -/
  dma : List DmaCh
  /-- SRAM words that hold flipped bits: address, and whether two bits (R271 to R273). -/
  ecc : List (Nat × Bool)
  /-- a NOR sequence in progress: 0 none, 1 program or erase, 2 suspended to serve a read (R280). -/
  norBusy : Nat
  /-- the band codec's queues. -/
  codec : Codec
  /-- the 96 galley units. -/
  units : List GUnit
  /-- band requests that wait for a grant. -/
  galReqs : List GReq
  /-- the receipt in progress: tenant, epoch and job. -/
  rcpt : Option (Nat × Nat × Nat)
  /-- bands of the receipt in progress whose block failed (R342). -/
  rcptBad : List Nat
  /-- the sequencers SCAN and LINE. -/
  seqs : List Seq
  /-- SCAN and VIDEO. -/
  scan : Scan
  /-- the drives M1, M2 and M3. -/
  motors : List Bldc
  /-- the stepper axes S1 to S4. -/
  axes : List Axis
  /-- the paper path. -/
  path : Path
  /-- the laser engine. -/
  engine : Engine
  /-- the loop channels L0 to L7. -/
  loops : List LoopCh
  /-- the instant of the last device reset, from which LOOP_TICK counts (spec/13). -/
  resetAt : Nat
  /-- fuser, high voltage and laser. -/
  proc : Proc
  /-- the thermal head. -/
  head : Head
  /-- rails and the sequencer. -/
  pw : Pw
  /-- the hold-up bank. -/
  hold : Hold
  /-- the clock sources' and domains' switch machinery. -/
  clk : Clk
  /-- the OTP array and its shadows. -/
  otp : Otp
  /-- the boot sequence. -/
  boot : Boot
  /-- key slots 0 to 15. -/
  keys : List KeySlot
  /-- the entropy source and the DRBG. -/
  trng : Trng
  /-- sealed reports made since the device reset (REPORT_SEQ, Table 20-2). -/
  reportSeq : Nat
  /-- the interlock block. -/
  lock : Lock
  /-- life counters. -/
  life : Life
  /-- the journal. -/
  journal : Journal
  /-- background tasks. -/
  bg : Bg
  /-- the level the board gives each of the 28 balls of Table 24-4 while the controller does not drive it (no register of its own; PM_IN shows it). -/
  balls : Nat
  /-- the next input of each converter's round (R997). -/
  adcNext : List Nat
  /-- WLEN and RLEN of each controller's transfer in progress. -/
  i2cRun : List (Nat × Nat)
deriving DecidableEq, Repr

/-- Every part at its reset value. -/
def Dev.reset : Dev := {
  regs := [],
  shadows := [],
  now := 0,
  free := 0,
  pages := List.replicate 65 Page.reset,
  spine := Spine.reset,
  bridges := List.replicate 8 BridgeT.reset,
  lastRead := [],
  tenants := List.replicate 8 Tenant.reset,
  chans := (List.range 16).map Chan.reset,
  ports := Ports.reset,
  sheets := [],
  forms := [],
  laserSched := ⟨0, 0⟩,
  thermalSched := ⟨0, 0⟩,
  globalSnap := none,
  tqSnaps := List.replicate 8 none,
  dmaOwner := [0xE, 0xE, 0xE, 0xE] ++ List.replicate 12 0xF,
  dma := List.replicate 16 DmaCh.reset,
  ecc := [],
  norBusy := 0,
  codec := ⟨[], [], [], false⟩,
  units := List.replicate 96 GUnit.reset,
  galReqs := [],
  rcpt := none,
  rcptBad := [],
  seqs := [Seq.reset, Seq.reset],
  scan := Scan.reset,
  motors := [Bldc.reset, Bldc.reset, Bldc.reset],
  axes := [Axis.reset, Axis.reset, Axis.reset, Axis.reset],
  path := Path.reset,
  engine := Engine.reset,
  loops := List.replicate 8 ⟨0, false, false, 0, false⟩,
  resetAt := 0,
  proc := Proc.reset,
  head := Head.reset,
  pw := Pw.reset,
  hold := Hold.reset,
  clk := Clk.reset,
  otp := Otp.reset,
  boot := Boot.reset,
  keys := List.replicate 16 ⟨0, [], 0⟩,
  trng := Trng.reset,
  reportSeq := 0,
  lock := Lock.reset,
  life := Life.reset,
  journal := Journal.reset,
  bg := Bg.reset,
  balls := 0,
  adcNext := [0, 0],
  i2cRun := [(0, 0), (0, 0)] }

/-- The addressed memories (R271): on-chip SRAM at 0x2000_0000, PSRAM at 0x6000_0000, NOR at 0x7000_0000, as byte
cells in canonical form (rising addresses, no cell equal to what an unlisted address reads as). -/
structure Mem where
  sram : List Host.Cell
  psram : List Host.Cell
  nor : List Host.Cell
deriving DecidableEq, Repr

/-- What an unlisted byte of SRAM or PSRAM reads as: 0 (DESIGN CHOICE, log entry 3). -/
def ramDefault (_ : Nat) : Byte := 0

/-- What an unlisted byte of NOR reads as: 0xFF, the erased state (DESIGN CHOICE, log entry 3). -/
def norDefault (_ : Nat) : Byte := 0xFF

/-- The canonical form of the three memories. -/
def Mem.wf (m : Mem) : Bool := swf ramDefault m.sram && swf ramDefault m.psram && swf norDefault m.nor

/-- Memories with nothing listed. -/
def Mem.reset : Mem := ⟨[], [], []⟩

/-- The state of the model: the block, its memories and the commands that wait, first in, first out. -/
structure State where
  dev : Dev
  mem : Mem
  pending : List Instr
deriving DecidableEq, Repr

/-- The machine right after VAON has risen for the first time: every register at its reset value, nothing in memory,
no command waiting. -/
def State.reset : State := ⟨Dev.reset, Mem.reset, []⟩

end Sys2Proof.Machine
end

