-- ==== Sys2Proof/Machine/Ops.lean ====
section
/-! DEFINITION. The named operations over registers, shadows, event records, page faults and posted writes that every
family shares (spec/00_scope.md R10 to R16, spec/05_registers_events.md), the way a command changes the block, the
memories, or both, and the byte accesses of the addressed memories. -/

set_option linter.unusedVariables false

namespace Sys2Proof.Machine

/-! ### How a command changes the machine -/

/-- What a command answers. -/
abbrev Out := Host.Outcome State Fault Refusal

/-- A command that changes the block only: memories and queue stay. -/
def onDev (f : Dev → Dev) (s : State) : Out := .next { s with dev := f s.dev }

/-- A command that changes the block and the addressed memories: the queue stays. -/
def onAll (f : Dev → Mem → Dev × Mem) (s : State) : Out :=
  .next { s with dev := (f s.dev s.mem).1, mem := (f s.dev s.mem).2 }

/-- Apply `f` only where `p` holds: a command whose preconditions do not hold changes nothing (log entry 4). -/
def when (p : Bool) (f : Dev → Dev) (d : Dev) : Dev := if p then f d else d

/-- `us` microseconds have passed since the instant `t`. A row of the table that stands for the end of a delay runs only where the delay the
state records has passed (log entry 4). -/
def Dev.past (d : Dev) (t us : Nat) : Bool := decide (t + us ≤ d.now)

/-! ### Registers -/

/-- The word a register holds: for an RWS register its active value. -/
def Dev.reg (d : Dev) (a : Nat) : Nat := (sget resetWord d.regs a).toNat

/-- Give a register a word. -/
def Dev.setReg (d : Dev) (a v : Nat) : Dev := { d with regs := sset resetWord d.regs a (BitVec.ofNat 32 v) }

/-- A field of a register. -/
def Dev.get (d : Dev) (f : Fld) : Nat := bitsOf (d.reg f.addr) f.lo f.w

/-- Give a field a value (modulo its width). -/
def Dev.set (d : Dev) (f : Fld) (v : Nat) : Dev := d.setReg f.addr (bitsPut (d.reg f.addr) f.lo f.w v)

/-- Whether a field is not 0. -/
def Dev.flag (d : Dev) (f : Fld) : Bool := d.get f != 0

/-- The signed value of a field. -/
def Dev.geti (d : Dev) (f : Fld) : Int := sext (d.get f) f.w

/-- Give a field a signed value. -/
def Dev.seti (d : Dev) (f : Fld) (v : Int) : Dev := d.set f (unsext v f.w)

/-- Set a flag field from a Bool. -/
def Dev.setb (d : Dev) (f : Fld) (b : Bool) : Dev := d.set f (b2n b)

/-- Add to a counter field that saturates. -/
def Dev.addSat (d : Dev) (f : Fld) (n : Nat) : Dev := d.set f (satN f.w (d.get f + n))

/-- Add to a counter field that wraps. -/
def Dev.addWrap (d : Dev) (f : Fld) (n : Nat) : Dev := d.set f (d.get f + n)

/-- Set the bits of `m` in a register. -/
def Dev.orReg (d : Dev) (a m : Nat) : Dev := d.setReg a (d.reg a ||| m)

/-- Clear the bits of `m` in a register. -/
def Dev.clrReg (d : Dev) (a m : Nat) : Dev := d.setReg a (d.reg a &&& (0xFFFFFFFF ^^^ m))

/-- Give bit `i` of a register a value. -/
def Dev.setBit (d : Dev) (a i : Nat) (b : Bool) : Dev := d.set ⟨a, i, 1⟩ (b2n b)

/-- The fields of a register, none where no table defines it (R216). -/
def fieldsOf (a : Nat) : List FRow :=
  match pageOf a with
  | none => []
  | some p => match findRow p (a % 0x1000) with
    | some r => r.flds
    | none => []

/-- Mask of the fields of a register with an access code. -/
def accMask (a : Nat) (p : Acc → Bool) : Nat :=
  (fieldsOf a).foldl (fun m f => if p f.acc then m ||| ((2 ^ f.w - 1) <<< f.lo) else m) 0

/-- The bits of `new` under the mask, the bits of `old` outside it. -/
def merge (old new m : Nat) : Nat := (old &&& (0xFFFFFFFF ^^^ m)) ||| (new &&& m)

/-- The shadow of an RWS register: what was last written, else the active value (R10). -/
def Dev.shadow (d : Dev) (a : Nat) : Nat :=
  match d.shadows.find? (fun x => x.1 == a) with
  | some x => x.2.toNat
  | none => d.reg a

/-- The shadow of an RWS field. -/
def Dev.shGet (d : Dev) (f : Fld) : Nat := bitsOf (d.shadow f.addr) f.lo f.w

/-- Set the shadow of an RWS register. -/
def Dev.setShadow (d : Dev) (a v : Nat) : Dev :=
  { d with shadows := d.shadows.filter (fun x => x.1 != a) ++ [(a, BitVec.ofNat 32 v)] }

/-- Take into use every shadow whose address satisfies `p`, together (R244, R245). -/
def Dev.takeShadows (d : Dev) (p : Nat → Bool) : Dev :=
  let due := d.shadows.filter (fun x => p x.1)
  let d1 := due.foldl (fun d x => d.setReg x.1 (merge (d.reg x.1) x.2.toNat (accMask x.1 (· == .rws)))) d
  { d1 with shadows := d.shadows.filter (fun x => ! p x.1) }

/-- What a write of `v` to register `a` does by the access codes alone (R10, R216, R217). -/
def Dev.store (d : Dev) (a v : Nat) : Dev :=
  let rw := accMask a (· == .rw)
  let c := accMask a (· == .w1c) &&& v
  let s := accMask a (· == .w1s) &&& v
  let sh := accMask a (· == .rws)
  let d1 := if rw = 0 then d else d.setReg a (merge (d.reg a) v rw)
  let d2 := if c = 0 then d1 else d1.clrReg a c
  let d3 := if s = 0 then d2 else d2.orReg a s
  if sh = 0 then d3 else d3.setShadow a (merge (d3.shadow a) v sh)

/-! ### Free values -/

/-- Take the next free value: its index, and the block with the counter advanced. -/
def Dev.fresh (d : Dev) : Nat × Dev := (d.free, { d with free := d.free + 1 })

/-! ### Pages, event records and page faults (R248 to R256, R262, R1015) -/

/-- Page `p`. -/
def Dev.page (d : Dev) (p : Nat) : Page := d.pages.getD p Page.reset

/-- Change page `p`. -/
def Dev.modPage (d : Dev) (p : Nat) (f : Page → Page) : Dev := { d with pages := lmod d.pages p f }

/-- A page posts a record into its 4-entry buffer; with the buffer full the record is lost and counted (R255, R262). -/
def Dev.post (d : Dev) (p : Nat) (r : EvRec) : Dev :=
  if (d.page p).buf.length < 4 then d.modPage p (fun q => { q with buf := q.buf ++ [r] })
  else (d.modPage p (fun q => { q with lost := q.lost + 1 })).addSat Reg.EVT_DROP_LOST 1

/-- A named record raised by hardware or firmware from page `p` (Table 5-4). -/
def Dev.raise (d : Dev) (p ten code sev payload : Nat) : Dev :=
  d.post p ⟨p, ten, code, sev, false, BitVec.ofNat 32 payload⟩

/-- A named record whose payload the spec does not give: the payload is a free value (log entry 6). -/
def Dev.raiseFree (d : Dev) (p ten code sev : Nat) : Dev :=
  let (i, d1) := d.fresh
  d1.post p ⟨p, ten, code, sev, false, Config.freeWord i⟩

/-- Set bit `b` of EVT_RAW of page `p` (R248): the firing of a source whose record another rule names (R1015). -/
def Dev.fireRaw (d : Dev) (p b : Nat) : Dev := d.setBit (Reg.EVT_RAW p) b true

/-- Source `b` of page `p` fires and raises the record of R1015: the tenant `ten` (0xF for none) and a detail. -/
def Dev.fireT (d : Dev) (p b ten detail : Nat) : Dev :=
  (d.fireRaw p b).raise p ten 0 0 (b + (detail % 65536) * 65536)

/-- Source `b` of page `p` fires, with no tenant. -/
def Dev.fire (d : Dev) (p b detail : Nat) : Dev := d.fireT p b 0xF detail

/-- The most severe of the active conditions, the first of equals (R252). -/
def worst : List FaultCond → Option FaultCond
  | [] => none
  | c :: cs => match worst cs with
    | some w => if c.sev < w.sev then some w else some c
    | none => some c

/-- Bring FAULT_CODE and FAULT_INFO of page `p` in line with its active conditions (R252, R254). -/
def Dev.refault (d : Dev) (p : Nat) : Dev :=
  let old := d.get (Reg.FAULT_CODE_CODE p)
  match worst (d.page p).faults with
  | none => ((d.set (Reg.FAULT_CODE_CODE p) 0).set (Reg.FAULT_CODE_SEV p) 0).set (Reg.FAULT_INFO_DETAIL p) 0
  | some c =>
    let d1 := ((d.set (Reg.FAULT_CODE_CODE p) c.code).set (Reg.FAULT_CODE_SEV p) c.sev).set (Reg.FAULT_INFO_DETAIL p) c.detail
    if c.code ≠ old ∧ c.code ≠ 0 ∧ (d.page p).firstArmed then
      (d1.set (Reg.FAULT_INFO_FIRST p) c.code).modPage p (fun q => { q with firstArmed := false })
    else d1

/-- A fault condition `key` becomes active on page `p`; one already active stays as it is. -/
def Dev.faultOn (d : Dev) (p key code sev detail : Nat) : Dev :=
  if (d.page p).faults.any (fun c => c.key == key) then d
  else (d.modPage p (fun q => { q with faults := q.faults ++ [⟨key, code, sev, detail⟩] })).refault p

/-- A fault condition of page `p` ends. -/
def Dev.faultOff (d : Dev) (p key : Nat) : Dev :=
  if (d.page p).faults.any (fun c => c.key == key) then
    (d.modPage p (fun q => { q with faults := q.faults.filter (fun c => c.key != key) })).refault p
  else d

/-- Every fault condition of page `p` ends. -/
def Dev.faultsOff (d : Dev) (p : Nat) : Dev :=
  if (d.page p).faults = [] then d else (d.modPage p (fun q => { q with faults := [] })).refault p

/-- Whether condition `key` is active on page `p`. -/
def Dev.faulted (d : Dev) (p key : Nat) : Bool := (d.page p).faults.any (fun c => c.key == key)

/-! ### Shadow-commit boundaries (Table 5-2, R244 to R247) -/

/-- Whether address `a` lies on page `p`. -/
def onPage (p a : Nat) : Bool := pageBase p ≤ a && a < pageBase p + 0x1000

/-- The boundary of a page that has one boundary for all its fields: every shadow is taken and a waiting SHADOW_COMMIT
clears itself. -/
def Dev.boundary (d : Dev) (p : Nat) : Dev :=
  ((d.takeShadows (onPage p)).modPage p (fun q => { q with commitWait := [] })).set (Reg.PG_CTL_SHADOW_COMMIT p) 0

/-- Bytes of a channel's registers on a per-channel page: DMA channels hold 0x40 bytes from 0x100, loop channels 0x80
from 0x100 (spec/06, spec/13). -/
def chanStride (p : Nat) : Nat := if p = 0x2D then 0x80 else 0x40

/-- Whether address `a` is a register of channel `c` of a per-channel page. -/
def onChan (p c a : Nat) : Bool :=
  pageBase p + 0x100 + chanStride p * c ≤ a && a < pageBase p + 0x100 + chanStride p * (c + 1)

/-- The boundary of one channel of a per-channel page; SHADOW_COMMIT clears once every channel has taken its own. -/
def Dev.chanBoundary (d : Dev) (p c : Nat) : Dev :=
  let d1 := (d.takeShadows (onChan p c)).modPage p (fun q => { q with commitWait := q.commitWait.filter (· != c) })
  if (d1.page p).commitWait = [] then d1.set (Reg.PG_CTL_SHADOW_COMMIT p) 0 else d1

/-! ### Tenants and their books -/

/-- Tenant `k`. -/
def Dev.ten (d : Dev) (k : Nat) : Tenant := d.tenants.getD k Tenant.reset

/-- Change tenant `k`. -/
def Dev.modTen (d : Dev) (k : Nat) (f : Tenant → Tenant) : Dev := { d with tenants := lmod d.tenants k f }

/-- The bridge's part of tenant `k`. -/
def Dev.br (d : Dev) (k : Nat) : BridgeT := d.bridges.getD k BridgeT.reset

/-- Change the bridge's part of tenant `k`. -/
def Dev.modBr (d : Dev) (k : Nat) (f : BridgeT → BridgeT) : Dev := { d with bridges := lmod d.bridges k f }

/-- Channel `c`. -/
def Dev.chan (d : Dev) (c : Nat) : Chan := d.chans.getD c (Chan.reset c)

/-- Change channel `c`. -/
def Dev.modChan (d : Dev) (c : Nat) (f : Chan → Chan) : Dev := { d with chans := lmod d.chans c f }

/-! ### Posted writes (R221 to R239) -/

/-- A write enters the write queue of tenant `k` with the next tag (R221). The caller has seen that the queue has room (R224, R143). -/
def Dev.enqWrite (d : Dev) (k a : Nat) (v : Word) : Dev :=
  d.modBr k (fun b => { b with posted := b.posted + 1, queue := b.queue ++ [⟨a, v, (b.posted + 1) % 65536⟩] })

/-- A tenant posts a write; one that arrives from a tenant in RESETTING is discarded (R234). -/
def Dev.postWrite (d : Dev) (k a : Nat) (v : Word) : Dev :=
  if (d.ten k).state = .resetting then d else d.enqWrite k a v

/-- Room in the write queue of tenant `k` (16 entries). -/
def Dev.brRoom (d : Dev) (k : Nat) : Nat := 16 - (d.br k).queue.length

/-- The oldest word of the 8-word SPI buffer moves into the write queue of channel 8's tenant when there is room (R143). -/
def Dev.spiDrain (d : Dev) : Dev :=
  match (d.chan 8).bind, d.ports.wbuf with
  | some k, (a, v) :: rest =>
    if 0 < d.brRoom k then
      let d1 := { d with ports := { d.ports with wbuf := rest } }
      d1.enqWrite k a v
    else d
  | _, _ => d

/-- The T0-only registers of Table 5-1, check 4, beside PG_OWNER and PG_LOCK. -/
def t0Only (a : Nat) (v : Word) : Bool :=
  let p := (a - 0x40000000) / 0x1000
  let o := a % 0x1000
  (p == 1 && ((0x80 ≤ o && o < 0x100) || o == 0x44 || o == 0x64 || o == 0x68)) ||
  a == Reg.KS_OWN0 || a == Reg.KS_OWN1 || a == Reg.KS_ERASE ||
  (a == Reg.PG_CTL 0x16 && bit v.toNat 1)

/-- Registers only the firmware writes: PSEQ_REQ and PSEQ_CTL (R723), LK_KICK and LK_COMMIT (spec/21), the pages SCANCS and LINECS, the
core registers and parameter RAM of SCAN and LINE (R417), SHEET_ARM0 and SHEET_ARM1 (R468). -/
def fwOnly (a : Nat) : Bool :=
  let p := (a - 0x40000000) / 0x1000
  let o := a % 0x1000
  a == Reg.PSEQ_REQ || a == Reg.PSEQ_CTL || a == Reg.LK_KICK || a == Reg.LK_COMMIT || a == Reg.SHEET_ARM0 || a == Reg.SHEET_ARM1 ||
  p == 0x20 || p == 0x23 || ((p == 0x1F || p == 0x22) && ((0x40 ≤ o && o < 0x80) || (0x400 ≤ o && o < 0x800)))

/-- Registers of a DMA channel that tenant `k` does not own (R284). -/
def Dev.dmaDenied (d : Dev) (k a : Nat) : Bool :=
  let p := (a - 0x40000000) / 0x1000
  let o := a % 0x1000
  (p == 0x1A || p == 0x1B) && 0x100 ≤ o && o < 0x300 &&
    d.dmaOwner.getD ((p - 0x1A) * 8 + (o - 0x100) / 0x40) 0xF != k

/-- The lock-exempt registers of Table 5-3. -/
def lockExempt (a : Nat) : Bool :=
  let p := (a - 0x40000000) / 0x1000
  let o := a % 0x1000
  o == 0x14 || o == 0x18 || a == Reg.BOOK_SNAP || a == Reg.TEN_RESET ||
  (2 ≤ p && p ≤ 9 && (o == 0x08 || a == Reg.TQ_SNAP (p - 2) || o == 0x84 || o == 0x94)) || a == Reg.EVT_RD_SEQ

/-- Whether `a` is a PG_OWNER or a PG_LOCK. -/
def ownerOrLock (a : Nat) : Bool := a % 0x1000 == 0x20 || a % 0x1000 == 0x24

/-- Check 4 of Table 5-1: PG_OWNER and PG_LOCK are T0's alone, whatever the mask holds (R235; log entry 29); any other register asks for the
tenant's bit in the write mask, and for T0, the firmware or the owner of the DMA channel where the register is theirs alone. -/
def Dev.denied (d : Dev) (k a : Nat) (v : Word) (p : Nat) : Bool :=
  if ownerOrLock a then k != 0
  else ! bit (d.reg (Reg.PG_OWNER p)) (8 + k) || (t0Only a v && k != 0) || fwOnly a || d.dmaDenied k a

/-- The checks of Table 5-1 on a tenant write, in their order; 0 when the write is granted (R225). Check 8, TIMEOUT, is the
command WRITE_TIMEOUT. -/
def Dev.refuseReason (d : Dev) (k a : Nat) (v : Word) (uncorrectable : Bool) : Nat :=
  match pageOf a with
  | none => if uncorrectable then 1 else 2
  | some p =>
    if uncorrectable then 1
    else if a % 4 ≠ 0 then 3
    else if d.denied k a v p then 4
    else if d.flag (Reg.PG_LOCK_LOCK p) && ! lockExempt a then 5
    else if d.flag (Reg.PG_OWNER_FW_HOLD p) then 6
    else if (d.page p).inReset then 7
    else 0

/-- The four effects of a refusal (R227, R228): the late-error entry or OVF, ERR, the LATE_WRITE_ERR record from page 0x0B,
and the LATE_ERR bit of the tenant's TQ page. -/
def Dev.refuseWrite (d : Dev) (k : Nat) (w : PostedWrite) (reason : Nat) : Dev :=
  let full := 4 ≤ (d.br k).late.length
  let d1 := d.modBr k (fun b => { b with
    err := b.err + 1, late := if full then b.late else b.late ++ [⟨w.addr, w.data, w.tag, reason⟩] })
  let d2 := if full then d1.set (Reg.LE_STAT_OVF k) 1 else d1
  let d3 := d2.raise 0x0B k St.lateWriteErr 1 w.addr
  let d4 := if reason = 1 then d3.addSat Reg.BR_ECC_UNCORR 1 else d3
  d4.fireRaw (2 + k) 2

/-- Complete the write at the head of tenant `k`'s queue (R226). -/
def Dev.popWrite (d : Dev) (k : Nat) : Dev :=
  (d.modBr k (fun b => { b with queue := b.queue.tail, done := b.done + 1 })).spiDrain

/-- The reason a firmware write is refused, 0 when it is granted: firmware writes meet neither masks, lock nor hold (R239). -/
def Dev.fwRefuse (d : Dev) (a : Nat) : Nat :=
  match pageOf a with
  | none => 2
  | some p => if a % 4 ≠ 0 then 3 else if (d.page p).inReset then 7 else 0

/-- A write reaches its page (R223): the head of the tenant's queue, or a firmware write. A write that `sel` does not
select is left alone; one that is refused is reported; one that is granted takes `eff`. -/
def Dev.land (d : Dev) (l : Land) (sel : Nat → Word → Bool) (eff : Agent → Nat → Word → Dev → Dev) : Dev :=
  match l with
  | .fw a v =>
    if sel a v then
      match d.fwRefuse a with
      | 0 => eff .fw a v d
      | r => (d.setReg Reg.FW_LE_ADDR a).set Reg.FW_LE_INFO_REASON r
    else d
  | .tenant k ecc =>
    match (d.br k).queue with
    | [] => d
    | w :: _ =>
      if sel w.addr w.data then
        let d1 := d.popWrite k
        match d.refuseReason k w.addr w.data (ecc = .uncorrectable) with
        | 0 => eff (.tenant k) w.addr w.data (if ecc = .corrected then d1.addSat Reg.BR_ECC_CORR 1 else d1)
        | r => d1.refuseWrite k w r
      else d

/-- The tenant field of a record for what an agent did: the tenant, or 0x8 for the firmware (R250). -/
def Agent.field : Agent → Nat
  | .tenant k => k
  | .fw => 8

/-! ### Pages the firmware holds (R236, R240, R899, R904) -/

/-- Set FW_HOLD on a page. -/
def Dev.fwHold (d : Dev) (p : Nat) : Dev := d.set (Reg.PG_OWNER_FW_HOLD p) 1

/-- The pages that SAFE_FINISH holds (R899): LASER, HV, FUSER, BLDC1, BLDC2, PATH, MOTION, STEP1 to STEP4, SCAN, VIDEO, HOLD,
PWR and PSEQ. -/
def finishPages : List Nat :=
  [0x31, 0x30, 0x2F, 0x25, 0x26, 0x32, 0x2C, 0x28, 0x29, 0x2A, 0x2B, 0x1F, 0x21, 0x11, 0x0E, 0x0F]

/-- The firmware releases page `p`, except where a safe state holds it. -/
def Dev.fwFree (d : Dev) (p : Nat) : Dev :=
  let mode := d.get Reg.LK_STAT_MODE
  d.setb (Reg.PG_OWNER_FW_HOLD p) (mode == 2 || (mode == 1 && finishPages.contains p))

/-- The firmware holds BLDC1 and BLDC2 while CMD_SRC is ENGINE (spec/11, "Settings"; log entry 28). -/
def Dev.engHold (d : Dev) : Dev :=
  [0, 1].foldl (fun d m => if d.get (Reg.BL_CTL_CMD_SRC m) = 2 then d.fwHold (0x25 + m) else d.fwFree (0x25 + m)) d

/-! ### Life counters (spec/23_background.md) -/

/-- The journal is mounted. -/
def Dev.mounted (d : Dev) : Bool := d.get Reg.JR_STAT_STATE != 0

/-- Counter `i` rises by `n` (R955): what would take it past its bound waits. Without a mounted journal there is no bound. -/
def Dev.lifeAdd (d : Dev) (i n : Nat) : Dev :=
  let v := d.life.value.getD i 0
  let b := d.life.bound.getD i 0
  let now := if d.mounted then min n (b - v) else n
  { d with life := { d.life with value := lmod d.life.value i (· + now), pend := lmod d.life.pend i (· + (n - now)) } }

/-- Add sub-units of a counter whose unit holds `per` of them (R955: the remainder is kept). -/
def Dev.lifeSub (d : Dev) (i n per : Nat) : Dev :=
  let r := d.life.rest.getD i 0 + n
  { d with life := { d.life with rest := lmod d.life.rest i (fun _ => r % per) } }.lifeAdd i (r / per)

/-! ### Ball functions (spec/24_pins_package.md) -/

/-- FUNC of mux entry `k` (R965); 3 acts as 2. -/
def Dev.pmFunc (d : Dev) (k : Nat) : Nat :=
  min 2 (if k < 16 then bitsOf (d.reg Reg.PM_FUNC0) (2 * k) 2 else bitsOf (d.reg Reg.PM_FUNC1) (2 * (k - 16)) 2)

/-! ### Addressed memory (R271 to R276) -/

/-- The byte at address `a`, none where no memory answers. -/
def Mem.byte? (m : Mem) (a : Nat) : Option Byte :=
  if 0x20000000 ≤ a ∧ a < 0x20200000 then some (sget ramDefault m.sram a)
  else if 0x60000000 ≤ a ∧ a < 0x64000000 then some (sget ramDefault m.psram a)
  else if 0x70000000 ≤ a ∧ a < 0x74000000 then some (sget norDefault m.nor a)
  else none

/-- Write one byte of RAM; NOR and addresses that no memory answers stay as they are. -/
def Mem.setByte (m : Mem) (a : Nat) (v : Byte) : Mem :=
  if 0x20000000 ≤ a ∧ a < 0x20200000 then { m with sram := sset ramDefault m.sram a v }
  else if 0x60000000 ≤ a ∧ a < 0x64000000 then { m with psram := sset ramDefault m.psram a v }
  else m

/-- Write one byte of NOR. -/
def Mem.setNor (m : Mem) (a : Nat) (v : Byte) : Mem :=
  if 0x70000000 ≤ a ∧ a < 0x74000000 then { m with nor := sset norDefault m.nor a v } else m

/-- The byte at `a`, 0 where no memory answers. -/
def Mem.byte (m : Mem) (a : Nat) : Byte := (m.byte? a).getD 0

/-- Read `n` bytes from `a` upward. -/
def Mem.readBytes (m : Mem) : Nat → Nat → List Byte
  | _, 0 => []
  | a, n + 1 => m.byte a :: m.readBytes (a + 1) n

/-- Write a byte string from `a` upward. -/
def Mem.writeBytes (m : Mem) : Nat → List Byte → Mem
  | _, [] => m
  | a, b :: bs => (m.setByte a b).writeBytes (a + 1) bs

/-- The little-endian word of `n` bytes at `a`. -/
def Mem.readLE (m : Mem) (a n : Nat) : Nat := leNat (m.readBytes a n)

/-! ### Time -/

/-- What passes with one tick of the 1 µs always-on counter when no command waits (log entry 5): the counter, and the
end of SOFT_RST of every page (64 cycles, R241). -/
def Dev.tick0 (d : Dev) : Dev :=
  { d with now := d.now + 1, pages := d.pages.map (fun p => if p.inReset then { p with inReset := false } else p) }

end Sys2Proof.Machine
end

