-- ==== Sys2Proof/Machine/TenantOps.lean ====
section
/-! DEFINITION. Operations on tenants and channels that several families share: placing responses and returning credits
(R73, R74, R120 to R123, R164), completing commands (R159 to R163), tenant faults and the start of a tenant reset
(R89 to R96), the frames sent to the host (Table 3-1), and job and sheet lookups. -/

set_option linter.unusedVariables false

namespace Sys2Proof.Machine

/-! ### Settings of a tenant -/

/-- CREDIT_LIMIT as written in TCFG_k: 0 acts as 1, values above 16 as 16 (Table 2-5). -/
def Dev.creditLimit (d : Dev) (k : Nat) : Nat := clampN 1 16 (d.get (Reg.TCFG_CREDIT_LIMIT k))

/-- JOB_MAX: 0 acts as 1, values above 8 as 8. -/
def Dev.jobMax (d : Dev) (k : Nat) : Nat := clampN 1 8 (d.get (Reg.TCFG_JOB_MAX k))

/-- SPOOL_QUOTA in bytes: 0 acts as 1, values above 1024 as 1024, in 64 KiB. -/
def Dev.spoolQuota (d : Dev) (k : Nat) : Nat := clampN 1 1024 (d.get (Reg.GQ_SPOOL_QUOTA k)) * 65536

/-- The device state (R174: the state field of PG_STAT on the SYS page). -/
def Dev.devState (d : Dev) : Nat := d.get (Reg.PG_STAT_STATE 0)

/-- The laser engine state (the state field of PG_STAT on the PATH page). -/
def Dev.laserState (d : Dev) : Nat := d.get (Reg.PG_STAT_STATE 0x32)

/-- The thermal engine state (the state field of PG_STAT on the HEAD page). -/
def Dev.thermalState (d : Dev) : Nat := d.get (Reg.PG_STAT_STATE 0x24)

/-- The firmware processes frames in every device state but OFF, POWER_UP, SAFE_STOP and TRIPPED. -/
def Dev.fwRuns (d : Dev) : Bool :=
  ! [DevSt.off, DevSt.powerUp, DevSt.safeStop, DevSt.tripped].contains d.devState

/-- The ports accept and send frames: the firmware runs and the boot window has been opened (Table 19-9, R904). -/
def Dev.portsOpen (d : Dev) : Bool := d.fwRuns && ! (d.devState == DevSt.boot && d.get Reg.BT_STAT_STEP < 7)

/-! ### Key slots as the framing needs them -/

/-- Key slot `s`. -/
def Dev.key (d : Dev) (s : Nat) : KeySlot := d.keys.getD s ⟨0, [], 0⟩

/-- The owner of a key slot: the device for slot 0, else the nibble of KS_OWN0 or KS_OWN1 (Table 20-5). -/
def Dev.keyOwner (d : Dev) (s : Nat) : Nat :=
  if s = 0 then 0xE else if s < 8 then bitsOf (d.reg Reg.KS_OWN0) (4 * s) 4 else bitsOf (d.reg Reg.KS_OWN1) (4 * (s - 8)) 4

/-- The HMAC key in slot `s`; a slot of the other type is treated as empty (R1020). -/
def Dev.hmacKey (d : Dev) (s : Nat) : Option (List Byte) := if (d.key s).typ = 2 then some (d.key s).key else none

/-! ### Jobs and sheets -/

/-- The job of a tenant with number `j`. -/
def Dev.job? (d : Dev) (k j : Nat) : Option Job := (d.ten k).jobs.find? (fun x => x.num == j)

/-- Change job `j` of tenant `k`. -/
def Dev.modJob (d : Dev) (k j : Nat) (f : Job → Job) : Dev :=
  d.modTen k (fun t => { t with jobs := t.jobs.map (fun x => if x.num = j then f x else x) })

/-- Whether a sheet is the one named, under an epoch. -/
def Sheet.is (s : Sheet) (k e j i : Nat) : Bool := s.tenant == k && s.epoch == e && s.job == j && s.index == i

/-- The sheet of tenant `k` in its current epoch. -/
def Dev.sheet? (d : Dev) (k j i : Nat) : Option Sheet := d.sheets.find? (·.is k (d.ten k).epoch j i)

/-- Change the sheets that satisfy `p`. -/
def Dev.modSheets (d : Dev) (p : Sheet → Bool) (f : Sheet → Sheet) : Dev :=
  { d with sheets := d.sheets.map (fun s => if p s then f s else s) }

/-- Whether what a tenant queued under `epoch` is still its own: no reset has begun since. -/
def Dev.owned (d : Dev) (k epoch : Nat) : Bool := (d.ten k).state != .resetting && (d.ten k).epoch == epoch

/-- A final state (R22): EJECTED, SPOILED, SPOILED_BLANK. JAMMED is final for reports (R52). -/
def SheetState.final : SheetState → Bool
  | .ejected | .spoiled | .spoiledBlank | .jammed => true
  | _ => false

/-- COMMITTED, IMAGING or FUSING. -/
def SheetState.committedOn : SheetState → Bool
  | .committed | .imaging | .fusing => true
  | _ => false

/-- The number of 64 KiB extents a stream of `n` bytes touches. -/
def extsFor (n : Nat) : Nat := (n + 65535) / 65536

/-- The spool bytes of a stream: a recoded block counts with its own length (R353). -/
def Stream.bytesHeld (s : Stream) : Nat := s.overExts.foldl (fun n o => n - (o.2.2.2 - o.2.2.1)) s.len

/-- Bytes tenant `k` has in the spool (TQ_SPOOL, R76): its sheets' and its receipts' streams. -/
def Dev.spoolUsed (d : Dev) (k : Nat) : Nat :=
  (d.sheets.filter (fun s => s.tenant == k)).foldl (fun n s => s.streams.foldl (fun n x => n + x.bytesHeld) n) 0 +
  (d.ten k).jobs.foldl (fun n j => n + j.stream.len) 0

/-! ### Placing responses -/

/-- What a response does at the instant it is placed. -/
def Dev.placeAct (d : Dev) (k act arg : Nat) : Dev :=
  match act with
  | 1 => d.modSheets (·.is k (d.ten k).epoch (arg / 65536) (arg % 65536)) (fun s => { s with placed := true })
  | 2 => d.modTen k (fun t => { t with state := .closed, minSev := 7, tags := false })
  | 3 => d.modTen k (fun t => { t with jobs := t.jobs.filter (fun j => j.num != arg) })
  | 4 => d.modJob k arg (fun j => { j with waiting := true })
  | _ => d

/-- Place the response at the head of those that wait, when there is room (R73, R74, R101). -/
def Dev.placeOne (d : Dev) (k : Nat) : Dev :=
  match (d.ten k).respWait with
  | [] => d
  | r :: rest =>
    if 32 ≤ (d.ten k).respQ.length then d
    else
      let first := (d.ten k).respQ.isEmpty
      let d1 := d.modTen k (fun t => { t with
        respQ := t.respQ ++ [r], respWait := rest,
        credOut := if r.unsol then t.credOut else t.credOut - 1,
        retCred := if r.unsol then t.retCred else t.retCred + 1,
        orphans := if r.unsol && r.status == St.orphanComplete then t.orphans.tail else t.orphans })
      let d2 := if first then d1.fireT (2 + k) 0 k 0 else d1
      let d3 := if r.unsol then d2 else d2.fireT (2 + k) 1 k 0
      d3.placeAct k r.act r.arg

/-- Place as many waiting responses as there is room for. -/
def Dev.drainN : Nat → Nat → Dev → Dev
  | 0, _, d => d
  | n + 1, k, d => Dev.drainN n k (d.placeOne k)

/-- Place every waiting response there is room for. -/
def Dev.drain (d : Dev) (k : Nat) : Dev := Dev.drainN (d.ten k).respWait.length k d

/-- A response is due: it is placed, or waits for room; while the tenant is RESETTING it is dropped (R159). -/
def Dev.place (d : Dev) (k : Nat) (r : Resp) : Dev :=
  if (d.ten k).state = .resetting then d
  else (d.modTen k (fun t => { t with respWait := t.respWait ++ [r] })).drain k

/-- Answer a command: a status that is no success carries no payload unless the caller names one (R163). -/
def Dev.answer (d : Dev) (k : Nat) (f : Frame) (status : Nat) (payload : List Byte) : Dev :=
  d.place k ⟨f.ch, f.opcode, f.seq, status, false, payload, 0, 0⟩

/-- Answer a command with an action at the placement of its response. -/
def Dev.answerAct (d : Dev) (k : Nat) (f : Frame) (status : Nat) (payload : List Byte) (act arg : Nat) : Dev :=
  d.place k ⟨f.ch, f.opcode, f.seq, status, false, payload, act, arg⟩

/-- Place an unsolicited response (R164, R165). -/
def Dev.unsol (d : Dev) (k status : Nat) (payload : List Byte) (act arg : Nat) : Dev :=
  d.place k ⟨16, 0, 0, status, true, payload, act, arg⟩

/-- The 12 bytes of an orphan record (Table 2-3). -/
def Orphan.bytes (o : Orphan) : List Byte :=
  leBytes 2 o.epoch ++ leBytes 2 o.job ++ leBytes 2 o.index ++ leBytes 2 o.final ++
  leBytes 1 o.token ++ leBytes 1 o.flags ++ leBytes 2 o.voided

/-- Create an orphan record (R98 to R100): the event, the list of at most 8, and for an OPEN tenant its response. -/
def Dev.orphan (d : Dev) (k : Nat) (o : Orphan) : Dev :=
  let d1 := (d.raiseFree (2 + k) k St.orphanComplete 0).fireRaw (2 + k) 3
  if 8 ≤ (d.ten k).orphans.length then
    (d1.addSat (Reg.TQ_ORPH_ORPH_LOST k) 1).modTen k (fun t => { t with stats := lmod t.stats 8 (· + 1) })
  else
    let d2 := d1.modTen k (fun t => { t with orphans := t.orphans ++ [o] })
    if (d.ten k).state = .opened then d2.unsol k St.orphanComplete o.bytes 0 0 else d2

/-! ### Deferred commands (R161, R162, R210) -/

/-- Whether a further deferred command with this opcode can start. -/
def Dev.canDefer (d : Dev) (k op : Nat) : Bool :=
  (d.ten k).deferred.length < 4 && ! (d.ten k).deferred.any (fun x => x.opcode == op)

/-- Start a deferred command. -/
def Dev.defer (d : Dev) (k : Nat) (f : Frame) (args : List Nat) (bytes : List Byte) : Dev :=
  d.modTen k (fun t => { t with deferred := t.deferred ++ [⟨f.opcode, f.seq, f.ch, args, bytes⟩] })

/-- The deferred command of a tenant with this opcode. -/
def Dev.deferred? (d : Dev) (k op : Nat) : Option Deferred := (d.ten k).deferred.find? (fun x => x.opcode == op)

/-- Complete the deferred command with this opcode, if it has not been abandoned. -/
def Dev.finish (d : Dev) (k op status : Nat) (payload : List Byte) : Dev :=
  match d.deferred? k op with
  | none => d
  | some x =>
    (d.modTen k (fun t => { t with deferred := t.deferred.filter (fun y => y.opcode != op) })).place k
      ⟨x.ch, x.opcode, x.seq, status, false, payload, 0, 0⟩

/-! ### Tenant faults and the start of a reset -/

/-- Start a reset of tenant `k`: step 1 of the tenant reset; one that is running takes the request in (R94, R96). -/
def Dev.startReset (d : Dev) (k : Nat) : Dev :=
  if (d.ten k).state = .resetting then d else d.modTen k (fun t => { t with state := .resetting })

/-- Tenant `k` enters FAULTED (R90); with AUTO_RST its reset starts at once (R92). -/
def Dev.tenantFault (d : Dev) (k : Nat) : Dev :=
  let d1 := d.modTen k (fun t => { t with state := .faulted })
  let d2 := (d1.raiseFree (2 + k) k St.tenantFaulted 1).fireRaw (2 + k) 6
  if d.flag (Reg.TCFG_AUTO_RST k) then d2.startReset k else d2

/-- A frame of an OPEN tenant ended in BAD_FRAME, BAD_CRC or AUTH_FAIL: eight within one second fault the tenant. -/
def Dev.protoErr (d : Dev) (k : Nat) : Dev :=
  if (d.ten k).state = .opened then
    let ts := d.now :: (d.ten k).errTimes.filter (fun t => d.now < t + 1000000)
    let d1 := d.modTen k (fun t => { t with errTimes := ts })
    if 8 ≤ ts.length then d1.tenantFault k else d1
  else d

/-! ### Frames to the host (Table 3-1) -/

/-- A frame with its header CRC, its tag under `key` when one is due, and its FCRC (R110 to R113). -/
def frameBytes (flags opcode seq status cred : Nat) (payload : List Byte) (key : Option (List Byte)) : List Byte :=
  let h := [BitVec.ofNat 8 0xA5, BitVec.ofNat 8 (flags + b2n key.isSome)] ++ leBytes 2 opcode ++ leBytes 2 seq ++
    leBytes 2 status ++ leBytes 3 payload.length ++ [BitVec.ofNat 8 cred]
  let hdr := h ++ leBytes 4 (crc32c h)
  let tag := match key with
    | some k => hmacTag k (hdr ++ payload)
    | none => []
  hdr ++ payload ++ tag ++ leBytes 4 (crc32c (payload ++ tag))

/-- Whether a channel sends frames to the host: not channel 15, and not a unidirectional Printer Class pair (R127). -/
def Dev.canSend (d : Dev) (c : Nat) : Bool :=
  c < 15 && ! (d.flag Reg.USB_CTL_PRN_EN && d.get Reg.USB_CTL_PRN_PAIR == c && d.get Reg.USB_CTL_PRN_PROTO == 1)

/-- The lowest-numbered sending channel bound to tenant `k`, 16 for none. -/
def Dev.lowChan (d : Dev) (k : Nat) : Nat :=
  ((List.range 15).find? (fun c => (d.chan c).bind == some k && d.canSend c)).getD 16

/-- The channel a response goes out on, 16 when it waits (R120, R121, R63). -/
def Dev.respChan (d : Dev) (k : Nat) (r : Resp) : Nat :=
  let c := if r.unsol then (d.ten k).lastCh else r.ch
  if c < 16 && (d.chan c).bind == some k && d.canSend c then c else d.lowChan k

/-- The frame of a response, its header built now (R123). -/
def Dev.respFrame (d : Dev) (k : Nat) (r : Resp) (key : Option (List Byte)) : List Byte :=
  frameBytes (2 + if r.unsol then 8 else 0) r.opcode r.seq r.status ((d.ten k).retCred % 256) r.payload key

end Sys2Proof.Machine
end

