-- ==== Sys2Proof/Machine/Layers.lean ====
section
/-! DEFINITION. Galley units, grants, the form cache, readiness and composition (spec/08_layers.md, R76 to R82). -/

set_option linter.unusedVariables false

namespace Sys2Proof.Machine

/-! ### Quotas (R78 to R82) -/

/-- Unit `u`. -/
def Dev.unit (d : Dev) (u : Nat) : GUnit := d.units.getD u GUnit.reset

/-- Units in a state. -/
def Dev.unitCount (d : Dev) (s : UState) : Nat := (d.units.filter (fun u => u.state = s)).length

/-- Units charged to tenant `k`. -/
def Dev.held (d : Dev) (k : Nat) : Nat := (d.units.filter (fun u => u.state ≠ .free ∧ u.tenant = k)).length

/-- The sum of GQ_MIN over all tenants. -/
def Dev.gqMinSum (d : Dev) : Nat := (List.range 8).foldl (fun n k => n + d.get (Reg.GQ_GQ_MIN k)) 0

/-- GQ_MIN in force: 0 for all while the sum exceeds 96 (R79). -/
def Dev.gqMin (d : Dev) (k : Nat) : Nat := if 96 < d.gqMinSum then 0 else d.get (Reg.GQ_GQ_MIN k)

/-- GQ_MAX in force: at most 96, at least the minimum in force (R80). -/
def Dev.gqMax (d : Dev) (k : Nat) : Nat := max (min (d.get (Reg.GQ_GQ_MAX k)) 96) (d.gqMin k)

/-- The part of its minimum a tenant has not yet used. -/
def Dev.guar (d : Dev) (k : Nat) : Nat := d.gqMin k - d.held k

/-- The sum of the guarantees of the other tenants. -/
def Dev.guarOthers (d : Dev) (k : Nat) : Nat :=
  (List.range 8).foldl (fun n j => if j = k then n else n + d.guar j) 0

/-- R78: whether `n` units may be granted to tenant `k` with `free` units FREE. -/
def Dev.mayGrant (d : Dev) (k n free : Nat) : Bool :=
  d.held k + n ≤ d.gqMax k && n ≤ free && d.guarOthers k ≤ free - n

/-- Units tenant `k` holds for one sheet. -/
def Dev.heldFor (d : Dev) (s : Sheet) : Nat :=
  (d.units.filter (fun u => u.state ≠ .free ∧ u.kind ≤ 1 ∧ u.tenant = s.tenant ∧ u.epoch = s.epoch ∧ u.job = s.job ∧
    u.index = s.index)).length

/-- The usable count Q of the forecast (R82). -/
def Dev.usable (d : Dev) (s : Sheet) : Nat :=
  let this := d.heldFor s
  let other := d.held s.tenant - this
  min (d.gqMax s.tenant - other) ((d.unitCount .free + this) - d.guarOthers s.tenant)

/-! ### What a band takes (R355 to R360) -/

/-- The number of bands of a sheet. -/
def Sheet.bands (s : Sheet) : Nat := ceilDiv s.lines (bandLines s.bandH)

/-- Image lines of band `b` (R320). -/
def Sheet.linesOf (s : Sheet) (b : Nat) : Nat := min (bandLines s.bandH) (s.lines - b * bandLines s.bandH)

/-- A layer of a sheet. -/
def Sheet.layer (s : Sheet) (l : Nat) : LayerDesc := s.layers.getD l ⟨0, 0, false, false, 0, 0⟩

/-- The stream of a layer. -/
def Sheet.stream (s : Sheet) (l : Nat) : Stream := s.streams.getD l Stream.empty

/-- Layers present in a band (SOURCE not 0). -/
def Sheet.present (s : Sheet) : List Nat := (List.range 4).filter (fun l => (s.layer l).source != 0)

/-- Galley layers: stored forms and job rasters. -/
def Sheet.galleyLayers (s : Sheet) : List Nat :=
  s.present.filter (fun l => (s.layer l).source == 1 || (s.layer l).source == 2)

/-- The form a tenant means by a FORM_ID: bit 15 names a shared one. -/
def Dev.form? (d : Dev) (k id : Nat) : Option Form :=
  let o := if bit id 15 then 8 else k
  d.forms.find? (fun f => f.owner == o && f.id == id)

/-- Lines of band `b` of a layer: a form has those of its own block. -/
def Dev.layerLines (d : Dev) (s : Sheet) (l b : Nat) : Nat :=
  if (s.layer l).source = 1 then
    match d.form? s.tenant (s.layer l).arg with
    | some f => min ((f.blocks.getD b (0, 0, 0)).2.2) (s.linesOf b)
    | none => 0
  else s.linesOf b

/-- OUTLEN of a layer-band. -/
def Dev.layerOut (d : Dev) (s : Sheet) (l b : Nat) : Nat :=
  if (s.layer l).source = 1 then
    match d.form? s.tenant (s.layer l).arg with
    | some f => s.width * s.bpp / 8 * (f.blocks.getD b (0, 0, 0)).2.2
    | none => 0
  else s.width * s.bpp / 8 * s.linesOf b

/-- Units for `n` bytes (R358). -/
def unitsFor (n : Nat) : Nat := ceilDiv n 16384

/-- Whether a unit holds the given layer-band of a sheet. -/
def GUnit.holds (u : GUnit) (s : Sheet) (kind l b : Nat) : Bool :=
  u.state != .free && u.state != .releasing && u.kind == kind && u.tenant == s.tenant && u.epoch == s.epoch &&
  u.job == s.job && u.index == s.index && u.band == b && (kind == 1 || u.layer == l)

/-- Whether a unit caches a band of a form. -/
def GUnit.caches (u : GUnit) (owner id b : Nat) : Bool :=
  u.state == .ready && u.kind == 3 && u.job == id && u.index == owner && u.band == b

/-- The owner number of a form named by tenant `k`. -/
def formOwner (k id : Nat) : Nat := if bit id 15 then 8 else k

/-- A form layer's band is in the cache. -/
def Dev.cached (d : Dev) (s : Sheet) (l b : Nat) : Bool :=
  (s.layer l).source == 1 && d.units.any (·.caches (formOwner s.tenant (s.layer l).arg) (s.layer l).arg b)

/-- The layer-bands of a band that need units, with how many. -/
def Dev.bandNeeds (d : Dev) (s : Sheet) (b : Nat) : List (Nat × Nat) :=
  (s.galleyLayers.filter (fun l => ! d.cached s l b)).map (fun l => (l, unitsFor (d.layerOut s l b)))

/-- Composite units of a band (R359): as many as one of its layer-bands, when two or more layers are present. -/
def Dev.compUnits (d : Dev) (s : Sheet) (b : Nat) : Nat :=
  if 2 ≤ s.present.length then unitsFor (s.width * s.bpp / 8 * s.linesOf b) else 0

/-! ### Changing units (Table 8-2) -/

/-- Change every unit that satisfies `p`. -/
def Dev.modUnits (d : Dev) (p : GUnit → Bool) (f : GUnit → GUnit) : Dev :=
  { d with units := d.units.map (fun u => if p u then f u else u) }

/-- FILLING, READY or SCANNING units that satisfy `p` pass to RELEASING. -/
def Dev.release (d : Dev) (p : GUnit → Bool) : Dev :=
  d.modUnits (fun u => (u.state == .filling || u.state == .ready || u.state == .scanning) && p u)
    (fun u => { u with state := .releasing })

/-- Every unit held for a sheet passes to RELEASING (R346, R368). -/
def Dev.releaseSheet (d : Dev) (s : Sheet) : Dev :=
  d.release (fun u => u.kind ≤ 1 && u.tenant == s.tenant && u.epoch == s.epoch && u.job == s.job && u.index == s.index)

/-- Allocate `n` FREE units, lowest first, as `mk part`. -/
def allocUnits : Nat → Nat → (Nat → GUnit) → List GUnit → List GUnit
  | 0, _, _, us => us
  | _, _, _, [] => []
  | n + 1, part, mk, u :: us =>
    if u.state = .free then mk part :: allocUnits n (part + 1) mk us else u :: allocUnits (n + 1) part mk us

/-- Allocate `n` FREE units. -/
def Dev.alloc (d : Dev) (n : Nat) (mk : Nat → GUnit) : Dev := { d with units := allocUnits n 0 mk d.units }

/-- The number of units a request asks for (R361). -/
def Dev.reqUnits (d : Dev) (r : GReq) : Nat :=
  if r.kind = 2 then
    match d.job? r.ten r.job with
    | some j => unitsFor (j.width * j.bpp / 8 * bandLines j.bandH)
    | none => 0
  else match d.sheets.find? (·.is r.ten r.epoch r.job r.index) with
    | some s => (d.bandNeeds s r.band).foldl (fun n x => n + x.2) (d.compUnits s r.band)
    | none => 0

/-- Give a request its units: FILLING, charged to its tenant. -/
def Dev.fillReq (d : Dev) (r : GReq) : Dev :=
  let base : GUnit := { GUnit.reset with
    state := .filling, tenant := r.ten, band := r.band, epoch := r.epoch, job := r.job, index := r.index }
  if r.kind = 2 then d.alloc (d.reqUnits r) (fun p => { base with kind := 2, part := p })
  else match d.sheets.find? (·.is r.ten r.epoch r.job r.index) with
    | none => d
    | some s =>
      let tok := s.token
      let d1 := (d.bandNeeds s r.band).foldl (fun d x =>
        d.alloc x.2 (fun p => { base with kind := 0, layer := x.1, token := tok, part := p })) d
      let d2 := d1.alloc (d.compUnits s r.band) (fun p => { base with kind := 1, token := tok, part := p })
      let forms := s.galleyLayers.filter (fun l => (s.layer l).source == 1)
      let hits := (forms.filter (fun l => d.cached s l r.band)).length
      let d3 := (d2.addSat Reg.GAL_CACHE_HITS hits).addSat Reg.GAL_CACHE_MISSES (forms.length - hits)
      d3.modUnits (fun u => forms.any (fun l => u.caches (formOwner s.tenant (s.layer l).arg) (s.layer l).arg r.band))
        (fun u => { u with used := d.now })

/-- The least recently used cached unit. -/
def lruUnit : List GUnit → Option Nat
  | [] => none
  | u :: us =>
    let rest := lruUnit us
    if u.state = .ready ∧ u.kind = 3 then
      match rest with
      | some t => some (min t u.used)
      | none => some u.used
    else rest

/-- Evict cached units, least recently used first, until `n` units are FREE or on their way (R364). -/
def Dev.evict : Nat → Nat → Dev → Dev
  | 0, _, d => d
  | f + 1, n, d =>
    if n ≤ d.unitCount .free + d.unitCount .releasing then d
    else match lruUnit d.units with
    | none => d
    | some t => Dev.evict f n (d.release (fun u => u.kind == 3 && u.state == .ready && u.used == t))

/-- The order in which requests are served (R362): bands of committed sheets in commit order, of a HELD sheet, thermal bands;
within one in band order. -/
def Dev.reqRank (d : Dev) (r : GReq) : Nat :=
  if r.kind = 2 then 2000000000 + r.band
  else match d.sheets.find? (·.is r.ten r.epoch r.job r.index) with
    | some s => if s.state.committedOn then (s.order % 100000) * 10000 + r.band else 1000000000 + r.band
    | none => 3000000000

/-- The request that comes first by a rank. -/
def minReq (rank : GReq → Nat) : List GReq → Option GReq
  | [] => none
  | r :: rs => match minReq rank rs with
    | some q => if rank q < rank r then some q else some r
    | none => some r

/-- Whether a band request already has its units. -/
def Dev.reqHeld (d : Dev) (r : GReq) : Bool :=
  d.units.any (fun u => u.state != .free && u.state != .releasing && u.kind ≤ 2 && (u.kind == 2) == (r.kind == 2) &&
    u.tenant == r.ten && u.epoch == r.epoch && u.job == r.job && u.index == r.index && u.band == r.band)

/-- The number of bands a receipt may hold at once (TH_BANDS). -/
def Dev.thBands (d : Dev) : Nat := clampN 2 8 (d.get Reg.GAL_CFG_TH_BANDS)

/-- Bands a receipt holds units for. -/
def Dev.thHeld (d : Dev) (k e j : Nat) : Nat :=
  ((List.range 1100).filter (fun b => d.units.any (fun u => (u.state == .filling || u.state == .ready || u.state == .scanning) &&
    u.kind == 2 && u.tenant == k && u.epoch == e && u.job == j && u.band == b))).length

/-- The firmware may ask for a band: a sheet of the laser path whose band is not decided, or a receipt within TH_BANDS
(R361, R383). -/
def Dev.reqValid (d : Dev) (r : GReq) : Bool :=
  if r.kind = 2 then d.rcpt == some (r.ten, r.epoch, r.job) && ! d.rcptBad.contains r.band && d.thHeld r.ten r.epoch r.job < d.thBands
  else match d.sheets.find? (·.is r.ten r.epoch r.job r.index) with
    | some s => s.placed && ! s.state.final && ! s.blank && s.decided ≤ r.band && r.band < s.bands &&
        (s.state == .held || s.state == .staged || s.state.committedOn)
    | none => false

/-- GALLEY_GRANT (R78, R361, R362): the firmware's request for a band joins those that wait, and the allocator grants the
first of them, in the order of R362, that R78 allows, in one grant or not at all; when none is allowed, cached form
units are evicted for the first (R364). -/
def execGalleyGrant (thermal : Bool) (k : Fin 8) (epoch job index band : Nat) : State → Out := onDev (fun d =>
  let r : GReq := ⟨if thermal then 2 else 0, k.val, epoch, job, index, band, d.now, false⟩
  let same := fun (q : GReq) => q.kind == r.kind && q.ten == r.ten && q.epoch == r.epoch && q.job == r.job &&
    q.index == r.index && q.band == r.band
  let d1 := if ! d.reqValid r || d.reqHeld r || d.galReqs.any same then d else { d with galReqs := d.galReqs ++ [r] }
  let ok := d1.galReqs.filter (fun q => d1.mayGrant q.ten (d1.reqUnits q) (d1.unitCount .free))
  match minReq d1.reqRank ok with
  | some q => { d1.fillReq q with galReqs := d1.galReqs.erase q }
  | none => match minReq d1.reqRank d1.galReqs with
    | some q => if d1.held q.ten + d1.reqUnits q ≤ d1.gqMax q.ten
        then Dev.evict 24 (d1.reqUnits q + d1.guarOthers q.ten) d1 else d1
    | none => d1)

/-- GALLEY_WAIT (R251): a grant that has waited 10 ms fires WAIT of the GALLEY page, once. -/
def execGalleyWait : State → Out := onDev (fun d =>
  match d.galReqs.find? (fun q => ! q.told && d.past q.since 10000) with
  | none => d
  | some q => { d.fireT 0x1D 0 q.ten 0 with
      galReqs := d.galReqs.map (fun x => if x = q then { x with told := true } else x) })

/-- The SRAM address of unit `u` (Table 6-2). -/
def unitAddr (u : Nat) : Nat := 0x20080000 + u * 0x4000

/-- UNIT_FREE (R367, Table 8-2): the reads of a RELEASING unit have drained; with ZERO_REL set it is written with zeros and its
check bits are correct again. -/
def execUnitFree (u : Fin 96) : State → Out := onAll (fun d m =>
  if (d.unit u.val).state = .releasing then
    let d1 := { d with units := lmod d.units u.val (fun _ => GUnit.reset) }
    if d.flag Reg.GAL_CFG_ZERO_REL then
      ({ d1 with ecc := d1.ecc.filter (fun e => ! (unitAddr u.val ≤ e.1 && e.1 < unitAddr u.val + 0x4000)) },
       m.writeBytes (unitAddr u.val) (zeros 16384))
    else (d1, m)
  else (d, m))

/-! ### Readiness (R370, Table 8-3) -/

/-- All units of a layer-band are READY. -/
def Dev.layerReady (d : Dev) (s : Sheet) (l b : Nat) : Bool :=
  if (s.layer l).source = 3 ∨ (s.layer l).source = 4 then true
  else if d.cached s l b then true
  else
    let us := d.units.filter (·.holds s 0 l b)
    ! us.isEmpty && us.all (fun u => u.state == .ready && ! u.ecc)

/-- Why a layer-band is not ready (Table 8-3). -/
def Dev.notReady (d : Dev) (s : Sheet) (l b : Nat) (wholly : Bool) : Nat :=
  match s.failed.find? (fun f => f.1 == l && f.2.1 == b) with
  | some f => f.2.2
  | none =>
    let st := s.stream l
    let us := d.units.filter (·.holds s 0 l b)
    if us.any (·.ecc) then 5
    else if (s.layer l).source = 1 && (match d.form? s.tenant (s.layer l).arg with
        | some f => f.blocks.length ≤ b
        | none => true) then 3
    else if (match st.corruptFrom with
        | some c => decide (c ≤ b)
        | none => false) then 3
    else if us.isEmpty || ! wholly then 1
    else 2

/-- Record that a layer-band of a sheet failed, with its reason of Table 8-3; the first stands. -/
def Sheet.failBand (s : Sheet) (l b reason : Nat) : Sheet :=
  if s.failed.any (fun f => f.1 == l && f.2.1 == b) then s else { s with failed := s.failed ++ [(l, b, reason)] }

/-! ### Composition (R355, R356, R376, R377) -/

/-- The VOID overprint at pixel x of image line y (R376). -/
def voidPixel (bpp x y : Nat) : Nat := if (x + y) % 32 < 4 then 2 ^ bpp - 1 else 0

/-- One raster operation (Table 8-1). -/
def rop (op c v : Nat) : Nat :=
  match op with
  | 0 => c ||| v
  | 1 => c &&& v
  | 2 => c ^^^ v
  | _ => if v ≠ 0 then v else c

/-- The bytes of line `y` of a layer-band held in units, in the order of their parts. -/
def Dev.unitLine (d : Dev) (m : Mem) (p : GUnit → Bool) (lineBytes y : Nat) : List Byte :=
  (List.range lineBytes).map (fun i =>
    let o := y * lineBytes + i
    match d.units.findIdx? (fun u => p u && u.part == o / 16384) with
    | some u => m.byte (unitAddr u + o % 16384)
    | none => 0)

/-- The pixels of one layer on line `y` of band `b` of a sheet. -/
def Dev.layerLine (d : Dev) (m : Mem) (s : Sheet) (l b y : Nat) : List Nat :=
  let lb := s.width * s.bpp / 8
  let gy := b * bandLines s.bandH + y
  match (s.layer l).source with
  | 3 => (List.range s.width).map (fun x => voidPixel s.bpp x gy)
  | 4 => List.replicate s.width ((s.layer l).arg % 16)
  | 1 =>
    if d.layerLines s l b ≤ y then List.replicate s.width 0
    else if d.cached s l b then
      unpackPixels s.bpp (d.unitLine m (·.caches (formOwner s.tenant (s.layer l).arg) (s.layer l).arg b) lb y)
    else unpackPixels s.bpp (d.unitLine m (·.holds s 0 l b) lb y)
  | _ => unpackPixels s.bpp (d.unitLine m (·.holds s 0 l b) lb y)

/-- The composite of line `y` of band `b` from the layers `ls` (R355). -/
def Dev.composeLine (d : Dev) (m : Mem) (s : Sheet) (ls : List Nat) (b y : Nat) : List Nat :=
  ls.foldl (fun c l => List.zipWith (rop (s.layer l).rop) c (d.layerLine m s l b y)) (List.replicate s.width 0)

/-- The bytes of line `y` of band `b` as VIDEO sends them: a voided line carries the overprint, else the composite of the
layers used; of a band that was never granted, the generated layers are left and made at the video read (R360, R361). -/
def Dev.videoLine (d : Dev) (m : Mem) (s : Sheet) (b y : Nat) : List Byte :=
  let void := s.voided.any (fun v => v.1 == b) &&
    (match s.voidFrom.find? (fun v => v.1 == b) with
     | some v => decide (v.2 ≤ y)
     | none => true)
  let px := if void then (List.range s.width).map (fun x => voidPixel s.bpp x (b * bandLines s.bandH + y))
    else if 2 ≤ s.present.length then
      if d.units.any (·.holds s 1 0 b) then unpackPixels s.bpp (d.unitLine m (·.holds s 1 0 b) (s.width * s.bpp / 8) y)
      else d.composeLine m s (s.present.filter (fun l => ! s.omitted.any (fun o => o == (b, l)))) b y
    else match s.present with
      | l :: _ => if s.omitted.any (fun o => o == (b, l)) then List.replicate s.width 0 else d.layerLine m s l b y
      | [] => List.replicate s.width 0
  packPixels s.bpp px

/-- The composite of a whole band, as bytes. -/
def Dev.composeBand (d : Dev) (m : Mem) (s : Sheet) (ls : List Nat) (b : Nat) : List Byte :=
  (List.range (s.linesOf b)).flatMap (fun y => packPixels s.bpp (d.composeLine m s ls b y))

/-- Write a band's bytes into the units that satisfy `p`, in the order of their parts. -/
def Dev.fillUnits (d : Dev) (m : Mem) (p : GUnit → Bool) (bytes : List Byte) : Mem :=
  (List.range 96).foldl (fun m u =>
    if p (d.unit u) then m.writeBytes (unitAddr u) ((bytes.drop ((d.unit u).part * 16384)).take 16384) else m) m

/-! ### Void and omission (R372 to R382) -/

/-- COMPOSE_LEAD in force (Table 8-5). -/
def Dev.composeLead (d : Dev) : Nat := clampN 2 16 (d.get Reg.IMPO_CFG_COMPOSE_LEAD)

/-- Record a voided band of a sheet and raise its event (R274, R372, R381). -/
def Dev.voidBand (d : Dev) (s : Sheet) (b mask reason : Nat) (fromLine : Option Nat) : Dev :=
  let payload := b % 65536 + mask * 65536 + reason * 1048576 + s.token * 16777216
  let d1 := d.modSheets (·.is s.tenant s.epoch s.job s.index) (fun x => { x with
    spoil := true, voided := if x.voided.any (fun v => v.1 == b) then x.voided else x.voided ++ [(b, reason)],
    voidFrom := match fromLine with
      | some y => x.voidFrom ++ [(b, y)]
      | none => x.voidFrom })
  let d2 := (d1.raise 0x1E s.tenant St.spoiled 2 payload).fireRaw 0x1E 0
  let d3 := (d2.addSat Reg.IMPO_CNT_VOIDED 1).set Reg.IMPO_LAST_PAYLOAD payload
  d3.modTen s.tenant (fun t => { t with stats := lmod t.stats 9 (· + 1) })

/-! ### Errors found by reads of SRAM (R271, R273, R274, Table 6-3) -/

/-- The count and the event of an uncorrectable SRAM error at word `a`. -/
def Dev.eccCount (d : Dev) (a ten sev : Nat) : Dev :=
  let bank := (a - 0x20000000) / 0x20000
  ((((d.addSat Reg.MEM_ERR_UNCORR 1).setReg Reg.MEM_ERR_ADDR a).orReg Reg.MEM_BANK_ERR (2 ^ bank)).lifeAdd 23 1).raise 0x18 ten
    St.eccUncorrectable sev a

/-- A single flipped bit in word `w` is corrected for the read and counted; WB_CORR writes it back (R271). -/
def Dev.corrected (d : Dev) (w : Nat) : Dev :=
  let d1 := d.addSat Reg.MEM_ERR_CORR 1
  if d.flag Reg.MEM_CFG_WB_CORR then { d1 with ecc := d1.ecc.filter (fun e => e.1 != w) } else d1

/-- A read of `n` bytes of SRAM from `a` corrects the single flipped bits it meets. -/
def Dev.sramRead (d : Dev) (a n : Nat) : Dev :=
  (d.ecc.filter (fun e => ! e.2 && a ≤ e.1 + 7 && e.1 < a + n)).foldl (fun d e => d.corrected e.1) d

/-- Change unit `u`. -/
def Dev.modUnit (d : Dev) (u : Nat) (f : GUnit → GUnit) : Dev := { d with units := lmod d.units u f }

/-- The galley unit that holds SRAM address `a`. -/
def unitOf (a : Nat) : Nat := (a - 0x20080000) / 0x4000

/-- An uncorrectable word in a unit of a laser band (Table 6-3): before the band's deadline the layer-band will read not ready; from it on
the rest of the band carries the overprint (R274). -/
def Dev.eccLaser (d : Dev) (u : Nat) : Dev :=
  let g := d.unit u
  match d.sheets.find? (·.is g.tenant g.epoch g.job g.index) with
  | none => d.modUnit u (fun x => { x with ecc := true })
  | some s =>
    if g.band < s.decided then
      let top := g.band * bandLines s.bandH
      let line := match d.scan.armed.find? (fun a => a.token == s.token) with
        | some a => a.line
        | none => none
      let from' := match line with
        | some l => if (top : Int) ≤ l then some (min (l.toNat + 1 - top) (s.linesOf g.band)) else none
        | none => none
      if s.voided.any (fun v => v.1 == g.band) then d
      else d.voidBand s g.band (if g.kind = 1 then 0 else 2 ^ g.layer) 5 from'
    else d.modUnit u (fun x => { x with ecc := true })

/-- What an uncorrectable word of galley unit `u` at address `a` does (Table 6-3). -/
def Dev.eccGalley (d : Dev) (u a : Nat) : Dev :=
  let g := d.unit u
  if g.kind = 3 then (d.eccCount a 0 0).modUnit u (fun x => { x with state := .releasing })
  else if g.kind = 2 then d.eccCount a g.tenant 2
  else (d.eccCount a g.tenant 2).eccLaser u

/-- The galley reads bytes `lo` to `hi` of what the units satisfying `p` hold together: errors in them are found. -/
def Dev.readBand (d : Dev) (p : GUnit → Bool) (lo hi : Nat) : Dev :=
  (d.ecc.filter (fun e => 0x20080000 ≤ e.1 && e.1 < 0x20200000)).foldl (fun d e =>
    let u := unitOf e.1
    let o := (d.unit u).part * 16384 + (e.1 - unitAddr u)
    if p (d.unit u) && lo < o + 8 && o < hi then (if e.2 then d.eccGalley u e.1 else d.corrected e.1) else d) d

/-- A unit holds, or caches, part of one of the layers `ls` of band `b`. -/
def Dev.unitOfLayers (d : Dev) (s : Sheet) (ls : List Nat) (b : Nat) (u : GUnit) : Bool :=
  ls.any (fun l => u.holds s 0 l b || ((s.layer l).source == 1 && u.caches (formOwner s.tenant (s.layer l).arg) (s.layer l).arg b))

/-- Leave an OPTIONAL layer out of a band and raise its event (R373, R382). -/
def Dev.omitLayer (d : Dev) (s : Sheet) (b l reason : Nat) : Dev :=
  let payload := b % 65536 + l * 65536 + reason * 1048576 + s.token * 16777216
  let d1 := d.modSheets (·.is s.tenant s.epoch s.job s.index) (fun x => { x with omitted := x.omitted ++ [(b, l)] })
  let d2 := (d1.raise 0x1E s.tenant St.layerOmitted 0 payload).fireRaw 0x1E 1
  (d2.addSat Reg.IMPO_CNT_OMITTED 1).release (·.holds s 0 l b)

/-- Take a sheet's blocks for which `p` holds out of the decoder queues (R346, R371). -/
def Dev.dropBlocks (d : Dev) (p : CBlock → Bool) : Dev :=
  { d with codec := { d.codec with q0 := d.codec.q0.filter (fun b => ! p b), q1 := d.codec.q1.filter (fun b => ! p b) } }

/-- A queue 0 block of a sheet. -/
def CBlock.isOf (b : CBlock) (s : Sheet) : Bool :=
  b.token == s.token && b.epoch == s.epoch && b.job == s.job && b.index == s.index

/-- A sheet is removed, released blank or stopped: its blocks are not decoded and its units are released (R346, R368). -/
def Dev.dropSheetWork (d : Dev) (s : Sheet) : Dev :=
  let d1 := (d.dropBlocks (·.isOf s)).releaseSheet s
  { d1 with galReqs := d1.galReqs.filter (fun r => ! (r.kind == 0 && s.is r.ten r.epoch r.job r.index)) }

/-- The composition deadline of band `b` (R369 to R375): the readiness of every present layer is sampled; a REQUIRED layer
that is not ready voids the band; an OPTIONAL one is left out; the others are composed. `whole l` says that the
layer's block is wholly in the spool. -/
def Dev.deadline (d : Dev) (m : Mem) (s : Sheet) (b : Nat) (whole : Nat → Bool) : Dev × Mem :=
  let late := s.present.filter (fun l => ! d.layerReady s l b)
  let d0 := (d.modSheets (·.is s.tenant s.epoch s.job s.index) (fun x => { x with decided := b + 1 })).dropBlocks
    (fun c => c.isOf s && c.band == b)
  let req := late.filter (fun l => (s.layer l).required)
  match req with
  | l :: _ =>
    let mask := req.foldl (fun n l => n + 2 ^ l) 0
    let d1 := d0.voidBand s b mask (d.notReady s l b (whole l)) none
    (d1.release (fun u => u.holds s 0 u.layer b || u.holds s 1 0 b), m)
  | [] =>
    let d1 := late.foldl (fun d' l => d'.omitLayer s b l (d.notReady s l b (whole l))) d0
    let used := s.present.filter (fun l => ! late.contains l)
    if 2 ≤ s.present.length then
      let bytes := d.composeBand m s used b
      let d2 := d1.readBand (d1.unitOfLayers s used b) 0 (16384 * 96)
      (d2.modUnits (fun u => u.state == .ready && u.kind == 0 && u.holds s 0 u.layer b) (fun u => { u with state := .scanning }),
       d.fillUnits m (·.holds s 1 0 b) bytes)
    else (d1, m)

end Sys2Proof.Machine
end

