-- ==== Sys2Proof/Machine/MemDma.lean ====
section
/-! DEFINITION. Memory and DMA (spec/06_memory_dma.md): descriptors and their checks, the channels, retirement and the status
word, late errors, layer streams in the spool, and NOR sequences. -/

set_option linter.unusedVariables false

namespace Sys2Proof.Machine

/-! ### Layer streams in the spool (R182, R343, R1023) -/

/-- The PSRAM address of stream offset `o`. -/
def Stream.addr (s : Stream) (o : Nat) : Nat := s.exts.getD (o / 65536) 0 + o % 65536

/-- Bytes `[o, o + n)` of a stream. -/
def Stream.read (m : Mem) (s : Stream) (o n : Nat) : List Byte := (List.range n).map (fun i => m.byte (s.addr (o + i)))

/-- Write bytes at stream offset `o`. -/
def Stream.write (s : Stream) (m : Mem) : Nat → List Byte → Mem
  | _, [] => m
  | o, b :: bs => s.write (m.setByte (s.addr o) b) (o + 1) bs

/-- The blocks of a stream by their headers (PLEN), or by CLEN for an encrypted layer: offset and length of each whose header
is in the spool; and the failing step where a header stops the walk. -/
def Stream.walk (m : Mem) (s : Stream) (enc : Bool) : Nat → Nat → List (Nat × Nat) × Option Nat
  | 0, _ => ([], none)
  | f + 1, o =>
    let n := if enc then 16 else 32
    if s.len < o + n then ([], none)
    else
      let h := s.read m o n
      if enc then
        let c := leAt h 12 4
        if c < 32 ∨ 2 ^ 24 < c then ([], some 2)
        else let r := Stream.walk m s enc f (o + c + 32); ((o, c + 32) :: r.1, r.2)
      else if ! hdrCrcOk h then ([], some 1)
      else if ! hdrValid (parseHdr h) then ([], some 2)
      else let p := (parseHdr h).plen; let r := Stream.walk m s enc f (o + p + 32); ((o, p + 32) :: r.1, r.2)

/-- The blocks of a stream. -/
def Stream.blocks (m : Mem) (s : Stream) (enc : Bool) : List (Nat × Nat) := (s.walk m enc 1025 0).1

/-- Whether band `b` of a stream is wholly in the spool. -/
def Stream.whole (m : Mem) (s : Stream) (enc : Bool) (b : Nat) : Bool :=
  match (s.blocks m enc)[b]? with
  | some x => x.1 + x.2 ≤ s.len
  | none => false

/-- The event of R342: a block failed with a status at a step. -/
def Dev.codecEvent (d : Dev) (ten status band detail queue layer token : Nat) : Dev :=
  (d.raise 0x1C ten status 2
    (band % 65536 + detail * 65536 + queue * 1048576 + layer * 4194304 + token * 16777216)).fireRaw 0x1C 0

/-- After a layer's stream has grown: a damaged header marks its band and every later one corrupt, once (R343, R1023); blocks
that overlap bytes marked after a transfer error are corrupt (R299, R304). -/
def Dev.walkSheet (d : Dev) (m : Mem) (k e j i l : Nat) : Dev :=
  match d.sheets.find? (·.is k e j i) with
  | none => d
  | some s =>
    let enc := (s.layer l).encrypted
    let st := s.stream l
    let (bl, bad) := st.walk m enc 1025 0
    let hit := (List.range bl.length).filter (fun b =>
      let x := bl.getD b (0, 0)
      st.bad.any (fun r => r.1 < x.1 + x.2 && x.1 < r.2))
    let upd := fun (x : Sheet) =>
      let y := hit.foldl (fun y b => y.failBand l b 3) x
      if bad.isSome ∧ st.corruptFrom = none then
        { y with streams := lmod y.streams l (fun t => { t with corruptFrom := some bl.length }) } else y
    let d1 := d.modSheets (·.is k e j i) upd
    match bad, st.corruptFrom with
    | some step, none =>
      (d1.codecEvent k St.corruptBlock bl.length step 0 l s.token).addSat Reg.DEC_ERR_CORRUPT 1
    | _, _ => d1

/-- The same for a receipt's stream. -/
def Dev.walkJob (d : Dev) (m : Mem) (k j : Nat) : Dev :=
  match d.job? k j with
  | none => d
  | some x =>
    let (bl, bad) := x.stream.walk m false 1025 0
    match bad, x.stream.corruptFrom with
    | some step, none =>
      let d1 := d.modJob k j (fun y => { y with stream := { y.stream with corruptFrom := some bl.length } })
      (d1.codecEvent k St.corruptBlock bl.length step 1 0 0).addSat Reg.DEC_ERR_CORRUPT 1
    | _, _ => d1Skip d
where
  /-- Nothing to mark. -/
  d1Skip (d : Dev) : Dev := d

/-- Extents in use by any stream, or by a DATA_DMA chain that still runs. -/
def Dev.extsUsed (d : Dev) : List Nat :=
  d.sheets.flatMap (fun s => s.streams.flatMap (fun t => t.exts ++ t.overExts.map (fun o => o.2.1 / 65536 * 65536))) ++ d.tenants.flatMap (fun t => t.jobs.flatMap (·.stream.exts)) ++
  d.dma.flatMap (fun c => match c.chain with
    | some h => if h.ended then [] else h.exts
    | none => [])

/-- The size of PSRAM found at set-up (R276). -/
def Dev.psramSize (d : Dev) : Nat := if d.get Reg.XSPI_STAT_CS0_MODE = 0 then 0 else min (d.reg Reg.CS0_SIZE) 0x4000000

/-- The size of NOR found at set-up. -/
def Dev.norSize (d : Dev) : Nat := if d.get Reg.XSPI_STAT_CS1_MODE = 0 then 0 else min (d.reg Reg.CS1_SIZE) 0x4000000

/-- The extents the firmware picks for new bytes are free, aligned, inside PSRAM and distinct. -/
def Dev.extsOk (d : Dev) (es : List Nat) : Bool :=
  es.all (fun e => e % 65536 == 0 && 0x60000000 ≤ e && e + 65536 ≤ 0x60000000 + d.psramSize && ! d.extsUsed.contains e) &&
  es.eraseDups.length == es.length

/-! ### Uncorrectable errors in SRAM (R273) -/

/-- Whether a word between `a` and `a + n` holds two flipped bits. -/
def Dev.eccBad (d : Dev) (a n : Nat) : Bool := d.ecc.any (fun e => e.2 && a ≤ e.1 + 7 && e.1 < a + n)

/-- After a write to SRAM from `a`, `n` bytes: its words read clean again, and an armed injection flips bits of the first full
word written to its bank (Table 6-10). -/
def Dev.sramWritten (d : Dev) (a n : Nat) : Dev :=
  if 0x20000000 ≤ a ∧ a < 0x20200000 ∧ 0 < n then
    let d1 := { d with ecc := d.ecc.filter (fun e => ! (a ≤ e.1 && e.1 + 8 ≤ a + n)) }
    let w := (a + 7) / 8 * 8
    if d1.flag Reg.MEM_INJ_ARM && w + 8 ≤ a + n && (w - 0x20000000) / 0x20000 == d1.get Reg.MEM_INJ_BANK then
      { d1.set Reg.MEM_INJ_ARM 0 with ecc := d1.ecc ++ [(w, d1.flag Reg.MEM_INJ_DOUBLE)] }
    else d1
  else d

/-! ### Channels -/

/-- Channel `c`. -/
def Dev.dch (d : Dev) (c : Nat) : DmaCh := d.dma.getD c DmaCh.reset

/-- Change channel `c`. -/
def Dev.modDch (d : Dev) (c : Nat) (f : DmaCh → DmaCh) : Dev := { d with dma := lmod d.dma c f }

/-- The page of channel `c`. -/
def dmaPage (c : Nat) : Nat := 0x1A + c / 8

/-- The tenant field of a channel's records: its owner, 0x8 for a firmware channel (R295). -/
def Dev.dmaTen (d : Dev) (c : Nat) : Nat := if c < 4 then 8 else d.dmaOwner.getD c 0xF

/-- A channel is enabled: its EN and its page's (R309). -/
def Dev.dmaEn (d : Dev) (c : Nat) : Bool := d.flag (Reg.DCH_CTL_EN c) && d.flag (Reg.PG_CTL_EN (dmaPage c))

/-- The address of slot `s` of channel `c`. -/
def slotAddr (c s : Nat) : Nat := 0x20060000 + c * 0x200 + s * 0x20

/-- Word `i` of an active descriptor. -/
def ActiveDesc.w (a : ActiveDesc) (i : Nat) : Nat := a.words.getD i 0

/-- PATH, COUNT and the flags of a descriptor (Table 6-4). -/
def ActiveDesc.path (a : ActiveDesc) : Nat := a.w 0 % 16
def ActiveDesc.count (a : ActiveDesc) : Nat := a.w 3 % 2 ^ 27
def ActiveDesc.barrier (a : ActiveDesc) : Bool := bit (a.w 0) 4
def ActiveDesc.isEnd (a : ActiveDesc) : Bool := bit (a.w 0) 5
def ActiveDesc.evt (a : ActiveDesc) : Bool := bit (a.w 0) 6
def ActiveDesc.slotKey (a : ActiveDesc) : Nat := bitsOf (a.w 0) 8 4
def ActiveDesc.tagNo (a : ActiveDesc) : Nat := a.w 0 / 65536

/-- A range lies in SRAM. -/
def inSram (a n : Nat) : Bool := 0x20000000 ≤ a && a + n ≤ 0x20200000

/-- A range lies in SRAM banks 1 to 3. -/
def inBanks13 (a n : Nat) : Bool := 0x20020000 ≤ a && a + n ≤ 0x20080000

/-- A range lies in the PSRAM window. -/
def inPsram (a n : Nat) : Bool := 0x60000000 ≤ a && a + n ≤ 0x64000000

/-- A range lies in the NOR window. -/
def inNor (a n : Nat) : Bool := 0x70000000 ≤ a && a + n ≤ 0x74000000

/-- The checks of R289 and Table 6-6 on a descriptor of channel `c`. -/
def descValid (c : Nat) (a : ActiveDesc) : Bool :=
  let n := a.count
  let path := a.path
  let dst := a.w 2
  let src := a.w 1
  let q := dst % 4
  ! bit (a.w 0) 7 && bitsOf (a.w 0) 12 4 == 0 && a.w 3 / 2 ^ 27 == 0 &&
  1 ≤ n && n ≤ 2 ^ 26 && ((path == 3) == (a.slotKey != 0)) &&
  (match path with
   | 0 => (c == 2 || c == 3) && (inSram src n || inPsram src n || inNor src n) && (inBanks13 dst n || inPsram dst n)
   | 1 => 4 ≤ c && src ≤ 8 && inPsram dst n
   | 2 => c ≤ 2 && (inPsram src n || inNor src n) && q != 3 && bitsOf dst 2 14 == 0
   | 3 => c == 0 && inPsram src n && q == 0 && bitsOf dst 2 14 == 0
   | 4 => (c == 2 || c == 3) && (inBanks13 dst n || inPsram dst n) && dst % 4 == 0 && n % 4 == 0
   | _ => false)

/-- Bytes of a range of which a memory answers: the rest fails with DECODE (R275, R276). -/
def Dev.reach (d : Dev) (a n : Nat) : Nat :=
  if inSram a n then n
  else if inPsram a n then min n (0x60000000 + d.psramSize - a)
  else if inNor a n then min n (0x70000000 + d.norSize - a)
  else 0

/-! ### Retirement (R291 to R296) -/

/-- A layer-band of the sheet or receipt that a FETCH was for has failed (R314): its block leaves the queue, its units pass to
RELEASING, and the failure is kept with its reason of Table 8-3. -/
def Dev.failFetch (d : Dev) (a : ActiveDesc) (reason : Nat) : Dev :=
  let band := a.w 4 % 65536
  let layer := bitsOf (a.w 4) 16 8
  let token := a.w 4 / 16777216
  let job := a.w 5 % 65536
  let index := a.w 5 / 65536
  let epoch := a.w 2 / 65536
  let d1 := d.dropBlocks (fun b => b.band == band && b.layer == layer && b.token == token && b.job == job &&
    b.index == index && b.epoch == epoch)
  if a.w 2 % 4 = 1 then
    { (d1.release (fun u => u.kind == 2 && u.job == job && u.band == band && u.epoch == epoch)) with
      rcptBad := d1.rcptBad ++ [band] }
  else match d1.sheets.find? (fun s => s.token == token && s.epoch == epoch && s.job == job && s.index == index) with
    | none => d1
    | some s =>
      (d1.release (fun u => u.state == .filling && u.holds s 0 layer band)).modSheets (·.is s.tenant s.epoch s.job s.index)
        (·.failBand layer band reason)

/-- The reason of Table 8-3 for a BAD code. -/
def badReason (code : Nat) : Nat := if code = St.keyEmpty ∨ code = St.keyRevoked then 4 else 3

/-- What a retired descriptor means for the DATA_DMA chain it belongs to (R188, R299, R308). -/
def Dev.chainRetire (d : Dev) (c : Nat) (a : ActiveDesc) (result code done : Nat) : Dev :=
  match (d.dch c).chain with
  | none => d
  | some h =>
    if h.ended then d
    else
      let n := if result = 3 then done else a.count
      let h1 := { h with
        pos := h.pos + n, stored := h.stored + (if result = 1 then a.count else done),
        status := if result = 2 ∧ h.status = 0 then code else h.status, ended := a.isEnd || result == 3,
        todo := if result = 3 then [] else h.todo }
      let grow := fun (t : Stream) => { t with
        len := max t.len (h.start + h1.pos),
        bad := if result = 2 then t.bad ++ [(h.start + h.pos + done, h.start + h.pos + a.count)] else t.bad }
      let d1 := d.modDch c (fun x => { x with chain := some h1 })
      let d2 := d1.modSheets (·.is h.ten h.epoch h.job h.index) (fun s => { s with streams := lmod s.streams h.layer grow })
      let d3 := if (d2.job? h.ten h.job).any (·.thermal) && (d2.ten h.ten).epoch == h.epoch
        then d2.modJob h.ten h.job (fun j => { j with stream := grow j.stream }) else d2
      if h1.ended then d3.modChan (a.w 1 % 16) (fun x => { x with dmaLeft := 0 }) else d3

/-- No slot of the channel's queue is free: the slot of the active descriptor is not (R287; log entry 45). -/
def Dev.queueFull (d : Dev) (c : Nat) : Bool := 16 ≤ (d.dch c).queued + b2n (d.dch c).active.isSome

/-- Post six words to channel `c` (R286, R287). -/
def Dev.postDesc (d : Dev) (m : Mem) (c : Nat) (ws : List Nat) : Dev × Mem :=
  let ch := d.dch c
  if d.queueFull c then (d.set ⟨Reg.DMA_POST (c / 8), 8, 1⟩ 1, m)
  else
    let s := (ch.head + ch.queued) % 16
    let bs := (List.range 6).flatMap (fun i => leBytes 4 (ws.getD i 0)) ++ zeros 8
    (((d.modDch c (fun x => { x with queued := x.queued + 1 })).addWrap (Reg.DCH_POSTED_COUNT c) 1).sramWritten (slotAddr c s) 32,
     m.writeBytes (slotAddr c s) bs)

/-- The firmware posts what is left of a channel's DATA_DMA chain while its queue has room (R187). -/
def Dev.chainPost : Nat → Nat → Dev → Mem → Dev × Mem
  | 0, _, d, m => (d, m)
  | n + 1, c, d, m =>
    match (d.dch c).chain with
    | none => (d, m)
    | some h =>
      match h.todo with
      | [] => (d, m)
      | ws :: rest =>
        if d.queueFull c then (d, m)
        else
          let (d1, m1) := (d.modDch c (fun x => { x with chain := some { h with todo := rest } })).postDesc m c ws
          Dev.chainPost n c d1 m1

/-- Write the status word of a retired descriptor and update the channel's records (R293, R295). -/
def Dev.retire (d : Dev) (m : Mem) (c : Nat) (a : ActiveDesc) (result code done : Nat) : Dev × Mem :=
  let status := result + (if a.barrier then min (d.dch c).leSeen 15 else 0) * 256 + code * 65536
  let m1 := (m.writeBytes (slotAddr c a.slot + 24) (leBytes 4 done)).writeBytes (slotAddr c a.slot + 28) (leBytes 4 status)
  let d0 := (d.sramWritten (slotAddr c a.slot + 24) 8).modDch c (fun x => { x with active := none, barWait := false, leSeen := if a.barrier then 0 else x.leSeen })
  let d1 := (((d0.addWrap (Reg.DCH_RETIRED_COUNT c) 1).set (Reg.DCH_LAST_TAG c) a.tagNo).set (Reg.DCH_LAST_RESULT c) result)
  let d2 := (d1.setReg (Reg.DCH_LAST_STATUS c) status).setReg (Reg.DCH_LAST_BYTES c) done
  let d3 := if result = 2 then d2.addSat (Reg.DCH_CNT_BAD c) 1
    else if result = 3 then d2.addSat (Reg.DCH_CNT_DROPPED c) 1 else d2
  let d4 := if result = 2 ∨ (result = 1 ∧ a.evt) then
      d3.raise (dmaPage c) (d3.dmaTen c) code (St.sev code) (a.tagNo + (c % 16) * 65536 + result * 1048576)
    else d3
  Dev.chainPost 1 c (d4.chainRetire c a result code done) m1

/-- Queued descriptors of a channel retire as DROPPED (R307); the status code of a DROPPED result is a free value. -/
def Dev.dropQueue : Nat → Nat → Dev → Mem → Dev × Mem
  | 0, _, d, m => (d, m)
  | n + 1, c, d, m =>
    let ch := d.dch c
    if ch.queued = 0 then (d, m)
    else
      let ws := (List.range 6).map (fun i => m.readLE (slotAddr c ch.head + 4 * i) 4)
      let (i, d1) := d.fresh
      let d2 := d1.modDch c (fun x => { x with head := (x.head + 1) % 16, queued := x.queued - 1 })
      let (d3, m1) := d2.retire m c ⟨ch.head, ws, 0, none, false⟩ 3 ((Config.freeWord i).toNat % 65536) 0
      Dev.dropQueue n c d3 m1

/-- After a descriptor has retired, a pending stop takes effect (R307). -/
def Dev.afterRetire (d : Dev) (m : Mem) (c : Nat) : Dev × Mem :=
  match (d.dch c).stop with
  | none => (d, m)
  | some dropAll =>
    let d1 := d.modDch c (fun x => { x with stop := none })
    if dropAll then Dev.dropQueue 16 c d1 m else (d1, m)

/-- Job data that tenant `k` has placed in the spool counts into its ingest window (R42). -/
def Dev.ingest (d : Dev) (k n : Nat) : Dev := d.modTen k (fun t => { t with winBytes := t.winBytes + n })

/-- Port bytes that wait for a PORT_IN descriptor are written to its destination. -/
def Dev.portTake (d : Dev) (m : Mem) (c : Nat) (a : ActiveDesc) : Dev × Mem × ActiveDesc :=
  let p := a.w 1 % 16
  let n := min (d.chan p).dmaIn.length (a.count - a.done)
  let bs := (d.chan p).dmaIn.take n
  let a1 := { a with done := a.done + n }
  let d1 := (d.modChan p (fun x => { x with dmaIn := x.dmaIn.drop n })).modDch c (fun x => { x with active := some a1 })
  (match (d.dch c).chain with
   | some h => if d.owned h.ten h.epoch then d1.ingest h.ten n else d1
   | none => d1,
   m.writeBytes (a.w 2 + a.done) bs, a1)

/-- A stop is asked of a channel (R307, R308): a PORT_IN that waits for bytes retires at once as DROPPED; an active descriptor
runs to its boundary; an idle channel drops its queue at once when `dropAll` holds. -/
def Dev.stopCh (d : Dev) (m : Mem) (c : Nat) (dropAll : Bool) : Dev × Mem :=
  match (d.dch c).active with
  | none => if dropAll then Dev.dropQueue 16 c d m else (d, m)
  | some a =>
    let d0 := d.modDch c (fun x => { x with stop := some dropAll })
    if a.path = 1 then
      let (d1, m1, a1) := d0.portTake m c a
      if a1.done < a1.count then
        let (i, d2) := d1.fresh
        let (d3, m2) := d2.retire m1 c a1 3 ((Config.freeWord i).toNat % 65536) a1.done
        d3.afterRetire m2 c
      else (d1, m1)
    else (d0, m)

/-- The streams a channel's chain feeds are walked anew. -/
def Dev.walkChain (d : Dev) (m : Mem) (c : Nat) : Dev :=
  match (d.dch c).chain with
  | some h => if h.index = 0 ∧ (d.job? h.ten h.job).any (·.thermal) then d.walkJob m h.ten h.job
      else d.walkSheet m h.ten h.epoch h.job h.index h.layer
  | none => d

/-! ### Commands -/

/-- The firmware's write to a page selected by `sel` with an effect on the memories too; a tenant's write has no effect and
completes (R283). -/
def landFw (l : Land) (sel : Nat → Word → Bool) (eff : Nat → Word → Dev → Mem → Dev × Mem) (d : Dev) (m : Mem) : Dev × Mem :=
  match l with
  | .fw a v =>
    if sel a v then
      match d.fwRefuse a with
      | 0 => eff a v d m
      | r => ((d.setReg Reg.FW_LE_ADDR a).set Reg.FW_LE_INFO_REASON r, m)
    else (d, m)
  | .tenant _ _ => (d.land l sel (fun _ _ _ d => d), m)

/-- DMA_POST (R286): the firmware writes a channel's number, and the six descriptor words go into its next free slot. A write
with POST_REFUSED set clears that bit and posts nothing. -/
def execDmaPost (l : Land) : State → Out := onAll (landFw l
  (fun a _ => a == Reg.DMA_POST 0 || a == Reg.DMA_POST 1)
  (fun a v d m =>
    let p := if a = Reg.DMA_POST 0 then 0 else 1
    if bit v.toNat 8 then (d.clrReg a 0x100, m)
    else d.postDesc m (8 * p + v.toNat % 8) ((List.range 6).map (fun i => d.reg (Reg.DMA_DESC p i)))))

/-- The block a FETCH or FETCH_DEC delivers to the codec (R313, Table 6-8): its bytes, decrypted when encrypted, and whether the
GCM tag matches. -/
def fetchBlock (m : Mem) (c : Nat) (a : ActiveDesc) (key : Option (List Byte)) : CBlock × Bool :=
  let raw := m.readBytes (a.w 1) a.count
  let band := a.w 4 % 65536
  let layer := bitsOf (a.w 4) 16 8
  let job := a.w 5 % 65536
  let index := a.w 5 / 65536
  let epoch := a.w 2 / 65536
  let mk := fun (bs : List Byte) (given : Nat) (needTag : Bool) =>
    (⟨bs, given, c, band, layer, a.w 4 / 16777216, job, index, epoch, needTag, c == 2⟩ : CBlock)
  match key with
  | none => (mk raw raw.length false, true)
  | some k =>
    let iv := raw.take 12
    let clen := leAt raw 12 4
    let ct := (raw.drop 16).take clen
    let tag := (raw.drop (16 + clen)).take 16
    let aad := leBytes 4 clen ++ leBytes 2 job ++ leBytes 2 index ++ leBytes 1 layer ++ [0] ++ leBytes 2 band ++
      leBytes 2 epoch ++ zeros 2
    (mk (gcmCrypt k iv ct) clen true, tag.length == 16 && tag == gcmTag k iv aad ct)

/-- Blocks waiting in the queue a FETCH goes to. -/
def Dev.qDepth (d : Dev) (q : Nat) : Nat :=
  match q with
  | 0 => d.codec.q0.length
  | 1 => d.codec.q1.length
  | _ => d.codec.q2.length

/-- A block that the firmware passes through the encoder (R352): RECODE is set, the encoder's queue is idle, and the block is a RAW one of a
plain job-raster layer. -/
def Dev.recodeOk (d : Dev) (s : Sheet) (b : CBlock) : Bool :=
  let l := s.layers[b.layer]?
  d.flag Reg.CODEC_CFG_RECODE && d.codec.q2.isEmpty && (parseHdr b.bytes).coding == 0 && l.any (fun x => x.source == 2 && ! x.encrypted)

/-- Give a fetched block to its queue: a decoder queue, or the encoder's as a raster of its layer (R352). -/
def Dev.pushBlock (d : Dev) (q : Nat) (b : CBlock) : Dev :=
  match q with
  | 0 => { d with codec := { d.codec with q0 := d.codec.q0 ++ [b] } }
  | 1 => { d with codec := { d.codec with q1 := d.codec.q1 ++ [b] } }
  | _ =>
    let h := parseHdr b.bytes
    match d.sheets.find? (fun s => s.epoch == b.epoch && s.job == b.job && s.index == b.index &&
        (s.token == b.token || b.token == 0)) with
    | some s => if ! d.recodeOk s b then d else { d with codec := { d.codec with q2 := d.codec.q2 ++ [⟨false, s.tenant, b.epoch, b.job, b.index, b.layer, b.band,
        h.width, bppOf h.bppCode, h.bandH, h.lines, (b.bytes.drop 32).take h.plen⟩] } }
    | none => d

/-- DESCRIPTOR_FETCH (R288, R289): a free, enabled channel takes its shadows and its next descriptor; an invalid one, one whose
slot is uncorrectable (`ecc`), and a FETCH_DEC whose slot holds no AES key retire BAD; another becomes active, and a
fetch gives its data to the codec as it streams. -/
def execDescriptorFetch (c : Fin 16) (ecc : Bool) : State → Out := onAll (fun d m =>
  let c := c.val
  let ch := d.dch c
  if ! d.dmaEn c || ch.active.isSome || ch.queued = 0 then (d, m)
  else
    let ad := slotAddr c ch.head
    let a : ActiveDesc := ⟨ch.head, (List.range 6).map (fun i => m.readLE (ad + 4 * i) 4), 0, none, false⟩
    let q := a.w 2 % 4
    if (a.path = 2 ∨ a.path = 3) ∧ 15 ≤ d.qDepth q then (d, m)
    else
      let d0 := ((d.sramRead ad 32).chanBoundary (dmaPage c) (c % 8)).modDch c (fun x => { x with head := (x.head + 1) % 16, queued := x.queued - 1 })
      if ecc || d.eccBad ad 32 then
        let (d1, m1) := (d0.eccCount ad (d0.dmaTen c) 2).retire m c a 2 St.eccUncorrectable 0
        d1.afterRetire m1 c
      else if ! descValid c a then
        let (d1, m1) := d0.retire m c a 2 St.dmaBadDesc 0
        d1.afterRetire m1 c
      else if a.path = 3 ∧ (d0.key a.slotKey).typ ≠ 1 then
        let (d1, m1) := ((d0.addSat Reg.CR_ERR_EMPTY 1).failFetch a 4).retire m c a 2 St.keyEmpty 0
        d1.afterRetire m1 c
      else if a.path = 2 ∨ a.path = 3 then
        let d1 := if a.path = 3 then d0.boundary 0x14 else d0
        let key := if a.path = 3 then some (d1.key a.slotKey).key else none
        let (b, ok) := fetchBlock m c a key
        let a1 := { a with tagOk := ok, snap := key.map (fun k => (a.slotKey, k)) }
        let d2 := d1.modDch c (fun x => { x with active := some a1 })
        (if d2.reach (a.w 1) a.count = a.count then d2.pushBlock q b else d2, m)
      else (d0.modDch c (fun x => { x with active := some a }), m))

/-- Move the data of an active descriptor: the bytes of COPY, FILL and PORT_IN up to the first burst that fails; answers the
bytes done. A PORT_IN that has not all its bytes stays active. -/
def Dev.moveData (d : Dev) (m : Mem) (c : Nat) (a : ActiveDesc) : Dev × Mem × ActiveDesc :=
  let n := a.count
  match a.path with
  | 0 =>
    let ok := min (d.reach (a.w 1) n) (d.reach (a.w 2) n)
    let k := if ok = n then n else ok / 64 * 64
    ((d.sramRead (a.w 1) k).sramWritten (a.w 2) k, m.writeBytes (a.w 2) (m.readBytes (a.w 1) k), { a with done := k })
  | 1 => if a.done < n then d.portTake m c a else (d, m, a)
  | 4 =>
    let ok := d.reach (a.w 2) n
    let k := if ok = n then n else ok / 64 * 64
    (d.sramWritten (a.w 2) k, m.writeBytes (a.w 2) ((List.range (k / 4)).flatMap (fun _ => leBytes 4 (a.w 4))), { a with done := k })
  | _ =>
    let ok := d.reach (a.w 1) n
    (d, m, { a with done := if ok = n then n else ok / 64 * 64 })

/-- The GCM tag of a FETCH_DEC has matched: its block needs none any more, or its decoded units become READY (R313, R341). -/
def Dev.tagMatched (d : Dev) (a : ActiveDesc) : Dev :=
  let band := a.w 4 % 65536
  let layer := bitsOf (a.w 4) 16 8
  let token := a.w 4 / 16777216
  let job := a.w 5 % 65536
  let index := a.w 5 / 65536
  let hit := fun (b : CBlock) => b.needTag && b.band == band && b.layer == layer && b.token == token && b.job == job && b.index == index
  let d1 := { d with codec := { d.codec with q0 := d.codec.q0.map (fun b => if hit b then { b with needTag := false } else b) } }
  d1.modUnits (fun u => u.state == .filling && u.kind == 0 && u.dec && u.band == band && u.layer == layer && u.token == token &&
    u.job == job && u.index == index) (fun u => { u with tag := true, state := .ready })

/-- PORT_IN_TIMEOUT (R297): no byte arrives for PORT_TIMEOUT, and the PORT_IN descriptor retires BAD with DMA_TIMEOUT. -/
def execPortInTimeout (c : Fin 16) : State → Out := onAll (fun d m =>
  let c := c.val
  match (d.dch c).active with
  | none => (d, m)
  | some a =>
    if a.path ≠ 1 then (d, m)
    else
      let (d1, m1, a1) := d.portTake m c a
      if a1.done < a1.count then
        let (d2, m2) := d1.retire m1 c a1 2 St.dmaTimeout a1.done
        let (d3, m3) := d2.afterRetire m2 c
        (d3.walkChain m3 c, m3)
      else (d1, m1))

/-- LATE_DMA_ERROR (R300 to R306): a write to `addr` fails after its descriptor (`tag`) has retired: the FIFO entry or OVF, the
event, the count for the LE_SEEN of the next BARRIER that retires (R303); before the DATA_DMA response the bytes are marked corrupt, after it
INTEGRITY_UNKNOWN is set on the job's sheets that are not final, and reported for those that are. -/
def execLateDmaError (c : Fin 16) (addr tag : Nat) (reason : Fin 4) : State → Out := onAll (fun d m =>
  let c := c.val
  let ch := d.dch c
  let d1 := if 4 ≤ ch.late.length then d.set (Reg.DCH_LE_STAT_OVF c) 1
    else d.modDch c (fun x => { x with late := x.late ++ [(addr, tag, reason.val + 1)] })
  let d2 := d1.raise (dmaPage c) (d1.dmaTen c) St.lateWriteErr 1 addr
  let d3 := d2.modDch c (fun x => { x with leSeen := x.leSeen + 1 })
  match ch.chain with
  | none => (d3, m)
  | some h =>
    if h.answered then
      (if h.final then d3.raise (dmaPage c) h.ten St.integrityUnknown 2 (h.job + h.index * 65536)
       else d3.modSheets (·.is h.ten h.epoch h.job h.index) (fun s => { s with integrity := true }), m)
    else
      let mark := fun (t : Stream) =>
        match t.exts.findIdx? (fun e => e ≤ addr && addr < e + 65536) with
        | some i => let o := i * 65536 + (addr - t.exts.getD i 0); { t with bad := t.bad ++ [(o, o + 64)] }
        | none => t
      let d4 := d3.modDch c (fun x => { x with chain := some { h with status := St.lateWriteErr } })
      let d5 := d4.modSheets (·.is h.ten h.epoch h.job h.index) (fun s => { s with streams := lmod s.streams h.layer mark })
      (d5.walkChain m c, m))

/-- CH_LE_POP (R302): writing 1 to POP removes the oldest late error; on an empty FIFO it has no effect. -/
def execChLePop (l : Land) : State → Out := onDev (fun d =>
  d.land l (fun a v => (List.range 16).any (fun c => a == Reg.DCH_LE_POP c) && bit v.toNat 0)
    (fun _ a _ d => match (List.range 16).find? (fun c => a == Reg.DCH_LE_POP c) with
      | some c => d.modDch c (fun x => { x with late := x.late.tail })
      | none => d))

/-- The channel a CH_CTL address belongs to. -/
def chanOfCtl (a : Nat) : Option Nat := (List.range 16).find? (fun c => a == Reg.DCH_CTL c)

/-- A write to CH_CTL that stops the channel. The write is checked and stored as any other (Table 5-1); then the stop. -/
def stopWrite (l : Land) (sel : Nat → Word → Bool) (dropAll : Bool) (d : Dev) (m : Mem) : Dev × Mem :=
  let d1 := d.land l sel (fun _ a v d => d.store a v.toNat)
  let hit := match l with
    | .tenant k e => match (d.br k).queue with
      | w :: _ => if sel w.addr w.data && d.refuseReason k w.addr w.data (e = .uncorrectable) == 0 then chanOfCtl w.addr else none
      | [] => none
    | .fw a v => if sel a v && d.fwRefuse a == 0 then chanOfCtl a else none
  match hit with
  | some c => d1.stopCh m c dropAll
  | none => (d1, m)

/-- DMA_ABORT (R307): a CH_CTL write with ABORT set stops the channel at the descriptor boundary and drops its queue. -/
def execDmaAbort (l : Land) : State → Out := onAll (stopWrite l (fun a v => (chanOfCtl a).isSome && bit v.toNat 1) true)

/-- CHANNEL_DISABLE (R307): a CH_CTL write with EN 0 stops the channel at the next descriptor boundary and keeps its queue. -/
def execChannelDisable (l : Land) : State → Out :=
  onAll (stopWrite l (fun a v => (chanOfCtl a).isSome && ! bit v.toNat 1 && ! bit v.toNat 0) false)

/-- PRIORITY_RAISE (R316): a request that has waited 256 cycles goes up one class; RAISED counts it. A P0 request's wait is
recorded in P0_WAIT_MAX. -/
def execPriorityRaise (p0wait : Nat) : State → Out := onDev (fun d =>
  let d1 := d.addSat Reg.FAB_STAT_RAISED 1
  if d1.get Reg.FAB_STAT_P0_WAIT_MAX < p0wait then d1.set Reg.FAB_STAT_P0_WAIT_MAX (min p0wait 65535) else d1)

/-- XSPI_CMD_GO (R279): the firmware starts a NOR program, erase or status sequence; GO reads 1 and
XSPI is held until it ends. A tenant's write
has the access-code effect on the register and starts nothing. -/
def execXspiCmdGo (l : Land) : State → Out := onDev (fun d =>
  d.land l (fun a v => a == Reg.XSPI_CMD_CTL && bit v.toNat 16) (fun ag a v d =>
    let d1 := d.store a v.toNat
    match ag with
    | .fw => { d1.fwHold 0x18 with norBusy := 1 }
    | .tenant _ => d1.clrReg a 0x10000))

/-- NOR_SUSPEND (R280): a NOR that supports suspend has its running sequence suspended to serve a read. -/
def execNorSuspend : State → Out := onDev (fun d =>
  when (d.flag Reg.XSPI_STAT_SUSPEND && d.norBusy == 1) (fun d => { d with norBusy := 2 }) d)

/-- NOR programming clears bits: a programmed byte is the AND of the old and the new one. -/
def Mem.program (m : Mem) : Nat → List Byte → Mem
  | _, [] => m
  | a, b :: bs => (m.setNor a (m.byte a &&& b)).program (a + 1) bs

/-- Erase `n` bytes of NOR from `a`. -/
def Mem.erase (m : Mem) : Nat → Nat → Mem
  | _, 0 => m
  | a, n + 1 => (m.setNor a 0xFF).erase (a + 1) n

/-- NOR_SEQUENCE_END (R280): the running sequence completes and GO clears. What the sequence does is in the NOR's own command
set (the OP the firmware took from SFDP): the outside says whether it was a program of the LEN data bytes, an erase of
`n` bytes, or neither. -/
def execNorSequenceEnd (op : NorOp) : State → Out := onAll (fun d m =>
  if d.norBusy = 0 then (d, m)
  else
    let a := 0x70000000 + d.reg Reg.XSPI_CMD_ADDR % 0x4000000
    let len := min (d.get Reg.XSPI_CMD_CTL_LEN) 256
    let data := ((List.range 64).flatMap (fun i => leBytes 4 (d.reg (Reg.XSPI_CMD_DATA i)))).take len
    let m1 := match op with
      | .program => m.program a data
      | .erase n => m.erase a n
      | .other => m
    ({ (d.clrReg Reg.XSPI_CMD_CTL 0x10000).fwFree 0x18 with norBusy := 0 }, m1))

end Sys2Proof.Machine
end

