-- ==== Sys2Proof/Machine/CodecOps.lean ====
section
/-! DEFINITION. The band codec at work (spec/07_band_codec.md): decoding the next block of the queues, suspension, and the
controller's encoder. The format itself is in BandCodec.lean. -/

set_option linter.unusedVariables false

namespace Sys2Proof.Machine

/-- OUT_MAX in force: values above 327,680 act as 327,680 (Table 7-7). -/
def Dev.outMax (d : Dev) : Nat := min (d.get Reg.CODEC_LIMIT_OUT_MAX) 327680

/-- RATIO_LOG2 in force: values below 4 act as 4, values above 20 as 20. -/
def Dev.ratioLog2 (d : Dev) : Nat := clampN 4 20 (d.get Reg.CODEC_CFG_RATIO_LOG2)

/-- EFFORT in force: 3 acts as 2 (R348). -/
def Dev.effort (d : Dev) : Nat := min (d.get Reg.CODEC_CFG_EFFORT) 2

/-- The galley units of a set, in bytes. -/
def Dev.roomOf (d : Dev) (p : GUnit → Bool) : Nat := 16384 * (d.units.filter p).length

/-- What a block of queue 0 is decoded against: its sheet, and the width, depth, band height and lines of its job or, for a
form layer, of the form (Table 7-6 step 3, R320). -/
def Dev.sheetCtx (d : Dev) (s : Sheet) (b : CBlock) : DecCtx :=
  let room := d.roomOf (fun u => u.state == .filling && u.holds s 0 b.layer b.band)
  let own : DecCtx := ⟨b.band, s.width, s.bpp, s.bandH, s.linesOf b.band, false, room, d.outMax, d.ratioLog2, b.given⟩
  if (s.layer b.layer).source = 1 then
    match d.form? s.tenant (s.layer b.layer).arg with
    | some f => { own with width := f.width, bpp := f.bpp, bandH := f.bandH, lines := bandLines f.bandH,
                           anyLines := b.band + 1 == f.blocks.length }
    | none => own
  else own

/-- What a block of queue 1 is decoded against: the receipt in progress. A receipt's last block holds what is left of its
lines. -/
def Dev.jobCtx (d : Dev) (m : Mem) (j : Job) (p : GUnit → Bool) (b : CBlock) : DecCtx :=
  let final := j.stream.last && b.band + 1 == (j.stream.blocks m false).length
  ⟨b.band, j.width, j.bpp, j.bandH, bandLines j.bandH, final, d.roomOf p, d.outMax, d.ratioLog2, b.given⟩

/-- DEC_LAST, DEC_LAST_BAND and DEC_CYCLES after a block (Table 7-7). -/
def Dev.decLast (d : Dev) (q : Nat) (b : CBlock) (r : DecRes) : Dev :=
  ((((((((d.set Reg.DEC_LAST_STATUS r.status).set Reg.DEC_LAST_DETAIL r.detail).set Reg.DEC_LAST_QUEUE q).set
    Reg.DEC_LAST_LAYER b.layer).set Reg.DEC_LAST_TOKEN b.token).set Reg.DEC_LAST_BAND_BAND b.band).set
    Reg.DEC_LAST_BAND_JOB b.job).set Reg.DEC_CYCLES_CYCLES r.cycles)

/-- The counter of DEC_ERR that a failing status counts in. -/
def Dev.decErr (d : Dev) (status : Nat) : Dev :=
  if status = St.outputLimit then d.addSat Reg.DEC_ERR_OUTLIMIT 1
  else if status = St.noGain then d.addSat Reg.DEC_ERR_NOGAIN 1
  else if status = St.ratioLimit then d.addSat Reg.DEC_ERR_RATIO 1
  else d.addSat Reg.DEC_ERR_CORRUPT 1

/-- A block has been decoded (R339 to R342): its raster fills the units of `p`, which become READY when no tag is awaited; or
it is refused, its units pass to RELEASING, and the event of R342 is raised for tenant `ten`. -/
def Dev.decoded (d : Dev) (m : Mem) (q ten : Nat) (b : CBlock) (bpp : Nat) (r : DecRes) (p : GUnit → Bool) : Dev × Mem :=
  let d1 := d.decLast q b r
  if r.detail = 0 then
    let d2 := d1.addWrap Reg.DEC_COUNT_BLOCKS 1
    (d2.modUnits (fun u => u.state == .filling && p u)
      (fun u => if b.needTag then { u with dec := true } else { u with dec := true, tag := true, state := .ready }),
     d.fillUnits m (fun u => u.state == .filling && p u) (packPixels bpp r.pixels.toList))
  else
    (((d1.decErr r.status).codecEvent ten r.status b.band r.detail q (if q = 1 then 0 else b.layer)
      (if q = 1 then 0 else b.token)).release (fun u => u.state == .filling && p u), m)

/-- A block of a sheet: decoded when its sheet is still there, else left undecoded with no event (R346). -/
def Dev.decodeSheet (d : Dev) (m : Mem) (b : CBlock) : Dev × Mem :=
  match d.sheets.find? (fun s => b.isOf s) with
  | none => (d, m)
  | some s =>
    if s.state.final || s.blank then (d, m)
    else
      let c := d.sheetCtx s b
      let r := decodeBlock c b.bytes
      let o := d.decoded m 0 s.tenant b c.bpp r (·.holds s 0 b.layer b.band)
      if r.detail = 0 then o
      else (o.1.modSheets (·.is s.tenant s.epoch s.job s.index) (·.failBand b.layer b.band 3), o.2)

/-- A block of a receipt. -/
def Dev.decodeReceipt (d : Dev) (m : Mem) (b : CBlock) : Dev × Mem :=
  match d.rcpt with
  | none => (d, m)
  | some (k, e, j) =>
    match (d.ten k).jobs.find? (fun x => x.num == j && x.epoch == e) with
    | none => (d, m)
    | some x =>
      if b.job ≠ j ∨ b.epoch ≠ e then (d, m)
      else
        let p : GUnit → Bool := fun u => u.kind == 2 && u.tenant == k && u.epoch == e && u.job == j && u.band == b.band
        let c := d.jobCtx m x (fun u => u.state == .filling && p u) b
        let r := decodeBlock c b.bytes
        let o := d.decoded m 1 k b c.bpp r p
        if r.detail = 0 then o else ({ o.1 with rcptBad := o.1.rcptBad ++ [b.band] }, o.2)

/-- BLOCK_DECODE (R338 to R347): at a block boundary the page's shadows are taken, and the decoder decodes the next block of
queue 0, or of queue 1 when queue 0 is empty (R344). A suspended block of queue 1 goes on once queue 0 is empty. -/
def execBlockDecode : State → Out := onAll (fun d m =>
  match d.codec.q0, d.codec.q1 with
  | b :: rest, _ =>
    let d1 := { d.boundary 0x1C with codec := { d.codec with q0 := rest, suspended := d.codec.suspended && ! rest.isEmpty } }
    d1.decodeSheet m b
  | [], b :: rest =>
    ({ d.boundary 0x1C with codec := { d.codec with q1 := rest, suspended := false } }).decodeReceipt m b
  | [], [] => (d, m))

/-- DECODE_SUSPEND (R345): a block of queue 0 has become ready while one of queue 1 decodes; that one is suspended. -/
def execDecodeSuspend : State → Out := onDev (fun d =>
  when (! d.codec.q0.isEmpty && ! d.codec.q1.isEmpty)
    (fun d => { d with codec := { d.codec with suspended := true } }) d)

/-- The start of the form and patch staging area of bank 2 (Table 6-2; its place within the bank: DESIGN CHOICE, log entry 7). -/
def stagingBase : Nat := 0x20040000

/-- Whether a fetch of a layer-band is queued or active on channel 0 (R352, R353). -/
def Dev.fetchPosted (d : Dev) (m : Mem) (e : EncBlk) : Bool :=
  let ch := d.dch 0
  let mine := fun (w4 w5 : Nat) => w4 % 65536 == e.band && bitsOf w4 16 8 == e.layer && w5 % 65536 == e.job && w5 / 65536 == e.index
  (List.range ch.queued).any (fun i =>
    let a := slotAddr 0 ((ch.head + i) % 16)
    mine (m.readLE (a + 16) 4) (m.readLE (a + 20) 4)) ||
  (match ch.active with
   | some a => mine (a.w 4) (a.w 5)
   | none => false)

/-- A recoded block replaces the RAW block of its band in one step, only when it is shorter and no fetch of the band is posted
(R353); it lies at `addr`, which the firmware chose among free extents. -/
def Dev.recode (d : Dev) (m : Mem) (e : EncBlk) (blk : List Byte) (addr : Nat) : Dev × Mem :=
  match d.sheets.find? (·.is e.ten e.epoch e.job e.index) with
  | none => (d, m)
  | some s =>
    match ((s.stream e.layer).blocks m false)[e.band]? with
    | none => (d, m)
    | some (_, n) =>
      let done := (s.stream e.layer).overExts.any (fun o => o.1 == e.band)
      if blk.length < n && ! d.fetchPosted m e && ! done && inPsram addr blk.length &&
          d.extsOk [addr / 65536 * 65536] && addr % 65536 + blk.length ≤ 65536 then
        let put := fun (t : Stream) => { t with overExts := t.overExts ++ [(e.band, addr, blk.length, n)] }
        (d.modSheets (·.is e.ten e.epoch e.job e.index) (fun x => { x with streams := lmod x.streams e.layer put }),
         m.writeBytes addr blk)
      else (d, m)

/-- BLOCK_ENCODE (R348 to R350, R352, R353): the encoder codes the raster at the head of queue 2 and writes the block to the
staging area; a form's block joins the form store, a job's block replaces its RAW block at `addr`. -/
def execBlockEncode (addr : Nat) : State → Out := onAll (fun d m =>
  match d.codec.q2 with
  | [] => (d, m)
  | e :: rest =>
    let d0 := { d.boundary 0x1C with codec := { d.codec with q2 := rest } }
    let (blk, fell) := encodeBlock d0.effort e.width e.bpp e.bandH e.lines e.band e.raster
    let d1 := d0.addWrap Reg.ENC_COUNT_BLOCKS 1
    let d2 := if fell then d1.addWrap Reg.ENC_COUNT_RAW_FALLBACK 1 else d1
    let d3 := (d2.fireT 0x1C 1 e.ten 0).sramWritten stagingBase blk.length
    let m1 := m.writeBytes stagingBase blk
    if e.form then
      (d3.modTen e.ten (fun t => { t with formParts := t.formParts.map (fun p =>
        if p.id = e.job ∧ p.last then { p with blocks := p.blocks ++ [blk] } else p) }), m1)
    else d3.recode m1 e blk addr)

end Sys2Proof.Machine
end

