-- ==== Sys2Proof/Machine/Otp.lean ====
section
/-! DEFINITION. The OTP array (spec/19_boot_otp_patches.md): its shadows, the region checks, sensing and programming. -/

set_option linter.unusedVariables false

namespace Sys2Proof.Machine

/-- The sensed shadow of a word (R816). -/
def Dev.otpWord (d : Dev) (i : Nat) : Nat := (sget otpBlank d.otp.shadow i).toNat

/-- Words `[a, b)` of the shadows as bytes, each little-endian (R1, R821). -/
def Dev.otpBytes (d : Dev) (a b : Nat) : List Byte := (List.range (b - a)).flatMap (fun i => leBytes 4 (d.otpWord (a + i)))

/-- The unique device identifier as 8 bytes (R852). -/
def Dev.uid (d : Dev) : List Byte := d.otpBytes 256 258

/-- The value of a LOCKED lock word. -/
def otpLocked : Nat := 0x5AA5C33C

/-- A region's first word and its lock word; the digest words are the eight before the lock (Table 19-1). -/
def otpRegion (r : Nat) : Nat × Nat :=
  match r with
  | 0 => (0, 255)
  | 1 => (256, 383)
  | _ => (384, 895)

/-- The digest of a region over the shadows (R821). -/
def Dev.otpDigest (d : Dev) (r : Nat) : List Byte := sha256 (d.otpBytes (otpRegion r).1 ((otpRegion r).2 - 8))

/-- Whether a region is LOCKED in the shadows. -/
def Dev.otpIsLocked (d : Dev) (r : Nat) : Bool := d.otpWord (otpRegion r).2 == otpLocked

/-- The check of a region (R822). -/
def Dev.otpPasses (d : Dev) (r : Nat) : Bool :=
  let l := (otpRegion r).2
  if d.otpIsLocked r then d.otpDigest r == d.otpBytes (l - 8) l
  else r == 2 && d.otpWord l == 0

/-- SEC_VER: consecutive 1 bits of the thermometer from the lowest, at most 127 (R815). -/
def thermometer (bits : Nat) : Nat := min (((List.range 128).find? (fun i => ! bit bits i)).getD 128) 127

/-- The thermometer as one number. -/
def Dev.secBits (d : Dev) : Nat := leNat (d.otpBytes 896 900)

/-- An INTEGRATOR word as the controller uses it: 0 when the region failed its check (R824). -/
def Dev.intWord (d : Dev) (i : Nat) : Nat := if bit (d.get Reg.OTP_STAT_PASSED) 2 then d.otpWord i else 0

/-- Sense the array (R816 to R818): `errs` names the words that read with an error, and whether it is uncorrectable; COUNTERS
words carry no check bits. -/
def Dev.otpSense (d : Dev) (errs : List (Nat × Bool)) : Dev :=
  let es := errs.filter (fun e => e.1 < 896)
  let unc := es.filter (·.2)
  let sh := d.otp.array.filter (fun w => ! unc.any (fun e => e.1 == w.1))
  let d1 := { d with otp := { d.otp with shadow := sh, burned := [], finalised := false, busy := none } }
  let d2 := (d1.set Reg.OTP_ECC_CORR (es.length - unc.length)).set Reg.OTP_ECC_UNCORR unc.length
  let d3 := match unc with
    | e :: _ => d2.set Reg.OTP_ECC_ADDR_ECC_ADDR e.1
    | [] => d2
  let regs := [0, 1, 2]
  let lk := (regs.filter d3.otpIsLocked).foldl (fun n r => n + 2 ^ r) 0
  let ps := (regs.filter d3.otpPasses).foldl (fun n r => n + 2 ^ r) 0
  let d4 := ((d3.set Reg.OTP_STAT_SENSED 1).set Reg.OTP_STAT_LOCKED lk).set Reg.OTP_STAT_PASSED ps
  let dbg := bit (d4.otpWord 89) 0 || (if bit ps 2 then bit (d4.otpWord 384) 1 else true)
  let sv := thermometer d4.secBits
  (((d4.setb Reg.OTP_STAT_DBG_LOCKED dbg).setb Reg.DBG_STAT_PORT_EN (! dbg)).set Reg.OTP_SECVER_SEC_VER sv).set Reg.BT_SECVER_SENSED sv

/-- The shadow a reader of OTP_RD_DATA sees: the secret words read 0 (R820). -/
def Dev.otpShown (d : Dev) (i : Nat) : Nat :=
  if (64 ≤ i ∧ i ≤ 71) ∨ (260 ≤ i ∧ i ≤ 267) then 0 else d.otpWord i

/-- The first check of Table 19-4 that a burn of `word`, or a finalisation, fails; 0 for none (R826, R829). -/
def Dev.otpRefuse (d : Dev) (fw final : Bool) (key word : Nat) : Nat :=
  if key ≠ 0x0E7A then 1
  else if d.otp.busy.isSome then 2
  else if d.get (Reg.PG_STAT_STATE 0) = 2 ∨ d.flag Reg.PF_STAT_PFW ∨ d.get Reg.PWR_IN_VIN < 6000 then 3
  else if ! final && (if fw then word < 896 else word < 384 || 895 < word) then 4
  else if (final || word < 896) && (d.otpIsLocked 2 || d.otp.finalised) then 5
  else if final then (if d.otp.burned.any (fun w => 384 ≤ w && w ≤ 895) then 6 else 0)
  else if word < 896 && (d.otpWord word != 0 || d.otp.burned.contains word) then 6
  else 0

/-- A programming request is refused (R826) or starts. -/
def Dev.otpStart (d : Dev) (ag : Agent) (final : Bool) (key word data : Nat) : Dev :=
  match d.otpRefuse (ag == .fw) final key word with
  | 0 =>
    let t := match ag with
      | .tenant k => k
      | .fw => 0xF
    (({ d with otp := { d.otp with busy := some ⟨word, data, t, final⟩, finalised := d.otp.finalised || final } }.set
      Reg.OTP_PG_STAT_BUSY 1).set Reg.OTP_PG_STAT_RESULT 0).set Reg.OTP_PG_STAT_REASON 0
  | r => (d.set Reg.OTP_PG_STAT_RESULT 2).set Reg.OTP_PG_STAT_REASON r

/-- OTP_PG_GO (R826, R827): a write of OTP_PG_CTL with GO set, FINAL clear. -/
def execOtpPgGo (l : Land) : State → Out := onDev (fun d =>
  d.land l (fun a v => a == Reg.OTP_PG_CTL && bit v.toNat 0 && ! bit v.toNat 1) (fun ag _ v d =>
    d.otpStart ag false (v.toNat / 65536) (d.get Reg.OTP_PG_ADDR_ADDR) (d.reg Reg.OTP_PG_DATA)))

/-- OTP_FINAL (R829): a write of OTP_PG_CTL with FINAL set. -/
def execOtpFinal (l : Land) : State → Out := onDev (fun d =>
  d.land l (fun a v => a == Reg.OTP_PG_CTL && bit v.toNat 1) (fun ag _ v d =>
    d.otpStart ag true (v.toNat / 65536) 0 0))

/-- Set the bits of `data` in a word of the array. -/
def Dev.otpBurn (d : Dev) (word data : Nat) : Dev :=
  { d with otp := { d.otp with
      array := sset otpBlank d.otp.array word ((sget otpBlank d.otp.array word) ||| BitVec.ofNat 32 data),
      burned := d.otp.burned ++ [word] } }

/-- OTP_BURN_DONE (R827 to R829): the burn, or the finalisation, ends; the margin read of the last word loads OTP_RAW. With
`raw` the outside gives a margin read other than the bits burned; bits burned before stay (R828). -/
def execOtpBurnDone (raw : Option Word) : State → Out := onDev (fun d =>
  match d.otp.busy with
  | none => d
  | some b =>
    let d1 := if b.final then
        let dig := d.otpDigest 2
        ((List.range 8).foldl (fun d i => d.otpBurn (887 + i) (leAt dig (4 * i) 4)) d).otpBurn 895 otpLocked
      else d.otpBurn b.word b.data
    let w := if b.final then 895 else b.word
    let want := if b.final then otpLocked else b.data
    let got := match raw with
      | some x => x.toNat
      | none => (sget otpBlank d1.otp.array w).toNat
    let d2 := { d1 with otp := { d1.otp with busy := none, array := sset otpBlank d1.otp.array w (sget otpBlank d.otp.array w ||| BitVec.ofNat 32 got) } }
    (((d2.setReg Reg.OTP_RAW got).set Reg.OTP_PG_STAT_BUSY 0).set Reg.OTP_PG_STAT_RESULT (if got = want then 1 else 3)).fireT 0x12 0 b.ten 0)

end Sys2Proof.Machine
end

