-- ==== Sys2Proof/Machine/Keys.lean ====
section
/-! DEFINITION. Key slots, the entropy source and the DRBG (spec/20_crypto_trng.md). -/

set_option linter.unusedVariables false

namespace Sys2Proof.Machine

/-! ### Key slots -/

/-- The device root key in slot 0. -/
def Dev.rootKey (d : Dev) : List Byte := padTo 32 (d.key 0).key

/-- The tenant transport key TK_k (R852). -/
def Dev.transportKey (d : Dev) (k : Nat) : List Byte :=
  hmac256 d.rootKey ([0x45, 0x52, 0x4B, 0x54] ++ d.uid ++ leBytes 1 k)

/-- The seal key SK (R877). -/
def Dev.sealKey (d : Dev) : List Byte := hmac256 d.rootKey ([0x45, 0x52, 0x4B, 0x53] ++ d.uid)

/-- Change slot `s`. -/
def Dev.modKey (d : Dev) (s : Nat) (f : KeySlot → KeySlot) : Dev := { d with keys := lmod d.keys s f }

/-- The channels whose active FETCH_DEC holds a snapshot of slot `s`. -/
def Dev.snapHolders (d : Dev) (s : Nat) : List Nat :=
  (List.range 16).filter (fun c => match (d.dch c).active with
    | some a => (match a.snap with
      | some (t, _) => t == s
      | none => false)
    | none => false)

/-- Abort the FETCH_DEC of channel `c` (R857): its descriptor retires BAD with KEY_REVOKED, its output is discarded, and the
sheet's report will say so. -/
def Dev.abortDec (d : Dev) (m : Mem) (c : Nat) : Dev × Mem :=
  match (d.dch c).active with
  | none => (d, m)
  | some a =>
    let d1 := (d.failFetch a 4).modSheets
      (fun s => s.token == a.w 4 / 16777216 && s.epoch == a.w 2 / 65536 && s.job == a.w 5 % 65536 && s.index == a.w 5 / 65536)
      (fun s => { s with revoked := true })
    let (d2, m2) := d1.retire m c a 2 St.keyRevoked a.done
    d2.afterRetire m2 c

/-- Erase slot `s` (R857, R859): the slot is emptied, its load count stays, and every operation that holds a snapshot aborts. -/
def Dev.eraseSlot (d : Dev) (m : Mem) (s : Nat) : Dev × Mem :=
  if s = 0 ∨ 16 ≤ s then (d, m)
  else
    let owner := d.keyOwner s
    let hs := d.snapHolders s
    let n := hs.length
    let (d1, m1) := hs.foldl (fun x c => x.1.abortDec x.2 c) (d.modKey s (fun k => { k with typ := 0, key := [] }), m)
    let d2 := ((d1.set Reg.KS_LAST_SLOT s).set Reg.KS_LAST_ABORTED (min n 255)).addSat Reg.CR_ERR_REVOKED n
    (if n = 0 then d2.fireT 0x15 0 owner s
     else ((d2.raise 0x15 owner St.keyRevoked 0 (s + n * 256)).fireRaw 0x15 0).fireRaw 0x14 1, m1)

/-- Write a key into a slot (R854). -/
def Dev.loadSlot (d : Dev) (s typ : Nat) (key : List Byte) : Dev :=
  (d.modKey s (fun k => { typ := typ, key := key, count := (k.count + 1) % 256 })).fireT 0x15 1 (d.keyOwner s) 0

/-- A register write that changes the memories too: `d.land` with an effect on both, for firmware and tenants alike. -/
def landAll (l : Land) (sel : Nat → Word → Bool) (eff : Agent → Nat → Word → Dev → Mem → Dev × Mem) (d : Dev) (m : Mem) :
    Dev × Mem :=
  match l with
  | .fw a v =>
    if sel a v then
      match d.fwRefuse a with
      | 0 => eff .fw a v d m
      | r => ((d.setReg Reg.FW_LE_ADDR a).set Reg.FW_LE_INFO_REASON r, m)
    else (d, m)
  | .tenant k ecc =>
    match (d.br k).queue with
    | [] => (d, m)
    | w :: _ =>
      if sel w.addr w.data then
        let d1 := d.popWrite k
        match d.refuseReason k w.addr w.data (ecc = .uncorrectable) with
        | 0 => eff (.tenant k) w.addr w.data (if ecc = .corrected then d1.addSat Reg.BR_ECC_CORR 1 else d1) m
        | r => (d1.refuseWrite k w r, m)
      else (d, m)

/-- Give slot `s` its new owner (R851): a change zeroises the slot first. -/
def Dev.ownSlot (d : Dev) (m : Mem) (s v : Nat) : Dev × Mem :=
  let want := if 7 < v then 0xF else v
  if s = 0 ∨ want = d.keyOwner s then (d, m)
  else
    let (d1, m1) := d.eraseSlot m s
    (if s < 8 then d1.setReg Reg.KS_OWN0 (bitsPut (d1.reg Reg.KS_OWN0) (4 * s) 4 want)
     else d1.setReg Reg.KS_OWN1 (bitsPut (d1.reg Reg.KS_OWN1) (4 * (s - 8)) 4 want), m1)

/-- KS_OWN_WRITE (R850, R851, Table 20-5): a write of KS_OWN0 or KS_OWN1 assigns eight slots. -/
def execKsOwnWrite (l : Land) : State → Out := onAll (landAll l
  (fun a _ => a == Reg.KS_OWN0 || a == Reg.KS_OWN1)
  (fun _ a v d m =>
    let base := if a = Reg.KS_OWN0 then 0 else 8
    (List.range 8).foldl (fun x i => x.1.ownSlot x.2 (base + i) (bitsOf v.toNat (4 * i) 4)) (d, m)))

/-- KS_ERASE (R857): each bit from 1 to 15 erases its slot; bit 0 has no effect. -/
def execKsErase (l : Land) : State → Out := onAll (landAll l
  (fun a _ => a == Reg.KS_ERASE)
  (fun _ _ v d m => (List.range 16).foldl (fun x s => if bit v.toNat s then x.1.eraseSlot x.2 s else x) (d, m)))

/-! ### CTR_DRBG with AES-256 and the derivation function (NIST SP 800-90A) -/

/-- The chained block encryption of the derivation function. -/
def bcc (ks : List (List Byte)) (bs : List Byte) : List Byte :=
  (chunks 16 (bs.length / 16) bs).foldl (fun c b => aesEncrypt ks (xorBytes c b)) (zeros 16)

/-- The derivation function: 48 bytes from an input string. -/
def blockCipherDf (inp : List Byte) : List Byte :=
  let s := pad16 (beBytes 4 inp.length ++ beBytes 4 48 ++ inp ++ [0x80])
  let ks := aesKeys ((List.range 32).map (BitVec.ofNat 8))
  let t := (List.range 3).flatMap (fun i => bcc ks (beBytes 4 i ++ zeros 12 ++ s))
  let k2 := aesKeys (t.take 32)
  let x1 := aesEncrypt k2 ((t.drop 32).take 16)
  let x2 := aesEncrypt k2 x1
  x1 ++ x2 ++ aesEncrypt k2 x2

/-- `n` output blocks from the working state; answers them and the advanced V. -/
def drbgBlocks (ks : List (List Byte)) : Nat → List Byte → List Byte × List Byte
  | 0, v => ([], v)
  | n + 1, v =>
    let v1 := beBytes 16 ((beNat v + 1) % 2 ^ 128)
    let r := drbgBlocks ks n v1
    (aesEncrypt ks v1 ++ r.1, r.2)

/-- The update function. -/
def drbgUpdate (data : List Byte) (st : List Byte × List Byte) : List Byte × List Byte :=
  let t := xorBytes (drbgBlocks (aesKeys st.1) 3 st.2).1 data
  (t.take 32, (t.drop 32).take 16)

/-- Instantiate from entropy input and nonce together, with a personalisation string. -/
def drbgInit (entropy pers : List Byte) : List Byte × List Byte :=
  drbgUpdate (blockCipherDf (entropy ++ pers)) (zeros 32, zeros 16)

/-- Reseed. -/
def drbgReseed (entropy : List Byte) (st : List Byte × List Byte) : List Byte × List Byte :=
  drbgUpdate (blockCipherDf entropy) st

/-- Generate `n` bytes. -/
def drbgGen (n : Nat) (st : List Byte × List Byte) : List Byte × (List Byte × List Byte) :=
  let r := drbgBlocks (aesKeys st.1) ((n + 15) / 16) st.2
  (r.1.take n, drbgUpdate (zeros 48) (st.1, r.2))

/-! ### The entropy source (R863 to R876) -/

/-- Change the entropy source. -/
def Dev.modTrng (d : Dev) (f : Trng → Trng) : Dev := { d with trng := f d.trng }

/-- TR_STAT.STATE, and with it the state field of PG_STAT. -/
def Dev.trngState (d : Dev) (s : Nat) : Dev := (d.set Reg.TR_STAT_STATE s).set (Reg.PG_STAT_STATE 0x16) s

/-- A start of the source (R866): it settles for 1000 samples; the DRBG is blocked. -/
def Dev.trngStart (d : Dev) (recover : Bool) : Dev :=
  let restart := fun (t : Trng) => { t with
    phase := 1, settle := 1000, recover := recover, startAt := d.now, pos := 0, run := 0, hits := 0, group := [] }
  ((d.modTrng restart).trngState (if recover then 3 else 1)).set Reg.TR_STAT_SEEDED 0

/-- Complete every waiting request with ENTROPY_UNAVAILABLE (R873, R875). -/
def Dev.trngFailAll (d : Dev) : Dev :=
  let q := d.trng.queue
  let d1 := (d.modTrng (fun t => { t with queue := [] })).addSat Reg.TR_CNT_UNAVAIL q.length
  q.foldl (fun d r => d.finish r.ten 0x0901 St.entropyUnavailable []) d1

/-- The instants of the health failures of the last 10 s. -/
def Dev.trngRecent (d : Dev) : List Nat := d.trng.fails.filter (fun t => d.now < t + 10000000)

/-- A health failure of a test (1 repetition count, 2 adaptive proportion) at a count (R869 to R875). -/
def Dev.trngFail (d : Dev) (test count : Nat) : Dev :=
  let t := d.trng
  let inStart := t.phase ≠ 5
  let d1 := (d.raise 0x16 0xF St.trngHealth 0 (test + b2n inStart * 4 + count * 65536)).fireRaw 0x16 0
  let d2 := (if test = 1 then d1.addSat Reg.TR_CNT_RCT_FAIL 1 else d1.addSat Reg.TR_CNT_APT_FAIL 1).setReg Reg.TR_LAST_FAIL d.now
  let d3 := (d2.modTrng (fun t => { t with fails := d.now :: d.trngRecent, group := [], pos := 0 })).set Reg.TR_STAT_SEEDED 0
  let d4 := if t.recover && inStart then d3.trngFailAll else d3
  if 3 ≤ d4.trng.fails.length then
    let d5 := (((d4.raiseFree 0x16 0xF St.trngFault 0).fireRaw 0x16 2).faultOn 0x16 1 St.trngFault 0 0).trngState 4
    ((d5.set Reg.TR_STAT_LATCHED 1).modTrng (fun t => { t with phase := 0 })).trngFailAll
  else d4.trngStart true

/-- A sample runs through both tests (R863, R864); a full window of 1024 passed samples is a good group (R865). -/
def Dev.trngTest (d : Dev) (b : Bool) : Dev :=
  let t := d.trng
  let run := if t.run ≠ 0 ∧ b = t.last then t.run + 1 else 1
  let first := if t.pos = 0 then b else t.first
  let hits := if t.pos = 0 then 1 else if b = t.first then t.hits + 1 else t.hits
  let d1 := d.modTrng (fun t => { t with run := run, last := b, first := first, hits := hits, pos := t.pos + 1, group := b :: t.group })
  if 41 ≤ run then d1.trngFail 1 41
  else if 795 ≤ hits then d1.trngFail 2 795
  else if d1.trng.pos = 1024 then
    d1.modTrng (fun t => { t with
      pos := 0, group := [], good := if t.phase = 2 then t.good else t.group,
      phase := if t.phase = 2 then 3 else if t.phase = 3 then 4 else t.phase })
  else d1

/-- TRNG_SAMPLE (R863 to R866): a raw sample is taken: while the source settles it is not tested. -/
def execTrngSample (b : Bool) : State → Out := onDev (fun d =>
  match d.trng.phase with
  | 0 => d
  | 1 => d.modTrng (fun t => { t with settle := t.settle - 1, phase := if t.settle ≤ 1 then 2 else 1 })
  | _ => d.trngTest b)

/-- The most recent good group as bytes: the first sample is the most significant bit of the first byte (PRESUMED, log
entry 9: the bit-string order of SP 800-90A). -/
def Dev.goodBytes (d : Dev) : List Byte := packBits 128 d.trng.good.reverse

/-- The DRBG has been seeded: limits are taken from TR_CFG, where 0 acts as 1 (R867, Table 20-6). -/
def Dev.seeded (d : Dev) (st : List Byte × List Byte) : Dev :=
  (d.modTrng (fun t => { t with
    drbg := some st, reqs := 0, seedAt := d.now, reqLim := atLeast1 (d.get Reg.TR_CFG_RESEED_REQ),
    msLim := atLeast1 (d.get Reg.TR_CFG_RESEED_MS) })).addWrap Reg.TR_RESEEDS_COUNT 1

/-- RECOVERY_DONE (R866, R872): the start whose good group has been collected ends: a recovery reseeds the DRBG, a start at BOOT
or by SOFT_RST instantiates it; the queue can drain. -/
def execRecoveryDone : State → Out := onDev (fun d =>
  let t := d.trng
  when (t.phase == 4 && (! t.recover || d.now < t.startAt + 100000)) (fun d =>
    let d1 := match t.recover, t.drbg with
      | true, some st => (d.seeded (drbgReseed d.goodBytes st)).fire 0x16 3 0
      | _, _ => d.seeded (drbgInit d.goodBytes d.uid)
    let d2 := ((d1.modTrng (fun t => { t with phase := 5, recover := false })).trngState 2).set Reg.TR_STAT_SEEDED 1
    if t.recover then d2.fire 0x16 1 0 else d2) d)

/-- RECOVERY_TIMEOUT (R873): 100 ms have passed without a reseed: the waiting requests complete, and the next recovery starts. -/
def execRecoveryTimeout : State → Out := onDev (fun d =>
  let t := d.trng
  when (t.recover && t.phase != 0 && t.phase != 5 && d.past t.startAt 100000) (fun d => d.trngFailAll.trngStart true) d)

/-- A reseed is due: RESEED_REQ requests or RESEED_MS since the last instantiate or reseed (R867). -/
def Dev.reseedDue (d : Dev) : Bool := d.trng.reqLim ≤ d.trng.reqs || d.trng.seedAt + d.trng.msLim * 1000 ≤ d.now

/-- DRBG_RESEED (R867): between requests, when a reseed is due, the DRBG reseeds from the most recent good group. -/
def execDrbgReseed : State → Out := onDev (fun d =>
  let t := d.trng
  match t.drbg with
  | some st => when (t.phase == 5 && d.reseedDue)
      (fun d => (d.seeded (drbgReseed d.goodBytes st)).fire 0x16 3 0) d
  | none => d)

/-- DRBG_GENERATE (R868): the request at the head of the queue is served whole, when no reseed is due (R867), and its response is
placed. -/
def execDrbgGenerate : State → Out := onDev (fun d =>
  let t := d.trng
  match t.drbg, t.queue with
  | some st, r :: rest => when (t.phase == 5 && ! d.reseedDue) (fun d =>
      let (bs, st1) := drbgGen r.len st
      ((d.boundary 0x14).modTrng (fun t => { t with queue := rest, drbg := some st1, reqs := t.reqs + 1 })).finish r.ten 0x0901
        St.ok bs) d
  | _, _ => d)

/-- SOFT_RST of the TRNG page restarts the source and clears the latched fault and the failure count (R876); the registers of the
page take their reset values. -/
def Dev.trngSoftRst (d : Dev) : Dev :=
  (((d.modTrng (fun t => { t with fails := [], drbg := none })).faultOff 0x16 1).set Reg.TR_STAT_LATCHED 0).trngStart false

end Sys2Proof.Machine
end

