-- ==== Sys2Proof/Machine/Loops.lean ====
section
/-! DEFINITION. The Osprey loop engine (spec/13_loops.md): the law to the bit, starting and stopping, coefficient banks, and the
stale rule. The commands of the family that only change a channel are here; LOOP_SAMPLE stands in Process.lean, with what
the owning blocks do at a sample. -/

set_option linter.unusedVariables false

namespace Sys2Proof.Machine

/-- Channel `n` beside its registers. -/
def Dev.lch (d : Dev) (n : Nat) : LoopCh := d.loops.getD n ⟨0, false, false, 0, false⟩

/-- Change channel `n`. -/
def Dev.modLch (d : Dev) (n : Nat) (f : LoopCh → LoopCh) : Dev := { d with loops := lmod d.loops n f }

/-- The address of the word at offset `o` of a coefficient bank (Table 13-5). -/
def coefAddr (n bank o : Nat) : Nat := 0x4002E100 + (2 * n + bank) * 0xC0 + o

/-- A coefficient, Q8.24 (R565). -/
def Dev.coef (d : Dev) (n bank o : Nat) : Int := sext (d.reg (coefAddr n bank o)) 32

/-- NX of a bank (R576). -/
def Dev.loopNx (d : Dev) (n bank : Nat) : Nat := clampN 1 4 (d.reg (coefAddr n bank 0) % 8)

/-- Saturation to a 32-bit word, with 1 where it happened (R567 to R569). -/
def sat32 (x : Int) : Int × Nat := if x < -(2 ^ 31) then (-(2 ^ 31), 1) else if 2 ^ 31 - 1 < x then (2 ^ 31 - 1, 1) else (x, 0)

/-- rnd of R567: a sum in units of 2^-40 as a Q16.16 word. -/
def rnd (acc : Int) : Int × Nat := sat32 ((acc + 2 ^ 23) / 2 ^ 24)

/-- The sum of `c i * x i` over the first `nx` states. -/
def dot (nx : Nat) (c x : Nat → Int) : Int := (List.range nx).foldl (fun a i => a + c i * x i) 0

/-- The output a channel gives its actuator: LP_U in RUN, else UOFF (R586). -/
def Dev.loopU (d : Dev) (n : Nat) : Int :=
  if d.get (Reg.LP_STAT_STATE n) = 1 then d.geti (Reg.LP_U_U n) else d.geti (Reg.LP_UOFF_UOFF n)

/-- Set EN: OFF to RUN, the states to be initialised at the first sample (R583). -/
def Dev.loopInit (i : Nat) (d : Dev) : Dev :=
  if d.flag (Reg.LP_CTL_EN i) then d
  else
    let d1 := d.set (Reg.LP_CTL_EN i) 1
    if d.get (Reg.LP_STAT_STATE i) = 0 then
      (d1.set (Reg.LP_STAT_STATE i) 1).modLch i (fun c => { c with init := true, fresh := false })
    else d1

/-- Clear EN: RUN to OFF; a pending swap is made within a tick (R585, R591). -/
def Dev.loopOff (i : Nat) (d : Dev) : Dev :=
  let d1 := d.set (Reg.LP_CTL_EN i) 0
  let d2 := if d.get (Reg.LP_STAT_STATE i) = 1 then d1.set (Reg.LP_STAT_STATE i) 0 else d1
  if d.flag (Reg.LP_STAT_SWAP_PEND i) then
    ((d2.set (Reg.LP_STAT_SWAP_PEND i) 0).set (Reg.LP_CTL_SWAP i) 0).set (Reg.LP_STAT_BANK i) (1 - d.get (Reg.LP_STAT_BANK i))
  else d2

/-- A source delivers a measurement (R573). -/
def Dev.loopDeliver (d : Dev) (n : Nat) (y : Int) : Dev := d.modLch n (fun c => { c with y := y, fresh := true })

/-- An owning block sets a Q16.16 field of its channel, active at once (R563). -/
def Dev.loopSet (d : Dev) (f : Fld) (q : Int) : Dev := d.seti f q

/-- Take a pending swap at a sample (R590, R594, R595): the other bank becomes active; with BUMPLESS, and no INIT at this sample
(R596), z is rebased so that the new law gives the u_raw of the old. `r` is the reference of this sample. -/
def Dev.loopSwap (d : Dev) (n : Nat) (r : Int) (bump : Bool) : Dev :=
  let b := d.get (Reg.LP_STAT_BANK n)
  let nb := 1 - b
  let nx := d.loopNx n b
  let nx' := d.loopNx n nb
  let xh := fun i => d.geti (Reg.LP_XH_XH n i)
  let xh' := fun i => if i < nx then xh i else 0
  let ki' := d.coef n nb 0x88
  let old := rnd (d.coef n b 0x84 * r - dot nx (fun i => d.coef n b (0x74 + 4 * i)) xh + d.coef n b 0x88 * d.geti (Reg.LP_Z_Z n))
  let new := rnd (d.coef n nb 0x84 * r - dot nx' (fun i => d.coef n nb (0x74 + 4 * i)) xh')
  let z := sat32 (((old.1 - new.1) * 2 ^ 24).tdiv ki')
  let d1 := ((d.set (Reg.LP_STAT_BANK n) nb).set (Reg.LP_STAT_SWAP_PEND n) 0).set (Reg.LP_CTL_SWAP n) 0
  let d2 := (List.range 4).foldl (fun d i => d.seti (Reg.LP_XH_XH n i) (if i < nx' then xh' i else 0)) d1
  if bump then
    if ki' = 0 then d2.addSat (Reg.LP_CNT_SAT_ARITH n) (old.2 + new.2)
    else (d2.seti (Reg.LP_Z_Z n) z.1).addSat (Reg.LP_CNT_SAT_ARITH n) (old.2 + new.2 + z.2)
  else d2

/-- The reference of a sample (R577). -/
def Dev.loopRef (d : Dev) (n : Nat) (r : Int) : Int :=
  let step : Int := d.get (Reg.LP_REF_STEP_STEP n)
  let ref := d.geti (Reg.LP_REF_REF n)
  if step = 0 then ref else r + clampI (-step) step (ref - r)

/-- One sample of channel `n` with the measurement `y` (R575 to R583, R587, R590 to R596). -/
def Dev.loopLaw (d0 : Dev) (n : Nat) (y : Int) : Dev :=
  let init := (d0.lch n).init || d0.flag (Reg.LP_CTL_INIT n)
  let swap := d0.flag (Reg.LP_STAT_SWAP_PEND n) && (d0.lch n).swapAt < d0.now
  let r := d0.loopRef n (if init then y else d0.geti (Reg.LP_R_R n))
  let d1 := if swap then d0.loopSwap n r (d0.flag (Reg.LP_CTL_BUMPLESS n) && ! init) else d0
  let b := d1.get (Reg.LP_STAT_BANK n)
  let nx := d1.loopNx n b
  let d2 := if init then
      (((List.range 4).foldl (fun d i => d.seti (Reg.LP_XH_XH n i) (if i < nx then d.geti (Reg.LP_XI_XI n i) else 0)) d1).seti
        (Reg.LP_Z_Z n) (d1.geti (Reg.LP_ZI_ZI n))).set (Reg.LP_CTL_INIT n) 0
    else d1
  let d3 := d2.modLch n (fun c => { c with init := false })
  let xh := fun i => d3.geti (Reg.LP_XH_XH n i)
  let z := d3.geti (Reg.LP_Z_Z n)
  let cf := fun o => d3.coef n b o
  let e := sat32 (r - y)
  let uraw := rnd (cf 0x84 * r - dot nx (fun i => cf (0x74 + 4 * i)) xh + cf 0x88 * z)
  let umin := d3.geti (Reg.LP_UMIN_UMIN n)
  let umax := max umin (d3.geti (Reg.LP_UMAX_UMAX n))
  let u := min (max uraw.1 umin) umax
  let sat := u != uraw.1
  let yhat := rnd (dot nx (fun i => cf (0x64 + 4 * i)) xh)
  let nu := sat32 (y - yhat.1)
  let xn := fun i => rnd (dot nx (fun j => cf (4 + 4 * (4 * i + j))) xh + cf (0x44 + 4 * i) * u + cf (0x54 + 4 * i) * nu.1)
  let zn := if sat then (z, 0) else sat32 (z + e.1)
  let sats := e.2 + uraw.2 + yhat.2 + nu.2 + zn.2 + ((List.range nx).foldl (fun a i => a + (xn i).2) 0)
  let run := if sat then min 0xFFFF (d3.get (Reg.LP_STAT_SAT_RUN n) + 1) else 0
  let d4 := (List.range 4).foldl (fun d i => d.seti (Reg.LP_XH_XH n i) (if i < nx then (xn i).1 else 0)) d3
  let d5 := ((((d4.seti (Reg.LP_R_R n) r).seti (Reg.LP_Y_Y n) y).seti (Reg.LP_U_U n) u).seti (Reg.LP_URAW_URAW n) uraw.1).seti
    (Reg.LP_Z_Z n) zn.1
  let d6 := (((d5.setb (Reg.LP_STAT_SAT n) sat).setb (Reg.LP_STAT_SAT_HIGH n) (sat && umax < uraw.1)).set (Reg.LP_STAT_SAT_RUN n)
    run).addSat (Reg.LP_CNT_SAT_ARITH n) sats
  let lim := d6.get (Reg.LP_IN_SAT_T n)
  if ! sat then d6.modLch n (fun c => { c with satTold := false })
  else if lim ≠ 0 ∧ run = lim ∧ ! (d6.lch n).satTold then
    ((d6.modLch n (fun c => { c with satTold := true })).raise 0x2D 8 St.loopSaturated 0 (n + 8 * d6.get (Reg.LP_STAT_SAT_HIGH n) + (unsext u 32 / 65536) * 65536)).fireRaw 0x2D n
  else d6

/-- Severity of LOOP_STALE (R600, R645): S3 on the loops of the process outputs, S0 on L5 to L7, whose chapters give none higher. -/
def staleSev (n : Nat) : Nat := if n < 5 then 3 else 0

/-- A channel enters FAULT for want of deliveries (R599). -/
def Dev.loopStale (d : Dev) (n : Nat) : Dev :=
  let d1 := (d.set (Reg.LP_STAT_STATE n) 2).raise 0x2D 8 St.loopStale (staleSev n) n
  (d1.fireRaw 0x2D (8 + n)).faultOn 0x2D n St.loopStale (staleSev n) n

/-- The measurement of a channel with its saturations: for L6 and L7 IN_GAIN and IN_OFS are applied to the code (R574); the code enters as a
Q16.16 word (DEDUCED, log entry 14). -/
def Dev.loopIn (d : Dev) (n : Nat) (y : Int) : Int × Nat :=
  if n < 6 then (y, 0) else rnd (d.geti (Reg.LP_IN_GAIN_GAIN n) * y + d.geti (Reg.LP_IN_OFS_OFS n) * 2 ^ 24)

/-- A sample instant of channel `n` (R570, R598, R599): shadows of the channel are taken, and unless the stale rule stops the channel the
law runs. The measurement delivered in the tick before is used (R573). -/
def Dev.loopTick (d0 : Dev) (n : Nat) : Dev :=
  let d := d0.chanBoundary 0x2D n
  let fresh := (d.lch n).fresh
  let run := if fresh then 0 else min 255 (d.get (Reg.LP_STAT_STALE_RUN n) + 1)
  let d1 := (d.set (Reg.LP_STAT_STALE_RUN n) run).modLch n (fun c => { c with fresh := false })
  let lim := d.get (Reg.LP_IN_STALE_N n)
  if lim ≠ 0 ∧ lim ≤ run then d1.loopStale n
  else
    let y := d1.loopIn n (d.lch n).y
    (d1.addSat (Reg.LP_CNT_SAT_ARITH n) y.2).loopLaw n y.1

/-! ### Commands on a channel -/

/-- The channel whose LP_CTL is at `a`, none for another address. -/
def lpCtlOf (a : Nat) : Option Nat := (List.range 8).find? (fun n => Reg.LP_CTL n == a)

/-- What a write to LP_CTL does. On L0 to L5 a tenant's EN and INIT have no effect (R563); SWAP, BUMPLESS and CLR_FAULT do. -/
def Dev.lpCtl (d : Dev) (n : Nat) (ag : Agent) (v : Nat) : Dev :=
  let own := ag == .fw || 6 ≤ n
  let d1 := d.set (Reg.LP_CTL_BUMPLESS n) (bitsOf v 3 1)
  let d2 := if bit v 4 && d1.get (Reg.LP_STAT_STATE n) == 2 then
      ((d1.set (Reg.LP_STAT_STATE n) 0).set (Reg.LP_STAT_STALE_RUN n) 0).faultOff 0x2D n
    else d1
  let was := d.flag (Reg.LP_CTL_EN n)
  let d3 := if ! own then d2
    else if bit v 0 && ! was then d2.loopInit n
    else if ! bit v 0 && was then d2.loopOff n
    else d2
  let d4 := if own && bit v 1 && d3.get (Reg.LP_STAT_STATE n) == 1 then d3.set (Reg.LP_CTL_INIT n) 1 else d3
  if bit v 2 then
    if d4.flag (Reg.LP_STAT_SWAP_PEND n) then d4
    else if d4.flag (Reg.LP_CTL_EN n) then
      ((d4.set (Reg.LP_CTL_SWAP n) 1).set (Reg.LP_STAT_SWAP_PEND n) 1).modLch n (fun c => { c with swapAt := d.now })
    else d4.set (Reg.LP_STAT_BANK n) (1 - d4.get (Reg.LP_STAT_BANK n))
  else d4

/-- A write to LP_CTL whose bits satisfy `p` reaches the LOOP page. -/
def Dev.landLp (d : Dev) (l : Land) (p : Nat → Nat → Bool) : Dev :=
  d.land l (fun a v => match lpCtlOf a with
      | some n => p n v.toNat
      | none => false)
    (fun ag a v d => match lpCtlOf a with
      | some n => d.lpCtl n ag v.toNat
      | none => d)

/-- LOOP_CLR_FAULT (R601). -/
def execLoopClrFault (l : Land) : State → Out := onDev (fun d => d.landLp l (fun _ v => bit v 4))

/-- LOOP_SWAP (R590 to R593). -/
def execLoopSwap (l : Land) : State → Out := onDev (fun d => d.landLp l (fun _ v => ! bit v 4 && bit v 2))

/-- LOOP_INIT (R584). -/
def execLoopInit (l : Land) : State → Out := onDev (fun d => d.landLp l (fun _ v => ! bit v 4 && ! bit v 2 && bit v 1))

/-- LOOP_ENABLE (R583). -/
def execLoopEnable (l : Land) : State → Out := onDev (fun d =>
  d.landLp l (fun _ v => ! bit v 4 && ! bit v 2 && ! bit v 1 && bit v 0))

/-- LOOP_DISABLE (R585). -/
def execLoopDisable (l : Land) : State → Out := onDev (fun d =>
  d.landLp l (fun _ v => ! bit v 4 && ! bit v 2 && ! bit v 1 && ! bit v 0))

/-- The channel and bank of a coefficient word. -/
def coefOf (a : Nat) : Option (Nat × Nat) :=
  if 0x4002E100 ≤ a ∧ a < 0x4002ED00 then
    let i := (a - 0x4002E100) / 0xC0
    some (i / 2, i % 2)
  else none

/-- COEF_WRITE (R589, R592): a write to the inactive bank is taken; one to the active bank, or to either while a swap is pending, has
no effect and counts. -/
def execCoefWrite (l : Land) : State → Out := onDev (fun d =>
  d.land l (fun a _ => (coefOf a).isSome) (fun _ a v d =>
    match coefOf a with
    | some (n, b) =>
      if b = d.get (Reg.LP_STAT_BANK n) ∨ d.flag (Reg.LP_STAT_SWAP_PEND n) then d.addSat Reg.LC_STAT_COEF_REFUSED 1
      else d.store a v.toNat
    | none => d))

end Sys2Proof.Machine
end

