-- ==== Sys2Proof/Machine/Actuators.lean ====
section
/-! DEFINITION. The outputs that many families switch off or must follow: sequencers, brushless drives, the laser-enable chain, the
fuser heater, the high voltage, the stepper bridges and the head's strobes; and small operations on power, life counters and the
interlock block's slots that those families need (spec/09, spec/11, spec/12, spec/14 to spec/16, spec/21). -/

set_option linter.unusedVariables false

namespace Sys2Proof.Machine

/-! ### Rails, life counters, tracker slots -/

/-- Whether channel `n` is on: RAMP or ON (Table 16-10). -/
def Dev.chOn (d : Dev) (n : Nat) : Bool := d.get (Reg.CH_STAT_STATE n) == 1 || d.get (Reg.CH_STAT_STATE n) == 2

/-- Mode of the interlock block: 0 normal, 1 SAFE_FINISH, 2 SAFE_STOP. -/
def Dev.lockMode (d : Dev) : Nat := d.get Reg.LK_STAT_MODE

/-- Request a vector (R716, R717): STANDBY_ENTER and STANDBY_EXIT clear each other, ENGINE_ON and ENGINE_OFF too. -/
def Dev.pseqRequest (d : Dev) (v : Nat) : Dev :=
  let other := match v with
    | 2 => 8
    | 3 => 4
    | 6 => 128
    | 7 => 64
    | _ => 0
  d.set Reg.PSEQ_REQ_REQ ((d.get Reg.PSEQ_REQ_REQ &&& (255 ^^^ other)) ||| 2 ^ v)

/-- Background task `t` falls due (Table 23-1); one that is due stays as it is. -/
def Dev.bgFall (d : Dev) (t : Nat) : Dev :=
  if d.bg.due.any (fun x => x.1 == t) then d else { d with bg := { d.bg with due := d.bg.due ++ [(t, d.now, false)] } }

/-- The chunks of Table 23-6. -/
def lifeChunks : List Nat :=
  [600, 1, 16, 16, 16, 1, 600, 600, 600, 1, 10, 600, 16, 65536, 16, 16, 16, 10, 1, 1, 1, 1, 1, 1]

/-- The interlock block frees the LK_COMMIT bit of a tracker slot (R895); an exit of a snapshot sheet is counted. -/
def Dev.slotFreed (d : Dev) (s : Nat) (exited : Bool) : Dev :=
  if bit (d.get Reg.LK_COMMIT_SLOT) s then
    let d1 := (d.setBit Reg.LK_COMMIT s false)
    if d1.lockMode = 1 then
      let d2 := d1.set Reg.LK_STAT_SNAP (d1.get Reg.LK_COMMIT_SLOT)
      if exited then d2.addSat Reg.LK_REC_SHEETS_EXITED 1 else d2
    else d1
  else d

/-- A sheet reaches its final state while PFW is raised: the record will hold it (R774). -/
def Dev.pfFinal (d : Dev) (s : Sheet) (status flags voided : Nat) : Dev :=
  let upd := fun (i : PfItem) =>
    if i.ten = s.tenant ∧ i.epoch = s.epoch ∧ i.job = s.job ∧ i.index = some s.index then
      { i with final := some (status, flags, voided) } else i
  if d.flag Reg.PF_STAT_PFW then { d with hold := { d.hold with items := d.hold.items.map upd } } else d


/-! ### Sequencers (R407, R412) -/

/-- Sequencer `i`: 0 SCAN, 1 LINE. -/
def Dev.seq (d : Dev) (i : Nat) : Seq := d.seqs.getD i Seq.reset

/-- Change sequencer `i`. -/
def Dev.modSeq (d : Dev) (i : Nat) (f : Seq → Seq) : Dev := { d with seqs := lmod d.seqs i f }

/-- The page of sequencer `i`. -/
def seqPage (i : Nat) : Nat := if i = 0 then 0x1F else 0x22

/-- Stop sequencer `i` in state `st` (0 HALTED, 3 FAULT): the level lines become 0, a pending entry request is cleared; a pulse already
raised completes. -/
def Dev.seqStop (d : Dev) (i st : Nat) : Dev :=
  (((d.set (Reg.SEQ_STAT_STATE i) st).set (Reg.SEQ_STAT_ENT_PEND i) 0).set (Reg.SEQ_CTL_GO i) 0).modSeq i (fun q => { q with level := 0 })

/-- HALT (R407): a running or waiting sequencer halts, and source HALTED fires. -/
def Dev.seqHalt (d : Dev) (i : Nat) : Dev :=
  let st := d.get (Reg.SEQ_STAT_STATE i)
  if st = 1 ∨ st = 2 then (d.seqStop i 0).fire (seqPage i) 0 0 else d

/-- GO for an entry (R405, R406): from HALTED or FAULT the core's run state is cleared and the vector word runs; else an entry request is
pending, replacing an older one. -/
def Dev.seqGo (d : Dev) (i e : Nat) : Dev :=
  let st := d.get (Reg.SEQ_STAT_STATE i)
  if st = 1 ∨ st = 2 then
    ((d.set (Reg.SEQ_CTL_ENTRY i) e).set (Reg.SEQ_STAT_ENT_PEND i) 1).set (Reg.SEQ_CTL_GO i) 1
  else
    let d1 := ((((d.set (Reg.SEQ_CTL_ENTRY i) e).set (Reg.SEQ_STAT_STATE i) 1).set (Reg.SEQ_STAT_PC i) e).set (Reg.SEQ_STAT_SP i) 0).set
      (Reg.SEQ_STAT_ENT_PEND i) 0
    let d2 := ((d1.set (Reg.SEQ_CTL_GO i) 0).setReg (Reg.SEQ_FAULT i) 0).faultOff (seqPage i) 1
    d2.modSeq i (fun q => { q with stack := [], lc := [0, 0, 0, 0], tm := q.tm.map (fun t => (t.1, false)), latch := 0, entry := e })

/-! ### Sheets touched by the process -/

/-- Whether a sheet is COMMITTED, IMAGING or FUSING. -/
def Dev.anyCommitted (d : Dev) : Bool := d.sheets.any (fun s => s.state.committedOn)

/-- SPOIL on every committed sheet. -/
def Dev.spoilCommitted (d : Dev) : Dev := d.modSheets (fun s => s.state.committedOn) (fun s => { s with spoil := true })

/-- R643: a process output leaves its window while a sheet is committed. -/
def Dev.processSpoil (d : Dev) (p : Nat) : Dev :=
  if d.anyCommitted then (d.raiseFree p 0xF St.spoiled 2).spoilCommitted else d

/-! ### High voltage (R626, R630) -/

/-- The laser engine is warming up, ready or printing. -/
def Dev.engineOn (d : Dev) : Bool :=
  d.laserState == LasSt.warming || d.laserState == LasSt.ready || d.laserState == LasSt.printing

/-- Whether a fault of block `b` (0 fuser, 1 HV, 2 laser) holds its output off (R644). -/
def Dev.procHeld (d : Dev) (b : Nat) : Bool := d.proc.held.getD b false

/-- Hold the output of block `b` off, or stop holding it. -/
def Dev.setHeld (d : Dev) (b : Nat) (v : Bool) : Dev :=
  { d with proc := { d.proc with held := lmod d.proc.held b (fun _ => v) } }

/-- HV_EN may be asserted (R626, Table 14-2). -/
def Dev.hvAllowed (d : Dev) : Bool :=
  d.engineOn && d.flag (Reg.BL_STAT_SPD_LOCK 1) && d.flag Reg.LS_STAT_ILK && ! d.procHeld 1 && d.lockMode != 2 && ! d.flag Reg.LK_STAT_GRACE

/-- HV_EN is deasserted and every reference is 0: the bring-up starts again from the charge channel. -/
def Dev.hvOff (d : Dev) : Dev :=
  let ready := d.get Reg.HV_STAT_READY
  let d1 := ((((d.set Reg.HV_STAT_READY 0).set Reg.HV_STAT_HV_EN 0).set Reg.HV_STAT_BRINGUP 0).loopOff 2).loopOff 3 |>.loopOff 4
  let d2 := { d1 with proc := { d1.proc with hvCh := none, hvUp := 0, hvWinAt := [none, none, none], hvLowAt := [none, none, none],
                                              hvOverAt := [none, none, none] } }
  if ready = 0 then d2 else (d2.fire 0x30 0 0).processSpoil 0x30

/-- HV_EN falls when what it needs is gone. -/
def Dev.hvUpdate (d : Dev) : Dev := if d.flag Reg.HV_STAT_HV_EN && ! d.hvAllowed then d.hvOff else d

/-! ### The laser-enable chain (R631, R632, R637) -/

/-- BL_SPEED of M1 is at least MIN_SPD % of 47,244 rpm. -/
def Dev.spdOk (d : Dev) : Bool :=
  decide (((min 99 (d.get Reg.LS_P_MIN_SPD) * 472440 : Nat) : Int) ≤ d.geti (Reg.BL_SPEED_SPEED 0) * 100)

/-- The value of R631. -/
def Dev.permitNow (d : Dev) : Bool :=
  d.flag Reg.LS_STAT_ILK && d.flag Reg.LS_CTL_ARM && ! d.flag Reg.LS_STAT_OP_LATCH && d.spdOk && d.get (Reg.CH_STAT_PG 8) == 1 &&
  d.devState != DevSt.safeStop && d.devState != DevSt.tripped && d.lockMode != 2

/-- L1 stops: APC is no longer settled. -/
def Dev.apcOff (d : Dev) : Dev :=
  let was := d.flag Reg.LS_STAT_APC_SETTLED
  let d1 := (d.loopOff 1).set Reg.LS_STAT_APC_SETTLED 0
  let d2 := { d1 with proc := { d1.proc with apcRun := 0, darkRun := 0 } }
  if was then (d2.fire 0x31 3 0).processSpoil 0x31 else d2

/-- LD_EN_OUT follows the chain: a change fires PERMIT; a rise with QUALIFIED set enables L1, a fall puts the video out and disables L1
(R632, R637). -/
def Dev.permitUpdate (d : Dev) : Dev :=
  let d1 := (d.setb Reg.LS_STAT_SPD_OK d.spdOk).setb Reg.LS_STAT_VLASER_OK (d.get (Reg.CH_STAT_PG 8) == 1)
  let p := d1.permitNow
  if p = d1.flag Reg.LS_STAT_PERMIT then d1
  else
    let d2 := (d1.setb Reg.LS_STAT_PERMIT p).fire 0x31 0 0
    if ! p then d2.apcOff else if d2.flag Reg.BD_STAT_QUALIFIED then d2.loopInit 1 else d2

/-- ARM is set or cleared by the firmware or the interlock block. -/
def Dev.setArm (d : Dev) (b : Bool) : Dev := (d.setb Reg.LS_CTL_ARM b).permitUpdate

/-! ### The fuser heater (R606, R609, R612) -/

/-- The setpoint of gear `g` in °C (R609). -/
def Dev.fuserSp (d : Dev) (g : Nat) : Nat :=
  match g with
  | 2 => d.get Reg.FU_SP0_SP_G2
  | 3 => d.get Reg.FU_SP1_SP_G3
  | _ => d.get Reg.FU_SP0_SP_G1

/-- The heater gate goes off. -/
def Dev.heaterForceOff (d : Dev) : Dev :=
  { (d.set Reg.FU_STAT_HTR_ON 0) with proc := { d.proc with onTime := 0 } }

/-- A cause of Table 14-2 holds the gate off. -/
def Dev.heaterBlocked (d : Dev) : Bool :=
  d.flag Reg.FU_STAT_OT_LATCH || d.procHeld 0 || d.flag Reg.PF_STAT_PFW || ! d.engineOn || d.lockMode == 2 || d.flag Reg.LK_STAT_GRACE

/-- L0 and the heater gate are off (R612). -/
def Dev.fuserOff (d : Dev) : Dev := (d.loopOff 0).heaterForceOff

/-- L0 starts at the gear's setpoint when VFUSER is up and no correlation test is due (Table 14-1, step 2). -/
def Dev.fuserStart (d : Dev) : Dev :=
  if d.engineOn && d.get (Reg.CH_STAT_PG 10) == 1 && ! d.proc.corrDue && ! d.procHeld 0 then d.loopInit 0 else d

/-- A gear change sets the speed of M2 and the fuser setpoint (R34); SETTLED clears when the setpoint changes (R610). -/
def Dev.gearTarget (d : Dev) (g : Nat) : Dev :=
  let d1 := { d with engine := { d.engine with target := g } }
  if d.fuserSp g = d.fuserSp d.engine.target then d1
  else { (d1.set Reg.FU_STAT_SETTLED 0) with proc := { d1.proc with winAt := none } }

/-! ### Brushless drives (Table 11-2) -/

/-- Drive `m`: 0 to 2 for M1 to M3. -/
def Dev.mot (d : Dev) (m : Nat) : Bldc := d.motors.getD m Bldc.reset

/-- Change drive `m`. -/
def Dev.modMot (d : Dev) (m : Nat) (f : Bldc → Bldc) : Dev := { d with motors := lmod d.motors m f }

/-- The state of motor `m` (Table 11-2). -/
def Dev.blState (d : Dev) (m : Nat) : Nat := d.get (Reg.PG_STAT_STATE (0x25 + m))

/-- Set or clear SPD_LOCK (R492); HV follows the lock of M2 (R626), and in a warm-up the lock of M1 has the firmware set ARM and start SEARCH
(Table 14-1, step 4). -/
def Dev.setSpdLock (d : Dev) (m : Nat) (b : Bool) : Dev :=
  if d.flag (Reg.BL_STAT_SPD_LOCK m) = b then d
  else
    let d1 := (d.setb (Reg.BL_STAT_SPD_LOCK m) b).fire (0x25 + m) 1 0
    if m = 1 then d1.hvUpdate
    else if m = 0 ∧ b ∧ d1.laserState = LasSt.warming ∧ d1.fwRuns then
      let d2 := d1.setArm true
      if (d2.seq 0).rom then d2.seqGo 0 2 else d2
    else d1

/-- Set or clear PH_LOCK (R500); a clear while a sheet is committed spoils it (R501). -/
def Dev.setPhLock (d : Dev) (b : Bool) : Dev :=
  if d.flag (Reg.BL_STAT_PH_LOCK 0) = b then d
  else
    let d1 := (d.setb (Reg.BL_STAT_PH_LOCK 0) b).fire 0x25 2 0
    if ! b && d1.anyCommitted then (d1.raise 0x25 0xF St.motorFault 2 11).spoilCommitted else d1

/-- Fusion stops and BD_FUSED clears (R497, R498). -/
def Dev.fuseOff (d : Dev) : Dev :=
  (((d.set (Reg.BL_STAT_BD_FUSED 0) 0).modMot 0 (fun x => { x with learnN := 0, learnSum := 0, rejRun := 0, phAt := none, trimPpm := 0 })).setPhLock
    false)

/-- What the gates do in a motor state: 0 all off, 1 driven, 2 three low sides on (Table 11-2, R473). -/
def gatesOf (st stopMode : Nat) : Nat :=
  match st with
  | 2 => 2
  | 3 | 4 | 5 => 1
  | 6 => if stopMode = 1 then 1 else if stopMode = 2 then 2 else 0
  | _ => 0

/-- Motor `m` enters a state. -/
def Dev.blTo (d : Dev) (m st : Nat) : Dev :=
  if d.blState m = st then d
  else
    let g := gatesOf st (d.get (Reg.BL_CTL_STOP_MODE m))
    let d1 := ((d.set (Reg.PG_STAT_STATE (0x25 + m)) st).fire (0x25 + m) 0 0).modMot m (fun x => { x with
      since := d.now, periods := 0, hoAt := none, lockAt := none, gates := g, fromRun := st == 6 && d.blState m == 5,
      lowAt := if st = 0 ∨ st = 6 ∨ st = 7 then none else x.lowAt, cmdX := if st = 0 ∨ st = 7 then 0 else x.cmdX,
      sag := st == 6 && x.sag, order := st == 6 && x.order })
    let d2 := (d1.setb (Reg.BL_STAT_OBS_ACTIVE m) (st == 5)).setb (Reg.BL_STAT_HFI_ACTIVE m)
      (st == 4 && d.flag (Reg.BL_CTL_START_MODE m))
    if st = 0 ∨ st = 7 then
      let d3 := (d2.setSpdLock m false).set (Reg.BL_CMD_NOW_SPEED m) 0
      if m = 0 then d3.fuseOff else d3
    else d2

/-- Turn off all gates of a motor that turns: it coasts in STOPPING. -/
def Dev.blCoast (d : Dev) (m : Nat) : Dev :=
  let st := d.blState m
  if st = 0 ∨ st = 7 then d else (d.blTo m 6).modMot m (fun x => { x with gates := 0 })

/-- M1 and M2 coast (R901). -/
def Dev.enginesCoast (d : Dev) : Dev := (d.blCoast 0).blCoast 1

/-! ### Stepper axes -/

/-- Axis `i`: 0 to 3 for S1 to S4. -/
def Dev.ax (d : Dev) (i : Nat) : Axis := d.axes.getD i Axis.reset

/-- Change axis `i`. -/
def Dev.modAx (d : Dev) (i : Nat) (f : Axis → Axis) : Dev := { d with axes := lmod d.axes i f }

/-- STATE of an axis: 0 OFF, 1 HOLD, 2 MOVING, 3 PARKED, 4 FAULT. -/
def Dev.axState (d : Dev) (i : Nat) : Nat := d.get (Reg.ST_STAT_STATE i)

/-- The queue depth of MS_QSTAT for an axis. -/
def qstat (i : Nat) : Fld := ⟨Reg.MS_QSTAT, 4 * i, 4⟩

/-- QUEUED and VEL follow the axis. -/
def Dev.axSync (d : Dev) (i : Nat) : Dev :=
  let n := (d.ax i).queue.length
  ((d.set (Reg.ST_STAT_QUEUED i) n).set (qstat i) n).seti (Reg.ST_VEL_VEL i) (d.ax i).vel

/-- An axis enters a state; source STATE fires on a change. -/
def Dev.axTo (d : Dev) (i st : Nat) : Dev := if d.axState i = st then d else (d.set (Reg.ST_STAT_STATE i) st).fire (0x28 + i) 0 0

/-- POS_STATE becomes LOST (R533, R534): outside PARKED, and not for an axis that stands off its drive with a retained position. -/
def Dev.posLost (d : Dev) (i : Nat) : Dev :=
  if d.axState i = 3 ∨ d.get (Reg.ST_STAT_POS_STATE i) ≠ 0 then d
  else ((d.set (Reg.ST_STAT_POS_STATE i) 2).addSat (Reg.ST_ERR_LOST i) 1).raise (0x28 + i) 0xF St.stepperFault 0 8

/-- The bridges of an axis go off: its motion ends and the axis is in state `st`; a PARKED axis leaves that state for FAULT alone. -/
def Dev.axOff (d : Dev) (i st : Nat) : Dev :=
  let d1 := (d.posLost i).modAx i (fun a => { a with queue := [], cur := none, vel := 0, stillAt := none, ramp := 0, drive := false })
  let d2 := (d1.set (Reg.ST_STAT_BOOST i) 0).axSync i
  if d.axState i = 3 ∧ st ≠ 4 then d2 else d2.axTo i st

/-- A STOP is posted to an axis: at the next tick the velocity is 0; whatever is queued is discarded (R521). -/
def Dev.axStop (d : Dev) (i tag : Nat) : Dev :=
  (d.modAx i (fun a => { a with queue := [⟨4, false, false, tag, 0, 0, 0⟩] })).axSync i

/-- Every axis is parked or has no drive that could lose its position (R535, R724). -/
def Dev.axesParked (d : Dev) : Bool :=
  (List.range 4).all (fun i => d.axState i == 3 || (d.axState i == 0 && ! (d.ax i).drive) || d.axState i == 4)

/-- The interlock block posts STOP to every axis whose current segment's TAG is not a snapshot token (R897). -/
def Dev.motionHold (d : Dev) (snap : List Nat) : Dev :=
  (List.range 4).foldl (fun d i => match (d.ax i).cur with
    | some (g, _) => if g.tag ≠ 0 ∧ snap.contains g.tag then d else d.axStop i 0
    | none => d) d

/-! ### The head -/

/-- The strobes are forced deasserted: a train is cut (R663). -/
def Dev.strobesOff (d : Dev) : Dev := { d with head := { d.head with train := 0 } }

/-- No strobe train runs and the platen is at rest (Table 16-3, HEAD_STOPPED). -/
def Dev.headStopped (d : Dev) : Bool := d.head.train == 0 && (d.ax 2).vel == 0

/-- LINE is halted (R898): HEAD_EN falls, so the strobes are gated. -/
def Dev.lineHalt (d : Dev) : Dev := (d.seqHalt 1).strobesOff

/-! ### All outputs -/

/-- The outputs of a class A trip, SAFE_STOP and the hardware shutdown (Table 21-4, R697, R731): laser, high voltage and heater off,
M1 to M3 coast (M3 runs on in SAFE_STOP with SAFE_FAN), all bridges off, strobes deasserted, SCAN and LINE halted, loop
outputs of L6 and L7 off. -/
def Dev.outputsOff (d : Dev) : Dev :=
  let d1 := (((((d.setArm false).hvOff).fuserOff).enginesCoast).seqHalt 0).seqHalt 1
  let d2 := if d.lockMode = 2 && d.flag Reg.LK_CFG_SAFE_FAN then d1 else d1.blCoast 2
  (((List.range 4).foldl (fun d i => d.axOff i 0) d2).strobesOff.loopOff 6).loopOff 7

/-- The process outputs go off at the start of the grace (R901). -/
def Dev.processOff (d : Dev) : Dev := ((((d.setArm false).hvOff).heaterForceOff).enginesCoast)

/-! ### What BOOT writes for the process pages -/

/-- The field of OTP word 386 or its default (R615, R639). -/
def otpOr (x dflt : Nat) : Nat := if x = 0 then dflt else x

/-- OT_EFF and OP_EFF (R614, R639). -/
def Dev.thresholds (d : Dev) : Dev :=
  (d.set Reg.FU_OT_EFF_OT_EFF (max (d.get Reg.FU_OT_OT_OTP) (d.get Reg.FU_OT_OT_CODE))).set Reg.LS_OP_EFF_OP_EFF
    (min (d.get Reg.LS_OP_OP_OTP) (d.get Reg.LS_OP_OP_CODE))

/-- The built-in coefficient sets in both banks of L0 to L5, bank 0 active (R597); the words are free values. -/
def Dev.loadCoefs (d : Dev) : Dev :=
  (List.range 6).foldl (fun d n => (List.range 2).foldl (fun d b => (List.range 35).foldl (fun d o =>
    d.setReg (coefAddr n b (4 * o)) (Config.loopCoef n (4 * o)).toNat) d) (d.set (Reg.LP_STAT_BANK n) 0)) d

/-- At step 2 of BOOT: the thresholds the OTP array fixes, the coefficient sets and the pages held for the engine. -/
def Dev.bootFields (d : Dev) : Dev :=
  let w := d.intWord 386
  (((d.set Reg.FU_OT_OT_OTP (otpOr (w % 1024) 0x02C)).set Reg.LS_OP_OP_OTP (otpOr (bitsOf w 16 10) 0x300)).thresholds).loadCoefs.engHold

end Sys2Proof.Machine
end

