-- ==== Sys2Proof/Machine/Sheets.lean ====
section
/-! DEFINITION. The laser engine's and the thermal engine's states with what entering each of them does, sheet transitions and their
events, completion reports and orphan records, the jam, and faults of the process outputs (spec/01, spec/02, R190, R191,
spec/12 "Jams", spec/14, spec/15). -/

set_option linter.unusedVariables false

namespace Sys2Proof.Machine

/-! ### Transitions and reports of sheets -/

/-- The code of a sheet state (Table 1-2). -/
def SheetState.code : SheetState → Nat
  | .queued => 0
  | .staged => 1
  | .held => 2
  | .committed => 3
  | .imaging => 4
  | .fusing => 5
  | .ejected => 6
  | .spoiled => 7
  | .spoiledBlank => 8
  | .jammed => 9

/-- The payload of R23 with state code `st`. -/
def Sheet.payload (s : Sheet) (st : Nat) : Nat :=
  s.token % 256 + st * 256 + s.gear * 4096 + b2n s.atRisk * 16384 + b2n s.integrity * 32768 + (s.index % 65536) * 65536

/-- The event of a transition of sheet `s` to state code `st` with a status (R23, R24). -/
def Dev.sheetEvent (d : Dev) (s : Sheet) (st code : Nat) : Dev :=
  (d.raise 0x32 s.tenant code (St.sev code) (s.payload st)).fireRaw 0x32 0

/-- Change one sheet's record. -/
def Dev.modSheet (d : Dev) (s : Sheet) (f : Sheet → Sheet) : Dev := d.modSheets (·.is s.tenant s.epoch s.job s.index) f

/-- A normal transition that does not end the sheet. -/
def Dev.moveSheet (d : Dev) (s : Sheet) (st : SheetState) : Dev :=
  (d.modSheet s (fun x => { x with state := st })).sheetEvent s st.code St.ok

/-- Insert in rising order. -/
def insNat (x : Nat) : List Nat → List Nat
  | [] => [x]
  | y :: ys => if x ≤ y then x :: y :: ys else y :: insNat x ys

/-- Rising order. -/
def sortNat (l : List Nat) : List Nat := l.foldl (fun a x => insNat x a) []

/-- The final status (R52). -/
def Sheet.finalStatus (s : Sheet) (st : SheetState) : Nat :=
  if st = .jammed then St.jammed
  else if st = .spoiledBlank then St.spoiledBlank
  else if s.spoil then St.spoiled
  else if s.integrity then St.integrityUnknown
  else St.ok

/-- The payload of a sheet report (Table 4-13). -/
def Sheet.report (s : Sheet) (st : SheetState) : List Byte :=
  let voids := sortNat (s.voided.map (·.1))
  let omits := sortNat (s.omitted.map (fun o => o.1 * 4 + o.2))
  [1, BitVec.ofNat 8 s.token] ++ leBytes 2 s.job ++ leBytes 2 s.index ++
  leBytes 1 (b2n s.atRisk + 2 * b2n s.integrity + 4 * b2n s.revoked) ++ leBytes 1 (if s.blank then 0 else s.gear) ++
  leBytes 2 voids.length ++ leBytes 2 omits.length ++ leBytes 1 (if st = .spoiledBlank then s.failCheck else 0) ++ zeros 3 ++
  voids.flatMap (leBytes 2) ++ omits.flatMap (fun o => leBytes 2 (o / 4) ++ leBytes 1 (o % 4) ++ zeros 1)

/-- Count a book of a tenant's statistics. -/
def Dev.stat (d : Dev) (k i : Nat) : Dev := d.modTen k (fun t => { t with stats := lmod t.stats i (· + 1) })

/-- Whether the job has nothing left to print: no sheet of it lives, or its receipt has ended. -/
def Dev.jobOver (d : Dev) (k : Nat) (j : Job) : Bool :=
  j.state != 0 && ! j.told &&
  (if j.thermal then j.final != 0 || (j.state == 2 && d.rcpt != some (k, (d.ten k).epoch, j.num)) else ! d.sheets.any (fun s => s.tenant == k && s.epoch == (d.ten k).epoch && s.job == j.num))

/-- The job report, once the job has ended and nothing of it is left (R190). -/
def Dev.jobCheck (d : Dev) (k num : Nat) : Dev :=
  match d.job? k num with
  | none => d
  | some j =>
    if d.jobOver k j then
      (d.modJob k num (fun x => { x with told := true })).unsol k St.ok
        ([3, 0] ++ leBytes 2 num ++ leBytes 2 (if j.thermal then 1 else j.defined) ++ leBytes 2 j.printed) 3 num
    else d

/-- The sheet whose data a channel's chain carried has reached a final state (R306). -/
def DmaCh.sheetFinal (c : DmaCh) (s : Sheet) : DmaCh :=
  { c with chain := c.chain.map (fun h => { h with final := h.final || s.is h.ten h.epoch h.job h.index }) }

/-- A sheet reaches its final state: the event, the books, the units freed, and its report to the tenant, or an orphan record when the
tenant has been reset since (R23, R52, R98, R190, R774). -/
def Dev.finishSheet (d : Dev) (s0 : Sheet) (st : SheetState) : Dev :=
  let s := (d.sheets.find? (·.is s0.tenant s0.epoch s0.job s0.index)).getD s0
  let status := s.finalStatus st
  let code := match st with
    | .ejected => St.ok
    | .spoiled => St.spoiled
    | .spoiledBlank => St.spoiledBlank
    | _ => St.jammed
  let k := s.tenant
  let d1 := ((d.sheetEvent s st.code code).dropSheetWork s).pfFinal s status
    (b2n s.atRisk + 2 * b2n s.integrity + 4 * b2n s.revoked) s.voided.length
  let d2 := { d1 with
    sheets := d1.sheets.filter (fun x => ! x.is k s.epoch s.job s.index),
    dma := d1.dma.map (fun (c : DmaCh) => c.sheetFinal s) }
  let d3 := d2.stat k (if status = St.ok then 0 else if status = St.spoiled then 1 else if status = St.spoiledBlank then 2
    else if status = St.jammed then 3 else 5)
  let d4 := if status = St.ok then d3.lifeAdd 3 1 else if status = St.spoiled ∨ status = St.spoiledBlank then d3.lifeAdd 4 1 else d3
  if d4.owned k s.epoch then
    let d5 := d4.modJob k s.job (fun j => { j with final := j.final + 1, printed := j.printed + b2n (status == St.ok) })
    (d5.unsol k status (s.report st) 0 0).jobCheck k s.job
  else d4.orphan k ⟨s.epoch, s.job, s.index, status, s.token, b2n s.atRisk + 2 * b2n s.integrity, s.voided.length⟩

/-! ### Tracker slots -/

/-- Tracker slot `i`. -/
def Dev.slot (d : Dev) (i : Nat) : Slot := d.path.slots.getD i Slot.reset

/-- Change tracker slot `i`. -/
def Dev.modSlot (d : Dev) (i : Nat) (f : Slot → Slot) : Dev :=
  { d with path := { d.path with slots := lmod d.path.slots i f } }

/-- The token in slot `i`. -/
def Dev.slotToken (d : Dev) (i : Nat) : Option Nat := if (d.slot i).state = 0 then none else some (d.slot i).token

/-- No token is in the path or expected. -/
def Dev.pathEmpty (d : Dev) : Bool := d.path.slots.all (fun s => s.state == 0)

/-- The sheet a slot tracks. -/
def Dev.slotSheet (d : Dev) (i : Nat) : Option Sheet :=
  let t := d.slot i
  d.sheets.find? (·.is t.ten t.epoch t.job t.index)

/-- A slot is freed: the interlock block clears its LK_COMMIT bit (R895). -/
def Dev.freeSlot (d : Dev) (i : Nat) (exited : Bool) : Dev := (d.modSlot i (fun _ => Slot.reset)).slotFreed i exited

/-! ### The laser engine (Table 1-1) -/

/-- The correlation test that runs is abandoned (R621: its hold ends). -/
def Dev.corrAbandon (d : Dev) : Dev :=
  if d.flag Reg.FU_STAT_CORR_RUN then
    { ((d.set Reg.FU_STAT_CORR_RUN 0).fwFree 0x2F) with proc := { d.proc with corr := none } }
  else d

/-- The process outputs go off with the engine (R612, R634, Table 11-3). -/
def Dev.engineOutputsOff (d : Dev) : Dev :=
  let d1 := ((((d.setArm false).fuserOff).hvOff).set Reg.PC_STAT_RUN_GEAR 0).set Reg.PC_STAT_SHIFTING 0
  { d1.corrAbandon with engine := { d1.engine with pendGear := 0, target := 1 } }

/-- A warm-up finds CORR_FORCE written: a correlation test is due (R620). -/
def Dev.corrForced (d : Dev) : Dev :=
  if d.flag Reg.FU_CORR_CORR_FORCE then { (d.set Reg.FU_STAT_CORR_RESULT 0) with proc := { d.proc with corrDue := true } } else d

/-- The hold age of sheet `s` in µs: it counts only while the laser engine is READY or PRINTING (R26), and stands at what it was when the
engine left them. -/
def Dev.holdAge (d : Dev) (s : Sheet) : Nat :=
  (if d.laserState = LasSt.ready ∨ d.laserState = LasSt.printing then d.now else d.engine.since) - s.heldAt

/-- The time that the engine has spent in a state in which no hold age counts is taken out of the ages of the HELD sheets (R26). -/
def Dev.ageSkip (d : Dev) : Dev :=
  if d.laserState = LasSt.ready ∨ d.laserState = LasSt.printing then d
  else d.modSheets (·.state == .held) (fun x => { x with heldAt := x.heldAt + (d.now - max d.engine.since x.heldAt) })

/-- The engines allow STANDBY (R729). -/
def Dev.standbyReady (d : Dev) : Bool :=
  d.laserState == LasSt.cold && d.thermalState == ThmSt.idle && d.rcpt.isNone

/-- A pending STBY is honoured once the engines allow it (R729): the firmware requests STANDBY_ENTER. -/
def Dev.stbyCheck (d : Dev) : Dev :=
  if d.flag Reg.PWR_CMD_STBY && d.standbyReady && (d.devState == DevSt.nominal || d.devState == DevSt.baseline) then d.pseqRequest 2
  else d

/-- The laser engine enters a state of Table 1-1; SAFE is left only by a device reset (R20). -/
def Dev.setLas (d : Dev) (s : Nat) : Dev :=
  let old := d.laserState
  if s = old ∨ old = LasSt.safe then d
  else
    let d1 := d.ageSkip.set (Reg.PG_STAT_STATE 0x32) s
    let d2 := { d1 with engine := { d1.engine with since := d.now, stopAfter := false } }
    if s = LasSt.warming then
      (((({ d2.corrForced with engine := { d2.engine with causes := [] } }).set
        Reg.PC_STAT_RUN_GEAR 0).gearTarget 1).pseqRequest 6).lifeAdd 9 1 |>.fuserStart
    else if s = LasSt.cooling then (d2.engineOutputsOff.pseqRequest 7).bgFall 2
    else if s = LasSt.ready ∨ s = LasSt.printing then d2
    else d2.engineOutputsOff.stbyCheck

/-- A laser sheet is QUEUED: defined and its response placed. -/
def Dev.anyQueued (d : Dev) : Bool := d.sheets.any (fun s => s.placed && s.state == .queued)

/-- ILK_N and the cover inputs that count are closed (R635). -/
def Dev.coversClosed (d : Dev) : Bool :=
  ! (d.path.covers.getD 0 (false, 0)).1 &&
  ! ((d.path.covers.getD 1 (false, 0)).1 && bit (d.get Reg.LS_CTL_COV_EN) 0) &&
  ! ((d.path.covers.getD 2 (false, 0)).1 && bit (d.get Reg.LS_CTL_COV_EN) 1)

/-- M1 and M2 stand still. -/
def Dev.motorsStill (d : Dev) : Bool := (List.range 2).all (fun m => d.blState m == 0 || d.blState m == 7)

/-- Whether a cause of STOPPED is gone (log entry 15): a latched cause by its own clearing rule, one that was a happening once M1 and M2
stand still. HTR_STUCK and EN_MISMATCH last until a device reset (R619, R642). -/
def Dev.causeGone (d : Dev) (c : Nat × Nat) : Bool :=
  match c with
  | (0x25, _) => d.blState 0 != 7
  | (0x26, _) => d.blState 1 != 7
  | (0x27, _) => d.blState 2 != 7
  | (0x2F, 1) => d.get Reg.FU_STAT_TH_STATE != 1
  | (0x2F, 2) => d.get Reg.FU_STAT_TH_STATE != 2
  | (0x2F, 3) => ! d.flag Reg.FU_STAT_OT_LATCH
  | (0x2F, 8) => false
  | (0x30, 4) => false
  | (0x31, 1) => ! d.flag Reg.LS_STAT_OP_LATCH
  | (0x31, 3) => false
  | (0x0C, _) => d.get Reg.CK_SYS_STAT_REF == 1 && d.flag Reg.CK_SYS_STAT_LOCKED
  | _ => d.motorsStill

/-- The fault conditions of the process pages end when the engine leaves STOPPED. -/
def Dev.processFaultsOff (d : Dev) : Dev :=
  { (((d.faultsOff 0x2F).faultsOff 0x30).faultsOff 0x31).faultOff 0x32 2 with proc := { d.proc with held := [false, false, false] } }

/-- STOPPED is left when the cause is cleared and the tokens are reconciled (Table 1-1). -/
def Dev.evalEngine (d : Dev) : Dev :=
  if d.laserState = LasSt.stopped && ! d.flag Reg.PT_JAM_ACTIVE && ! d.path.told && d.coversClosed && d.engine.causes.all d.causeGone then
    let d1 := { d.processFaultsOff with engine := { d.engine with causes := [] } }
    d1.setLas (if d1.anyQueued then LasSt.warming else LasSt.cold)
  else d

/-- The engine stops for a cause: after the last exit, or at once when no token is in the path (R466, R644). -/
def Dev.engineStop (d : Dev) (page cause : Nat) : Dev :=
  let s := d.laserState
  if 1 ≤ s ∧ s ≤ 5 then
    let d1 := { d with engine := { d.engine with causes := d.engine.causes ++ [(page, cause)] } }
    if s = LasSt.stopped then d1
    else if d1.pathEmpty then d1.setLas LasSt.stopped
    else { d1 with engine := { d1.engine with stopAfter := true } }
  else d

/-- The engine moves to STOPPED at once for a cause. -/
def Dev.engineStopNow (d : Dev) (page cause : Nat) : Dev :=
  let s := d.laserState
  if 1 ≤ s ∧ s ≤ 4 then ({ d with engine := { d.engine with causes := d.engine.causes ++ [(page, cause)] } }).setLas LasSt.stopped else d

/-- The last token has left the path: an engine that was to stop stops (R466, R644); one in PRINTING with no sheet QUEUED is READY. -/
def Dev.pathCleared (d : Dev) : Dev :=
  if ! d.pathEmpty then d
  else if d.engine.stopAfter then d.setLas LasSt.stopped
  else if d.laserState = LasSt.printing && ! d.anyQueued then d.setLas LasSt.ready
  else d

/-- A laser sheet has become QUEUED, or was removed: COLD and COOLING go to WARMING, PRINTING with an empty path to READY. -/
def Dev.queueChanged (d : Dev) : Dev :=
  let s := d.laserState
  let run := d.devState == DevSt.nominal || d.devState == DevSt.baseline
  if d.anyQueued && run && (s == LasSt.cold || s == LasSt.cooling) then d.setLas LasSt.warming else d.pathCleared

/-! ### Faults of the process outputs (R644) -/

/-- The severity-3 fault of a process block `b` (0 fuser, 1 HV, 2 laser): the output stays off, committed sheets get SPOIL, and the
engine stops after the last exit. -/
def Dev.procFault (d : Dev) (b code cause payload : Nat) : Dev :=
  let p := 0x2F + b
  let d1 := (((d.raise p 0xF code 3 payload).fireRaw p 1).faultOn p cause code 3 (payload % 256)).setHeld b true
  let d2 := match b with
    | 0 => d1.corrAbandon.fuserOff
    | 1 => d1.hvOff
    | _ => d1.setArm false
  d2.spoilCommitted.engineStop p cause

/-- A fault condition of a process block is gone: its fault ends, and outside STOPPED (which its own rule leaves) a block without
faults is no longer held. -/
def Dev.procClear (d : Dev) (b cause : Nat) : Dev :=
  let d1 := d.faultOff (0x2F + b) cause
  if d1.laserState = LasSt.stopped then d1.evalEngine
  else if (d1.page (0x2F + b)).faults = [] then d1.setHeld b false
  else d1

/-- FUSER_FAULT with a cause of Table 14-7. -/
def Dev.fuserFault (d : Dev) (cause : Nat) : Dev :=
  d.procFault 0 St.fuserFault cause (cause + d.get Reg.FU_TEMP_TEMP * 65536)

/-- HV_FAULT with a cause and a channel. -/
def Dev.hvFault (d : Dev) (cause c : Nat) : Dev := d.procFault 1 St.hvFault cause (cause + 16 * (c + 1))

/-- LASER_FAULT with a cause. -/
def Dev.laserFault (d : Dev) (cause : Nat) : Dev := d.procFault 2 St.laserFault cause cause

/-! ### The thermal engine (Table 15-1) -/

/-- The thermal engine enters a state; the event of R648 carries `code`. -/
def Dev.setThm (d : Dev) (s code : Nat) : Dev :=
  let old := d.thermalState
  if s = old then d
  else
    let job := match d.rcpt with
      | some (_, _, j) => j
      | none => 0
    ((d.set (Reg.PG_STAT_STATE 0x24) s).raise 0x24 0xF code 0 (s + old * 16 + job * 65536)).fireRaw 0x24 0 |>.stbyCheck

/-- The history of every dot is "not fired" (R654). -/
def Dev.historyOff (d : Dev) : Dev := { d with head := { d.head with h1 := [], h2 := [] } }

/-- The receipt in progress ends with a status (R191, R665, R689): its units go, and its report is placed, or its orphan record made
when the tenant has been reset since (R98). -/
def Dev.endReceipt (d : Dev) (status : Nat) : Dev :=
  match d.rcpt with
  | none => d
  | some (k, e, j) =>
    let h := d.head
    let d1 := d.release (fun u => u.kind == 2 && u.tenant == k && u.epoch == e && u.job == j)
    let d2 := { d1 with
      rcpt := none, rcptBad := [], galReqs := d1.galReqs.filter (fun r => r.kind != 2),
      head := { h with job := .none, next := 0, shifted := none, stopping := 0, feedLeft := 0 },
      codec := { d1.codec with q1 := d1.codec.q1.filter (fun b => b.form || ! (b.epoch == e && b.job == j)) } }
    let d3 := (d2.stat k (if status = St.ok then 6 else 7)).lifeAdd 12 1
    Dev.stbyCheck <| if d3.owned k e then
      let d4 := d3.modJob k j (fun x => { x with waiting := false, final := 1, printed := b2n (status == St.ok) })
      (d4.unsol k status ([2, 0] ++ leBytes 2 j ++ leBytes 4 h.printed ++ leBytes 2 h.stops ++ leBytes 1 h.cutMade ++ [0]) 0 0).jobCheck k j
    else d3.orphan k ⟨e, j, 0, St.spoiled, 0, 4, 0⟩

/-- A FEED command in progress completes with a status (spec/04, FEED). -/
def Dev.endFeed (d : Dev) (status : Nat) : Dev :=
  match d.head.job with
  | .feed k | .feedCut k => ({ d with head := { d.head with job := .none, feedLeft := 0, cutKind := 0 } }).finish k 0x0301 status []
  | _ => d

/-- A severity-3 fault of the thermal engine (R687 to R689): a receipt in progress ends with a status. -/
def Dev.headFaultSt (d : Dev) (cause code status : Nat) : Dev :=
  let bits := d.get Reg.HD_STAT_CAUSES
  if bit bits cause then d
  else
    let d1 := (((d.set Reg.HD_STAT_CAUSES (bits ||| 2 ^ cause)).raise 0x24 0xF code 3 cause).fireRaw 0x24 1).faultOn 0x24 cause code 3 cause
    let d2 := d1.strobesOff.historyOff.setThm ThmSt.fault code
    let d3 := if (d2.ax 2).vel = 0 then d2 else d2.axStop 2 0
    (d3.endReceipt status).endFeed code

/-- HEAD_FAULT (R688, R689): a receipt in progress ends SPOILED. -/
def Dev.headFault (d : Dev) (cause code : Nat) : Dev := d.headFaultSt cause code St.spoiled

/-- R623: the thermistors are swapped: the heater goes off, the laser engine stops and the thermal engine is in FAULT. -/
def Dev.thermSwapped (d : Dev) (payload : Nat) : Dev :=
  let d1 := ((d.raise 0x2F 0xF St.thermSwapped 3 payload).fireRaw 0x2F 1).faultOn 0x2F 11 St.thermSwapped 3 11
  ((d1.corrAbandon.fuserOff).engineStopNow 0x2F 11).headFault 7 St.headFault

/-! ### The jam (R557 to R560) -/

/-- Gate every armed sheet of SCAN. -/
def Dev.gateArmed (d : Dev) : Dev :=
  { d with scan := { d.scan with armed := d.scan.armed.map (fun a => { a with gated := true }) } }

/-- The jam with its deciding token, cause and sensor: the reaction of R558, JAMMED for every token and its report, the event of R560.
The interlock block's part (R900) is added where the jam is decided. -/
def Dev.jam (d : Dev) (token cause sensor : Nat) : Dev :=
  if d.flag Reg.PT_JAM_ACTIVE then d
  else
    let live := (List.range 4).filter (fun i => (d.slot i).state != 0)
    let n := live.length
    let d1 := (d.axStop 0 0).axStop 1 0
    let d2 := if d.flag (Reg.ST_CTL_ROLE 3) then d1.axStop 3 0 else d1
    let d3 := d2.gateArmed
    let exp := (live.filter (fun i => (d.slot i).expected)).length
    let d4 := ((d3.addWrap Reg.TOK_PATH_IN_PATH exp).set Reg.TOK_PATH_EXPECTED (d3.get Reg.TOK_PATH_EXPECTED - exp))
    let d5 := ((((((d4.set Reg.PT_JAM_TOKEN token).set Reg.PT_JAM_CAUSE cause).set Reg.PT_JAM_SENSOR sensor).set Reg.PT_JAM_ACTIVE 1).setb
      Reg.PT_JAM_COVER_CYCLED (cause == 9)).set Reg.PT_JAM_JAMMED n).addSat Reg.PT_CNT_JAMS 1
    let d7 := (((d5.raise 0x32 0xF St.jammed 3 (token + cause * 256 + sensor * 4096 + n * 65536)).fireRaw 0x32 1).faultOn 0x32 1 St.jammed 3
      cause).lifeAdd 5 1
    let d8 := live.foldl (fun d i =>
      let d' := match d.slotSheet i with
        | some s => d.finishSheet s .jammed
        | none => d
      d'.modSlot i (fun t => { t with state := 6, expected := false, wins := [], rel := [], stopping := false })) d7
    let d9 := (((d8.setArm false).hvOff).fuserOff)
    let s := d9.laserState
    if 1 ≤ s ∧ s ≤ 4 then d9.setLas LasSt.stopped else d9

end Sys2Proof.Machine
end

