-- ==== Sys2Proof/Machine/HeadOps.lean ====
section
/-! DEFINITION. Posting segments, and the moves of the platen and the cutter that several families command (R518 to R522, R664, R668 to
R672, R769). -/

set_option linter.unusedVariables false

namespace Sys2Proof.Machine

/-- A segment of `kind` for an axis without a start instant. -/
def segOf (kind : Nat) (vEnd : Int) (ticks tag : Nat) : Seg := ⟨kind, false, false, tag, vEnd, ticks, 0⟩

/-- Queue a segment behind the others (R518, R520): a full queue takes none and sets POST_REFUSED. -/
def Dev.axPost (d : Dev) (i : Nat) (g : Seg) : Dev :=
  if 8 ≤ (d.ax i).queue.length then d.set Reg.MS_POST_POST_REFUSED 1
  else (d.modAx i (fun a => { a with queue := a.queue ++ [g] })).axSync i

/-- LINE_PITCH in 1/256 microstep. -/
def Dev.linePitch (d : Dev) : Nat := d.get Reg.HD_PITCH_LINE_PITCH

/-- The platen velocity at a rate in lines/s, in microsteps/s (R668). -/
def Dev.platenV (d : Dev) (rate : Nat) : Nat := roundDiv (rate * d.linePitch) 256

/-- The ticks of a stop or a start over one line pitch at velocity `v` (R670, R672). A velocity that is the rounded one of a rate enters
as that rate's velocity before rounding, by which T is 100,000 / rate (DEDUCED from the example of spec/15, log entry 31). -/
def Dev.pitchTicks (d : Dev) (v : Nat) : Nat :=
  let r := roundDiv (v * 256) d.linePitch
  atLeast1 (if d.platenV r = v ∧ r ≠ 0 then ceilDiv 100000 r else ceilDiv (d.linePitch * 100000) (256 * v))

/-- The velocity at which what is posted to the platen so far ends. -/
def Dev.platenEndV (d : Dev) : Int :=
  match (d.ax 2).queue.getLast?, (d.ax 2).cur with
  | some g, _ => g.vEnd
  | none, some (g, _, v0, _) => if g.kind = 0 then v0 else g.vEnd
  | none, none => (d.ax 2).vel

/-- The stop of R670 from the velocity that the platen has, or that its blend leads to. -/
def Dev.platenStop (d : Dev) : Dev :=
  let v := d.platenEndV.natAbs
  if v = 0 then d else d.axPost 2 (segOf 2 0 (d.pitchTicks v) 0)

/-- The platen starts from rest: a SINE over one pitch, then a CRUISE (R672). -/
def Dev.platenStart (d : Dev) (rate : Nat) : Dev :=
  let v := d.platenV rate
  if v = 0 then d else (d.axPost 2 (segOf 2 v (d.pitchTicks v) 0)).axPost 2 (segOf 0 v 0 0)

/-- A running axis changes its velocity by one blend and a CRUISE (R522). -/
def Dev.axBlend (d : Dev) (i : Nat) (v : Int) : Dev :=
  let k := d.get Reg.MS_BLEND_BLEND_KIND
  let t := atLeast1 (d.get Reg.MS_BLEND_BLEND_T) * 50
  (d.axPost i (segOf (if k = 0 then 2 else k) v t 0)).axPost i (segOf 0 v 0 0)

/-- S4 is in DC mode. -/
def Dev.s4Dc (d : Dev) : Bool := d.flag (Reg.ST_CTL_MODE 3)

/-- The cutter stops at once: STOP on S4, or BRAKE in DC mode (R664). -/
def Dev.cutBrake (d : Dev) : Dev :=
  if d.s4Dc then d.set (Reg.ST_DC_BRAKE 3) 1 else d.axStop 3 0

/-- The cutter is in a cut or a homing. -/
def Head.cutting (h : Head) : Bool :=
  match h.job with
  | .cut | .homing | .feedCut _ => true
  | _ => false

/-- Change the head. -/
def Dev.modHead (d : Dev) (f : Head → Head) : Dev := { d with head := f d.head }

/-- The homing ends with SNS4 occupied (R685): the cutter stops and S4 is VALID; a receipt goes on with its first line. -/
def Dev.homingDone (d : Dev) : Dev :=
  if d.head.job = .homing ∨ d.head.homeLost then
    let d1 := if d.s4Dc then d.set (Reg.ST_DC_BRAKE 3) 1 else d.axStop 3 0
    (d1.set (Reg.ST_STAT_POS_STATE 3) 0).modHead (fun h => { h with
      job := if h.job = .homing then (if d.rcpt.isSome then .lines else .none) else h.job, homeLost := false })
  else d

/-- The head at a PFW (R769): the platen stops, a cut in progress stops; LATCH, FEED and CUT see the warning themselves. -/
def Dev.headPfw (d : Dev) : Dev :=
  let d1 := d.platenStop
  if d1.head.cutting then d1.cutBrake else d1

end Sys2Proof.Machine
end

