-- ==== Sys2Proof/Machine/SysOps.lean ====
section
/-! DEFINITION. Device-wide operations: device state changes (R726, R1011), rail channels (R698 to R703), the sequencer's start
and end of a program (R712 to R722), the hardware shutdown (R697), device resets (R727) and the hold-up path (R755,
R756). -/

set_option linter.unusedVariables false

namespace Sys2Proof.Machine

/-! ### Device state -/

/-- Enter a device state (Table 4-4): the SYS source fires and its record is raised (R1011). -/
def Dev.setDev (d : Dev) (s : Nat) : Dev :=
  let old := d.devState
  if s = old then d
  else (((d.set (Reg.PG_STAT_STATE 0) s).setReg Reg.SYS_STATE_TIME d.now).fireRaw 0 0).raise 0 0xF 0 0 (s + old * 16)

/-! ### Rail channels -/

/-- Whether a channel is forced off (R702, R894, R898). -/
def Dev.chForced (d : Dev) (n : Nat) : Bool :=
  bit (d.get Reg.PWR_LOCKOFF_LOCKOFF) n ||
  (d.flag Reg.PF_STAT_INPUT_OV && 5 ≤ n && n ≤ 11) ||
  bit d.pw.clsB n ||
  (d.pw.tripped && 5 ≤ n) ||
  (d.lockMode == 2 && 5 ≤ n && ! (n == 6 && d.flag Reg.LK_CFG_SAFE_FAN)) ||
  (d.lockMode == 1 && (n == 7 || n == 11))

/-- Switch a channel off; with `dchg` its discharge goes on (R700). -/
def Dev.chOff (d : Dev) (n : Nat) (dchg : Bool) : Dev :=
  if n = 4 then d
  else
    let was := d.get (Reg.CH_STAT_PG n)
    let d1 := (d.set (Reg.CH_STAT_STATE n) (if d.chForced n then 3 else 0)).set (Reg.CH_STAT_PG n) 0
    let d2 := if was = 1 then (d1.fire 0x0E 1 0).permitUpdate else d1
    { d2 with pw := { d2.pw with dchg := if dchg then d2.pw.dchg ||| 2 ^ n else d2.pw.dchg &&& (65535 ^^^ 2 ^ n) } }

/-- Switch off every channel of a mask. -/
def Dev.chOffMask (d : Dev) (mask : Nat) (dchg : Bool) : Dev :=
  (List.range 16).foldl (fun d n => if bit mask n then d.chOff n dchg else d) d

/-- Channels that a forcing holds are off and read FORCED; FORCED of the page fires for a channel newly forced, with the record
of the condition that forces it (R1015). -/
def Dev.applyForcing (d : Dev) : Dev :=
  (List.range 16).foldl (fun d n =>
    if n ≠ 4 ∧ d.chForced n ∧ d.get (Reg.CH_STAT_STATE n) ≠ 3 then (d.chOff n (d.lockMode == 2)).fireRaw 0x0E 2
    else if ! d.chForced n ∧ d.get (Reg.CH_STAT_STATE n) = 3 then d.set (Reg.CH_STAT_STATE n) 0
    else d) d

/-- EN and PG of channels 12 to 15 are the balls GPIO20 to GPIO27 (R972). -/
def Dev.chBalls (d : Dev) (n : Nat) : Bool := n < 12 || (d.pmFunc (20 + n - 12) == 0 && d.pmFunc (24 + n - 12) == 0)

/-- ENA of one channel (R698, R701, R702, R725, R738, R894, R972): soft start begins, unless something holds it. The first ENA
after its class B conditions (BACKFEED, which forces nothing, apart) have cleared ends their forcing. -/
def Dev.chEna (d : Dev) (n : Nat) : Dev :=
  if n = 4 ∨ d.pw.tripped ∨ ! d.chBalls n then d
  else
    let free := bit d.pw.clsB n && d.get (Reg.CH_STAT_WARN n) &&& 0x17 == 0
    let d1 := if free then { d with pw := { d.pw with clsB := d.pw.clsB &&& (65535 ^^^ 2 ^ n) } } else d
    if d1.chForced n ∨ d1.chOn n then d1
    else
      let d2 := (d1.set (Reg.CH_STAT_STATE n) 1).set (Reg.CH_STAT_DOWN n) 0
      { d2 with pw := { d2.pw with dchg := d2.pw.dchg &&& (65535 ^^^ 2 ^ n) } }

/-! ### The hold-up path -/

/-- Causes of Table 17-5 that hold the charger off and make E_AVAIL 0: all but ESR_HIGH (6) and MEAS_TIMEOUT (5). -/
def Dev.bankBad (d : Dev) : Bool := d.get Reg.HL_STAT_CAUSES &&& 0xCF != 0

/-- VM_RB_G is driven on (R692, R695, R755). -/
def Dev.rbUpdate (d : Dev) : Dev :=
  d.setb Reg.PF_STAT_RB_ON (d.flag Reg.PF_STAT_VM_OK && ! d.pw.tripped && ! d.flag Reg.PF_STAT_PFW && ! d.flag Reg.PF_STAT_INPUT_OV)

/-- L5 runs exactly while the conditions of R756 hold; STATE of HL_STAT follows. -/
def Dev.holdUpdate (d : Dev) : Dev :=
  let run := d.chOn 11 && ! d.flag Reg.PF_STAT_PFW && ! d.flag Reg.HL_STAT_BLD_ON && ! d.bankBad && d.get Reg.HL_STAT_STATE != 2
  let on := d.get Reg.HL_STAT_STATE == 1
  let st := if d.get Reg.HL_STAT_STATE = 2 then 2 else if d.flag Reg.PF_STAT_PFW then 3 else if d.bankBad then 4
    else if run then 1 else 0
  let d1 := if run && ! on then d.loopInit 5 else if ! run && on then d.loopOff 5 else d
  d1.set Reg.HL_STAT_STATE st

/-- Abandon a running capacitance measurement (R761). -/
def Dev.measAbandon (d : Dev) : Dev :=
  if d.get Reg.HL_STAT_STATE = 2 then
    let d := { d with hold := { d.hold with result := 4 } }
    (((d.set Reg.HL_STAT_STATE 0).set Reg.HL_STAT_BLD_ON 0).boundary 0x11).holdUpdate
  else d

/-- Sheets that are QUEUED. -/
def Dev.queuedSheets (d : Dev) : Nat := (d.sheets.filter (fun s => s.placed && s.state == .queued)).length

/-- What follows when placing a response has made a sheet QUEUED (R180): a running capacitance measurement is abandoned (R761), and the
engine takes note (Table 1-1). `before` is the block before. -/
def Dev.noticeQueued (d before : Dev) : Dev := if before.queuedSheets < d.queuedSheets then d.measAbandon.queueChanged else d

/-! ### The sequencer -/

/-- The vector's start step. -/
def Dev.pseqVec (d : Dev) (v : Nat) : Nat :=
  bitsOf (d.reg (if v < 4 then Reg.PSEQ_VEC0 else Reg.PSEQ_VEC1)) (8 * (v % 4)) 6

/-- No program runs: the boundary of the pages PWR and PSEQ (R244). -/
def Dev.pseqIdle (d : Dev) : Dev := (d.boundary 0x0E).boundary 0x0F

/-- Start the program of a vector; a commit of shadows comes first (R721). -/
def Dev.pseqStart (d : Dev) (v : Nat) : Dev :=
  let d1 := d.pseqIdle
  let d2 := { d1 with pw := { d1.pw with phase := 1, past := false } }
  ((d2.set Reg.PSEQ_STAT_RUNNING 1).set Reg.PSEQ_STAT_VEC v).set Reg.PSEQ_STAT_STEP (d2.pseqVec v)

/-- The record of a program that has ended (R709, R711). -/
def Dev.pseqRecord (d : Dev) (result code : Nat) : Dev :=
  let v := d.get Reg.PSEQ_STAT_VEC
  let s := d.get Reg.PSEQ_STAT_STEP
  let d1 := { d with pw := { d.pw with phase := 0, past := false } }
  let d2 := ((((d1.set Reg.PSEQ_STAT_RUNNING 0).set Reg.PSEQ_LAST_STEP s).set Reg.PSEQ_LAST_VEC v).set Reg.PSEQ_LAST_CODE code).set
    Reg.PSEQ_LAST_RESULT result
  if result = 1 then d2.fire 0x0F 0 0
  else (d2.raise 0x0F 0xF St.seqFail 0 (s + v * 256 + code * 65536 + result * 16777216)).fireRaw 0x0F 1

/-- What follows an aborted program beside what has aborted it (Table 16-4, R724): FW_ACK clears with STANDBY_ENTER; a STANDBY_EXIT leads
to STANDBY. -/
def Dev.abortAfter (d : Dev) (v : Nat) : Dev :=
  if v = 2 then d.set Reg.PSEQ_CTL_FW_ACK 0
  else if v = 3 ∧ [DevSt.boot, DevSt.nominal, DevSt.baseline].contains d.devState then d.setDev DevSt.standby
  else d

/-- Abort the running program, if any (R719). -/
def Dev.pseqAbort (d : Dev) : Dev := if d.pw.phase = 0 then d else (d.pseqRecord 3 0).abortAfter (d.get Reg.PSEQ_STAT_VEC)

/-- Every pending entry request is cleared (R718). -/
def Dev.pseqClear (d : Dev) : Dev := d.set Reg.PSEQ_REQ_REQ 0

/-- Commands without a placed response get none when the device enters SAFE_STOP, TRIPPED or OFF (R159). -/
def Dev.cutCommands (d : Dev) : Dev := { d with tenants := d.tenants.map (fun t => { t with deferred := [], respWait := [] }) }

/-- Waiting work of the sheets and receipts ends with the device; nothing of it is reported (spec/16, "Class A"; spec/21). -/
def Dev.dropWork (d : Dev) : Dev :=
  { d.cutCommands with sheets := [], rcpt := none, rcptBad := [], galReqs := [], codec := ⟨[], [], [], false⟩ }

/-- The device enters OFF (R718): HLD_DG falls (R755), VM_RB_G too. -/
def Dev.enterOff (d : Dev) : Dev :=
  ((((d.pseqAbort.pseqClear.set Reg.PF_STAT_PFW 0).set Reg.HL_STAT_DG_ON 0).set Reg.PF_STAT_RB_ON 0).dropWork).setDev DevSt.off

/-- The hardware shutdown (R697): the channels go off with discharge, PCH5 to PCH15 first; it needs neither firmware nor
program. It is one step here: what stands between its first and last switch-off is 0.8 ms of no other event. -/
def Dev.shutdown (d : Dev) : Dev :=
  (d.pseqAbort.outputsOff.chOffMask 0xFFE0 true).chOffMask 0x000F true

/-- The device enters TRIPPED. -/
def Dev.enterTripped (d : Dev) : Dev := ((d.pseqClear.set Reg.HL_STAT_DG_ON 0).dropWork).setDev DevSt.tripped

/-- The registers of the VAON domain and of the power inputs, which a device reset keeps: TRIP_REC and TRIP_TIME (R734), LK_REC,
LK_REC_TIME and LK_REC_SHEETS (R907), stepper positions (R531), the input conditions, and the sequencer's count of failed
POWER_UPs (Table 16-4; log entry 10). -/
def keptRegs : List Nat :=
  [Reg.TRIP_REC, Reg.TRIP_TIME, Reg.LK_REC, Reg.LK_REC_TIME, Reg.LK_REC_SHEETS, Reg.PWR_IN] ++
  (List.range 4).flatMap (fun i => [Reg.ST_POS i, Reg.ST_INDEX i])

/-- A device reset (R727): everything outside the VAON domain takes its reset value. The memories, the OTP array, the forms in NOR,
the levels on the balls and the always-on counter stay. -/
def Dev.resetDevice (d : Dev) : Dev :=
  let z := Dev.reset
  let k := { z with
    now := d.now, resetAt := d.now, free := d.free, forms := d.forms, balls := d.balls,
    otp := { Otp.reset with array := d.otp.array } }
  let k1 := keptRegs.foldl (fun k a => k.setReg a (d.reg a)) k
  let k2 := (k1.set Reg.PSEQ_CTL_PU_FAILS (d.get Reg.PSEQ_CTL_PU_FAILS)).set Reg.PSEQ_CTL_PU_HALT (d.get Reg.PSEQ_CTL_PU_HALT)
  let k3 := (((k2.set Reg.PF_STAT_VIN_OK (d.get Reg.PF_STAT_VIN_OK)).set Reg.PF_STAT_VM_OK (d.get Reg.PF_STAT_VM_OK)).set
    Reg.PF_STAT_INPUT_OV (d.get Reg.PF_STAT_INPUT_OV)).rbUpdate
  let k4 := (List.range 4).foldl (fun k i => k.set (Reg.ST_STAT_POS_STATE i) (d.get (Reg.ST_STAT_POS_STATE i))) k3
  k4.set (Reg.PG_STAT_STATE 0) d.devState

end Sys2Proof.Machine
end

