-- ==== Sys2Proof/Machine/Lockstep.lean ====
section
/-! DEFINITION. The interlock block: lockstep faults, injection tests, the watchdog and the safe states
(spec/21_lockstep_safety.md). -/

set_option linter.unusedVariables false

namespace Sys2Proof.Machine

/-- LK_REC after a cause (R890, R907): the first cause since VALID was clear stands. The endings of SAFE_FINISH (10 to 12) are
neither counted nor a first cause. -/
def Dev.lkRecord (d : Dev) (cause lane : Nat) : Dev :=
  if 10 ≤ cause then d
  else
    let d1 := d.addSat Reg.LK_REC_COUNT 1
    if d1.flag Reg.LK_REC_VALID then d1
    else (((d1.set Reg.LK_REC_CAUSE cause).set Reg.LK_REC_LANE lane).set Reg.LK_REC_VALID 1).setReg Reg.LK_REC_TIME d.now

/-- The slots whose LK_COMMIT bit is set. -/
def Dev.commitCount (d : Dev) : Nat := ((List.range 4).filter (fun s => bit (d.get Reg.LK_COMMIT_SLOT) s)).length

/-- Work of the firmware that a device-wide stop cuts off (R925, R926): a push, and form stores that have not been answered. -/
def Dev.cutFirmware (d : Dev) : Dev :=
  { d with
    boot := { d.boot with push := none, pushed := none }, tenants := d.tenants.map (fun t => { t with formParts := [] }),
    codec := { d.codec with q2 := d.codec.q2.filter (fun b => ! b.form) } }

/-- Enter SAFE_STOP (R892 to R894, R900, R903, R904). -/
def Dev.enterSafeStop (d : Dev) (cause : Nat) : Dev :=
  let was := d.lockMode
  let cut := d.commitCount
  let d1 := if was = 1 then
      (d.set Reg.LK_REC_SHEETS_CUT_OFF cut).set Reg.LK_REC_SHEETS_FINISH_MS (min ((d.now - d.lock.enteredAt) / 1000) 65535)
    else d.setReg Reg.LK_REC_SHEETS 0
  let d2 := (((d1.set Reg.LK_REC_STOP_CAUSE cause).set Reg.LK_STAT_MODE 2).set Reg.LK_STAT_GRACE 0).set Reg.LK_STAT_SNAP 0
  let d3 := ((d2.outputsOff.measAbandon.cutFirmware.cutCommands).applyForcing.chOffMask 0xF000 true)
  let d4 := (List.range 65).foldl (fun d p => if p = 0x17 then d else d.fwHold p) d3
  let d5 := (d4.raise 0x17 0xF St.safeStop 5 (cause + d4.get Reg.LK_REC_LANE * 256 + min cut 15 * 65536)).fireRaw 0x17 1
  ((d5.faultOn 0x17 1 St.safeStop 5 cause).setLas LasSt.safe).setDev DevSt.safeStop

/-- Enter SAFE_FINISH (R891, R895 to R899). -/
def Dev.enterSafeFinish (d : Dev) (cause lane : Nat) : Dev :=
  let bits := d.get Reg.LK_COMMIT_SLOT
  let snap := (List.range 4).filterMap (fun s => if bit bits s then d.slotToken s else none)
  let n := d.commitCount
  let d1 := { d with lock := { d.lock with
    enteredAt := d.now, finishMs := clampN 5 100 (d.get Reg.LK_CFG_FINISH_MAX) * 100, snap := snap } }
  let d2 := ((d1.set Reg.LK_STAT_MODE 1).set Reg.LK_STAT_SNAP bits).setReg Reg.LK_REC_SHEETS n
  let d3 := ((((d2.motionHold snap).lineHalt.endReceipt St.spoiled).measAbandon.set Reg.HL_STAT_BLD_ON 0).cutFirmware).applyForcing
  let d4 := finishPages.foldl Dev.fwHold d3
  let d5 := (d4.raise 0x17 0xF St.safeFinish 4 (cause + lane * 256 + min n 15 * 65536)).fireRaw 0x17 0
  (d5.faultOn 0x17 2 St.safeFinish 4 cause).setDev DevSt.safeFinish

/-- A cause of Table 21-2 (R890): nothing outside BOOT, NOMINAL, BASELINE, STANDBY and the safe states. -/
def Dev.safeCause (d : Dev) (cause lane : Nat) : Dev :=
  if [DevSt.off, DevSt.powerUp, DevSt.tripped].contains d.devState then d
  else
    let d1 := d.lkRecord cause lane
    let finish := 7 ≤ cause && cause ≤ 9
    if d.lockMode = 2 then d1
    else if finish then (if d.lockMode = 0 then d1.enterSafeFinish cause lane else d1)
    else if 10 ≤ cause && d.lockMode != 1 then d1
    else d1.enterSafeStop cause

/-! ### Commands -/

/-- The block runs injection tests: not before step 4 of the boot, not in SAFE_STOP (R883, R886). -/
def Dev.testsRun (d : Dev) : Bool :=
  ! [DevSt.off, DevSt.powerUp, DevSt.tripped, DevSt.safeStop].contains d.devState &&
  ! (d.devState == DevSt.boot && d.get Reg.BT_STAT_STEP < 4)

/-- INJECTION_TEST (R883 to R886): test n flips a lane (n even) or a parity bit (n odd). The flags raised in its span decide: the
tested one only is a pass; another is a mismatch or DELAY_PARITY of that other; none is INJ_MISS. -/
def execInjectionTest (o : InjOut) : State → Out := onDev (fun d =>
  when d.testsRun (fun d =>
    let n := d.reg Reg.LK_INJ
    let d1 := { d.setReg Reg.LK_INJ (n + 1) with lock := { d.lock with force := if d.lock.force = 2 then 0 else d.lock.force } }
    let lane := if n % 2 = 0 then (n / 2) % 192 else ((n - 1) / 2) % 40
    let miss := fun (d : Dev) => (if d.lockMode = 0 then d.fire 0x17 2 0 else d).safeCause (if n % 2 = 0 then 7 else 8) lane
    if d.lock.force = 2 then miss d1
    else match o with
    | .pass => d1.setReg Reg.LK_INJ_TIME d.now
    | .miss => miss d1
    | .other parity l => d1.safeCause (if parity then 2 else 1) l) d)

/-- LOCKSTEP_MISMATCH (R882): a mismatch on a lane, or a parity error in a group of a delay register. -/
def execLockstepMismatch (parity : Bool) (lane : Nat) : State → Out := onDev (fun d =>
  when d.testsRun (·.safeCause (if parity then 2 else 1) lane) d)

/-- WATCHDOG_EXPIRY (R888, R889): 10 ms without a kick; no effect before step 4 of the boot and in SAFE_FINISH. -/
def execWatchdogExpiry : State → Out := onDev (fun d =>
  when (d.flag Reg.LK_STAT_WD_ARMED && d.lockMode == 0 && d.past d.lock.kickAt 10000) (·.safeCause 3 0) d)

/-- LK_KICK (R888): a firmware write of 0xC3; any other value counts as no write. -/
def execLkKick (l : Land) : State → Out := onDev (fun d =>
  d.land l (fun a _ => a == Reg.LK_KICK) (fun _ _ v d =>
    if v.toNat = 0xC3 then { d with lock := { d.lock with kickAt := d.now } } else d))

/-- LK_COMMIT (R895, R896): the firmware records a slot; from SAFE_FINISH on every write is refused. -/
def execLkCommit (l : Land) : State → Out := onDev (fun d =>
  d.land l (fun a _ => a == Reg.LK_COMMIT) (fun _ a v d => if d.lockMode = 0 then d.store a v.toNat else d))

/-- FINISH_GRACE (R900, R901): every LK_COMMIT bit is clear: the process outputs go off and the laser engine enters SAFE. -/
def execFinishGrace : State → Out := onDev (fun d =>
  when (d.lockMode == 1 && ! d.flag Reg.LK_STAT_GRACE && d.get Reg.LK_COMMIT_SLOT == 0)
    (fun d => (d.processOff.set Reg.LK_STAT_GRACE 1).setLas LasSt.safe) d)

/-- FINISH_DONE (R900): the grace has ended. -/
def execFinishDone : State → Out := onDev (fun d =>
  when (d.lockMode == 1 && d.flag Reg.LK_STAT_GRACE) (·.safeCause 10 0) d)

/-- FINISH_TIMEOUT (R900): FINISH_MAX has passed since entry. -/
def execFinishTimeout : State → Out := onDev (fun d => when (d.lockMode == 1 && d.past d.lock.enteredAt (d.lock.finishMs * 1000)) (·.safeCause 11 0) d)

/-- LK_FULLRST (R905, R906): tenant T0 writes the key, and the hardware shutdown leads to OFF. -/
def execLkFullrst (l : Land) : State → Out := onDev (fun d =>
  d.land l (fun a _ => a == Reg.LK_FULLRST) (fun ag _ v d =>
    if ag = .tenant 0 ∧ v.toNat % 65536 = 0x5AFE then d.shutdown.enterOff else d))

/-- LK_FORCE (R909): with debug unlocked, a T0 write with the key performs ACTION once. -/
def execLkForce (l : Land) : State → Out := onDev (fun d =>
  d.land l (fun a _ => a == Reg.LK_FORCE) (fun ag _ v d =>
    if ag = .tenant 0 ∧ v.toNat % 65536 = 0x7E57 ∧ ! d.flag Reg.OTP_STAT_DBG_LOCKED then
      match bitsOf v.toNat 16 2 with
      | 1 => d.safeCause 1 0
      | 2 => { d with lock := { d.lock with force := 2 } }
      | 3 => d.safeCause 2 0
      | _ => d
    else d))

end Sys2Proof.Machine
end

