-- ==== Sys2Proof/Machine/Journal.lean ====
section
/-! DEFINITION. Life counters and the journal in NOR (spec/23_background.md, R945 to R958). -/

set_option linter.unusedVariables false

namespace Sys2Proof.Machine

/-! ### Life counters -/

/-- A LIFE record is due (R956). -/
def Dev.lifeDue (d : Dev) : Bool :=
  (List.range 24).any (fun i =>
    d.life.bound.getD i 0 ≤ d.life.value.getD i 0 + d.life.pend.getD i 0 + lifeChunks.getD i 1 / 2)

/-- The body of a LIFE record: the new bounds. -/
def Dev.lifeBody (d : Dev) : List Byte :=
  (List.range 24).flatMap (fun i => leBytes 8 (d.life.value.getD i 0 + d.life.pend.getD i 0 + lifeChunks.getD i 1))

/-- A committed LIFE record raises the bounds, and waiting increments are added (R955). -/
def Dev.lifeCommit (d : Dev) (body : List Byte) : Dev :=
  let bs := (List.range 24).map (fun i => leAt body (8 * i) 8)
  let l := d.life
  let add := (List.range 24).map (fun i => min (l.pend.getD i 0) (bs.getD i 0 - l.value.getD i 0))
  ({ d with life := { l with
      value := (List.range 24).map (fun i => l.value.getD i 0 + add.getD i 0),
      pend := (List.range 24).map (fun i => l.pend.getD i 0 - add.getD i 0), bound := bs } }).set Reg.JR_CFG_FLUSH 0

/-! ### Segments and records -/

/-- The address of segment `i` of the partition. -/
def Dev.segAddr (d : Dev) (i : Nat) : Nat := 0x70000000 + (d.get Reg.NOR_JOURNAL_BASE + i) * 65536

/-- Number of segments of the partition. -/
def Dev.segCount (d : Dev) : Nat := d.get Reg.NOR_JOURNAL_SIZE

/-- ERASED: every byte reads 0xFF. -/
def Dev.segErased (d : Dev) (m : Mem) (i : Nat) : Bool :=
  ! m.nor.any (fun c => d.segAddr i ≤ c.1 && c.1 < d.segAddr i + 65536)

/-- The header of a segment, when it is valid: ERASES and SEG_SEQ (Table 23-3). -/
def Dev.segHdr (d : Dev) (m : Mem) (i : Nat) : Option (Nat × Nat) :=
  let h := m.readBytes (d.segAddr i) 16
  if leAt h 0 4 = 0x534A5245 ∧ leAt h 12 4 = crc32c (h.take 12) then some (leAt h 4 4, leAt h 8 4) else none

/-- The OPEN segments with their SEG_SEQ. -/
def Dev.openSegs (d : Dev) (m : Mem) : List (Nat × Nat) :=
  (List.range d.segCount).filterMap (fun i => (d.segHdr m i).map (fun h => (i, h.2)))

/-- The entry with the greatest (or least) second part. -/
def pickBy (less : Nat → Nat → Bool) : List (Nat × Nat) → Option (Nat × Nat)
  | [] => none
  | x :: xs => match pickBy less xs with
    | some y => if less y.2 x.2 then some y else some x
    | none => some x

/-- The OPEN segment at the head: the highest SEG_SEQ. -/
def Dev.headSeg (d : Dev) (m : Mem) : Option (Nat × Nat) := pickBy (fun a b => b < a) (d.openSegs m)

/-- The OPEN segment with the lowest SEG_SEQ. -/
def Dev.tailSeg (d : Dev) (m : Mem) : Option (Nat × Nat) := pickBy (fun a b => a < b) (d.openSegs m)

/-- A journal record as read (Table 23-4): its address, TYPE, SEQ, body, whether ACK reads 0xFF, whether it counts (R946), and
whether COMMIT reads 0xFF. -/
structure JRec where
  addr : Nat
  typ : Nat
  seq : Nat
  body : List Byte
  unacked : Bool
  ok : Bool
  torn : Bool
deriving DecidableEq, Repr

/-- Bytes a record takes: its header and its padded body. -/
def recSpan (n : Nat) : Nat := 16 + (n + 15) / 16 * 16

/-- The records of a segment, from offset `o`, over at most 4094 slots. -/
def segRecs (m : Mem) (base : Nat) : Nat → Nat → List JRec
  | 0, _ => []
  | f + 1, o =>
    if 65536 < o + 16 then []
    else
      let a := base + o
      if m.byte a = 0x4A then
        let h := m.readBytes a 16
        let n := leAt h 2 2
        if 1024 < n ∨ 65536 < o + recSpan n then segRecs m base f (o + 16)
        else
          let body := m.readBytes (a + 16) n
          let commit := byteAt h 15
          ⟨a, byteAt h 1, leAt h 4 4, body, byteAt h 12 == 0xFF,
            commit == 0 && leAt h 8 4 == crc32c (h.take 8 ++ body), commit == 0xFF⟩ :: segRecs m base f (o + recSpan n)
      else segRecs m base f (o + 16)

/-- The records of every OPEN segment. -/
def Dev.journalRecs (d : Dev) (m : Mem) : List JRec := (d.openSegs m).flatMap (fun s => segRecs m (d.segAddr s.1) 4094 32)

/-- The newest committed record of a TYPE. -/
def newestRec (t : Nat) (rs : List JRec) : Option JRec :=
  rs.foldl (fun b r => if r.ok && r.typ == t && ! b.any (fun x => r.seq ≤ x.seq) then some r else b) none

/-- The first 16-byte slot after the last one of a segment that is not all 0xFF (R951). -/
def Dev.headOffset (d : Dev) (m : Mem) (i : Nat) : Nat :=
  let a := d.segAddr i
  m.nor.foldl (fun o c => if a + 32 ≤ c.1 ∧ c.1 < a + 65536 then max o ((c.1 - a) / 16 * 16 + 16) else o) 32

/-- JOURNAL_FAULT (R954). -/
def Dev.journalFault (d : Dev) (cause seg : Nat) : Dev := (d.raise 0x3F 0xF St.journalFault 0 (cause + seg * 65536)).fireRaw 0x3F 1

/-- The counts of JR_STAT and JR_WEAR. -/
def Dev.journalCounts (d : Dev) (m : Mem) : Dev :=
  let segs := (List.range d.segCount).filter (fun i => ! d.journal.retired.contains i)
  let er := segs.filter (d.segErased m)
  let ws := segs.map (fun i => match d.segHdr m i with
    | some h => h.1
    | none => ((d.journal.erases.find? (fun e => e.1 == i)).map (·.2)).getD 0)
  let lo := ws.foldl (fun a x => match a with
    | some y => some (min x y)
    | none => some x) (none : Option Nat)
  (((d.set Reg.JR_STAT_ERASED er.length).set Reg.JR_STAT_SEGS segs.length).set Reg.JR_WEAR_MIN (min (lo.getD 0) 65535)).set
    Reg.JR_WEAR_MAX (min (ws.foldl max 0) 65535)

/-- WEAR_MAX × 1000 in force. -/
def Dev.wearMax (d : Dev) : Nat := atLeast1 (d.get Reg.JR_CFG_WEAR_MAX) * 1000

/-- Open a new segment (R948): the ERASED one with the lowest ERASES, the lowest index on a tie. -/
def Dev.openSeg (d : Dev) (m : Mem) : Option (Dev × Mem) :=
  let er := (List.range d.segCount).filter (fun i => ! d.journal.retired.contains i && d.segErased m i)
  let known := fun i => ((d.journal.erases.find? (fun e => e.1 == i)).map (·.2)).getD 0
  match pickBy (fun a b => a < b) (er.map (fun i => (i, known i))) with
  | none => none
  | some (i, w) =>
    let top := (d.headSeg m).map (·.2)
    let h := leBytes 4 0x534A5245 ++ leBytes 4 w ++ leBytes 4 (match top with
      | some t => t + 1
      | none => 0)
    some ({ d.set Reg.JR_HEAD_OFFSET (i * 65536 + 32) with journal := { d.journal with fails := 0 } },
      m.program (d.segAddr i) (h ++ leBytes 4 (crc32c h)))

/-- Erase a segment (R949, Table 23-8): its erase count rises, and a worn one is retired; `fail` leaves it retired with
ERASE_FAIL. -/
def Dev.eraseSeg (d : Dev) (m : Mem) (i : Nat) (fail : Bool) : Dev × Mem :=
  let w := (match d.segHdr m i with
    | some h => h.1
    | none => ((d.journal.erases.find? (fun e => e.1 == i)).map (·.2)).getD 0) + 1
  let d1 := (d.lifeAdd 22 1)
  let d2 := { d1 with journal := { d1.journal with erases := d1.journal.erases.filter (fun e => e.1 != i) ++ [(i, w)] } }
  if fail then ({ (d2.journalFault 4 i) with journal := { d2.journal with retired := d2.journal.retired ++ [i] } }, m)
  else
    let m1 := m.erase (d.segAddr i) 65536
    if d2.wearMax ≤ w then ({ (d2.journalFault 5 i) with journal := { d2.journal with retired := d2.journal.retired ++ [i] } }, m1)
    else (d2, m1)

/-- The bytes of a record with COMMIT still 0xFF (Table 23-4). -/
def recBytes (typ seq : Nat) (body : List Byte) : List Byte :=
  let h := leBytes 1 0x4A ++ leBytes 1 typ ++ leBytes 2 body.length ++ leBytes 4 seq
  h ++ leBytes 4 (crc32c (h ++ body)) ++ [0xFF, 0xFF, 0xFF, 0xFF] ++ body ++ List.replicate ((16 - body.length % 16) % 16) 0xFF

/-- Write a record at the head (R945, R946): into the OPEN segment, or a new one when it does not fit. With `fail` the read-back
differs: COMMIT stays 0xFF, and after the third failure in a segment a new one is opened at the next write. Answers whether
the record was committed. -/
def Dev.writeRec (d : Dev) (m : Mem) (typ : Nat) (body : List Byte) (fail : Bool) : Dev × Mem × Bool :=
  let off := d.get Reg.JR_HEAD_OFFSET
  let room := (d.headSeg m).isSome && off % 65536 != 0 && off % 65536 + recSpan body.length ≤ 65536 && d.journal.fails < 3
  match (if room then some (d, m) else d.openSeg m) with
  | none => (d, m, false)
  | some (d1, m1) =>
    let o := d1.get Reg.JR_HEAD_OFFSET
    let a := 0x70000000 + d1.get Reg.NOR_JOURNAL_BASE * 65536 + o
    let seq := (d1.reg Reg.JR_SEQ + 1) % 2 ^ 32
    let m2 := m1.program a (recBytes typ seq body)
    let d2 := d1.set Reg.JR_HEAD_OFFSET (o + recSpan body.length)
    if fail then
      ({ ((d2.addSat Reg.JR_CNT_PROG_FAIL 1).journalFault 3 (o / 65536)) with
          journal := { d2.journal with fails := d2.journal.fails + 1 } }, m2, false)
    else
      let d3 := ((d2.setReg Reg.JR_SEQ seq).addSat Reg.JR_CNT_RECORDS 1).fire 0x3F 0 0
      ((if typ = 1 then d3.lifeCommit body else d3).journalCounts (m2.program (a + 15) [0]), m2.program (a + 15) [0], true)

/-- Queue a record for task 6. -/
def Dev.queueRec (d : Dev) (typ : Nat) (body : List Byte) : Dev :=
  if d.mounted then { d with journal := { d.journal with queue := d.journal.queue ++ [(typ, body)] } } else d

/-- The live records of a segment (R950): the newest committed of their TYPE, and unreported power-fail records. -/
def Dev.liveRecs (d : Dev) (m : Mem) (i : Nat) : List JRec :=
  let all := d.journalRecs m
  (segRecs m (d.segAddr i) 4094 32).filter (fun r => r.ok &&
    ((r.typ == 5 && r.unacked) || (newestRec r.typ all).any (fun n => n.addr == r.addr)))

end Sys2Proof.Machine
end

