-- ==== Sys2Proof/Machine/Power.lean ====
section
/-! DEFINITION. Supply, rails and the sequencer (spec/16_power.md): the inputs, the rail channels, the sequence program's
steps, the entries and their ends, class A and class B conditions, and the power-fail warning. -/

set_option linter.unusedVariables false

namespace Sys2Proof.Machine

/-! ### Entering BOOT -/

/-- Enter BOOT (R816 to R824, Table 19-9 steps 1 and 2): the OTP array is sensed and its regions are checked; a failure of
VENDOR or DEVICE leads to SAFE_STOP; else key slot 0 takes the root key and the entropy source starts. -/
def Dev.bootEnter (d : Dev) (errs : List (Nat × Bool)) : Dev :=
  let d1 := ({ d with boot := { Boot.reset with enteredAt := d.now } }.setDev DevSt.boot).set Reg.BT_STAT_STEP 1
  let d2 := d1.otpSense errs
  let ps := d2.get Reg.OTP_STAT_PASSED
  let d3 := (((d2.setReg Reg.SYS_UID0 (d2.otpWord 256)).setReg Reg.SYS_UID1 (d2.otpWord 257)).setReg Reg.SYS_GRADE
    (d2.otpWord 259 &&& 0xFFFFFF03)).setReg Reg.BT_FEATURE (d2.otpWord 258 % 64)
  let d4 := ([0, 1, 2].filter (fun r => ! bit ps r)).foldl (fun d r =>
    ((d.raise 0x12 0xF St.otpCorrupt (if r = 2 then 0 else 5) r).fireRaw 0x12 1).faultOn 0x12 (1 + r) St.otpCorrupt
      (if r = 2 then 0 else 5) r) d3
  if ! bit ps 0 || ! bit ps 1 then d4.safeCause 5 0
  else ((d4.modKey 0 (fun k => { k with typ := 3, key := d4.otpBytes 260 268 })).set Reg.BT_STAT_STEP 2).bootFields.trngStart false

/-! ### Conditions and the ends of programs -/

/-- Condition `c` of Table 16-3. -/
def Dev.pseqCond (d : Dev) (c : Nat) : Bool :=
  if c < 16 then d.get (Reg.CH_STAT_PG c) == 1
  else if c < 32 then d.get (Reg.CH_STAT_DOWN (c - 16)) == 1
  else match c with
  | 32 => d.flag Reg.PF_STAT_VIN_OK
  | 33 => d.flag Reg.PF_STAT_VM_OK
  | 34 => d.flag Reg.PF_STAT_PFW
  | 35 => d.pw.wakePend
  | 36 => d.flag Reg.PSEQ_CTL_FW_ACK
  | 37 => d.headStopped
  | 38 => ! d.sheets.any (fun s => s.state.committedOn)
  | _ => c == 39

/-- Enter NOMINAL or BASELINE, as boot decided (Table 16-6). -/
def Dev.enterRun (d : Dev) : Dev := (d.setDev (if d.boot.baseline then DevSt.baseline else DevSt.nominal)).queueChanged

/-- What follows the end of a vector's program (Table 16-4). `errs`: the errors the OTP array shows when BOOT senses it. -/
def Dev.pseqAfter (d : Dev) (v result : Nat) (errs : List (Nat × Bool)) : Dev :=
  let ok := result = 1
  match v with
  | 0 =>
    if ok then (d.set Reg.PSEQ_CTL_PU_FAILS 0).bootEnter errs
    else
      let n := min 3 (d.get Reg.PSEQ_CTL_PU_FAILS + 1)
      ((d.set Reg.PSEQ_CTL_PU_FAILS n).setb Reg.PSEQ_CTL_PU_HALT (n == 3)).shutdown.enterOff
  | 1 => if ok then d.outputsOff.enterOff else d.shutdown.enterOff
  | 2 =>
    let d1 := d.set Reg.PSEQ_CTL_FW_ACK 0
    if ok then (d1.set Reg.PWR_CMD_STBY 0).setDev DevSt.standby else d1
  | 3 =>
    let runs := [DevSt.boot, DevSt.standby, DevSt.nominal, DevSt.baseline].contains d.devState
    if ! runs then d else if ok then d.enterRun else d.setDev DevSt.standby
  | 4 => d.pseqStart 1
  | 5 => if ok then d.enterTripped else d.shutdown.enterTripped
  | 6 => d
  | _ => if d.laserState = LasSt.cooling then d.setLas LasSt.cold else d

/-- A program ends with a result and a CODE (R709, R711, R712). -/
def Dev.pseqEnd (d : Dev) (result code : Nat) (errs : List (Nat × Bool)) : Dev :=
  let v := d.get Reg.PSEQ_STAT_VEC
  let d1 := (d.pseqRecord result code).pseqAfter v result errs
  if d1.pw.phase = 0 then d1.pseqIdle else d1

/-! ### Steps (Table 16-2) -/

/-- The word of the current step. -/
def Dev.pseqWord (d : Dev) : Nat := d.reg (Reg.PSEQ_STEP (d.get Reg.PSEQ_STAT_STEP))

/-- Whether a step word is legal (R705). -/
def stepLegal (w : Nat) : Bool :=
  let op := w / 2 ^ 28
  let cond := w % 64 < 40
  match op with
  | 0 => w == 0
  | 1 => bitsOf w 16 12 == 0
  | 2 => bitsOf w 17 11 == 0
  | 3 => bitsOf w 22 6 == 0 && bitsOf w 20 2 != 3
  | 4 => cond && bitsOf w 26 2 == 0 && ! bit w 7
  | 5 => cond && bitsOf w 16 12 == 0 && ! bit w 7
  | 6 => bitsOf w 26 2 == 0 && bitsOf w 0 20 == 0
  | 7 => cond && bitsOf w 26 2 == 0 && bitsOf w 7 13 == 0
  | 8 => bitsOf w 19 9 == 0
  | _ => false

/-- Run the current step when it is legal and its OP is `op`. -/
def Dev.pseqRun (d : Dev) (op : Nat) (f : Nat → Dev → Dev) : Dev :=
  let w := d.pseqWord
  if d.pw.phase == 1 && ! d.pw.past && stepLegal w && w / 2 ^ 28 == op then f w d else d

/-- Go on with the next step; after step 63 an illegal one follows (R705). -/
def Dev.pseqNext (d : Dev) : Dev :=
  let s := d.get Reg.PSEQ_STAT_STEP
  if s = 63 then { d with pw := { d.pw with phase := 1, past := true } }
  else { (d.set Reg.PSEQ_STAT_STEP (s + 1)) with pw := { d.pw with phase := 1 } }

/-- Go to a step. -/
def Dev.pseqGoto (d : Dev) (s : Nat) : Dev := { (d.set Reg.PSEQ_STAT_STEP s) with pw := { d.pw with phase := 1 } }

/-- The value of a step's condition, INV applied. -/
def Dev.stepCond (d : Dev) (w : Nat) : Bool := d.pseqCond (w % 64) != bit w 6

/-- END (R709): the program ends OK. `errs` is used when the end enters BOOT (R816). -/
def execPEnd (errs : List (Nat × Bool)) : State → Out := onDev (fun d => d.pseqRun 0 (fun _ d => d.pseqEnd 1 0 errs))

/-- ENA (R698). -/
def execPEna : State → Out := onDev (fun d => d.pseqRun 1 (fun w d =>
  ((List.range 16).foldl (fun d n => if bit w n then d.chEna n else d) d).holdUpdate.pseqNext))

/-- DIS (R700). -/
def execPDis : State → Out := onDev (fun d => d.pseqRun 2 (fun w d => (d.chOffMask (w % 65536) (bit w 16)).holdUpdate.pseqNext))

/-- WAIT (R707): COUNT 0 lasts one cycle. -/
def execPWait : State → Out := onDev (fun d => d.pseqRun 3 (fun w d =>
  if w % 2 ^ 20 = 0 then d.pseqNext else { d with pw := { d.pw with phase := 2 } }))

/-- WAIT_END (R707). -/
def execPWaitEnd : State → Out := onDev (fun d => when (d.pw.phase == 2) Dev.pseqNext d)

/-- WAITC (R708): it ends in its own cycle when its condition is true. -/
def execPWaitc : State → Out := onDev (fun d => d.pseqRun 4 (fun w d =>
  if d.stepCond w then d.pseqNext else { d with pw := { d.pw with phase := 3 } }))

/-- WAITC_END (R708): the condition has become true. -/
def execPWaitcEnd : State → Out := onDev (fun d => when (d.pw.phase == 3 && d.stepCond d.pseqWord) Dev.pseqNext d)

/-- WAITC_TIMEOUT (R708): TMO has passed first, and the step FAIL runs. -/
def execPWaitcTimeout : State → Out := onDev (fun d =>
  when (d.pw.phase == 3 && ! d.stepCond d.pseqWord) (fun d => d.pseqGoto (bitsOf d.pseqWord 20 6)) d)

/-- CHECK (R709): a false condition ends the program FAIL with its CODE. -/
def execPCheck : State → Out := onDev (fun d => d.pseqRun 5 (fun w d =>
  if d.stepCond w then d.pseqNext else d.pseqEnd 2 (bitsOf w 8 8) []))

/-- JMP (R706). -/
def execPJmp : State → Out := onDev (fun d => d.pseqRun 6 (fun w d => d.pseqGoto (bitsOf w 20 6)))

/-- JMPC (R706). -/
def execPJmpc : State → Out := onDev (fun d => d.pseqRun 7 (fun w d =>
  if d.stepCond w then d.pseqGoto (bitsOf w 20 6) else d.pseqNext))

/-- EVENT (R710). -/
def execPEvent : State → Out := onDev (fun d => d.pseqRun 8 (fun w d =>
  (d.raise 0x0F 0xF 0 (min 2 (bitsOf w 16 3)) (w % 65536 + d.get Reg.PSEQ_STAT_STEP * 65536)).pseqNext))

/-- ILLEGAL_STEP (R705): an illegal word, a parity failure, or the step after step 63 ends the program FAIL with CODE 0xFF. -/
def execIllegalStep (parity : Bool) : State → Out := onDev (fun d =>
  when (d.pw.phase == 1 && (parity || d.pw.past || ! stepLegal d.pseqWord)) (fun d => d.pseqEnd 2 0xFF []) d)

/-- PSEQ_ENTRY_START (R716): with no program running, the first pending vector starts. -/
def execPseqEntryStart : State → Out := onDev (fun d =>
  when (d.pw.phase == 0) (fun d =>
    match [1, 2, 3, 7, 6].find? (fun v => bit (d.get Reg.PSEQ_REQ_REQ) v) with
    | none => d
    | some v =>
      let d1 := d.set Reg.PSEQ_REQ_REQ (d.get Reg.PSEQ_REQ_REQ &&& (255 ^^^ 2 ^ v))
      let d2 := if v = 3 then { (d1.set Reg.PWR_CMD_WAKE 0) with pw := { d1.pw with wakePend := false } } else d1
      d2.pseqStart v) d)

/-- PROGRAM_TIMEOUT (R720): POWER_DOWN or TRIP has not ended after 20 ms. -/
def execProgramTimeout : State → Out := onDev (fun d =>
  let v := d.get Reg.PSEQ_STAT_VEC
  when (d.pw.phase != 0 && (v == 1 || v == 5)) (fun d => (d.pseqRecord 3 0).pseqAfter v 3 []) d)

/-- PSEQ_REQ (R716, R717, R723): the firmware requests vectors; a tenant's write is refused with PERMISSION. -/
def execPseqReq (l : Land) : State → Out := onDev (fun d =>
  d.land l (fun a _ => a == Reg.PSEQ_REQ) (fun _ _ v d =>
    (List.range 8).foldl (fun d i => if bit v.toNat i then d.pseqRequest i else d) d))

/-- FW_ACK (R723, R724): the firmware writes PSEQ_CTL; it sets FW_ACK only with every axis parked, the laser engine COLD and the
thermal engine IDLE with no receipt. -/
def execFwAck (l : Land) : State → Out := onDev (fun d =>
  d.land l (fun a _ => a == Reg.PSEQ_CTL) (fun _ a v d =>
    let ready := d.axesParked && d.laserState == LasSt.cold && d.thermalState == ThmSt.idle && d.rcpt.isNone
    if bit v.toNat 0 && ! ready then d else d.store a v.toNat))

/-! ### Starting up and standing by -/

/-- POWER_UP_START (R726, R727): VIN_OK has held 100 ms with RST_N high: a device reset, and POWER_UP runs, counted in STARTS. -/
def execPowerUpStart : State → Out := onDev (fun d =>
  when (d.devState == DevSt.off && d.flag Reg.PF_STAT_VIN_OK && ! d.flag Reg.PSEQ_CTL_PU_HALT)
    (fun d => ((d.resetDevice.lifeAdd 1 1).setDev DevSt.powerUp).pseqStart 0) d)

/-- POWER_UP_RETRY (R712): 1 s after a failed POWER_UP. -/
def execPowerUpRetry : State → Out := onDev (fun d =>
  when (d.devState == DevSt.off && 0 < d.get Reg.PSEQ_CTL_PU_FAILS && ! d.flag Reg.PSEQ_CTL_PU_HALT && d.flag Reg.PF_STAT_VIN_OK)
    (fun d => ((d.resetDevice.lifeAdd 1 1).setDev DevSt.powerUp).pseqStart 0) d)

/-- A wake source (R729, R730): STBY clears, and in STANDBY the firmware requests STANDBY_EXIT. -/
def Dev.wakeSource (d : Dev) : Dev :=
  let d1 := { (d.set Reg.PWR_CMD_STBY 0) with pw := { d.pw with wakePend := true } }
  if d1.devState = DevSt.standby then d1.pseqRequest 3
  else { (d1.set Reg.PWR_CMD_WAKE 0) with pw := { d1.pw with wakePend := false } }

/-- STBY (R729): a write of PWR_CMD with STBY set; honoured at once when both engines allow it, else it stays pending. -/
def execStby (l : Land) : State → Out := onDev (fun d =>
  d.land l (fun a v => a == Reg.PWR_CMD && bit v.toNat 0 && ! bit v.toNat 1 && ! bit v.toNat 2) (fun _ _ _ d =>
    (d.set Reg.PWR_CMD_STBY 1).stbyCheck))

/-- WAKE (R730): a write of PWR_CMD with WAKE set. -/
def execWake (l : Land) : State → Out := onDev (fun d =>
  d.land l (fun a v => a == Reg.PWR_CMD && bit v.toNat 1 && ! bit v.toNat 2) (fun _ _ _ d => (d.set Reg.PWR_CMD_WAKE 1).wakeSource))

/-- WAKE_N_FALL (R730). -/
def execWakeNFall : State → Out := onDev (fun d => if d.fwRuns then d.wakeSource else d)

/-- CYCLE (Table 16-10): a write of PWR_CMD with CYCLE set: the firmware requests POWER_DOWN. -/
def execCycle (l : Land) : State → Out := onDev (fun d =>
  d.land l (fun a v => a == Reg.PWR_CMD && bit v.toNat 2) (fun _ _ _ d =>
    let d1 := d.set Reg.PWR_CMD_CYCLE 1
    if d1.fwRuns then d1.pseqRequest 1 else d1))

/-- RST_N (R727, Table 16-6): a pulse leaves TRIPPED for OFF; in any other state but OFF it starts the hardware shutdown. -/
def execRstN : State → Out := onDev (fun d =>
  if d.devState = DevSt.off then d
  else if d.devState = DevSt.tripped then d.enterOff
  else d.shutdown.enterOff)

/-- VAON_LOSS (Table 16-6): VAON is lost: everything it holds is lost too, and the device is OFF. The OTP array, the forms in NOR
and the levels on the balls stay. -/
def execVaonLoss : State → Out := onDev (fun d =>
  { Dev.reset with free := d.free, forms := d.forms, balls := d.balls, otp := { Otp.reset with array := d.otp.array } })

/-! ### Inputs -/

/-- VM_OK_CHANGE (R692): VM_RB_G follows; on each rise in STANDBY the firmware requests STANDBY_EXIT (Table 16-4). -/
def execVmOkChange (ok : Bool) : State → Out := onDev (fun d =>
  let rise := ok && ! d.flag Reg.PF_STAT_VM_OK
  let d1 := (d.setb Reg.PF_STAT_VM_OK ok).rbUpdate
  if rise ∧ d1.devState = DevSt.standby then d1.pseqRequest 3 else d1)

/-- VIN_OK_CHANGE (R694). -/
def execVinOkChange (ok : Bool) : State → Out := onDev (·.setb Reg.PF_STAT_VIN_OK ok)

/-- INPUT_OV (R695): PCH5 to PCH11 and VM_RB_G go off and the event is emitted. -/
def execInputOv : State → Out := onDev (fun d =>
  when (! d.flag Reg.PF_STAT_INPUT_OV && d.devState != DevSt.off) (fun d =>
    let d1 := (d.set Reg.PF_STAT_INPUT_OV 1).applyForcing.rbUpdate.holdUpdate
    ((d1.raiseFree 0x10 0xF St.inputOv 3).fireRaw 0x10 1).faultOn 0x10 2 St.inputOv 3 0) d)

/-- INPUT_OV_CLEAR (R695): the mark clears, and the firmware requests STANDBY_EXIT. -/
def execInputOvClear : State → Out := onDev (fun d =>
  when (d.flag Reg.PF_STAT_INPUT_OV) (fun d =>
    let d1 := ((d.set Reg.PF_STAT_INPUT_OV 0).faultOff 0x10 2).applyForcing.rbUpdate
    if d1.fwRuns then d1.pseqRequest 3 else d1) d)

/-- UVLO (R696): the hardware shutdown, whatever program runs, and OFF. TRIPPED is left only by its own triggers (R728). -/
def execUvlo : State → Out := onDev (fun d =>
  if d.devState = DevSt.off then d else if d.devState = DevSt.tripped then d.shutdown else d.shutdown.enterOff)

/-- PG_CHANGE (R699): PG rises only on a channel that is on, and for channels 12 to 15 only while the ball is PGn. -/
def execPgChange (n : Fin 16) (pg : Bool) : State → Out := onDev (fun d =>
  let n := n.val
  if pg = (d.get (Reg.CH_STAT_PG n) == 1) ∨ (pg && n != 4 && (! d.chOn n || ! d.chBalls n)) then d
  else
    let d1 := ((d.setb (Reg.CH_STAT_PG n) pg).fire 0x0E 1 0).permitUpdate
    if pg then (d1.set (Reg.CH_STAT_STATE n) 2).fuserStart else d1)

/-- DISCHARGE_DONE (R700): the output of a channel that is being discharged is below 10 %. -/
def execDischargeDone (n : Fin 16) : State → Out := onDev (fun d =>
  let n := n.val
  when (bit d.pw.dchg n && ! d.chOn n) (fun d =>
    { (d.set (Reg.CH_STAT_DOWN n) 1) with pw := { d.pw with dchg := d.pw.dchg &&& (65535 ^^^ 2 ^ n) } }) d)

/-! ### Class A and class B -/

/-- The channels a class A cause applies to (Table 16-7). -/
def tripChannel (cause n : Nat) : Bool :=
  match cause with
  | 1 => n < 12 && n != 4
  | 2 => n < 11 && n != 4
  | 3 => n ≤ 4 || n == 8
  | 4 => n == 2
  | _ => n == 0xF

/-- Whether a class A condition can hold (Table 16-7, R740): RAIL_SHORT needs its channel on, and once PG has held of PCH5 to PCH10 it
needs VM_OK and no PFW; VCORE_WINDOW needs PG to have held; REVERSE needs VM_RB_G on. -/
def Dev.tripHolds (d : Dev) (cause n : Nat) : Bool :=
  tripChannel cause n && match cause with
  | 2 => d.chOn n && (d.get (Reg.CH_STAT_STATE n) != 2 || n < 5 || (d.flag Reg.PF_STAT_VM_OK && ! d.flag Reg.PF_STAT_PFW))
  | 4 => d.get (Reg.CH_STAT_STATE 2) == 2
  | 6 => d.flag Reg.PF_STAT_RB_ON
  | _ => true

/-- CLASS_A_TRIP (R731 to R735): outputs off, the record, and TRIP aborts the running program (R714). -/
def execClassATrip (cause : Fin 7) (n : Fin 16) : State → Out := onDev (fun d =>
  let c := cause.val
  if c = 0 ∨ ! d.tripHolds c n.val ∨ d.pw.tripped ∨ d.devState = DevSt.off ∨ d.devState = DevSt.tripped then d
  else
    let d1 := { d with pw := { d.pw with tripped := true } }
    let d2 := ((d1.outputsOff.applyForcing.cutFirmware).set Reg.PF_STAT_RB_ON 0).measAbandon
    let d3 := ((((d2.set Reg.TRIP_REC_CAUSE c).set Reg.TRIP_REC_CHANNEL n.val).set Reg.TRIP_REC_VALID 1).addSat
      Reg.TRIP_REC_COUNT 1).setReg Reg.TRIP_TIME d.now
    d3.pseqAbort.pseqStart 5)

/-- The channels a class B kind applies to (Table 16-8). -/
def warnChannel (kind n : Nat) : Bool :=
  match kind with
  | 1 => (n < 4) || (5 ≤ n && n ≤ 10)
  | 2 => 5 ≤ n && n ≤ 10
  | 3 => 12 ≤ n
  | 4 => 5 ≤ n && n ≤ 10
  | 5 => 12 ≤ n
  | _ => false

/-- CLASS_B_WARN (R737 to R740): a condition of a channel is met, or has cleared; `v` is its output in 10 mV. -/
def execClassBWarn (n : Fin 16) (kind : Fin 6) (present : Bool) (v : Nat) : State → Out := onDev (fun d =>
  let n := n.val
  let k := kind.val
  let has := bit (d.get (Reg.CH_STAT_WARN n)) (k - 1)
  let off := k == 4 || k == 5
  if ! warnChannel k n ∨ present = has then d
  else if ! present then
    (d.set (Reg.CH_STAT_WARN n) (d.get (Reg.CH_STAT_WARN n) &&& (31 ^^^ 2 ^ (k - 1)))).faultOff 0x0E (n * 8 + k)
  else if (off && d.chOn n) || (! off && ! d.chOn n) || (k == 2 && d.get (Reg.CH_LIM_OPEN_I n) == 0) ||
      (d.flag Reg.PF_STAT_PFW && (k == 1 || k == 2) && 5 ≤ n) then d
  else
    let act := k != 4 && d.get (Reg.CH_CFG_B_ACT n) != 0
    let sev := if act then 3 else 0
    let d1 := (d.set (Reg.CH_STAT_WARN n) (d.get (Reg.CH_STAT_WARN n) ||| 2 ^ (k - 1))).addSat Reg.PF_CNT_WARN 1
    let d2 := ((d1.raise 0x0E 0xF St.railWarn sev (n + k * 16 + (v % 65536) * 65536)).fireRaw 0x0E 0).faultOn 0x0E (n * 8 + k)
      St.railWarn sev (n + k * 16)
    if act then ({ d2 with pw := { d2.pw with clsB := d2.pw.clsB ||| 2 ^ n } }).applyForcing.holdUpdate else d2)

/-- TJ_HOT (R741): the junction has reached TJ_WARN in three samples, or is below it again; `tj` in 0.1 °C. -/
def execTjHot (hot : Bool) (tj : Int) : State → Out := onDev (fun d =>
  let d0 := d.seti Reg.PWR_TJ_TJ tj
  if hot = d0.flag Reg.PF_STAT_TJ_HOT then d0
  else if hot then
    if tj < d0.get Reg.PF_CFG_TJ_WARN * 10 then d0
    else (((d0.set Reg.PF_STAT_TJ_HOT 1).raiseFree 0x10 0xF St.tjHot 0).fireRaw 0x10 2).faultOn 0x10 3 St.tjHot 0 0
  else (d0.set Reg.PF_STAT_TJ_HOT 0).faultOff 0x10 3)

/-! ### The power-fail warning -/

/-- The PFW threshold in mV (R743): a whole VIN is below 80 % of VIN_REF exactly when it is below this. -/
def Dev.pfwThreshold (d : Dev) : Nat :=
  let th := d.get Reg.PF_CFG_PFW_TH
  max 4600 (if th = 0 then ceilDiv (d.get Reg.PF_VREF_VIN_REF * 8) 10 else th * 100)

/-- The items of the power-fail record (R773): every sheet with a token, in token order, then the receipt. -/
def Dev.pfItems (d : Dev) : List PfItem :=
  let withTok := d.sheets.filter (fun s => s.state != .queued && s.state != .ejected && s.state != .spoiled && s.state != .spoiledBlank)
  let ord := withTok.foldl (fun l s => (l.takeWhile (fun x => x.order ≤ s.order)) ++ [s] ++ (l.dropWhile (fun x => x.order ≤ s.order))) []
  ord.map (fun s => ⟨s.tenant, s.epoch, s.job, some s.index, s.token, none⟩) ++
  (match d.rcpt with
   | some (k, e, j) => [⟨k, e, j, none, 0, none⟩]
   | none => [])

/-- PFW is raised (R744, R755, R761, R768, R769): the heater off, VM_RB_G off and HLD_DG on, the bank's loop off, the head
stopped, what the record will hold noted, and the PFW entry requested (R715). -/
def Dev.raisePfw (d : Dev) (vin : Nat) : Dev :=
  let rc := fun k => (((d.ten k).jobs.filter (fun j => j.thermal && j.waiting))).length
  let h := { d.hold with
    items := d.pfItems, lostSheets := (List.range 8).map (fun k => min 255 ((d.sheets.filter (fun s => s.tenant = k ∧ s.placed ∧ s.state = .queued)).length)),
    lostRcpts := (List.range 8).map (fun k => min 255 (rc k)), vbankPfw := d.get Reg.HL_VBANK_VBANK, written := false }
  let d1 := { d with hold := h, pw := { d.pw with pfwAt := d.now, pfwVin := vin, pfwWin := clampN 1 500 (d.get Reg.PF_WIN_PF_WINDOW) * 1000 } }
  let d2 := ((d1.set Reg.PF_STAT_PFW 1).addSat Reg.PF_CNT_PFW 1).set Reg.PWR_IN_VIN vin
  let d3 := ((d2.raise 0x10 0xF St.powerFail 3 (vin % 65536)).fireRaw 0x10 0).faultOn 0x10 1 St.powerFail 3 0
  let d4 := (d3.heaterForceOff.rbUpdate.set Reg.HL_STAT_DG_ON 1).measAbandon.holdUpdate.headPfw.cutFirmware
  let v := d4.get Reg.PSEQ_STAT_VEC
  if d4.pw.phase != 0 && (v == 1 || v == 5) then d4 else d4.pseqAbort.pseqStart 4

/-- PFW_RAISE (R743, R744): VIN has stayed below the threshold for PFW_DEB. -/
def execPfwRaise (vin : Nat) : State → Out := onDev (fun d =>
  when (d.pw.vinRef && ! d.flag Reg.PF_STAT_PFW && vin < d.pfwThreshold &&
      ! [DevSt.off, DevSt.powerUp, DevSt.tripped].contains d.devState && ! d.pw.tripped) (·.raisePfw vin) d)

/-- Abort the running program and start POWER_DOWN. -/
def Dev.forcePowerDown (d : Dev) : Dev :=
  let v := d.get Reg.PSEQ_STAT_VEC
  if d.pw.phase != 0 && (v == 1 || v == 5) then d else d.pseqAbort.pseqStart 1

/-- PF_WINDOW_EXPIRY (R746, R771): PF_WINDOW has passed since PFW was raised, or REC_LEAD since a BANK_LOW. -/
def execPfWindowExpiry : State → Out := onDev (fun d => when (d.flag Reg.PF_STAT_PFW && d.past d.pw.pfwAt d.pw.pfwWin) Dev.forcePowerDown d)

/-- VIN_REF_TAKEN (R742): the mean of VIN over the 10 ms after POWER_UP. -/
def execVinRefTaken (vin : Nat) : State → Out := onDev (fun d =>
  when (! d.pw.vinRef && ! [DevSt.off, DevSt.powerUp, DevSt.tripped].contains d.devState) (fun d =>
    { ((d.set Reg.PF_VREF_VIN_REF vin).set Reg.PWR_IN_VIN vin) with pw := { d.pw with vinRef := true } }) d)

end Sys2Proof.Machine
end

