-- ==== Sys2Proof/Machine/Holdup.lean ====
section
/-! DEFINITION. The hold-up bank and the power-fail record (spec/17_ride_through.md). -/

set_option linter.unusedVariables false

namespace Sys2Proof.Machine

/-- VSET in force: 5000 to 48,000 mV (Table 17-4). -/
def Dev.vset (d : Dev) : Nat := clampN 5000 48000 (d.get Reg.HL_CFG_VSET)

/-- REC_LEAD in force, in ms. -/
def Dev.recLead (d : Dev) : Nat := clampN 5 100 (d.get Reg.HL_PRIDE1_REC_LEAD)

/-- E_AVAIL in mJ (R764). -/
def Dev.eAvail (d : Dev) : Nat :=
  let v := d.get Reg.HL_VBANK_VBANK
  let lo := d.get Reg.HL_CFG_VMIN
  if ! d.flag Reg.HL_STAT_C_VALID || v ≤ lo || d.bankBad then 0
  else min (2 ^ 32 - 1) (min 100 (d.get Reg.HL_CHG_EFF) * d.reg Reg.HL_C * (v * v - lo * lo) / (100 * 2 * 10 ^ 9))

/-- BANK_FAULT with a cause (Table 17-5). -/
def Dev.bankFault (d : Dev) (cause : Nat) : Dev :=
  let sev := if cause = 8 then 3 else 0
  let d1 := d.set Reg.HL_STAT_CAUSES (d.get Reg.HL_STAT_CAUSES ||| 2 ^ (cause - 1))
  ((((d1.raise 0x11 0xF St.bankFault sev (cause + d.get Reg.HL_VBANK_VBANK * 65536)).fireRaw 0x11 2).faultOn 0x11 cause St.bankFault
    sev cause)).holdUpdate

/-- A cause clears. -/
def Dev.bankClear (d : Dev) (cause : Nat) : Dev :=
  if bit (d.get Reg.HL_STAT_CAUSES) (cause - 1) then
    ((d.set Reg.HL_STAT_CAUSES (d.get Reg.HL_STAT_CAUSES &&& (255 ^^^ 2 ^ (cause - 1)))).faultOff 0x11 cause).holdUpdate
  else d

/-- BANK_FULL (R758, R759): VBANK has stayed at 98 % of VSET for 100 ms, or has fallen below 95 %; the first FULL after BOOT asks
for a measurement. -/
def execBankFull (full : Bool) : State → Out := onDev (fun d =>
  if full = d.flag Reg.HL_STAT_FULL then d
  else
    let d1 := (d.setb Reg.HL_STAT_FULL full).fire 0x11 0 0
    if full && ! d1.hold.sawFull then { d1 with hold := { d1.hold with sawFull := true, due := true } } else d1)

/-- The conditions of R759. -/
def Dev.measReady (d : Dev) : Bool :=
  (d.hold.due || d.flag Reg.HL_CTL_MEAS_GO) && d.flag Reg.HL_STAT_FULL && ! d.flag Reg.PF_STAT_PFW &&
  d.laserState != LasSt.printing && d.get Reg.HL_STAT_STATE != 2 &&
  ! d.sheets.any (fun s => s.state = .queued || s.state = .staged || s.state = .held)

/-- BANK_MEAS_START (R759, R760 steps 1 and 2): L5 goes OFF, HLD_BLD on; the samples V0 and V1 in mV. -/
def execBankMeasStart (v0 v1 : Nat) : State → Out := onDev (fun d =>
  when (d.fwRuns && d.measReady) (fun d =>
    let d1 := if d.get Reg.HL_STAT_STATE = 1 then d.loopOff 5 else d
    let h := { d1.hold with due := false, v0 := v0, v1 := v1, t1 := d.now, result := 0 }
    { (((d1.set Reg.HL_STAT_STATE 2).set Reg.HL_STAT_BLD_ON 1).set Reg.HL_CTL_MEAS_GO 0) with hold := h }) d)

/-- The sum of `z^(2k+1) / (2k+1)` for `n` terms, scaled by 2^64: `p` is the next odd power. -/
def atanhSum (z2 : Nat) : Nat → Nat → Nat → Nat
  | 0, _, _ => 0
  | n + 1, p, k => p / k + atanhSum z2 n (p * z2 / 2 ^ 64) (k + 2)

/-- ln(a / b) for 2 b ≥ a ≥ b > 0, scaled by 2^64. -/
def lnNear (a b : Nat) : Nat :=
  let z := (a - b) * 2 ^ 64 / (a + b)
  2 * atanhSum (z * z / 2 ^ 64) 40 z 1

/-- ln(a / b) for a ≥ b > 0, scaled by 2^64. -/
def lnRatio (a b : Nat) : Nat :=
  let k := (a / b).log2
  lnNear a (b * 2 ^ k) + k * lnNear 2 1

/-- The measurement ends with a result and L5 may run again; a waiting commit of the page's shadows is taken (R760 step 5). -/
def Dev.measEnd (d : Dev) (result : Nat) : Dev :=
  let d := { d with hold := { d.hold with result := result } }
  (((d.set Reg.HL_STAT_STATE 0).set Reg.HL_STAT_BLD_ON 0).boundary 0x11).holdUpdate

/-- BANK_MEAS_DONE (R760 steps 3 to 5, R762, R763): V2 is reached; C and ESR are computed, to the nearest unit (log entry 11),
and stored, or the result is NO_BANK. -/
def execBankMeasDone : State → Out := onDev (fun d =>
  when (d.get Reg.HL_STAT_STATE == 2) (fun d =>
    let t := d.now - d.hold.t1
    let v0 := d.hold.v0
    let v1 := d.hold.v1
    let v2 := v1 - d.get Reg.HL_MEAS_CFG_DV_MEAS
    let r := d.get Reg.HL_MEAS_CFG_R_BLEED * 100
    let esr := roundDiv ((v0 - v1) * r) v1
    let c := roundDiv (t * 1000 * 2 ^ 64) ((r + esr) * lnRatio v1 v2)
    let d0 := (d.setReg Reg.HL_MEAS_T t)
    if v2 = 0 ∨ t < 1000 ∨ c < d.get Reg.HL_LIM_C_MIN * 100 then
      ((d0.set Reg.HL_STAT_C_VALID 0).bankFault 1).measEnd 2
    else
      let d1 := (((d0.setReg Reg.HL_C (min c (2 ^ 32 - 1))).set Reg.HL_ESR_ESR (min esr 65535)).set Reg.HL_STAT_C_VALID 1).set
        Reg.HL_STAT_RESTORED 0
      let d2 := { (d1.bankClear 1).bankClear 5 with hold := { d1.hold with storedAt := d.now } }
      let d3 := if d.get Reg.HL_LIM_ESR_MAX < esr then (if bit (d2.get Reg.HL_STAT_CAUSES) 5 then d2 else d2.bankFault 6)
        else d2.bankClear 6
      let body := leBytes 4 (d3.reg Reg.HL_C) ++ leBytes 4 (d3.get Reg.HL_ESR_ESR)
      (((d3.queueRec 4 body).lifeAdd 21 1).fire 0x11 1 0).measEnd 1) d)

/-- MEAS_ABORT (R761): a write of HL_CTL with MEAS_ABORT set abandons a running measurement; the bit clears itself. -/
def execMeasAbort (l : Land) : State → Out := onDev (fun d =>
  d.land l (fun a v => a == Reg.HL_CTL && bit v.toNat 1) (fun _ _ v d =>
    let d1 := d.measAbandon
    if bit v.toNat 0 then d1.set Reg.HL_CTL_MEAS_GO 1 else d1))

/-- MEAS_TIMEOUT (R762): V2 is not reached within 20 s. -/
def execMeasTimeout : State → Out := onDev (fun d =>
  when (d.get Reg.HL_STAT_STATE == 2) (fun d => (d.bankFault 5).measEnd 3) d)

/-- E_AVAIL_UPDATE (R764): every 1 ms, with VBANK in mV and the charger's current in mA. -/
def execEAvailUpdate (vbank i : Nat) : State → Out := onDev (fun d =>
  let d1 := (d.set Reg.HL_VBANK_VBANK (min vbank 65535)).set Reg.HL_VBANK_I_NOW (min i 65535)
  d1.setReg Reg.HL_E_AVAIL d1.eAvail)

/-- BANK_LOW (R771): VBANK has stayed below VMIN for 100 µs while PFW is raised; the window closes REC_LEAD later, at PF_WINDOW at the
latest, and POWER_DOWN starts then (PF_WINDOW_EXPIRY). -/
def execBankLow : State → Out := onDev (fun d =>
  when (d.flag Reg.PF_STAT_PFW && ! bit (d.get Reg.HL_STAT_CAUSES) 7) (fun d =>
    let d1 := d.bankFault 8
    { d1 with pw := { d1.pw with pfwWin := min d1.pw.pfwWin (d1.now + d1.recLead * 1000 - d1.pw.pfwAt) } }) d)

/-- BANK_FAULT (Table 17-5): the condition of cause 1 to 4 has held for its time, or has cleared. Cause 1 clears only at a stored
result; cause 2 clears with L5 restarted. -/
def execBankFault (cause : Fin 5) (present : Bool) : State → Out := onDev (fun d =>
  let c := cause.val
  if c = 0 then d
  else if present then (if bit (d.get Reg.HL_STAT_CAUSES) (c - 1) then d else d.bankFault c)
  else if c = 1 then d else d.bankClear c)

/-- One item of the record (R773, R774): FLAGS holds the tenant in [6:4] and CUT_OFF in [3]. -/
def PfItem.bytes (i : PfItem) : List Byte :=
  let r := match i.final, i.index with
    | some (st, fl, vd), _ => (st, fl % 8, vd)
    | none, some _ => (St.jammed, 8, 0)
    | none, none => (St.spoiled, 0, 0)
  leBytes 2 i.epoch ++ leBytes 2 i.job ++ leBytes 2 (i.index.getD 0) ++ leBytes 2 r.1 ++ leBytes 1 i.token ++
  leBytes 1 (r.2.1 + i.ten * 16) ++ leBytes 2 r.2.2

/-- The body of the power-fail record (Table 17-3). -/
def Dev.pfBody (d : Dev) : List Byte :=
  let h := d.hold
  let items := h.items.take 8
  leBytes 4 d.pw.pfwAt ++ leBytes 2 d.pw.pfwVin ++ leBytes 2 h.vbankPfw ++ leBytes 2 (d.get Reg.HL_VBANK_VBANK) ++
  leBytes 1 (d.get Reg.PC_STAT_RUN_GEAR) ++ leBytes 1 items.length ++ h.lostSheets.flatMap (leBytes 1) ++ h.lostRcpts.flatMap (leBytes 1) ++
  items.flatMap PfItem.bytes

/-- The instant to write the record has come (R770): the PFW entry has ended, T_REC is reached, or BANK_LOW holds. -/
def Dev.recDue (d : Dev) : Bool :=
  d.pw.phase == 0 || d.get Reg.PSEQ_STAT_VEC != 4 || bit (d.get Reg.HL_STAT_CAUSES) 7 ||
  decide (d.pw.pfwAt + d.pw.pfwWin ≤ d.now + d.recLead * 1000)

/-- PF_RECORD_WRITE (R770, R772, R932, R952): the firmware writes the record to the journal, once; `fail` is a read-back that differs.
An erase that runs and cannot be suspended keeps it waiting. -/
def execPfRecordWrite (fail : Bool) : State → Out := onAll (fun d m =>
  if d.flag Reg.PF_STAT_PFW && ! d.hold.written && d.fwRuns && ! d.pw.tripped && d.recDue && d.mounted &&
      (d.norBusy == 0 || d.flag Reg.XSPI_STAT_SUSPEND) then
    let (d1, m1, ok) := d.writeRec m 5 d.pfBody fail
    ({ d1 with hold := { d1.hold with written := ok } }, m1)
  else (d, m))

end Sys2Proof.Machine
end

