-- ==== Sys2Proof/Machine/Brushless.lean ====
section
/-! DEFINITION. The brushless drives (spec/11_brushless.md): commands, catch, initial position, start, observer, loops, speed lock,
beam-detect fusion, direction and faults. -/

set_option linter.unusedVariables false

namespace Sys2Proof.Machine

/-! ### Faults -/

/-- A motor enters FAULT with a cause of Table 11-9 and a phase (R513, R514): the event, and with ENG_DEP the laser engine stops. -/
def Dev.blFault (d : Dev) (m cause phase : Nat) : Dev :=
  if d.blState m = 0 ∨ d.blState m = 7 then d
  else
    let p := 0x25 + m
    let dep := d.flag (Reg.BL_CTL_ENG_DEP m)
    let sev := if dep then 3 else 0
    let code := if cause = 9 then St.motorReversed else St.motorFault
    let det := cause + phase * 16
    let d1 := (((d.blTo m 7).raise p 0xF code sev det).fireRaw p 3).faultOn p 1 code sev det
    if dep then d1.engineStop p cause else d1

/-! ### Commands -/

/-- RATED in 0.1 rpm. -/
def Dev.blRated (d : Dev) (m : Nat) : Nat := d.get (Reg.BL_MOTOR_RATED m) * 10

/-- HO_UP in 0.1 rpm. -/
def Dev.hoUp (d : Dev) (m : Nat) : Nat := d.get (Reg.BL_HANDOVER_HO_UP m) * d.blRated m / 1000

/-- HO_DN in 0.1 rpm; a value at or above HO_UP acts as HO_UP - 10. -/
def Dev.hoDn (d : Dev) (m : Nat) : Nat :=
  let up := d.get (Reg.BL_HANDOVER_HO_UP m)
  let dn := d.get (Reg.BL_HANDOVER_HO_DN m)
  (if up ≤ dn then up - 10 else dn) * d.blRated m / 1000

/-- PWM_F in 100 Hz. -/
def Dev.pwmF (d : Dev) (m : Nat) : Nat := clampN 160 1000 (d.get (Reg.BL_PWM_PWM_F m))

/-- POLE_PAIRS. -/
def Dev.poles (d : Dev) (m : Nat) : Nat := atLeast1 (d.get (Reg.BL_MOTOR_POLE_PAIRS m))

/-- NPTS of the stored curve. -/
def Dev.curveN (d : Dev) (m : Nat) : Nat := clampN 2 16 (d.get (Reg.BL_CURVE_NPTS m))

/-- X of point `i`. -/
def Dev.curveX (d : Dev) (m i : Nat) : Int := sext (d.reg (0x40025100 + 0x1000 * m + 4 * i)) 16

/-- Y of point `i`, in 10 rpm. -/
def Dev.curveY (d : Dev) (m i : Nat) : Nat := d.reg (0x40025100 + 0x1000 * m + 4 * i) / 65536

/-- The points' X ascend (R494). -/
def Dev.curveOk (d : Dev) (m : Nat) : Bool :=
  (List.range (d.curveN m - 1)).all (fun i => decide (d.curveX m i < d.curveX m (i + 1)))

/-- The command of an ON curve at X, in 0.1 rpm (R495). -/
def Dev.curveAt (d : Dev) (m : Nat) (x : Int) : Nat :=
  let n := d.curveN m
  if x ≤ d.curveX m 0 then d.curveY m 0 * 100
  else match (List.range (n - 1)).find? (fun i => decide (x ≤ d.curveX m (i + 1))) with
    | none => d.curveY m (n - 1) * 100
    | some i =>
      let y0 : Int := d.curveY m i
      let y1 : Int := d.curveY m (i + 1)
      (y0 + ((y1 - y0) * (x - d.curveX m i)).fdiv (d.curveX m (i + 1) - d.curveX m i)).toNat * 100

/-- The selected command in 0.1 rpm (R490, Table 11-3, R499 for M1). -/
def Dev.blSelected (d : Dev) (m : Nat) : Nat :=
  let byReg := min (d.get (Reg.BL_SPD_CMD_SPEED m)) (d.blRated m)
  let src := d.get (Reg.BL_CTL_CMD_SRC m)
  if src = 1 then
    if d.flag (Reg.BL_STAT_CURVE_ON m) && d.curveOk m then d.curveAt m (d.geti (Reg.BL_CURVE_X_X_NOW m)) else 0
  else if src = 2 ∧ m = 0 then
    if d.engineOn then ((472440 * (1000000 + (d.mot 0).trimPpm)) / 1000000).toNat else 0
  else if src = 2 ∧ m = 1 then
    if d.engineOn then d.get (Reg.GEAR_SPD_SPEED 1 (d.engine.target - 1)) else 0
  else byReg

/-- The direction of a forward command: REVERSE commands the opposite one. -/
def Dev.blDir (d : Dev) (m : Nat) : Int := if d.flag (Reg.BL_CTL_REVERSE m) then -1 else 1

/-- The speed in the commanded direction, in 0.1 rpm. -/
def Dev.blFwd (d : Dev) (m : Nat) : Int := d.geti (Reg.BL_SPEED_SPEED m) * d.blDir m

/-- Give BL_SPEED a value; the laser-enable chain follows M1 (R631). -/
def Dev.setSpeed (d : Dev) (m : Nat) (v : Int) : Dev :=
  let d1 := d.seti (Reg.BL_SPEED_SPEED m) v
  if m = 0 then d1.permitUpdate else d1

/-- A return to ALIGN or START (R485): counted; three in 10 s are START_FAIL. -/
def Dev.blRestart (d : Dev) (m st : Nat) : Dev :=
  let rs := d.now :: (d.mot m).restarts.filter (fun t => d.now < t + 10000000)
  let d1 := (d.modMot m (fun x => { x with restarts := rs })).addSat (Reg.BL_ERR_RESTARTS m) 1
  if 3 ≤ rs.length then d1.blFault m 7 0 else d1.blTo m st

/-- BLDC_RUN (Table 11-2): with RUN 1 and a nonzero command, OFF goes to CATCH, or to ALIGN when CATCH_EN is 0. -/
def execBldcRun (m : Fin 3) : State → Out := onDev (fun d =>
  let m := m.val
  let d1 := (d.boundary (0x25 + m)).engHold
  if d1.blState m = 0 && d1.flag (Reg.BL_CTL_RUN m) && d1.blSelected m != 0 then
    d1.blTo m (if d1.flag (Reg.BL_CTL_CATCH_EN m) then 1 else 3)
  else d1)

/-- The observer seeded with an angle and a speed (R476): `spd` in 0.1 rpm. -/
def Dev.obsSeed (d : Dev) (m ang : Nat) (spd : Int) : Dev :=
  let w := roundDivI (spd * 5 * 6588397 * d.poles m) (3 * 2 ^ 20)
  (d.modMot m (fun x => { x with
    th := ang, w := w, iA := 0, iB := 0, eA := 0, eB := 0, cmdX := spd.natAbs * 65536, spdInt := 0, dInt := 0, qInt := 0,
    qRef := 0 })).setSpeed m spd

/-- CATCH_DONE (R475 to R477): after CATCH_T with the line-to-line amplitude in mV, the speed in 0.1 rpm (signed in the controller's
frame) and the angle at the last crossing. -/
def execCatchDone (m : Fin 3) (amp : Nat) (spd : Int) (ang : Nat) : State → Out := onDev (fun d =>
  let m := m.val
  when (d.blState m == 1 && d.past (d.mot m).since (1000 * atLeast1 (d.get (Reg.BL_CATCH_CATCH_T m)))) (fun d =>
    let fwd := spd * d.blDir m
    if amp < d.get (Reg.BL_CATCH_CATCH_MIN m) ∨ spd = 0 then d.blTo m 3
    else if fwd < 0 then d.blTo m 2
    else if (d.hoUp m : Int) ≤ fwd then (d.blTo m 5).obsSeed m (ang % 65536) spd
    else d.blTo m 3) d)

/-- BRAKE_END (R477, R503): the back-EMF is below CATCH_MIN (`low`), or BRAKE_MAX has passed. A motor braked to correct its phase order
toggles MAP_SWAP and restarts from ALIGN. -/
def execBrakeEnd (m : Fin 3) (low : Bool) : State → Out := onDev (fun d =>
  let m := m.val
  if d.blState m = 2 then
    (if low then d.blTo m 3
     else if d.past (d.mot m).since (100000 * d.get (Reg.BL_CATCH_BRAKE_MAX m)) then d.blFault m 6 0 else d)
  else if d.blState m = 6 ∧ (d.mot m).order then
    if low then
      let sw := 1 - d.get (Reg.BL_CTL_MAP_SWAP m)
      let d1 := ((d.blTo m 0).set (Reg.BL_CTL_MAP_SWAP m) sw).set (Reg.BL_STAT_DIR_RESULT m) 2
      let d2 := (d1.modMot m (fun x => { x with corrAt := some d.now })).raise (0x25 + m) 0xF St.phaseOrder 0 sw
      ((d2.fireRaw (0x25 + m) 4).queueRec 3 (leBytes 4 (d2.get (Reg.BL_CTL_MAP_SWAP 0) + 2 * d2.get (Reg.BL_CTL_MAP_SWAP 1) +
        4 * d2.get (Reg.BL_CTL_MAP_SWAP 2)))).blTo m 3
    else if d.past (d.mot m).since (100000 * d.get (Reg.BL_CATCH_BRAKE_MAX m)) then d.blFault m 6 0
    else d
  else d)

/-- The directions of the twelve pulses in degrees, the best of the first six at `b` (R478; the order of the second six is log entry 17). -/
def pulseDir (b i : Nat) : Nat :=
  if i < 6 then 60 * i else (60 * b + [15, 345, 30, 330, 45, 315].getD (i - 6) 0) % 360

/-- The index of the largest of a list, the first of equals. -/
def argMax (l : List Nat) : Nat :=
  ((List.range l.length).foldl (fun b i => if l.getD b 0 < l.getD i 0 then i else b) 0)

/-- The two phases a pulse of the first six drives (log entry 17). -/
def pulsePhases (i : Nat) : List Nat :=
  match i % 3 with
  | 0 => [1, 2]
  | 1 => [1, 3]
  | _ => [2, 3]

/-- The phase whose every pulse stays below OPEN_PCT of IP_IMAX (R480). -/
def Dev.openPhase (d : Dev) (m : Nat) (peaks : List Nat) : Option Nat :=
  let lim := d.get (Reg.BL_CHK_OPEN_PCT m) * d.get (Reg.BL_IPOS_IP_IMAX m)
  let low := (List.range 6).filter (fun i => (peaks.take 6).getD i 0 * 100 < lim)
  [1, 2, 3].find? (fun ph => ((List.range 6).filter (fun i => (pulsePhases i).contains ph)).all (fun i => low.contains i))

/-- The six directions differ by less than 3 % of the largest peak (R479). -/
def alignFlat (peaks : List Nat) : Bool :=
  let first := peaks.take 6
  let hi := first.getD (argMax first) 0
  decide ((hi - first.foldl min hi) * 100 < 3 * hi) || hi == 0

/-- The rotor angle that the peaks give. -/
def alignAngle (peaks : List Nat) : Nat := pulseDir (argMax (peaks.take 6)) (argMax peaks) * 65536 / 360

/-- ALIGN_DONE (R478 to R480): the peak currents of the twelve pulses in mA, in pulse order. -/
def execAlignDone (m : Fin 3) (peaks : List Nat) : State → Out := onDev (fun d =>
  let m := m.val
  when (d.blState m == 3 && peaks.length == 12) (fun d =>
    match d.openPhase m peaks with
    | some ph => d.blFault m 5 ph
    | none =>
      if alignFlat peaks then d.blFault m 7 0
      else (d.blTo m 4).modMot m (fun x => { x with
        startAng := alignAngle peaks, startSpd := 0, th := alignAngle peaks, w := 0, iA := 0, iB := 0, eA := 0, eB := 0, spdInt := 0,
        dInt := 0, qInt := 0, qRef := 0, cmdX := 0 })) d)

/-- HANDOVER_TIMEOUT (R484): 1 s in START above HO_UP. -/
def execHandoverTimeout (m : Fin 3) : State → Out := onDev (fun d =>
  when (d.blState m.val == 4 && (d.mot m.val).hoAt.any (fun t => d.past t 1000000)) (·.blFault m.val 10 0) d)

/-- STOPPING_DONE (Table 11-2): the speed is below 1 % of RATED, or 5 s have passed. -/
def execStoppingDone (m : Fin 3) : State → Out := onDev (fun d =>
  when (d.blState m.val == 6) (fun d => ((d.blTo m.val 0).setSpeed m.val 0).evalEngine) d)

/-! ### One PWM period -/

/-- An angle modulo one turn. -/
def wrap16 (a : Int) : Int := a % 65536

/-- An angle difference in -32768 to 32767. -/
def wrapS16 (a : Int) : Int := sext (unsext a 16) 16

/-- Phase quantities (U, V, W, with V and W exchanged by MAP_SWAP) in the α-β frame, times 1000: α = (2U - V - W) / 3,
β = (V - W) / √3. -/
def clarke (swap : Bool) (u v w : Int) : Int × Int :=
  let (v, w) := if swap then (w, v) else (v, w)
  ((2 * u - v - w) * 1000 / 3, (v - w) * 1000000 / 1732)

/-- The observer's update (spec/11, "The observer"): currents in mA and voltages in mV of the α-β frame times 1000; i and e are held in
µA and µV, w in mrad/s, th in 2^-16 turn. Every word is rounded by `Config.obsRound`. -/
def Dev.observe (d : Dev) (m : Nat) (va vb ia ib : Int) : Dev :=
  let x := d.mot m
  let f : Int := d.pwmF m
  let rs : Int := d.get (Reg.BL_RL_RS m)
  let lq : Int := atLeast1 (d.get (Reg.BL_RL_LQ m))
  let obw : Int := d.get (Reg.BL_OBS_OBS_BW m)
  let pbw : Int := d.get (Reg.BL_OBS_PLL_BW m)
  let psi : Int := d.get (Reg.BL_PSI_PSI m)
  let wr : Int := roundDivI ((d.get (Reg.BL_MOTOR_RATED m) : Int) * 6588397 * d.poles m) (60 * 2 ^ 20)
  let iHat := fun (h v i e : Int) => h + (v - rs * i / 1000 - e) * 10000 / (lq * f) + 2 * 6588397 * obw * (i - h) / (100 * f * 2 ^ 20)
  let eHat := fun (e i h : Int) => e - 41396114 * obw * obw * lq * (i - h) / (100 * f * 2 ^ 20 * 1000000)
  let c := cos16 x.th.toNat
  let s := sin16 x.th.toNat
  let mag : Int := isqrt (x.eA * x.eA + x.eB * x.eB).toNat
  let den := max 1 (max mag (psi * wr / 20))
  let sg : Int := if x.w < 0 then -1 else 1
  let eps := (-(x.eA * c) - x.eB * s) * sg * 2 ^ 20 / (32767 * den)
  let w := x.w + 41396114 * pbw * pbw * 1000 * eps / (100 * f * 2 ^ 40)
  let th := x.th + x.w * 65536 * 2 ^ 20 / (6588397 * 1000 * 100 * f) + 1414 * pbw * 65536 * eps / (1000 * 100 * f * 2 ^ 20)
  d.modMot m (fun x => { x with
    iA := Config.obsRound 0 (iHat x.iA va ia x.eA), iB := Config.obsRound 1 (iHat x.iB vb ib x.eB),
    eA := Config.obsRound 2 (eHat x.eA ia x.iA), eB := Config.obsRound 3 (eHat x.eB ib x.iB),
    w := Config.obsRound 4 w, th := wrap16 (Config.obsRound 5 th) })

/-- The observer's speed in 0.1 rpm. -/
def Dev.obsSpeed (d : Dev) (m : Nat) : Int := roundDivI ((d.mot m).w * 3 * 2 ^ 20) (5 * 6588397 * d.poles m)

/-- The applied command approaches the selected one (R491). -/
def Dev.ramp (d : Dev) (m target : Nat) : Dev :=
  let x := (d.mot m).cmdX
  let t := target * 65536
  let step := fun (a : Nat) => a * 65536 / (10 * d.pwmF m)
  let y := if x < t then min t (x + step (d.get (Reg.BL_ACC_ACC m))) else max t (x - step (d.get (Reg.BL_ACC_DEC m)))
  (d.modMot m (fun q => { q with cmdX := y })).set (Reg.BL_CMD_NOW_SPEED m) (y / 65536)

/-- The speed loop (R486): the q-current reference in mA, limited to I_MAX; the integrator stops while the limit holds. -/
def Dev.speedLoop (d : Dev) (m : Nat) : Dev :=
  let x := d.mot m
  let lim : Int := d.get (Reg.BL_ILIM_I_MAX m)
  let err := d.blDir m * (x.cmdX / 65536 : Nat) - d.geti (Reg.BL_SPEED_SPEED m)
  let p := (d.get (Reg.BL_SPD_PI_KP m) : Int) * err * 65536 / 2560
  let int := x.spdInt + (d.get (Reg.BL_SPD_PI_KI m) : Int) * err * 8 * 65536 / (2560 * 100 * d.pwmF m)
  let raw := (p + int) / 65536
  d.modMot m (fun q => { q with
    qRef := Config.obsRound 6 (clampI (-lim) lim raw), spdInt := if raw = clampI (-lim) lim raw then Config.obsRound 7 int else q.spdInt })

/-- The current loops and the duties (R486 to R489): `id` and `iq` in mA at the drive's angle `ang`; duties in 2^-16. -/
def Dev.currentLoop (d : Dev) (m ang : Nat) (idRef iqRef id iq : Int) (vm : Nat) : Dev :=
  let x := d.mot m
  let kp : Int := d.get (Reg.BL_CUR_PI_KP m)
  let ki : Int := d.get (Reg.BL_CUR_PI_KI m)
  let f : Int := d.pwmF m
  let dInt := x.dInt + ki * (idRef - id) * 65536 * 10 / (1000 * f)
  let qInt := x.qInt + ki * (iqRef - iq) * 65536 * 10 / (1000 * f)
  let vd := kp * (idRef - id) / 1000 + dInt / 65536
  let vq := kp * (iqRef - iq) / 1000 + qInt / 65536
  let lim : Int := vm * 1000 / 1732
  let mag : Int := isqrt (vd * vd + vq * vq).toNat
  let vd' := if lim < mag then vd * lim / max 1 mag else vd
  let vq' := if lim < mag then vq * lim / max 1 mag else vq
  let c := cos16 ang
  let s := sin16 ang
  let a := (vd' * c - vq' * s) / 32767
  let b := (vd' * s + vq' * c) / 32767
  let u := a
  let v := (-a + b * 1732 / 1000) / 2
  let w := (-a - b * 1732 / 1000) / 2
  let sh := (max u (max v w) + min u (min v w)) / 2
  let vmi : Int := max 1 (vm : Int)
  let dead : Int := clampN 5 200 (d.get (Reg.BL_PWM_DEAD m))
  let lo := 2 * dead * f * 65536 / 1000000
  let duty := fun (k : Nat) (p : Int) =>
    let y := Config.obsRound (10 + k) (clampI 0 65536 (32768 + (p - sh) * 65536 / vmi))
    if y < lo then 0 else if 65536 - lo < y then 65536 else y
  d.modMot m (fun q => { q with
    dInt := Config.obsRound 8 dInt, qInt := Config.obsRound 9 qInt, duty := [duty 0 u, duty 1 v, duty 2 w] })

/-- The start method's angle and speed (R481, R482): under I/F the angle runs on at a speed that ramps at IF_ACC; under HFI both are what
the tracker finds in the current ripple, which the spec does not compute: free values. -/
def Dev.startAngle (d : Dev) (m : Nat) : Dev :=
  if d.flag (Reg.BL_CTL_START_MODE m) then
    let (i, d1) := d.fresh
    let (j, d2) := d1.fresh
    d2.modMot m (fun x => { x with
      startAng := (Config.freeWord i).toNat % 65536, startSpd := sext (Config.freeWord j).toNat 24 * 65536 })
  else
    d.modMot m (fun x =>
      let v := x.startSpd + d.blDir m * ((d.get (Reg.BL_START_IF_ACC m) * 65536 / (10 * d.pwmF m) : Nat) : Int)
      { x with startSpd := v, startAng := wrap16 (x.startAng + v * d.poles m / (60000 * d.pwmF m)) })

/-- R510: over one electrical turn a phase's rms current is compared with the mean of the other two. -/
def Dev.phaseOpen (d : Dev) (m : Nat) (iu iv iw iq : Int) (oldTh : Int) : Dev :=
  let x := d.mot m
  let add := fun (k : Nat) (i : Int) => x.sq.getD k 0 + (i * i).toNat
  let sq := [add 0 iu, add 1 iv, add 2 iw]
  let d1 := d.modMot m (fun q => { q with sq := sq, turnN := x.turnN + 1 })
  if (wrapS16 (x.th - oldTh) < 0 && oldTh < x.th) || (0 ≤ wrapS16 (x.th - oldTh) && x.th < oldTh) then
    let rms := sq.map (fun s => isqrt (s / atLeast1 (x.turnN + 1)))
    let ph := [0, 1, 2].find? (fun k =>
      rms.getD k 0 * 200 < d.get (Reg.BL_CHK_IMBAL_PCT m) * (rms.getD ((k + 1) % 3) 0 + rms.getD ((k + 2) % 3) 0))
    let d2 := d1.modMot m (fun q => { q with sq := [0, 0, 0], turnN := 0 })
    match ph with
    | some k => if d.get (Reg.BL_ILIM_I_MAX m) < 5 * iq.natAbs then d2.blFault m 5 (k + 1) else d2
    | none => d2
  else d1

/-- R492: speed lock. -/
def Dev.speedLock (d : Dev) (m : Nat) : Dev :=
  let cmd := (d.mot m).cmdX / 65536
  let dev := (d.blFwd m - (cmd : Int)).natAbs
  let tol := d.get (Reg.BL_LOCK_LOCK_TOL m) * cmd
  let settled := cmd = d.blSelected m && cmd != 0 && dev * 10000 ≤ tol
  let at0 := if settled then some ((d.mot m).lockAt.getD d.now) else none
  let d1 := d.modMot m (fun x => { x with lockAt := at0 })
  if d.flag (Reg.BL_STAT_SPD_LOCK m) then
    if 4 * tol < dev * 10000 then d1.setSpdLock m false else d1
  else match at0 with
    | some t => if t + d.get (Reg.BL_LOCK_LOCK_T m) * 1000 ≤ d.now then
        d1.setSpdLock m true
      else d1
    | none => d1

/-- What START does at the end of a period (R484). -/
def Dev.startCheck (d : Dev) (m : Nat) : Dev :=
  let x := d.mot m
  if (d.blFwd m) < d.hoUp m then d.modMot m (fun q => { q with hoAt := none })
  else
    let d1 := d.modMot m (fun q => { q with hoAt := some (x.hoAt.getD d.now) })
    let diff := (wrapS16 (x.th - x.startAng)).natAbs
    if diff * 360 ≤ d.get (Reg.BL_HANDOVER_HO_TOL m) * 65536 then d1.blTo m 5
    else d1.addSat (Reg.BL_ERR_HO_MISMATCH m) 1

/-- What RUN does at the end of a period: R485, and STALL after 2 s below HO_DN under I/F restarts (Table 11-9). -/
def Dev.runCheck (d : Dev) (m : Nat) : Dev :=
  let low := d.blFwd m < d.hoDn m && decide (d.hoDn m ≤ (d.mot m).cmdX / 65536)
  if ! low then d.modMot m (fun q => { q with lowAt := none })
  else
    let t := (d.mot m).lowAt.getD d.now
    let d1 := d.modMot m (fun q => { q with lowAt := some t })
    let hfi := d.flag (Reg.BL_CTL_START_MODE m)
    if ! hfi && decide (t + 2000000 ≤ d.now) then d1.blFault m 6 0 else d1.blRestart m (if hfi then 4 else 3)

/-- The start of a period: the samples' rail, the overcurrent run, and STOPPING when RUN is 0 or the command is 0 (Table 11-2, R508). -/
def Dev.periodBegin (d0 : Dev) (m vm : Nat) : Dev :=
  let d1 := (d0.set (Reg.BL_VBUS_VM m) (min vm 65535)).modMot m (fun x => { x with
    periods := x.periods + 1, ocRun := if x.ocNow then x.ocRun else 0, ocNow := false })
  let st := d1.blState m
  if 1 ≤ st && st ≤ 5 && (! d1.flag (Reg.BL_CTL_RUN m) || d1.blSelected m == 0) then d1.blTo m 6 else d1

/-- The estimates of a period: the observer in START, RUN and STOPPING (R483), the start method's angle, and the measured speed. -/
def Dev.periodEstimate (d : Dev) (m : Nat) (iab vab : Int × Int) : Dev :=
  let st := d.blState m
  let d1 := if 4 ≤ st && st ≤ 6 then d.observe m vab.1 vab.2 iab.1 iab.2 else d
  let d2 := if st == 4 then d1.startAngle m else d1
  if st == 4 then d2.setSpeed m ((d2.mot m).startSpd / 65536)
  else if st == 5 || st == 6 then d2.setSpeed m (d2.obsSpeed m) else d2

/-- The gates are driven by the loops: START, RUN, and STOPPING under STOP_MODE 1. -/
def Dev.driven (d : Dev) (m : Nat) : Bool :=
  d.blState m == 4 || d.blState m == 5 || (d.blState m == 6 && (d.mot m).gates == 1)

/-- The angle that drives the motor: the start method's in START, else the observer's (R483). -/
def Dev.driveAngle (d : Dev) (m : Nat) : Nat := if d.blState m == 4 then (d.mot m).startAng.toNat else (d.mot m).th.toNat

/-- The command ramp and the loops of a period (R470, R486, R491). -/
def Dev.periodDrive (d : Dev) (m : Nat) (iab : Int × Int) (vm : Nat) : Dev :=
  let d1 := if d.blState m == 6 then d.ramp m 0 else if d.driven m then d.ramp m (d.blSelected m) else d
  if ! d1.driven m then d1
  else
    let d2 := if (d1.mot m).periods % 8 == 0 then d1.speedLoop m else d1
    let ang := d2.driveAngle m
    let id := (iab.1 * cos16 ang + iab.2 * sin16 ang) / 32767000
    let iq := (iab.2 * cos16 ang - iab.1 * sin16 ang) / 32767000
    let iqRef : Int := if d2.blState m == 4 && ! d2.flag (Reg.BL_CTL_START_MODE m) then
        d2.blDir m * (d2.get (Reg.BL_START_IF_I m) : Int) else (d2.mot m).qRef
    let d3 := d2.currentLoop m ang 0 iqRef id iq vm
    ((d3.seti (Reg.BL_IDQ_IQ m) iq).seti (Reg.BL_IDQ_ID m) id).set (Reg.BL_ANGLE_THETA m) ang

/-- What the states judge at the end of a period. -/
def Dev.periodEnd (d : Dev) (m : Nat) (iu iv iw oldTh : Int) : Dev :=
  let d1 := if d.blState m == 4 then d.startCheck m
    else if d.blState m == 5 then (d.phaseOpen m iu iv iw (d.geti (Reg.BL_IDQ_IQ m)) oldTh).runCheck m
    else d
  let d2 := if d1.blState m == 5 || d1.blState m == 6 then d1.speedLock m else d1
  (d2.boundary (0x25 + m)).engHold

/-- A period with its samples: phase currents in mA, phase voltages in mV, VM_BLDC in mV (R469 to R492). -/
def Dev.pwmPeriod (d : Dev) (m : Nat) (iu iv iw vu vv vw : Int) (vm : Nat) : Dev :=
  let d1 := d.periodBegin m vm
  let swap := d1.flag (Reg.BL_CTL_MAP_SWAP m)
  let iab := clarke swap iu iv iw
  let oldTh := (d1.mot m).th
  ((d1.periodEstimate m iab (clarke swap vu vv vw)).periodDrive m iab vm).periodEnd m iu iv iw oldTh

/-- PWM_PERIOD (R470). -/
def execPwmPeriod (m : Fin 3) (iu iv iw vu vv vw : Int) (vm : Nat) : State → Out := onDev (·.pwmPeriod m.val iu iv iw vu vv vw vm)

/-! ### Faults and supply -/

/-- MOTOR_OVERCURRENT (R508): the gates are off for the rest of the period; eight such periods in a row are OC. -/
def execMotorOvercurrent (m : Fin 3) : State → Out := onDev (fun d =>
  let m := m.val
  when ((d.mot m).gates != 0 && ! (d.mot m).ocNow) (fun d =>
    let n := (d.mot m).ocRun + 1
    let d1 := (d.modMot m (fun x => { x with ocNow := true, ocRun := n, duty := [0, 0, 0] })).addSat (Reg.BL_ERR_OC_PERIODS m) 1
    if 8 ≤ n then d1.blFault m 1 0 else d1) d)

/-- VDS_FAULT (R509): a high or low side of phase U, V or W, or high sides of two phases in one period. -/
def execVdsFault (m : Fin 3) (high : Bool) (phase : Fin 3) (two : Bool) : State → Out := onDev (fun d =>
  when ((d.mot m.val).gates != 0) (fun d =>
    if high && two then d.blFault m.val 4 0 else d.blFault m.val (if high then 2 else 3) (phase.val + 1)) d)

/-- GATE_UV (R511). -/
def execGateUv (m : Fin 3) : State → Out := onDev (·.blFault m.val 8 0)

/-- Motor `m` when VM_BLDC sags or is back (R512). -/
def Dev.vmUv (d : Dev) (low : Bool) (m : Nat) : Dev :=
  let st := d.blState m
  if low then
    if 1 ≤ st ∧ st ≤ 5 then (d.blTo m 6).modMot m (fun x => { x with sag := true, gates := 0 }) else d
  else if st = 6 ∧ (d.mot m).sag ∧ d.flag (Reg.BL_CTL_RUN m) then d.blTo m 1 else d

/-- VM_BLDC_UV (R512): VM_BLDC has been below VM_UV for 1 ms, or is above VM_UV + 1 V again. -/
def execVmBldcUv (low : Bool) : State → Out := onDev (fun d => (List.range 3).foldl (fun d m => d.vmUv low m) d)

/-- BLDC_CLR_FAULT (Table 11-2): a write of BL_CTL with CLR_FAULT set; FAULT goes to OFF when the speed command is 0. The other fields of
the write are stored as REGISTER_WRITE stores them. -/
def execBldcClrFault (l : Land) : State → Out := onDev (fun d =>
  d.land l (fun a v => (List.range 3).any (fun m => Reg.BL_CTL m == a) && bit v.toNat 3) (fun _ a v d =>
    let m := (a - 0x40025000) / 0x1000
    let d1 := (d.store a v.toNat).set (Reg.BL_CTL_CLR_FAULT m) 0
    if d1.blState m = 7 ∧ d1.blSelected m = 0 then ((d1.blTo m 0).faultsOff (0x25 + m)).evalEngine else d1))

/-- REVERSE_STALL (R505): the observer's speed has been negative for 200 ms in RUN under a forward command. -/
def execReverseStall (m : Fin 3) : State → Out := onDev (fun d =>
  when (d.blState m.val == 5 && decide (d.blFwd m.val < 0)) (·.blFault m.val 6 0) d)

/-! ### Direction (R502 to R504) -/

/-- The reference finds the physical direction; `rev`: it is against the command. -/
def Dev.direction (d : Dev) (m : Nat) (rev : Bool) : Dev :=
  if ! rev then (if d.get (Reg.BL_STAT_DIR_RESULT m) = 0 then d.set (Reg.BL_STAT_DIR_RESULT m) 1 else d)
  else if 0 < d.geti (Reg.BL_SPEED_SPEED m) * d.blDir m && 4 ≤ d.blState m && d.blState m ≤ 5 then
    match (d.mot m).corrAt with
    | some t => if d.now < t + 10000000 then d.blFault m 9 0
        else (d.blTo m 6).modMot m (fun x => { x with order := true, gates := 2 })
    | none => (d.blTo m 6).modMot m (fun x => { x with order := true, gates := 2 })
  else d

/-- QUAD_DIRECTION (R502): the sign of the quadrature count over 100 ms, on M2 and M3 with DIR_SRC 2. -/
def execQuadDirection (m : Fin 3) (count : Int) : State → Out := onDev (fun d =>
  let m := m.val
  let balls := d.pmFunc (2 * (m - 1)) == 0 && d.pmFunc (2 * (m - 1) + 1) == 0
  when (m != 0 && d.get (Reg.BL_CTL_DIR_SRC m) == 2 && balls && decide (count ≠ 0)) (fun d =>
    d.direction m (decide (count * d.blDir m < 0))) d)

/-! ### The stored curve (R493 to R495) -/

/-- CURVE_SAMPLE: every 100 ms; `aux` is AUX2 in mV. -/
def execCurveSample (m : Fin 3) (aux : Nat) : State → Out := onDev (fun d =>
  let m := m.val
  let x := match d.get (Reg.BL_CURVE_CURVE_SRC m) with
    | 0 => d.geti (Reg.BL_CURVE_X_X m)
    | 1 => d.geti Reg.PWR_TJ_TJ
    | 2 => d.geti Reg.FU_TEMP_TEMP
    | _ => satI 16 aux
  let d1 := d.seti (Reg.BL_CURVE_X_X_NOW m) x
  let p := 0x25 + m
  if ! d1.curveOk m then
    let d2 := d1.set (Reg.BL_STAT_CURVE_ON m) 0
    if d.get (Reg.BL_CTL_CMD_SRC m) = 1 then d2.faultOn p 2 St.notReady (St.notReadySev p) 0 else d2
  else
    let d2 := d1.faultOff p 2
    let x0 := d.curveX m 0
    if x0 ≤ x then d2.set (Reg.BL_STAT_CURVE_ON m) 1
    else if x < x0 - d.get (Reg.BL_CURVE_HYST m) then d2.set (Reg.BL_STAT_CURVE_ON m) 0
    else d2)

/-! ### Beam-detect fusion and facet-phase lock (R496 to R500) -/

/-- The angle of facet `f` without BD_OFS. -/
def Dev.facetAng (d : Dev) (f : Nat) : Int := (f * d.poles 0 * 65536 / 6 : Nat)

/-- PHASE_ERR of a corrected facet-0 timestamp in sixteenths of a cycle of CLK_SCAN, in 0.1 µs; the grid ticks at the multiples of one
nominal revolution (log entry 18), and not at all while the XO is not QUALIFIED (R785). -/
def Dev.phaseErr (d : Dev) (tc : Int) : Int :=
  let g : Int := max 1 (6 * (d.get Reg.BD_NOM_NOM : Int))
  let x := (tc - (d.get (Reg.BL_PHASE_PH_OFS 0) : Int) * 320) % g
  roundDivI (if g < 2 * x then x - g else x) 320

/-- PHASE_ERR follows every facet-0 BD that is delivered (R443, R499), and stands while the grid has no XO (R785). -/
def Dev.phaseStep (d : Dev) (f : Nat) (tc : Int) : Dev :=
  if f ≠ 0 ∨ d.get Reg.CK_SRC_STAT_XO ≠ 2 then d else d.seti (Reg.BL_PHASE2_PHASE_ERR 0) (satI 16 (d.phaseErr tc))

/-- A qualified BD of facet `f` with its corrected timestamp reaches BLDC1 (R443, R496, R497, R499, R500). -/
def Dev.bdFuse (d0 : Dev) (f : Nat) (tc : Int) : Dev :=
  let d := d0.phaseStep f tc
  if ! d.flag (Reg.BL_FUSE_BD_FUSE_EN 0) || ! d.flag Reg.BD_STAT_INDEXED then d
  else
    let x := d.mot 0
    let ofs : Int := d.get (Reg.BL_FUSE_BD_OFS 0)
    if ! d.flag (Reg.BL_STAT_BD_FUSED 0) then
      let v := wrap16 (x.th - d.facetAng f)
      let base := if x.learnN = 0 then v else ofs
      let sum := x.learnSum + wrapS16 (v - base)
      let n := x.learnN + 1
      let d1 := (d.modMot 0 (fun q => { q with learnN := n, learnSum := sum })).seti (Reg.BL_FUSE_BD_OFS 0) base
      if n < 64 then d1
      else ((d1.seti (Reg.BL_FUSE_BD_OFS 0) (base + roundDivI sum 64)).set (Reg.BL_STAT_BD_FUSED 0) 1).modMot 0 (fun q => { q with rejRun := 0 })
    else
      let err := wrapS16 (ofs + d.facetAng f - x.th)
      let g : Int := d.get (Reg.BL_FUSE_FUSE_G 0)
      let d1 := if 2048 < err.natAbs then
          let n := x.rejRun + 1
          let d' := (d.modMot 0 (fun q => { q with rejRun := n })).addSat (Reg.BL_ERR_FUSE_REJ 0) 1
          if 16 ≤ n then d'.fuseOff else d'
        else
          let rev : Int := atLeast1 (d.get Reg.REV_PERIOD_PERIOD)
          d.modMot 0 (fun q => { q with
            rejRun := 0, th := wrap16 (Config.obsRound 5 (q.th + err * g / 256)),
            w := Config.obsRound 4 (q.w + err * g * 6588397 * 1000 * 6 * 200000000 / (256 * 65536 * 2 ^ 20 * rev)) })
      if f ≠ 0 ∨ ! d1.flag (Reg.BL_STAT_BD_FUSED 0) ∨ d1.get Reg.CK_SRC_STAT_XO ≠ 2 then d1
      else
        let e := d.phaseErr tc
        let lim : Int := d.get (Reg.BL_PHASE2_PH_TRIM 0)
        let d2 := d1.modMot 0 (fun q => { q with
          trimPpm := clampI (-lim) lim (e * d.get (Reg.BL_PHASE_KPH 0) / 10) })
        let tol := d.get (Reg.BL_PHASE_PH_TOL 0)
        let ok := d2.flag (Reg.BL_STAT_SPD_LOCK 0) && e.natAbs ≤ tol
        let at0 := if ok then some (x.phAt.getD d.now) else none
        let d3 := d2.modMot 0 (fun q => { q with phAt := at0 })
        if d3.flag (Reg.BL_STAT_PH_LOCK 0) then (if 4 * tol < e.natAbs then d3.setPhLock false else d3)
        else match at0 with
          | some t => if t + d.get (Reg.BL_LOCK_LOCK_T 0) * 1000 ≤ d.now then d3.setPhLock true else d3
          | none => d3

end Sys2Proof.Machine
end

