-- ==== Sys2Proof/Machine/Steppers.lean ====
section
/-! DEFINITION. Stepper axes (spec/12_steppers_path.md, "Axes" to "Stepper S4 in DC mode"): profile segments and their closed forms,
current, bridge faults, parking, and the DC mode of S4. PROFILE_TICK stands in Motion.lean, with what the path and the head do at
a tick. -/

set_option linter.unusedVariables false

namespace Sys2Proof.Machine

/-! ### Closed forms (Table 12-3) -/

/-- π × 2^80. -/
def pi80 : Nat := 3797952473636338580787993

/-- Taylor terms of the sine of `y` (× 2^80): `t` is the last term, `y2` the square of the argument. -/
def sinTerms (y2 : Int) : Nat → Nat → Int → Int
  | 0, _, _ => 0
  | f + 1, n, t => t + sinTerms y2 f (n + 2) (-(t * y2 / 2 ^ 80) / ((n + 1) * (n + 2)))

/-- sin(π a / b) × 2^80 for 0 ≤ a ≤ b. -/
def sinPi (a b : Nat) : Int :=
  let a' := min a (b - a)
  let y : Int := pi80 * a' / atLeast1 b
  if a' = 0 then 0 else sinTerms (y * y / 2 ^ 80) 24 1 y

/-- cos(π a / b) × 2^80 for 0 ≤ a ≤ b. -/
def cosPi (a b : Nat) : Int := if 2 * a ≤ b then sinPi (b - 2 * a) (2 * b) else -(sinPi (2 * a - b) (2 * b))

/-- Microsteps travelled at tick `k` of a segment with start velocity `v0`, rounded with halves away from zero (R517, Table 12-3). A tick
is 1/50,000 s. -/
def segTravel (g : Seg) (v0 : Int) (k : Nat) : Int :=
  let t : Int := atLeast1 g.ticks
  let dv := g.vEnd - v0
  let s : Int := k
  match g.kind with
  | 1 => roundDivI (2 * v0 * s * t + dv * s * s) (100000 * t)
  | 2 => roundDivI (2 * v0 * s * (pi80 : Int) + dv * (s * (pi80 : Int) - t * sinPi k g.ticks)) (100000 * (pi80 : Int))
  | 3 =>
    let t3 := t * t * t
    roundDivI (2 * v0 * s * t3 * t * t + dv * (5 * s ^ 4 * t * t - 6 * s ^ 5 * t + 2 * s ^ 6)) (100000 * t3 * t * t)
  | _ => roundDivI (v0 * s) 50000

/-- The velocity at tick `k`, in whole microsteps/s. -/
def segVel (g : Seg) (v0 : Int) (k : Nat) : Int :=
  let t : Int := atLeast1 g.ticks
  let dv := g.vEnd - v0
  let s : Int := k
  match g.kind with
  | 1 => v0 + roundDivI (dv * s) t
  | 2 => v0 + roundDivI (dv * (2 ^ 80 - cosPi k g.ticks)) (2 * 2 ^ 80)
  | 3 => v0 + roundDivI (dv * (10 * s ^ 3 * t * t - 15 * s ^ 4 * t + 6 * s ^ 5)) (t ^ 5)
  | _ => v0

/-! ### Position, index and current -/

/-- The electrical index of a position (spec/12, "Microsteps and current"). -/
def Dev.indexOf (d : Dev) (i : Nat) (pos : Int) : Nat :=
  ((if d.flag (Reg.ST_CTL_DIR_INV i) then -pos else pos) % 1024).toNat

/-- Give an axis a commanded position and its index. -/
def Dev.setPos (d : Dev) (i : Nat) (pos : Int) : Dev :=
  (d.seti (Reg.ST_POS_POS i) pos).set (Reg.ST_INDEX_INDEX i) (d.indexOf i pos)

/-- The commanded position. -/
def Dev.pos (d : Dev) (i : Nat) : Int := d.geti (Reg.ST_POS_POS i)

/-- The steps to the nearest index ≡ 128 (mod 256); of two equally near, the higher. -/
def toStable (idx : Nat) : Int := (128 - idx : Int) - 256 * ((128 - idx : Int) + 127).fdiv 256

/-- Move an axis to the nearest stable index. -/
def Dev.stabilise (d : Dev) (i : Nat) : Dev :=
  let s := toStable (d.get (Reg.ST_INDEX_INDEX i))
  d.setPos i (d.pos i + (if d.flag (Reg.ST_CTL_DIR_INV i) then -s else s))

/-- The coil current in mA (R524): I_BOOST in a blend, I_HOLD once at rest for HOLD_DLY, else I_RUN. -/
def Dev.coilI (d : Dev) (i : Nat) : Nat :=
  let ma := fun (f : Fld) => min 250 (d.get f) * 10
  if d.flag (Reg.ST_STAT_BOOST i) then ma (Reg.ST_CUR_I_BOOST i)
  else match (d.ax i).stillAt with
    | some t => if t + d.get (Reg.ST_CUR_HOLD_DLY i) * 10000 ≤ d.now then ma (Reg.ST_CUR_I_HOLD i) else ma (Reg.ST_CUR_I_RUN i)
    | none => ma (Reg.ST_CUR_I_RUN i)

/-- The index that sets the current with MRES (R523). -/
def Dev.coilQ (d : Dev) (i : Nat) : Nat :=
  let m := min 8 (d.get (Reg.ST_CTL_MRES i))
  let x := d.get (Reg.ST_INDEX_INDEX i)
  if m = 0 then x else x / 2 ^ m * 2 ^ m + 2 ^ (m - 1)

/-- The current targets of bridges A and B in mA, by the table of R487 (R523). -/
def Dev.coilTargets (d : Dev) (i : Nat) : Int × Int :=
  let c : Int := d.coilI i
  (c * sineAt (d.coilQ i) / 32767, c * sineAt (d.coilQ i + 256) / 32767)

/-! ### Faults -/

/-- The token issued first of those in the path, 0 for none (R560). -/
def Dev.firstToken (d : Dev) : Nat :=
  let live := d.path.slots.filter (fun s => s.state != 0)
  match live with
  | [] => 0
  | s :: ss => (ss.foldl (fun a b => if b.pickAt < a.pickAt then b else a) s).token

/-- The jam, with the end of SAFE_FINISH where that state holds (R900). -/
def Dev.jamNow (d : Dev) (token cause sensor : Nat) : Dev :=
  if d.flag Reg.PT_JAM_ACTIVE then d
  else
    let d1 := d.jam token cause sensor
    if d1.lockMode = 1 then d1.safeCause 12 0 else d1

/-- An axis enters FAULT (R529): the bridges go off; S1, S2 and S4 in role EXIT jam the path, S3 puts the thermal engine in FAULT. -/
def Dev.axFault (d : Dev) (i cause bridge : Nat) : Dev :=
  if d.axState i = 4 then d
  else
    let exit := i < 2 || (i == 3 && d.flag (Reg.ST_CTL_ROLE 3))
    let sev := if exit || i == 2 then 3 else 0
    let det := cause + bridge * 16
    let p := 0x28 + i
    let d1 := (((d.axOff i 4).raise p 0xF St.stepperFault sev det).fireRaw p 1).faultOn p 1 St.stepperFault sev det
    if exit then d1.jamNow d1.firstToken 11 0
    else if i = 2 then d1.headFault 9 St.headFault
    else d1

/-- BRIDGE_TRIP (R526): a bridge current above 3.5 A; the class is 1 OC, 2 SHORT_GND, 3 SHORT_VM or 4 COIL_SHORT. -/
def execBridgeTrip (i : Fin 4) (cause : Fin 4) (b : Bool) : State → Out := onDev (fun d =>
  when ((d.ax i.val).drive) (fun d =>
    (d.addSat (Reg.ST_ERR_OC_EVENTS i.val) 1).axFault i.val (cause.val + 1) (b2n b)) d)

/-- COIL_OPEN (R527): eight chopper periods of a bridge whose target is at least 200 mA never reach half of it. -/
def execCoilOpen (i : Fin 4) (b : Bool) : State → Out := onDev (fun d =>
  let t := d.coilTargets i.val
  when ((d.ax i.val).drive && decide (200 ≤ (if b then t.2 else t.1).natAbs)) (·.axFault i.val 5 (b2n b)) d)

/-- VM_STEP_UV (R528): VM_STEP has been below 6.5 V for 1 ms. -/
def execVmStepUv : State → Out := onDev (fun d => (List.range 4).foldl (fun d i => d.axFault i 6 0) d)

/-! ### Posting segments (R516, R518, R520, R521, R897) -/

/-- The segment in MS_SEG0 to MS_SEG3. -/
def Dev.segWord (d : Dev) : Seg :=
  let w := d.reg (Reg.MS_SEG 0)
  ⟨w % 8, bit w 6, bit w 7, w / 65536, sext (d.reg (Reg.MS_SEG 1)) 32, d.reg (Reg.MS_SEG 2) % 2 ^ 24, d.reg (Reg.MS_SEG 3)⟩

/-- Whether a post is refused: by R520, or in SAFE_FINISH for a TAG that is no snapshot token (R897). -/
def Dev.postRefused (d : Dev) (axis : Nat) (g : Seg) : Bool :=
  8 ≤ (d.ax axis).queue.length || 5 ≤ g.kind || (g.kind != 0 && g.ticks == 0) || 1000000 < g.vEnd.natAbs ||
  (d.lockMode == 1 && (g.tag == 0 || ! d.lock.snap.contains g.tag))

/-- GO posts the segment. -/
def Dev.postSeg (d : Dev) : Dev :=
  let axis := bitsOf (d.reg (Reg.MS_SEG 0)) 4 2
  let g := d.segWord
  if d.postRefused axis g then d.set Reg.MS_POST_POST_REFUSED 1
  else if g.kind = 4 ∧ ! g.startEn then (d.modAx axis (fun a => { a with queue := [g] })).axSync axis
  else d.axPost axis g

/-- A write to MS_POST with GO that posts a segment of kind `k`; a tenant's has no effect (R516). -/
def Dev.landPost (d : Dev) (l : Land) (k : Nat) : Dev :=
  d.land l (fun a v => a == Reg.MS_POST && bit v.toNat 0 && d.reg (Reg.MS_SEG 0) % 8 == k) (fun ag a v d =>
    if ag = .fw then (d.store a v.toNat).postSeg else d)

/-- SEG_CRUISE. -/
def execSegCruise (l : Land) : State → Out := onDev (fun d => d.landPost l 0)

/-- SEG_LINEAR. -/
def execSegLinear (l : Land) : State → Out := onDev (fun d => d.landPost l 1)

/-- SEG_SINE. -/
def execSegSine (l : Land) : State → Out := onDev (fun d => d.landPost l 2)

/-- SEG_QUINTIC. -/
def execSegQuintic (l : Land) : State → Out := onDev (fun d => d.landPost l 3)

/-- SEG_STOP (R521). -/
def execSegStop (l : Land) : State → Out := onDev (fun d => d.landPost l 4)

/-! ### One profile tick of one axis -/

/-- The axis stands still and holds (R519). -/
def Dev.axHold (d : Dev) (i : Nat) : Dev :=
  ((d.modAx i (fun a => { a with cur := none, vel := 0, stillAt := some (a.stillAt.getD d.now) })).set (Reg.ST_STAT_BOOST i) 0).axTo i 1

/-- A START that has already passed when its segment starts counts (R518); EVT fires SEG_EVT (Table 12-2). -/
def Dev.segTold (d : Dev) (i : Nat) (g : Seg) : Dev :=
  let d1 := if g.startEn && decide (20 ≤ (d.now % 2 ^ 32 - g.start : Int) % 2 ^ 32) then d.addSat (Reg.ST_ERR_LATE_START i) 1 else d
  if g.evt then d1.fire 0x2C 0 g.tag else d1

/-- A STOP (R521): velocity 0, and every segment queued behind it is discarded. -/
def Dev.segHalt (d : Dev) (i : Nat) (g : Seg) : Dev :=
  let d1 := ((d.boundary (0x28 + i)).modAx i (fun a => { a with queue := [], vel := 0, stillAt := none })).axHold i
  (d1.segTold i g).fire (0x28 + i) 2 0

/-- A segment starts at the present position and velocity (R518): the axis's shadows are taken, EVT fires SEG_EVT. -/
def Dev.segStart (d : Dev) (i : Nat) (g : Seg) : Dev :=
  let a := d.ax i
  let d1 := ((d.boundary (0x28 + i)).modAx i (fun a => { a with
    cur := some (g, d.pos i, a.vel, 0), queue := a.queue.tail, stillAt := none })).setb (Reg.ST_STAT_BOOST i) (1 ≤ g.kind && g.kind ≤ 3)
  (d1.segTold i g).axTo i 2

/-- Move on to the next queued segment when it may start: at once, or at its START. -/
def Dev.segNext (d : Dev) (i : Nat) : Dev :=
  match (d.ax i).queue with
  | [] => if (d.ax i).vel = 0 then d.axHold i else d
  | g :: rest =>
    if g.startEn && ! decide ((d.now % 2 ^ 32 - g.start : Int) % 2 ^ 32 < 2 ^ 31) then (if (d.ax i).vel = 0 then d.axHold i else d)
    else if g.kind = 4 then d.segHalt i g
    else
      let d1 := d.segStart i g
      if rest = [] then d1.fire (0x28 + i) 2 0 else d1

/-- Advance the running segment by one tick. -/
def Dev.axAdvance (d : Dev) (i : Nat) : Dev :=
  match (d.ax i).cur with
  | none => d.segNext i
  | some (g, p0, v0, k) =>
    let k1 := k + 1
    let d1 := d.setPos i (p0 + segTravel g v0 k1)
    let open' := g.kind == 0 && g.ticks == 0
    if ! open' && k1 < g.ticks then d1.modAx i (fun a => { a with cur := some (g, p0, v0, k1), vel := segVel g v0 k1 })
    else
      let v := if g.kind = 0 then v0 else g.vEnd
      let p := d1.pos i
      let idle : Option (Seg × Int × Int × Nat) := if v = 0 then none else if open' then some (g, p0, v0, k1) else
        some (segOf 0 v 0 g.tag, p, v, 0)
      let d2 := (d1.modAx i (fun a => { a with cur := idle, vel := v })).set (Reg.ST_STAT_BOOST i) 0
      d2.segNext i

/-- One tick (R517 to R521). A STOP without START at the head of the queue takes effect at once, one with START waits for it (R518); else the running segment advances, and where it has
ended, or an open CRUISE or standstill lasts only until the next segment, the next may start. -/
def Dev.axTick (d : Dev) (i : Nat) : Dev :=
  let a := d.ax i
  if ! a.drive || a.ramp != 0 || (i == 3 && d.s4Dc) then
    if a.ramp = 1 ∧ toStable (d.get (Reg.ST_INDEX_INDEX i)) ≠ 0 then
      let s := toStable (d.get (Reg.ST_INDEX_INDEX i))
      let u : Int := if s < 0 then -1 else 1
      d.setPos i (d.pos i + (if d.flag (Reg.ST_CTL_DIR_INV i) then -u else u))
    else d
  else
    match a.queue with
    | g :: _ =>
      if g.kind = 4 && ! g.startEn then (d.segHalt i g).axSync i
      else (d.axAdvance i).axSync i
    | [] => (d.axAdvance i).axSync i

/-! ### Driver enable, parking and retention (R530 to R535) -/

/-- Where no profile segment runs on an axis its STEP page takes its shadows at once; DRV_EN at 0 turns the bridges off (R533). -/
def Dev.stepShadow (d : Dev) (i : Nat) : Dev :=
  let d1 := if (d.ax i).cur.isNone then d.boundary (0x28 + i) else d
  if (d1.ax i).drive && ! d1.flag (Reg.ST_CTL_DRV_EN i) then d1.axOff i 0 else d1

/-- What a write of ST_CTL does: the fields are stored, CLR_FAULT moves FAULT to OFF, PARK starts a park in HOLD and has no effect
elsewhere (R530). -/
def Dev.stCtl (d : Dev) (i : Nat) (v : Nat) : Dev :=
  let d1 := (((d.store (Reg.ST_CTL i) v).set (Reg.ST_CTL_CLR_FAULT i) 0).set (Reg.ST_CTL_PARK i) 0).stepShadow i
  let d2 := if bit v 4 && d1.axState i == 4 then ((d1.axTo i 0).faultsOff (0x28 + i)).evalEngine else d1
  if bit v 3 && d2.axState i == 1 && (d2.ax i).ramp == 0 then
    (d2.set (Reg.ST_CTL_PARK i) 1).modAx i (fun a => { a with ramp := 1, rampAt := d.now, queue := [] })
  else d2

/-- The axis whose ST_CTL is at `a`. -/
def stCtlOf (a : Nat) : Option Nat := (List.range 4).find? (fun i => Reg.ST_CTL i == a)

/-- PARK (R530): a write of ST_CTL with PARK set. -/
def execPark (l : Land) : State → Out := onDev (fun d =>
  d.land l (fun a v => (stCtlOf a).isSome && bit v.toNat 3) (fun _ a v d =>
    match stCtlOf a with
    | some i => d.stCtl i v.toNat
    | none => d))

/-- PARK_DONE (R530): the index is stable, the current has ramped to 0, the bridges go off. -/
def execParkDone (i : Fin 4) : State → Out := onDev (fun d =>
  let i := i.val
  when ((d.ax i).ramp == 1 && d.past (d.ax i).rampAt 10000) (fun d =>
    let d1 := (d.stabilise i).modAx i (fun a => { a with ramp := 0, drive := false, cur := none, vel := 0, queue := [] })
    (((d1.set (Reg.ST_STAT_POS_STATE i) 1).set (Reg.ST_CTL_PARK i) 0).axSync i).axTo i 3) d)

/-- ENERGISE (R532, R534): with DRV_EN set and VM_STEP up, an axis that is OFF or PARKED energises at its retained index, or when its
position is lost at the nearest stable one; S4 stays LOST until its home sensor is found. -/
def execEnergise (i : Fin 4) : State → Out := onDev (fun d =>
  let i := i.val
  let d0 := d.stepShadow i
  let st := d0.axState i
  if (st = 0 ∨ st = 3) ∧ d0.flag (Reg.ST_CTL_DRV_EN i) ∧ d0.get (Reg.CH_STAT_PG 5) = 1 ∧ ! (d0.ax i).drive then
    let lost := d0.get (Reg.ST_STAT_POS_STATE i) = 2
    let d1 := if lost then d0.stabilise i else d0
    let d2 := d1.modAx i (fun a => { a with drive := true, ramp := 0, vel := 0, cur := none, stillAt := some d.now })
    (if lost ∧ i = 3 then d2 else d2.set (Reg.ST_STAT_POS_STATE i) 0).axTo i 1
  else d0)

/-! ### Stepper S4 in DC mode (R536 to R538) -/

/-- ST_DC_WRITE: a write of ST_DC of STEP4; STALLED clears when DUTY is written. In DC mode no segment runs and the fields act at
once. -/
def execStDcWrite (l : Land) : State → Out := onDev (fun d =>
  d.land l (fun a _ => a == Reg.ST_DC 3) (fun _ a v d =>
    let d1 := (d.store a v.toNat).stepShadow 3
    d1.set (Reg.ST_DC_STAT_STALLED 3) 0))

/-- DC_STALL (R537): the current, in mA, has stayed at DC_ILIM for STALL_T. -/
def execDcStall (i : Nat) : State → Out := onDev (fun d =>
  when (d.s4Dc && d.get (Reg.ST_DC_DUTY 3) != 0 && ! d.flag (Reg.ST_DC_BRAKE 3)) (fun d =>
    let d1 := ((d.set (Reg.ST_DC_STAT_I 3) (min i 65535)).set (Reg.ST_DC_STAT_STALLED 3) 1).set (Reg.ST_DC_BRAKE 3) 1
    (d1.raise 0x2B 0xF St.stepperFault 0 7).fireRaw 0x2B 3) d)

end Sys2Proof.Machine
end

