-- ==== Sys2Proof/Machine/PathOps.lean ====
section
/-! DEFINITION. The paper path (spec/12_steppers_path.md, "Paper sensors" to "Jams", R635): the pick, the sensors' samples with
debouncing and faults, tracked edges and their windows, covers, jams and reconciliation. -/

set_option linter.unusedVariables false

namespace Sys2Proof.Machine

/-! ### Windows (R552 to R555, Table 12-5) -/

/-- The window [open, close] around `e / den` after a reference instant, of half-width `h / den`: the whole microseconds inside it. -/
def winOf (ref : Nat) (e h den : Int) : Nat × Nat := ((ref - (h - e).fdiv den).toNat, (ref + (e + h).fdiv den).toNat)

/-- Half-width of an edge after travel `d` (0.1 mm), in units of 1/1000 of the time of 1 mm (R552). -/
def Dev.halfOf (d : Dev) (dist : Int) : Int := dist * d.get Reg.PT_WIN_WIN_PCT + 100 * d.get Reg.PT_WIN_WIN_MM

/-- The nominal pick speed in mm/s. -/
def Dev.pickV (d : Dev) : Nat := atLeast1 (d.get Reg.PT_FEED_PICK_V)

/-- T_PICKACC in ms. -/
def Dev.pickAcc (d : Dev) : Nat := atLeast1 (d.get Reg.PT_FEED_T_PICKACC)

/-- T_LAUNCH in ms. -/
def Dev.launchT (d : Dev) : Nat := clampN 2 10 (d.get Reg.PT_FEED_T_LAUNCH)

/-- A speed of `num / den` mm/s of an axis, in microsteps/s. -/
def Dev.stepV (d : Dev) (i num den : Nat) : Nat := roundDiv (num * d.reg (Reg.ST_SCALE i)) (65536 * den)

/-- A tracked edge `c` whose travel is 0 or less is not tracked: its window has closing 0 and is never judged (R553). -/
def untracked (c : Nat) : Nat × Nat × Nat := (c, 0, 0)

/-- The PICK leading window of a pick at `now` (R552: the expected instant follows the commanded profile, a SINE blend over T_PICKACC and
then a CRUISE at PICK_V). -/
def Dev.pickWindow (d : Dev) : Nat × Nat × Nat :=
  let dist := d.get Reg.PT_GEOM0_PICK_TO_SNS
  let v := d.pickV
  let t := d.pickAcc
  if dist = 0 then untracked 1
  else if v * t ≤ 200 * dist then
    let w := winOf d.now (t * 500 * v + dist * 100000) (d.halfOf dist * 1000) v
    (1, w.1, w.2)
  else
    let g := segOf 2 (1000000 * v : Nat) (t * 50) 0
    let k := ((List.range (t * 50 + 1)).find? (fun k => decide ((dist * 100000 : Int) ≤ segTravel g 0 k))).getD (t * 50)
    let w := winOf d.now (20 * k * v : Nat) (d.halfOf dist * 1000) v
    (1, w.1, w.2)

/-- The REG leading window relative to the PICK leading edge. -/
def Dev.regRel (d : Dev) : Nat × Nat × Nat :=
  let dist : Int := (d.get Reg.PT_GEOM0_SNS_TO_REG : Int) - d.get Reg.PT_GEOM1_REG_SNS_OFS
  if dist ≤ 0 then untracked 2
  else
    let w := winOf 0 (dist * 100000) (d.halfOf dist * 1000) d.pickV
    (2, w.1, w.2)

/-- A window of cause `c` after travel `dist` at speed(`g`) from the instant `ref` (Table 12-5). -/
def Dev.gearWindow (d : Dev) (c ref g : Nat) (dist : Int) : Nat × Nat × Nat :=
  if dist ≤ 0 then untracked c
  else
    let w := winOf ref (dist * 500 * (g + 1)) (d.halfOf dist * 5 * (g + 1)) 2
    (c, w.1, w.2)

/-! ### Slots in the order of issue -/

/-- Insert a slot by the instant of its pick. -/
def Dev.insSlot (d : Dev) (i : Nat) : List Nat → List Nat
  | [] => [i]
  | j :: js => if (d.slot i).pickAt < (d.slot j).pickAt then i :: j :: js else j :: d.insSlot i js

/-- The slots whose token moves or waits in the path, first issued first. In SAFE_FINISH only snapshot tokens move (R897), and only
their windows are judged. -/
def Dev.liveSlots (d : Dev) : List Nat :=
  ((List.range 4).filter (fun i =>
    1 ≤ (d.slot i).state && (d.slot i).state ≤ 5 && (d.lockMode != 1 || d.lock.snap.contains (d.slot i).token))).foldl
    (fun l i => d.insSlot i l) []

/-- A condition that jams the path (R557): the instant of its token's pick (a huge one where no token decides), token, cause and
sensor. -/
abbrev JamCond := Nat × Nat × Nat × Nat

/-- The condition of a slot's token. -/
def Dev.condOf (d : Dev) (s cause sensor : Nat) : JamCond := ((d.slot s).pickAt, (d.slot s).token, cause, sensor)

/-- A condition without a token: last of all. -/
def strayCond (cause sensor : Nat) : JamCond := (2 ^ 70, 0, cause, sensor)

/-- The condition that decides: the one whose token was issued first, the first of equals (R560). -/
def decideCond : List JamCond → Option JamCond
  | [] => none
  | c :: cs => match decideCond cs with
    | some w => if w.1 < c.1 then some w else some c
    | none => some c

/-! ### The pick (R545, R546, R554) -/

/-- The sheet the laser scheduler has selected and whose pick is not issued. -/
def Dev.picked (d : Dev) : Option Sheet := d.sheets.find? (fun s => s.selected && s.state == .queued)

/-- Bit `i` of OCC. -/
def Dev.occ (d : Dev) (i : Nat) : Bool := bit (d.get Reg.PT_SNS_STAT_OCC) i

/-- Bit `i` of FAULTED. -/
def Dev.snsFaulted (d : Dev) (i : Nat) : Bool := bit (d.get Reg.PT_SNS_STAT_FAULTED) i

/-- MODE of an input; 3 acts as 0. -/
def Dev.snsMode (d : Dev) (i : Nat) : Nat := d.get (Reg.PT_SNS_CFG_MODE i) % 3

/-- TRAY reads occupied; an input whose MODE is off reads occupied (R544). -/
def Dev.trayOcc (d : Dev) : Bool := d.snsMode 0 == 0 || d.occ 0

/-- The pick may be issued: R546, with the engine running, no jam, no safe state, no power-fail warning and no BSCAN (R897, R769, R1013,
Table 1-1). -/
def Dev.pickReady (d : Dev) : Bool :=
  d.axState 0 == 1 && (d.ax 0).ramp == 0 && ! d.occ 1 && ! d.snsFaulted 1 && d.trayOcc && d.path.slots.any (fun s => s.state == 0) &&
  d.lockMode == 0 && ! d.flag Reg.DBG_STAT_BSCAN && (d.laserState == LasSt.ready || d.laserState == LasSt.printing) &&
  ! d.engine.stopAfter && ! d.flag Reg.PF_STAT_PFW

/-- The pick of sheet `s` into free slot `i`: the token (R545), its first windows, the segments of S1 and the sheet's transition. -/
def Dev.pickSheet (d : Dev) (s : Sheet) (i : Nat) : Dev :=
  let n := (d.get Reg.TOK_ISSUED_COUNT + 1) % 2 ^ 32
  let tok := (n + 254) % 255 + 1
  let v := d.stepV 0 d.pickV 1
  let d1 := (d.set Reg.TOK_ISSUED_COUNT n).addWrap Reg.TOK_PATH_EXPECTED 1
  let d2 := d1.modSlot i (fun _ => { Slot.reset with
    token := tok, state := 1, ten := s.tenant, epoch := s.epoch, job := s.job, index := s.index, length := s.length, pickAt := d.now,
    wins := [d.pickWindow], rel := [d.regRel], expected := true })
  let d3 := (d2.axPost 0 ⟨2, false, false, tok, v, d.pickAcc * 50, 0⟩).axPost 0 (segOf 0 v 0 tok)
  let d4 := d3.modSheet s (fun x => { x with state := .staged, token := tok, order := n, selected := false })
  let d5 := d4.sheetEvent { s with token := tok } SheetState.staged.code St.ok
  if d5.laserState = LasSt.ready then d5.setLas LasSt.printing else d5

/-- PICK_ISSUE (R546). -/
def execPickIssue : State → Out := onDev (fun d =>
  match d.picked with
  | none => d
  | some s =>
    match (List.range 4).find? (fun i => (d.slot i).state == 0) with
    | none => d
    | some i => if d.pickReady then d.pickSheet s i else d)

/-! ### Edges on time (R547, R548, R551, R552) -/

/-- The window of cause `c` among those that wait for their reference starts at `ts`. -/
def Slot.activate (t : Slot) (c ts : Nat) : Slot :=
  { t with
    wins := t.wins ++ ((t.rel.filter (·.1 == c)).map (fun w => if w.2.2 = 0 then w else (w.1, ts + w.2.1, ts + w.2.2))),
    rel := t.rel.filter (·.1 != c) }

/-- S1 stops so that it moves REG_SNS_OFS + BUCKLE beyond the edge at `ts` (R548). The blend lasts T_PICKACC, or less where the distance
is shorter than that blend covers (log entry 19). -/
def Dev.regStop (d : Dev) (tok ts : Nat) : Dev :=
  let dist := d.get Reg.PT_GEOM1_REG_SNS_OFS + d.get Reg.PT_GEOM1_BUCKLE
  let v := d.pickV
  let t := d.pickAcc
  if v * t ≤ 200 * dist then
    d.axPost 0 ⟨2, true, false, tok, 0, t * 50, (ts + roundDiv (dist * 100000) v - t * 500) % 2 ^ 32⟩
  else d.axPost 0 ⟨2, true, false, tok, 0, atLeast1 (roundDiv (dist * 10000) v), ts % 2 ^ 32⟩

/-- A gear change that waits starts once no sheet is COMMITTED, IMAGING or FUSING (R33, R34). -/
def Dev.tryShift (d : Dev) : Dev :=
  let g := d.engine.pendGear
  if g = 0 ∨ d.anyCommitted then d
  else
    let d1 := (d.gearTarget g).set Reg.PC_STAT_SHIFTING 1
    { d1 with engine := { d1.engine with pendGear := 0 } }

/-- The sheet's EXIT trailing edge: it exits (Table 1-2), its slot is freed and the books move (R545, R895). -/
def Dev.exitSlot (d : Dev) (i : Nat) : Dev :=
  let d1 := (d.addWrap Reg.TOK_EXITED_COUNT 1).set Reg.TOK_PATH_IN_PATH (d.get Reg.TOK_PATH_IN_PATH - 1)
  let d2 := (d1.lifeAdd 2 1).lifeSub 10 (d.slot i).length 10000
  let d3 := match d2.slotSheet i with
    | some s => d2.finishSheet s (if s.blank then .spoiledBlank else if s.spoil then .spoiled else .ejected)
    | none => d2
  (d3.freeSlot i true).pathCleared.tryShift

/-- What an on-time edge of cause `c` with timestamp `ts` does to slot `i`. -/
def Dev.onTime (d : Dev) (i c ts : Nat) : Dev :=
  let d0 := d.modSlot i (fun t => { t with wins := t.wins.filter (·.1 != c) })
  let tok := (d.slot i).token
  match c with
  | 1 =>
    ((d0.addWrap Reg.TOK_PATH_IN_PATH 1).set Reg.TOK_PATH_EXPECTED (d0.get Reg.TOK_PATH_EXPECTED - 1)).modSlot i (fun t =>
      { t.activate 2 ts with state := 2, expected := false })
  | 2 => (d0.regStop tok ts).modSlot i (fun t => { t with stopping := true })
  | 3 => d0.modSlot i (fun t => { t.activate 6 ts with state := 5 })
  | 4 =>
    d0.axPost 0 ⟨2, true, false, tok, 0, d.launchT * 50,
      (ts + d.get Reg.PT_GEOM1_PICK_RUNOUT * 250 * ((d.slot i).gear + 1)) % 2 ^ 32⟩
  | 6 => d0.exitSlot i
  | _ => d0

/-- A change of PICK, REG or EXIT (`i` 1 to 3) with timestamp `ts` (R555, R557). An edge after the closing of its window waits for the
judgement. -/
def Dev.takeEdge (d : Dev) (i : Nat) (lead : Bool) (ts : Nat) : Dev × List JamCond :=
  let c := if lead then i else i + 3
  match d.liveSlots.find? (fun s => (d.slot s).wins.any (·.1 == c)) with
  | none => if d.engineOn then (d.addSat Reg.PT_CNT_STRAYS 1, [strayCond 8 i]) else (d, [])
  | some s =>
    match (d.slot s).wins.find? (·.1 == c) with
    | none => (d, [])
    | some (_, o, cl) =>
      if cl = 0 ∨ (o ≤ ts ∧ ts ≤ cl) then (d.onTime s c ts, [])
      else if ts < o then (d, [d.condOf s 7 i])
      else (d, [])

/-! ### Samples of the sensors (R539 to R544) -/

/-- DEB of an input. -/
def Dev.debOf (d : Dev) (i : Nat) : Nat := atLeast1 (d.get (Reg.PT_SNS_CFG_DEB i))

/-- What an input reads in this sample (R540, R544). -/
def Dev.reading (d : Dev) (i : Nat) (x : SnsIn) : Bool :=
  let level := min 1023 (x.lit - x.dark)
  let th := d.get (Reg.PT_SNS_CFG_TH i)
  let hys := d.get (Reg.PT_SNS_CFG_HYS i)
  if i = 5 ∧ d.pmFunc 5 ≠ 0 then false
  else match d.snsMode i with
  | 0 => i == 0
  | 1 => x.low
  | _ =>
    if d.flag (Reg.PT_SNS_CFG_POL i) then (if d.occ i then th < level + hys else th < level)
    else (if d.occ i then level < th + hys else level < th)

/-- The fault an input shows in this sample (R542). -/
def Dev.snsKind (d : Dev) (i : Nat) (x : SnsIn) : Nat :=
  if d.snsMode i ≠ 2 then 0
  else if x.ledOpen then 1
  else if x.ledShort then 2
  else if x.bias < 20 then 3
  else if 1000 < x.bias then 4
  else 0

/-- An input's filter. -/
def Dev.sns (d : Dev) (i : Nat) : Sns := d.path.sns.getD i Sns.reset

/-- Change an input's filter. -/
def Dev.modSns (d : Dev) (i : Nat) (f : Sns → Sns) : Dev := { d with path := { d.path with sns := lmod d.path.sns i f } }

/-- SNS4 becomes occupied: HOME fires, and with HOME_STOP the DC motor is braked (R538). -/
def Dev.homeFound (d : Dev) : Dev :=
  let d1 := ((d.fire 0x2B 4 0).homingDone).modHead (fun h => { h with cutOn := if h.cutOn = 1 then 2 else h.cutOn })
  if d.s4Dc && d.flag (Reg.ST_CTL_HOME_STOP 3) then d1.set (Reg.ST_DC_BRAKE 3) 1 else d1

/-- A debounced change of input `i` with the time of its first sample (R541). -/
def Dev.snsChange (d : Dev) (i : Nat) (o : Bool) (ts : Nat) : Dev × List JamCond :=
  let d1 := d.setBit Reg.PT_SNS_STAT i o
  match i with
  | 0 => (d1.fire 0x32 4 0, [])
  | 4 =>
    let d2 := (d1.setb (Reg.ST_DC_STAT_HOME 3) o).setb Reg.HD_STAT_HOMED o
    (if o then d2.homeFound else d2, [])
  | 5 => (d1, [])
  | _ => if d.flag Reg.PT_JAM_ACTIVE then (d1, []) else d1.takeEdge i o ts

/-- The debounce of one input (R541). -/
def Dev.debounce (d : Dev) (i : Nat) (x : SnsIn) : Dev × List JamCond :=
  let r := d.reading i x
  if r = d.occ i then (d.modSns i (fun s => { s with run := 0 }), [])
  else
    let run := (d.sns i).run + 1
    let first := if (d.sns i).run = 0 then d.now else (d.sns i).firstAt
    if d.debOf i ≤ run then (d.modSns i (fun s => { s with run := 0 })).snsChange i r first
    else (d.modSns i (fun s => { s with run := run, firstAt := first }), [])

/-- The fault filter of one input (R542, R543): ten samples in a row count; the first good sample ends it (log entry 19). -/
def Dev.snsFaultStep (d : Dev) (i : Nat) (x : SnsIn) : Dev × List JamCond :=
  let k := d.snsKind i x
  let run := if k = 0 then 0 else if (d.sns i).fKind = k then min 10 ((d.sns i).fRun + 1) else 1
  let d1 := d.modSns i (fun s => { s with fKind := k, fRun := run })
  let f : Fld := ⟨Reg.PT_SNS_FAULT, 4 * i, 3⟩
  if k = 0 then
    if d.snsFaulted i then ((d1.setBit Reg.PT_SNS_STAT (8 + i) false).set f 0, []) else (d1, [])
  else if 10 ≤ run ∧ ¬ (d.snsFaulted i ∧ d.get f = k) then
    let jams := 1 ≤ i && i ≤ 3 && d.engineOn
    let d2 := ((d1.setBit Reg.PT_SNS_STAT (8 + i) true).set f k)
    let d3 := (d2.raiseFree 0x32 0xF St.sensorFault (if jams then 3 else 0)).fireRaw 0x32 3
    (d3, if jams then (match d.liveSlots with
      | s :: _ => [d.condOf s 10 i]
      | [] => [strayCond 10 i]) else [])
  else (d1, [])

/-- LEVEL and DARK of an input (R539). -/
def Dev.snsLevel (d : Dev) (i : Nat) (x : SnsIn) : Dev :=
  if d.snsMode i = 2 then (d.set (Reg.PT_SNS_LVL_LEVEL i) (min 1023 (x.lit - x.dark))).set (Reg.PT_SNS_LVL_DARK i) (min 1023 x.dark)
  else d.setReg (Reg.PT_SNS_LVL i) 0

/-- Apply a step that may find jam conditions to several inputs in turn. -/
def Dev.gather (f : Dev → Nat → Dev × List JamCond) : List Nat → Dev → Dev × List JamCond
  | [], d => (d, [])
  | i :: is, d =>
    let r := f d i
    let q := Dev.gather f is r.1
    (q.1, r.2 ++ q.2)

/-- The windows judged missed in this sample: closing plus DEB samples have passed (R555). -/
def Dev.missed (d : Dev) : List JamCond :=
  d.liveSlots.flatMap (fun s => (d.slot s).wins.filterMap (fun w =>
    let i := if w.1 ≤ 3 then w.1 else w.1 - 3
    if w.2.2 ≠ 0 ∧ w.2.2 + d.debOf i * 100 ≤ d.now then some (d.condOf s w.1 i) else none))

/-- Paper found on a path sensor at the start of a warm-up is a stray change (R557, Table 12-11, spec/21 after R897). -/
def Dev.warmStray (d : Dev) : Dev × List JamCond :=
  if d.laserState = LasSt.warming && d.pathEmpty && ! d.flag Reg.PT_JAM_ACTIVE then
    match [1, 2, 3].find? d.occ with
    | some i => (d.addSat Reg.PT_CNT_STRAYS 1, [strayCond 8 i])
    | none => (d, [])
  else (d, [])

/-! ### Covers (R620, R635, R557, R562) -/

/-- Whether an input counts: ILK_N always, COV0_N and COV1_N by COV_EN. -/
def Dev.coverCounts (d : Dev) (j : Nat) : Bool := j == 0 || bit (d.get Reg.LS_CTL_COV_EN) (j - 1)

/-- A cover opens: a correlation test is due; with a jam its COVER_CYCLED sets, with a token in the path it jams, else the engine
stops. -/
def Dev.coverOpened (d : Dev) : Dev × List JamCond :=
  let d1 := { d with proc := { d.proc with corrDue := true }, path := { d.path with told := false } }
  let d2 := (d1.fire 0x31 2 0).set Reg.FU_STAT_CORR_RESULT 0
  if d.flag Reg.PT_JAM_ACTIVE then (d2.set Reg.PT_JAM_COVER_CYCLED 1, [])
  else match d.liveSlots with
    | s :: _ => (d2, [d.condOf s 9 0])
    | [] => (d2.engineStopNow 0x31 15, [])

/-- The mask of path sensors that read occupied or faulted. -/
def Dev.pathMask (d : Dev) : Nat := ((List.range 4).filter (fun i => i != 0 && (d.occ i || d.snsFaulted i))).foldl (fun m i => m + 2 ^ i) 0

/-- A cover closes: once every cover is closed with a path sensor occupied or faulted, PATH_NOT_CLEAR is emitted and a further opening is
waited for (R562). -/
def Dev.coverClosed (d : Dev) : Dev :=
  let d1 := d.fire 0x31 2 0
  if d1.coversClosed then
    let m := d1.pathMask
    if m = 0 then d1.evalEngine
    else { d1.raise 0x32 0xF St.pathNotClear 0 m with path := { d1.path with told := true } }
  else d1

/-- One sample of a cover input (0 ILK_N, 1 COV0_N, 2 COV1_N): three samples in a row change its state. -/
def Dev.coverSample (d : Dev) (j : Nat) (high : Bool) : Dev × List JamCond :=
  let c := d.path.covers.getD j (false, 0)
  let put := fun (x : Bool × Nat) => { d with path := { d.path with covers := lmod d.path.covers j (fun _ => x) } }
  if high = c.1 then (put (c.1, 0), [])
  else if c.2 + 1 < 3 then (put (c.1, c.2 + 1), [])
  else
    let d1 := put (high, 0)
    let d2 := if j = 0 then (if high then d1.addSat Reg.LS_CNT_ILK_OPEN 1 else d1) else d1.setBit Reg.LS_STAT (1 + j) high
    if ! d.coverCounts j then (d2, []) else if high then d2.coverOpened else (d2.coverClosed, [])

/-- SENSOR_SAMPLE (R539 to R544, R554 to R557, R635): edges first, then judgements, then the covers (R556); the first condition in the
order of issue decides a jam (R560). -/
def execSensorSample (ins : List SnsIn) (ilk cov0 cov1 : Bool) : State → Out := onDev (fun d =>
  let inp := fun i => ins.getD i ⟨false, 512, 0, 1023, false, false⟩
  let all := List.range 6
  let d0 := all.foldl (fun d i => d.snsLevel i (inp i)) d
  let r1 := Dev.gather (fun d i => d.debounce i (inp i)) all d0
  let r2 := Dev.gather (fun d i => d.snsFaultStep i (inp i)) all r1.1
  let r3 := r2.1.warmStray
  let miss := if r3.1.flag Reg.PT_JAM_ACTIVE then [] else r3.1.missed
  let r4 := Dev.gather (fun d j => d.coverSample j (if j = 0 then ilk else if j = 1 then cov0 else cov1)) [0, 1, 2] r3.1
  match decideCond (r1.2 ++ r2.2 ++ r3.2 ++ miss ++ r4.2) with
  | none => r4.1
  | some (_, t, c, s) => r4.1.jamNow t c s)

/-! ### Reconciliation (R561) -/

/-- TOKEN_RECONCILE: the sensors have stayed clear for CLEAR_T after a cover cycle. -/
def execTokenReconcile : State → Out := onDev (fun d =>
  when (d.flag Reg.PT_JAM_ACTIVE && d.flag Reg.PT_JAM_COVER_CYCLED && d.coversClosed && d.pathMask == 0 && ! d.path.told) (fun d =>
    let jammed := (List.range 4).filter (fun i => (d.slot i).state == 6)
    let n := jammed.length
    let d1 := (d.addWrap Reg.TOK_CLEARED_COUNT n).set Reg.TOK_PATH_IN_PATH (d.get Reg.TOK_PATH_IN_PATH - n)
    let d2 := jammed.foldl (fun d i => d.freeSlot i false) d1
    let d3 := (d2.set Reg.PT_JAM_ACTIVE 0).set Reg.PT_JAM_COVER_CYCLED 0
    (((d3.raise 0x32 0xF St.tokensCleared 0 n).fireRaw 0x32 2).faultOff 0x32 1).evalEngine) d)

/-- SHEET_FUSING: the placed instant T_REL + (LENGTH + REG_TO_NIP) / speed(g) of slot `s`; a sheet that SCAN never exposed passes through
IMAGING (R22). -/
def execSheetFusing (s : Fin 4) : State → Out := onDev (fun d =>
  let t := d.slot s.val
  match d.slotSheet s.val with
  | none => d
  | some x =>
    if 4 ≤ t.state ∧ t.state ≤ 5 ∧ ! x.blank then
      match x.state with
      | .committed =>
        let d1 := d.moveSheet x .imaging
        (d1.slotSheet s.val).elim d1 (fun y => d1.moveSheet y .fusing)
      | .imaging => d.moveSheet x .fusing
      | _ => d
    else d)

end Sys2Proof.Machine
end

