-- ==== Sys2Proof/Machine/PageContract.lean ====
section
/-! DEFINITION. The page contract (spec/01_page_contract.md): the forecast, gears, the registration hold, the commit attempt, releases,
and the laser engine's warm-up and cooling. Times inside the forecast are exact fractions of a microsecond. -/

set_option linter.unusedVariables false

namespace Sys2Proof.Machine

/-! ### The data-sufficiency forecast (R42 to R47, Table 1-5) -/

/-- Facets used in gear `g` (Table 1-3). -/
def facetsUsed (g : Nat) : List Nat :=
  match g with
  | 2 => [0, 1, 3, 4]
  | 3 => [0, 2, 4]
  | _ => [0, 1, 2, 3, 4, 5]

/-- The mean line period of gear `g` in µs: the polygon turns at 47,244 rpm. -/
def linePeriod (g : Nat) : Rat := (60000000 : Rat) / (47244 * (facetsUsed g).length : Nat)

/-- The time of `x` × 0.1 mm at speed(`g`) in µs; speed(g) is 400 / (g + 1) mm/s. -/
def timeAt (g x : Nat) : Nat := x * 250 * (g + 1)

/-- The job-raster layers of a sheet. -/
def Sheet.rasters (s : Sheet) : List Nat := s.present.filter (fun l => (s.layer l).source == 2)

/-- What the forecast knows of the streams of a sheet: per job-raster layer its blocks and the bytes received. -/
def Sheet.known (s : Sheet) (m : Mem) : List (Nat × Array (Nat × Nat) × Nat) :=
  s.rasters.map (fun l => (l, ((s.stream l).blocks m (s.layer l).encrypted).toArray, (s.stream l).len))

/-- RAW size of one layer-band of `n` raster bytes: its header, and the envelope of an encrypted block. -/
def rawSize (enc : Bool) (n : Nat) : Nat := 32 + n + if enc then 32 else 0

/-- The compressed size of band `b` over the job-raster layers (bytes_through): from the headers received, else the declared size, else
the RAW size. -/
def Sheet.bandBytes (s : Sheet) (known : List (Nat × Array (Nat × Nat) × Nat)) (b : Nat) : Nat :=
  let n := s.width * s.bpp / 8 * s.linesOf b
  if known.all (fun x => b < x.2.1.size) then known.foldl (fun a x => a + (x.2.1.getD b (0, 0)).2) 0
  else match s.sizes[b]? with
    | some z => z
    | none => known.foldl (fun a x => a + (if b < x.2.1.size then (x.2.1.getD b (0, 0)).2 else rawSize (s.layer x.1).encrypted n)) 0

/-- Band `b` is received: every job-raster layer's block is wholly in the spool, or is known to be corrupt, which its deadline decides. -/
def Sheet.received (s : Sheet) (known : List (Nat × Array (Nat × Nat) × Nat)) (b : Nat) : Bool :=
  known.all (fun x =>
    (b < x.2.1.size && decide ((x.2.1.getD b (0, 0)).1 + (x.2.1.getD b (0, 0)).2 ≤ x.2.2)) ||
    s.failed.any (fun f => f.1 == x.1 && f.2.1 == b) ||
    (match (s.stream x.1).corruptFrom with
     | some c => decide (c ≤ b)
     | none => false))

/-- Bytes of the form blocks of band `b`. -/
def Dev.formBytes (d : Dev) (s : Sheet) (b : Nat) : Nat :=
  (s.present.filter (fun l => (s.layer l).source == 1)).foldl (fun a l =>
    match d.form? s.tenant (s.layer l).arg with
    | some f => a + (f.blocks.getD b (0, 0, 0)).2.1
    | none => a) 0

/-- cost(b) in µs; a model rate of 0 acts as 1. -/
def Dev.bandCost (d : Dev) (s : Sheet) (bytes b : Nat) : Rat :=
  let enc := s.rasters.any (fun l => (s.layer l).encrypted)
  let thr := if enc then min (d.get Reg.PC_MODEL0_THR_FETCH) (d.get Reg.PC_MODEL0_THR_AES) else d.get Reg.PC_MODEL0_THR_FETCH
  let fetch : Rat := ((bytes + d.formBytes s b : Nat) : Rat) / (atLeast1 thr : Nat)
  let pix : Rat := ((s.width * s.linesOf b * s.galleyLayers.length : Nat) : Rat) / (atLeast1 (d.get Reg.PC_MODEL1_THR_DEC) : Nat)
  (if fetch ≤ pix then pix else fetch) + (d.get Reg.PC_MODEL1_T_PIPE : Nat)

/-- What the forecast uses of each band: units, decoded, received, size and cost. -/
def Dev.bandModel (d : Dev) (m : Mem) (s : Sheet) : Array (Nat × Bool × Bool × Nat × Rat) :=
  let known := s.known m
  ((List.range s.bands).map (fun b =>
    let z := s.bandBytes known b
    ((d.bandNeeds s b).foldl (fun n x => n + x.2) (d.compUnits s b), s.present.all (fun l => d.layerReady s l b), s.received known b, z,
      d.bandCost s z b))).toArray

/-- Later of two instants. -/
def ratMax (a b : Rat) : Rat := if a ≤ b then b else a

/-- A slack below any the register can hold, for an arrival that never comes (R44), and above any, for a sheet without bands. -/
def slackInf : Rat := (2 ^ 40 : Nat)

/-- The loop of the forecast over the bands from `b`: bytes and units of the bands before, t_pipe (none: never), the galley pointer `j`
with the units of bands 0 to j, and the worst slack so far. Instants count from now. -/
def forecastFrom (bm : Array (Nat × Bool × Bool × Nat × Rat)) (s : Sheet) (lp tImg : Rat) (lead margin rIn got q : Nat) :
    Nat → Nat → Nat → Nat → Option Rat → Nat → Nat → Rat → Nat → Rat × Nat
  | 0, _, _, _, _, _, _, worst, wb => (worst, wb)
  | f + 1, b, bytes, units, tPipe, j, uj, worst, wb =>
    let x := bm.getD b (0, false, false, 0, 0)
    let thru := bytes + x.2.2.2.1
    let us := units + x.1
    let dl := tImg + ((b * bandLines s.bandH : Nat) - (lead : Rat)) * lp
    let mg := ((margin * s.linesOf b : Nat) : Rat) * lp
    let ptr := advance bm us q (b + 1) j uj
    let free : Rat := if us ≤ q then 0 else tImg + ((ptr.1 * bandLines s.bandH + s.linesOf ptr.1 : Nat) : Rat) * lp
    let arr : Option Rat := if x.2.2.1 then some 0 else if thru ≤ got then some 0 else if rIn = 0 then none else
      some (((thru - got) * 1000000 : Nat) / (rIn : Nat))
    let ready : Option Rat := if x.2.1 then some 0 else match arr, tPipe with
      | some a, some p => some (ratMax (ratMax a p) free + x.2.2.2.2)
      | _, _ => none
    let slack : Rat := match ready with
      | some r => dl - r - mg
      | none => -slackInf
    let w := if slack < worst then (slack, b) else (worst, wb)
    forecastFrom bm s lp tImg lead margin rIn got q f (b + 1) thru us (if x.2.1 then tPipe else ready) ptr.1 ptr.2 w.1 w.2
where
  /-- The smallest `j` whose later bands, up to the present one, fit in `q` units: the units of bands 0 to `j` are carried along. -/
  advance (bm : Array (Nat × Bool × Bool × Nat × Rat)) (us q : Nat) : Nat → Nat → Nat → Nat × Nat
    | 0, j, uj => (j, uj)
    | f + 1, j, uj => if us - uj ≤ q then (j, uj) else advance bm us q f (j + 1) (uj + (bm.getD (j + 1) (0, false, false, 0, 0)).1)

/-- forecast(sheet, g, now): the worst slack in µs and its band. -/
def Dev.forecast (d : Dev) (s : Sheet) (bm : Array (Nat × Bool × Bool × Nat × Rat)) (g : Nat) : Rat × Nat :=
  let tRel : Rat := if g = d.get Reg.PC_STAT_RUN_GEAR then 25000 else (d.get Reg.PC_TIME_T_SHIFT * 10000 : Nat)
  let dist : Int := (d.get Reg.PC_GEOM_REG_TO_NIP : Int) + 10 * s.top - d.get Reg.PC_GEOM_EXPO_TO_NIP
  let tImg := tRel + ((dist * 25 * (g + 1) : Int) : Rat)
  let got := s.rasters.foldl (fun n l => n + (s.stream l).len) 0
  forecastFrom bm s (linePeriod g) tImg d.composeLead (d.get Reg.PC_CTL_MARGIN_BANDS) (d.reg (Reg.PC_INGEST s.tenant))
    got (d.usable s) s.bands 0 0 0 (some 0) 0 (bm.getD 0 (0, false, false, 0, 0)).1 slackInf 0

/-- The permitted gears; with GEAR_MASK 0, G3 only (R47). -/
def Dev.gears (d : Dev) : List Nat :=
  let l := [1, 2, 3].filter (fun g => bit (d.get Reg.PC_CTL_GEAR_MASK) (g - 1))
  if l = [] then [3] else l

/-- choose_gear; after a failure of check 8 no gear faster than the running one (R34). -/
def Dev.chooseGear (d : Dev) (s : Sheet) (bm : Array (Nat × Bool × Bool × Nat × Rat)) (slower : Bool) : Nat :=
  let run := d.get Reg.PC_STAT_RUN_GEAR
  ((d.gears.find? (fun g => (! slower || run ≤ g) && decide (0 ≤ (d.forecast s bm g).1)))).getD (d.gears.getLastD 3)

/-- Nearest microsecond, saturated to 32 bits (R46). -/
def slackWord (x : Rat) : Int := satI 32 (roundDivI x.num x.den)

/-! ### Gears and release instants (R29, R33, R34, R39, R446) -/

/-- A proposal for a gear: one that differs from the running gear asks for a change, which is assumed to end after T_SHIFT (R34, R39). -/
def Dev.propose (d : Dev) (g : Nat) : Dev :=
  let d1 := d.set Reg.PC_STAT_PROP_GEAR g
  if g = d1.get Reg.PC_STAT_RUN_GEAR then { d1 with engine := { d1.engine with pendGear := 0 } }
  else ({ d1 with engine := { d1.engine with pendGear := g, shiftEnd := d1.now + d1.get Reg.PC_TIME_T_SHIFT * 10000 } }).tryShift

/-- The gear a release would use: the running one, else the one that is being approached. -/
def Dev.relGear (d : Dev) : Nat := if d.get Reg.PC_STAT_RUN_GEAR = 0 then d.engine.target else d.get Reg.PC_STAT_RUN_GEAR

/-- The earliest instant not before `t` that keeps GAP_MIN behind the sheet ahead. -/
def Dev.gapAfter (d : Dev) (t : Nat) : Nat :=
  match d.engine.lastRel with
  | some (r, len, g) => max t (r + timeAt g len + timeAt d.relGear (d.get Reg.PC_TIME_GAP_MIN))
  | none => t

/-- The end of a gear change that is proposed or in progress. -/
def Dev.shiftOver (d : Dev) (t : Nat) : Nat :=
  if d.engine.pendGear ≠ 0 ∨ d.flag Reg.PC_STAT_SHIFTING then max t d.engine.shiftEnd else t

/-- GEAR_CHANGE_LOCK (R34): M2 reports lock at the new gear's speed, and the gear is running. -/
def execGearChangeLock : State → Out := onDev (fun d =>
  when (d.engineOn && d.flag (Reg.BL_STAT_SPD_LOCK 1) && d.geti (Reg.BL_CMD_NOW_SPEED 1) == d.blSelected 1 &&
      (d.get Reg.PC_STAT_RUN_GEAR == 0 || d.flag Reg.PC_STAT_SHIFTING)) (fun d =>
    (d.set Reg.PC_STAT_RUN_GEAR d.engine.target).set Reg.PC_STAT_SHIFTING 0) d)

/-! ### The registration hold (R26 to R31, R548) -/

/-- HOLD_MAX in µs. -/
def Dev.holdMax (d : Dev) : Nat := clampN 10 100 (d.get Reg.PC_TIME_HOLD_MAX) * 100000

/-- S1 has come to rest with the sheet of slot `i` at the registration roller: HELD, a gear proposal (faster gears included) and the
first release instant. -/
def Dev.holdEntry (d : Dev) (m : Mem) (i : Nat) : Dev :=
  let d0 := d.modSlot i (fun t => { t with state := 3, stopping := false })
  match d0.slotSheet i with
  | none => d0
  | some s =>
    if s.state != .staged then d0
    else
      let d1 := (d0.modSheet s (fun x => { x with heldAt := d.now })).moveSheet s .held
      let d2 := d1.propose (d1.chooseGear s (d1.bandModel m s) false)
      d2.modSheet s (fun x => { x with tRel := d2.gapAfter (d2.shiftOver (d.now + 25000)) })

/-- The HELD sheet that is not set for a blank release. -/
def Dev.heldSheet (d : Dev) : Option Sheet := d.sheets.find? (fun s => s.state == .held && ! s.blank)

/-- A HELD sheet is set for a blank release at or after `t`: its blocks are not decoded and its units go (R29, R30, R346, R368). -/
def Dev.setBlank (d : Dev) (s : Sheet) (t : Nat) : Dev :=
  (d.modSheet s (fun x => { x with blank := true, tRel := t })).dropSheetWork s

/-- HOLD_MAX_EXPIRY (R26, R29): the hold age has reached HOLD_MAX with no attempt running. -/
def execHoldMaxExpiry : State → Out := onDev (fun d =>
  match d.heldSheet with
  | some s => if (d.laserState = LasSt.ready ∨ d.laserState = LasSt.printing) ∧ d.holdMax ≤ d.holdAge s then d.setBlank s (d.gapAfter d.now) else d
  | none => d)

/-! ### The commit attempt (R35 to R41, Table 1-4) -/

/-- REG_TO_NIP below EXPO_TO_NIP: FAULT_CODE of PATH holds NOT_READY (R55). -/
def Dev.geomCheck (d : Dev) : Dev :=
  if d.get Reg.PC_GEOM_REG_TO_NIP < d.get Reg.PC_GEOM_EXPO_TO_NIP then d.faultOn 0x32 3 St.notReady 3 0 else d.faultOff 0x32 3

/-- E_REQ of a sheet at gear `g` (R765). -/
def Dev.eReq (d : Dev) (len g : Nat) : Nat :=
  let p := if g = 1 then d.get Reg.HL_PRIDE0_P_G1 else if g = 2 then d.get Reg.HL_PRIDE0_P_G2 else d.get Reg.HL_PRIDE1_P_G3
  let t := min (clampN 1 500 (d.get Reg.PF_WIN_PF_WINDOW) * 1000) (25000 + timeAt g (d.get Reg.PT_GEOM2_REG_TO_EXIT + len))
  p * t * (100 + d.get Reg.HL_CHG_MARGIN) / 1000000

/-- The status of check 1, 0 when it passes. -/
def Dev.check1 (d : Dev) : Nat :=
  if d.lockMode = 1 ∨ d.devState = DevSt.safeFinish then St.safeFinish
  else if d.lockMode = 2 ∨ d.devState = DevSt.safeStop then St.safeStop
  else if d.devState = DevSt.tripped then St.tripped
  else if d.flag Reg.PF_STAT_PFW then St.powerFail
  else if d.devState = DevSt.nominal ∨ d.devState = DevSt.baseline then 0
  else St.notReady

/-- Check 5: the process is ready at the running gear. -/
def Dev.check5 (d : Dev) : Bool :=
  d.flag (Reg.BL_STAT_PH_LOCK 0) && d.flag (Reg.BL_STAT_SPD_LOCK 1) && d.flag Reg.FU_STAT_IN_WIN && d.get Reg.HV_STAT_READY == 7 &&
  d.flag Reg.LS_STAT_APC_SETTLED && d.get Reg.PC_STAT_RUN_GEAR != 0 && ! d.flag Reg.PC_STAT_SHIFTING && ! d.engine.stopAfter

/-- Check 6: every key slot an encrypted layer names holds a type 1 key of the tenant. -/
def Dev.check6 (d : Dev) (s : Sheet) : Bool :=
  s.present.all (fun l => ! (s.layer l).encrypted ||
    ((d.key (s.layer l).keySlot).typ == 1 && d.keyOwner (s.layer l).keySlot == s.tenant))

/-- The tracker slot of a sheet. -/
def Dev.slotOf (d : Dev) (s : Sheet) : Option Nat :=
  (List.range 4).find? (fun i => (d.slot i).state != 0 && (d.slot i).token == s.token && s.is (d.slot i).ten (d.slot i).epoch (d.slot i).job
    (d.slot i).index)

/-- Checks 1 to 7, in order: the number and status of the first that fails. -/
def Dev.earlyChecks (d : Dev) (s : Sheet) : Option (Nat × Nat) :=
  if d.check1 ≠ 0 then some (1, d.check1)
  else if ! d.coversClosed then some (2, St.coverOpen)
  else if ! ((d.slotOf s).any (fun i => (d.slot i).state == 3)) || ! d.occ 2 || d.flag Reg.PT_JAM_ACTIVE then some (3, St.jammed)
  else if ! d.owned s.tenant s.epoch || s.cancelled then some (4, St.jobNotFound)
  else if ! d.check5 then some (5, St.notReady)
  else if ! d.check6 s then some (6, St.keyEmpty)
  else if d.usable s < ([0, 1].filter (· < s.bands)).foldl (fun n b => n + (d.bandNeeds s b).foldl (fun n x => n + x.2) (d.compUnits s b)) 0
    then some (7, St.quotaExceeded)
  else none

/-- PC_LAST (R40). -/
def Dev.pcLast (d : Dev) (s : Sheet) (check status : Nat) : Dev :=
  ((d.set Reg.PC_LAST_STATUS status).set Reg.PC_LAST_CHECK check).set Reg.PC_LAST_TOKEN s.token

/-- The next attempt of a sheet: T_REL later by COMMIT_RETRY, or at the end of a proposed gear change (R39); a sheet whose hold age has
reached HOLD_MAX goes blank (R28, R29). -/
def Dev.retry (d : Dev) (s : Sheet) : Dev :=
  if d.holdMax ≤ d.holdAge s then d.setBlank s (d.gapAfter d.now)
  else d.modSheet s (fun x => { x with tRel := d.shiftOver (s.tRel + clampN 1 100 (d.get Reg.PC_TIME_COMMIT_RETRY) * 1000) })

/-- An attempt fails at check `n` (R40, Table 1-4). -/
def Dev.failAttempt (d : Dev) (m : Mem) (s : Sheet) (n status : Nat) : Dev :=
  let d1 := ((d.pcLast s n status).raise 0x32 s.tenant status 0 (s.payload 2)).modSheet s (fun x => { x with failCheck := n })
  match n with
  | 1 => d1
  | 2 => d1.jamNow s.token 9 0
  | 3 => d1.jamNow s.token 2 2
  | 4 => d1.setBlank s s.tRel
  | 8 => (d1.propose (d1.chooseGear s (d1.bandModel m s) true)).retry s
  | _ => d1.retry s

/-- The commit decision (R41, R49, R895): the tracker slot is written to LK_COMMIT, and the sheet is COMMITTED in the running gear. -/
def Dev.commit (d : Dev) (s : Sheet) (atRisk : Bool) : Dev :=
  let g := d.get Reg.PC_STAT_RUN_GEAR
  let d1 := match d.slotOf s with
    | some i => (d.setBit Reg.LK_COMMIT i true).modSlot i (fun t => { t with gear := g })
    | none => d
  let d2 := (d1.pcLast s 0 St.ok).modSheet s (fun x => { x with gear := g, atRisk := atRisk, state := .committed })
  let d3 := d2.sheetEvent { s with gear := g, atRisk := atRisk } SheetState.committed.code St.ok
  let d4 := if atRisk then d3.stat s.tenant 4 else d3
  { d4 with engine := { d4.engine with lastRel := some (s.tRel, s.length, g) } }

/-- The forecast of a sheet at the running gear: its least slack and the band that has it. -/
def Dev.slackOf (d : Dev) (m : Mem) (s : Sheet) : Rat × Nat := d.forecast s (d.bandModel m s) (d.get Reg.PC_STAT_RUN_GEAR)

/-- What checks 8 and 9 leave in PC_SLACK and, where the forecast is not short, in HL_E_REQ. -/
def Dev.lateRecord (d : Dev) (s : Sheet) (r : Rat × Nat) : Dev :=
  let g := d.get Reg.PC_STAT_RUN_GEAR
  let d1 := (((d.seti Reg.PC_SLACK_SLACK (slackWord r.1)).set Reg.PC_SLACK_AT_BAND r.2).set Reg.PC_SLACK_AT_GEAR g).set
    Reg.PC_SLACK_AT_TOKEN s.token
  if r.1 < 0 then d1 else d1.setReg Reg.HL_E_REQ (d1.eReq s.length g)

/-- The energy the bank has does not cover the sheet (check 9). -/
def Dev.energyShort (d : Dev) (s : Sheet) : Bool := decide (d.eAvail < d.eReq s.length (d.get Reg.PC_STAT_RUN_GEAR))

/-- Checks 8 to 10, in order: the number and status of the first that fails. -/
def Dev.lateFail (d : Dev) (s : Sheet) (slack : Rat) (took : Nat) : Option (Nat × Nat) :=
  if slack < 0 then some (8, St.forecastShort)
  else if d.energyShort s && ! d.flag Reg.PC_CTL_POLICY then some (9, St.energyShort)
  else if s.tRel < d.now + took + 5000 then some (10, St.tooLate)
  else none

/-- Checks 8 to 10 and the decision; the attempt started now and takes `took` µs. -/
def Dev.lateChecks (d : Dev) (m : Mem) (s : Sheet) (took : Nat) : Dev :=
  let r := d.slackOf m s
  let d1 := d.lateRecord s r
  match d1.lateFail s r.1 took with
  | some (n, status) => d1.failAttempt m s n status
  | none => d1.commit s (d1.energyShort s)

/-- COMMIT_ATTEMPT (R27, R35, R36): at T_REL − 25 ms PATH takes its shadows and the checks run in order; `took` is the time in µs from the
start of the attempt to its decision. -/
def execCommitAttempt (took : Nat) : State → Out := onAll (fun d m =>
  match d.heldSheet with
  | none => (d, m)
  | some s =>
    let d1 := (d.boundary 0x32).geomCheck
    if d1.holdMax ≤ d1.holdAge s then (d1.setBlank s (d1.gapAfter d1.now), m)
    else match d1.earlyChecks s with
      | some (n, status) => (d1.failAttempt m s n status, m)
      | none => (d1.lateChecks m s took, m))

/-! ### Releases (R30, R446, R549 to R554) -/

/-- The launch of slot `i` at T_REL in gear `g`: windows, state and the segments of S1 and S2 (R549, R551 to R554). -/
def Dev.launch (d : Dev) (s : Sheet) (i tRel g : Nat) : Dev :=
  let len : Int := s.length
  let tok := s.token
  let t := d.launchT
  let w := [d.gearWindow 3 tRel g (d.get Reg.PT_GEOM2_REG_TO_EXIT),
    d.gearWindow 4 tRel g (len - d.get Reg.PT_GEOM0_SNS_TO_REG - d.get Reg.PT_GEOM1_BUCKLE),
    d.gearWindow 5 tRel g (len - d.get Reg.PT_GEOM1_REG_SNS_OFS - d.get Reg.PT_GEOM1_BUCKLE)]
  let go := fun (d : Dev) (a : Nat) =>
    (d.axPost a ⟨2, true, false, tok, d.stepV a 400 (g + 1), t * 50, (tRel - t * 500) % 2 ^ 32⟩).axPost a
      (segOf 0 (d.stepV a 400 (g + 1)) 0 tok)
  let d1 := go (go d 1) 0
  let d2 := d1.axPost 1 ⟨2, true, false, tok, 0, t * 50, (tRel + timeAt g s.length) % 2 ^ 32⟩
  let d3 := d2.modSlot i (fun x => { x with
    state := 4, gear := g, tRel := tRel, wins := x.wins ++ w, rel := [d.gearWindow 6 0 g len] })
  { d3 with engine := { d3.engine with lastRel := some (tRel, s.length, g) } }

/-- SHEET_RELEASE (R549): the firmware posts the launch of the committed sheet for its release instant `tRel`, the used-facet BD at or
after the T_REL of its attempt (R446). -/
def execSheetRelease (tRel : Nat) : State → Out := onDev (fun d =>
  match d.sheets.find? (fun s => s.state == .committed && ! s.released) with
  | none => d
  | some s =>
    match d.slotOf s with
    | none => d
    | some i =>
      if (d.slot i).state = 3 ∧ s.tRel ≤ tRel ∧ d.lockMode ≠ 2 then
        (d.modSheet s (fun x => { x with released := true, tRel := tRel })).launch s i tRel s.gear
      else d)

/-- BLANK_RELEASE (R29, R30): the blank sheet is released at `tRel`, which keeps GAP_MIN; its state stays HELD. -/
def execBlankRelease (tRel : Nat) : State → Out := onDev (fun d =>
  match d.sheets.find? (fun s => s.state == .held && s.blank && ! s.released) with
  | none => d
  | some s =>
    match d.slotOf s with
    | none => d
    | some i =>
      if (d.slot i).state = 3 ∧ s.tRel ≤ tRel ∧ d.lockMode = 0 then
        ((d.modSheet s (fun x => { x with released := true, tRel := tRel })).dropSheetWork s).launch s i tRel d.relGear
      else d)

/-! ### Ingest, warm-up, cooling (R42, R55, R602, R604, Table 1-1) -/

/-- The ingest rate of R42 from the old one and the bytes placed in the spool in the window of 10 ms. -/
def ingestRate (old bytes : Nat) : Nat := min (2 ^ 32 - 1) ((old : Int) + ((bytes * 100 : Nat) - (old : Int)).tdiv 4).toNat

/-- Tenant `k`'s rate takes in the window that ends, and a new window begins. -/
def Dev.ingestStep (d : Dev) (k : Nat) : Dev :=
  (d.setReg (Reg.PC_INGEST k) (ingestRate (d.reg (Reg.PC_INGEST k)) (d.ten k).winBytes)).modTen k (fun t => { t with winBytes := 0 })

/-- INGEST_RATE_UPDATE (R42). -/
def execIngestRateUpdate : State → Out := onDev (fun d => (List.range 8).foldl Dev.ingestStep d)

/-- The conditions of R602 that are unmet, bit 0 first in the order listed. -/
def Dev.unmet (d : Dev) : Nat :=
  b2n (! d.flag (Reg.BL_STAT_PH_LOCK 0)) + 2 * b2n (! (d.flag (Reg.BL_STAT_SPD_LOCK 1) && d.get Reg.PC_STAT_RUN_GEAR != 0)) +
  4 * b2n (! d.flag Reg.FU_STAT_SETTLED) + 8 * b2n (! (! d.proc.corrDue && d.get Reg.FU_STAT_CORR_RESULT == 1)) +
  16 * b2n (d.get Reg.HV_STAT_READY != 7) + 32 * b2n (! d.flag Reg.LS_STAT_APC_SETTLED)

/-- WARMUP_COMPLETE (R55, R602). -/
def execWarmupComplete : State → Out := onDev (fun d =>
  when (d.laserState == LasSt.warming) (fun d =>
    let d1 := d.geomCheck
    if d1.unmet = 0 ∧ ! d1.faulted 0x32 3 then d1.setLas LasSt.ready else d1) d)

/-- WARMUP_TIMEOUT (R604): WARM_MAX has passed since WARMING was entered. -/
def execWarmupTimeout : State → Out := onDev (fun d =>
  when (d.laserState == LasSt.warming && d.unmet != 0 && d.past d.engine.since (1000000 * atLeast1 (d.get Reg.FU_WARM_WARM_MAX))) (fun d =>
    let u := d.unmet
    ((d.raise 0x32 0xF St.warmupTimeout 3 u).faultOn 0x32 2 St.warmupTimeout 3 u).engineStopNow 0x32 2) d)

/-- IDLE_COOL_EXPIRY (Table 1-1): idle in READY for IDLE_COOL seconds; 0 means never. -/
def execIdleCoolExpiry : State → Out := onDev (fun d =>
  when (d.laserState == LasSt.ready && d.get Reg.PC_CTL_IDLE_COOL != 0 && d.pathEmpty && ! d.anyQueued &&
    d.past d.engine.since (1000000 * d.get Reg.PC_CTL_IDLE_COOL)) (·.setLas LasSt.cooling) d)

end Sys2Proof.Machine
end

