-- ==== Sys2Proof/Machine/Scan.lean ====
section
/-! DEFINITION. Scanning, beam detect and video (spec/10_scan_video.md), with what a BD does to armed sheets and their bands (spec/08,
R369 to R378). Timestamps are in sixteenths of a cycle of CLK_SCAN. -/

set_option linter.unusedVariables false

namespace Sys2Proof.Machine

/-! ### Settings and small views -/

/-- FACET. -/
def Dev.facet (d : Dev) : Nat := d.get Reg.BD_STAT_FACET

/-- INT_ERR of a facet. -/
def Dev.intErr (d : Dev) (f : Nat) : Int := d.geti (Reg.FT_A_INT_ERR f)

/-- Change SCAN. -/
def Dev.modScan (d : Dev) (f : Scan → Scan) : Dev := { d with scan := f d.scan }

/-- Six times the expected instant E of the next BD: t_last + REV_PERIOD / 6 + INT_ERR of the facet expected next. -/
def Dev.expect6 (d : Dev) : Int :=
  6 * (d.scan.tLast.getD 0 : Int) + 16 * d.get Reg.REV_PERIOD_PERIOD + 6 * d.intErr ((d.facet + 1) % 6)

/-- GEAR_FACETS of a gear, 0 for none (Table 10-2). -/
def gearMask (g : Nat) : Nat :=
  match g with
  | 1 => 0x3F
  | 2 => 0x1B
  | 3 => 0x15
  | _ => 0

/-- FACET_USED (R445). -/
def Dev.facetUsed (d : Dev) : Bool := bit d.scan.mask d.facet

/-- Line number of an armed sheet as a number, `lines` where it is not an image line. -/
def Armed.img (a : Armed) : Bool :=
  match a.line with
  | some l => decide (0 ≤ l) && decide (l < a.lines)
  | none => false

/-- The sheet an armed entry names. -/
def Dev.armedSheet (d : Dev) (a : Armed) : Option Sheet := d.sheets.find? (·.is a.ten a.epoch a.job a.index)

/-- SPOIL on the sheet with a token in the path. -/
def Dev.spoilToken (d : Dev) (tok : Nat) : Dev :=
  d.modSheets (fun s => s.token == tok && s.token != 0) (fun s => { s with spoil := true })

/-- Whether BD light or APC light is on (R425, R426): permitted, enabled and outside the image. -/
def Dev.lightOn (d : Dev) : Bool :=
  let lv := (d.seq 0).level
  d.flag Reg.LS_STAT_PERMIT && bit lv 1 && ! d.flag Reg.VID_STAT_LINE_ACTIVE &&
    ((bit lv 3 && d.scan.winArmed && d.scan.openAt.isSome) || bit lv 2)

/-! ### Pixels (R455 to R461) -/

/-- start(k) of R457, by its loop: the accumulator and the shift after `k` pixels. -/
def trimLoop (t : Int) : Nat → Int × Int
  | 0 => (0, 0)
  | k + 1 =>
    let (acc, shift) := trimLoop t k
    let a := acc + t
    if 65536 ≤ a then (a - 65536, shift + 1) else if a ≤ -65536 then (a + 65536, shift - 1) else (a, shift)

/-- start(k): sixteenths of a pixel after the BD tap. -/
def startOf (phase t : Int) (k : Nat) : Int := phase + 16 * k + (trimLoop t k).2

/-- B of R458. -/
def gridBase (width : Nat) (left : Bool) : Nat := if left then 0 else (5120 - width) / 2

/-- The width of a value by the LUTs (R459). -/
def Dev.pulseW (d : Dev) (bpp v : Nat) : Nat :=
  match bpp with
  | 1 => if v = 0 then 0 else 16
  | 2 => min 16 (bitsOf (d.reg Reg.PWM_LUT2) (5 * v) 5)
  | _ => min 16 (bitsOf (d.reg (if v < 6 then Reg.PWM_LUT4_0 else if v < 12 then Reg.PWM_LUT4_1 else Reg.PWM_LUT4_2)) (5 * (v % 6)) 5)

/-- Where a width of 1 to 15 starts in a slot of length `len` (R461); `l` and `r` are the values left and right. -/
def justify (just w len l r : Nat) : Nat :=
  match just with
  | 1 => 0
  | 2 => (len - w) / 2
  | 3 => len - w
  | _ => if r < l then 0 else if l < r then len - w else (len - w) / 2

/-- The value grid pixel `k` carries, none where no job pixel falls (R458). -/
def Dev.gridPixel (d : Dev) (px : List Nat) (k : Int) : Option Nat :=
  let j := k - gridBase px.length (d.flag Reg.VID_CFG_XALIGN) - d.geti Reg.VID_CFG_X_OFS
  if 0 ≤ k ∧ k < 5120 ∧ 0 ≤ j then px[j.toNat]? else none

/-- The ON span of grid pixel `k`, in sixteenths after the BD tap (R459 to R461); neighbours outside the job read as 0. -/
def Dev.onSpan (d : Dev) (bpp : Nat) (px : List Nat) (k : Nat) : Option (Int × Int) :=
  match d.gridPixel px k with
  | none => none
  | some v =>
    let t : Int := sext d.scan.trim 16 + d.geti Reg.SPEED_TRIM_TRIM
    let s0 := startOf d.scan.phase t k
    let s1 := startOf d.scan.phase t (k + 1)
    let w := d.pulseW bpp v
    if w = 0 then none
    else if w = 16 then some (s0, s1)
    else
      let s := justify (d.get Reg.VID_CFG_JUST) w (s1 - s0).toNat ((d.gridPixel px (k - 1 : Int)).getD 0) ((d.gridPixel px (k + 1 : Int)).getD 0)
      some (s0 + s, s0 + s + w)

/-! ### Bands at a line (Table 8-2, R363, R369 to R378) -/

/-- CACHE_MAX in force. -/
def Dev.cacheMax (d : Dev) : Nat := min 24 (d.get Reg.GAL_CFG_CACHE_MAX)

/-- The units of a layer-band that has been read pass to RELEASING, or enter the form cache (R363). -/
def Dev.retireLayer (d : Dev) (s : Sheet) (l b : Nat) : Dev :=
  let p := fun (u : GUnit) => u.state == .scanning && u.holds s 0 l b
  let n := (d.units.filter p).length
  let arg := (s.layer l).arg
  if n = 0 then d
  else if (s.layer l).source = 1 ∧ ! d.cached s l b ∧ (d.units.filter (fun u => u.kind == 3 && u.state == .ready)).length < d.cacheMax ∧
      d.mayGrant 0 n (d.unitCount .free + n) then
    d.modUnits p (fun u => { u with
      state := .ready, kind := 3, tenant := 0, token := 0, layer := 0, epoch := 0, job := arg, index := formOwner s.tenant arg, used := d.now })
  else d.release p

/-- The units of band `b` that VIDEO has read: composite units, or the one layer read directly. -/
def Dev.retireBand (d : Dev) (s : Sheet) (b : Nat) : Dev :=
  if 2 ≤ s.present.length then d.release (fun u => u.state == .scanning && u.holds s 1 0 b)
  else s.present.foldl (fun d l => d.retireLayer s l b) d

/-- Decide every band whose composition deadline is at or before line `l` (R369 to R375). -/
def Dev.decideBands (l : Int) (a : Armed) : Nat → Dev → Mem → Dev × Mem
  | 0, d, m => (d, m)
  | f + 1, d, m =>
    match d.armedSheet a with
    | none => (d, m)
    | some s =>
      if s.decided < s.bands ∧ ! s.blank ∧ (s.decided * bandLines s.bandH : Int) - d.composeLead ≤ l then
        let r := d.deadline m s s.decided (fun y => (s.stream y).whole m (s.layer y).encrypted s.decided)
        Dev.decideBands l a f r.1 r.2
      else (d, m)

/-- What the BD that starts line `l` does to the bands of an armed sheet: deadlines, units that begin to be scanned, units that have been
read, and a line whose composite is late (R378). -/
def Dev.bandsAt (d : Dev) (m : Mem) (a : Armed) (l : Int) (late : Bool) : Dev × Mem :=
  let r := Dev.decideBands l a 1025 d m
  match r.1.armedSheet a with
  | none => r
  | some s =>
    let h := bandLines s.bandH
    let n := l.toNat
    let d1 := r.1
    if l < 0 ∨ s.lines < n then r
    else
      let b := n / h
      let d2 := if n ≠ 0 ∧ (n % h = 0 ∨ n = s.lines) then d1.retireBand s ((n - 1) / h) else d1
      if n = s.lines then (d2, r.2)
      else
        let d3 := if n % h = 0 then
            let d' := (d2.boundary 0x1D).boundary 0x1E
            if 2 ≤ s.present.length then d'.modUnits (fun u => u.state == .filling && u.holds s 1 0 b) (fun u => { u with state := .scanning })
            else d'.modUnits (fun u => u.state == .ready && u.kind == 0 && u.holds s 0 u.layer b) (fun u => { u with state := .scanning })
          else d2
        let d4 := if n + 1 = b * h + s.linesOf b && decide (2 ≤ s.present.length) then s.present.foldl (fun d x => d.retireLayer s x b) d3 else d3
        if late && decide (2 ≤ s.present.length) && ! s.voided.any (fun v => v.1 == b) then
          ((d4.voidBand s b 0 6 (some (n % h))).addSat Reg.IMPO_LATE_COUNT 1, r.2)
        else (d4, r.2)

/-! ### Armed sheets (R447 to R453) -/

/-- Gate the newer armed sheet that reaches line 0 while the older one still has image lines (R453). -/
def Dev.overlap (d : Dev) : Dev :=
  match d.scan.armed with
  | [o, n] =>
    if n.line == some 0 && ! n.gated && (match o.line with
        | some l => decide (l < o.lines)
        | none => true) then
      let d1 := (d.modScan (fun s => { s with armed := [o, { n with gated := true }] })).addSat Reg.SCAN_ERR_OVERLAP 1
      (d1.raise 0x1F n.ten St.spoiled 2 (n.token * 16777216)).spoilToken n.token
    else d
  | _ => d

/-- A used-facet BD: every armed sheet's line number advances (R448), its bands follow, sheets past their last line are disarmed (R449), an
overlap is found, and a committed sheet at line 0 is IMAGING (Table 1-2). -/
def Dev.usedBd (d : Dev) (m : Mem) (late : Bool) : Dev × Mem :=
  let next := d.scan.armed.map (fun a => { a with line := some (match a.line with
    | some l => l + 1
    | none => -(a.lead : Int)) })
  let r := next.foldl (fun (x : Dev × Mem) a => x.1.bandsAt x.2 a (a.line.getD 0) (late && a.img)) (d, m)
  let keep := next.filter (fun a => match a.line with
    | some l => decide (l < a.lines)
    | none => true)
  let d1 := (r.1.modScan (fun s => { s with armed := keep })).overlap
  let d2 := keep.foldl (fun d a => if a.line = some 0 then (match d.armedSheet a with
      | some s => if s.state = .committed && ! s.blank then d.moveSheet s .imaging else d
      | none => d) else d) d1
  (d2, r.2)

/-- The LEAD the firmware writes for a sheet (R447, R550), in lines. -/
def Dev.leadOf (d : Dev) (s : Sheet) : Int :=
  let dist : Int := (d.get Reg.PC_GEOM_REG_TO_NIP : Int) + 10 * s.top - d.get Reg.PC_GEOM_EXPO_TO_NIP
  roundDivI (30 * dist) 127 + d.geti Reg.PT_LAUNCH_LAUNCH_TRIM

/-- SHEET_ARM (R447, R448, R450, R452, R897): a firmware write of SHEET_ARM0, or of SHEET_ARM1, which arms the sheet. The firmware writes no
other LEAD than R447's for a sheet of the books. -/
def execSheetArm (l : Land) : State → Out := onDev (fun d =>
  d.land l (fun a _ => a == Reg.SHEET_ARM0 || a == Reg.SHEET_ARM1) (fun _ a v d =>
    let v := v.toNat
    if a = Reg.SHEET_ARM0 then
      if d.lockMode = 1 ∧ ! d.lock.snap.contains (bitsOf v 16 8) then d.modScan (fun s => { s with armRef := true })
      else (d.store a v).modScan (fun s => { s with armRef := false })
    else if d.scan.armRef then d
    else
      let tok := d.get Reg.SHEET_ARM0_TOKEN
      let s := d.sheets.find? (fun s => s.token == tok && s.token != 0)
      let ten := (s.map (·.tenant)).getD 0xF
      if s.any (fun x => d.leadOf x % 65536 != (v % 65536 : Nat)) then d
      else if 2 ≤ d.scan.armed.length then
        ((d.addSat Reg.SCAN_ERR_ARM_REFUSED 1).raise 0x1F ten St.spoiled 2 (tok * 16777216)).spoilToken tok
      else
        (d.store a v).modScan (fun c => { c with armed := c.armed ++ [{
          ten := ten, epoch := (s.map (·.epoch)).getD 0, job := (s.map (·.job)).getD 0, index := (s.map (·.index)).getD 0, token := tok,
          lines := d.get Reg.SHEET_ARM0_LINES, lead := v % 65536, line := none, gated := bit v 16 }] })))

/-! ### Loss of beam detect or pixel clock (R433, R465 to R467) -/

/-- The token of the older armed sheet, 0 for none. -/
def Dev.olderToken (d : Dev) : Nat := (d.scan.armed.head?.map (·.token)).getD 0

/-- BD_LOST with a cause (0 BD, 1 PIX_LOCK): armed sheets are gated, committed sheets get SPOIL, and the engine stops after the last
exit. -/
def Dev.bdLost (d : Dev) (cause : Nat) : Dev :=
  let payload := cause + d.facet * 256 + d.olderToken * 16777216
  let d1 := ((d.gateArmed.raise 0x1F 0xF St.bdLost 3 payload).faultOn 0x1F 2 St.bdLost 3 cause)
  d1.spoilCommitted.engineStop 0x1F (16 + cause)

/-- QUALIFIED and INDEXED clear; L1 stops (R637) and fusion ends (R498). -/
def Dev.unqualify (d : Dev) : Dev :=
  let d1 := if d.flag Reg.BD_STAT_QUALIFIED then (d.set Reg.BD_STAT_QUALIFIED 0).fire 0x1F 3 0 else d
  let d2 := if d1.flag Reg.BD_STAT_INDEXED then (d1.set Reg.BD_STAT_INDEXED 0).fire 0x1F 4 0 else d1
  (d2.modScan (fun s => { s with idxOn := false })).apcOff.fuseOff

/-- Beam detect is lost (R433, R467): RUN enters SEARCH. -/
def Dev.beamLost (d : Dev) : Dev :=
  (((d.unqualify.set Reg.BD_STAT_LOST 1).fireRaw 0x1F 6).bdLost 0).seqGo 0 2

/-- SIG bit 0 of the SEARCH entry (R434, R437, R637): QUALIFIED sets, indexing starts, and L1 runs where the laser is permitted. -/
def Dev.qualify (d : Dev) : Dev :=
  let d1 := if d.flag Reg.BD_STAT_QUALIFIED then d else (d.set Reg.BD_STAT_QUALIFIED 1).fire 0x1F 3 0
  let d2 := ((d1.set Reg.BD_STAT_LOST 0).set Reg.BD_STAT_MISS_RUN 0).faultOff 0x1F 2
  let d3 := d2.modScan (fun s => { s with
    idxOn := true, idxK := 0, idxBad := false, idxCur := [], idxSum := [0, 0, 0, 0, 0, 0], idxRevs := 0 })
  if d3.flag Reg.LS_STAT_PERMIT then d3.loopInit 1 else d3

/-! ### Indexing and learning (R437 to R444) -/

/-- Sum of |m_j − INT_ERR| over the six positions for an order of facets; all scaled by 6 n. -/
def Dev.score (d : Dev) (m6 : List Int) (n : Nat) (ord : Nat → Nat) : Nat :=
  (List.range 6).foldl (fun a j => a + (m6.getD j 0 - 6 * n * d.intErr (ord j)).natAbs) 0

/-- The position of the least of six scores, the lowest on a tie. -/
def leastOf (l : List Nat) : Nat := (List.range 6).foldl (fun b i => if l.getD i 0 < l.getD b 0 then i else b) 0

/-- index() of R437, with the reversed order of R502 under DIR_SRC 1. `k` is the number of the last pulse. -/
def Dev.indexFacets (d : Dev) (k : Nat) : Dev :=
  let n := atLeast1 d.scan.idxRevs
  let m6 : List Int := d.scan.idxSum.map (fun (s : Nat) => 6 * (s : Int) - 16 * (d.get Reg.REV_PERIOD_PERIOD : Int) * (n : Int))
  let ds := (List.range 6).map (fun r => d.score m6 n (fun j => (j + r) % 6))
  let best := leastOf ds
  let rest := (List.range 6).filter (· != best)
  let second := rest.foldl (fun a r => min a (ds.getD r 0)) (ds.getD (rest.getD 0 0) 0)
  let margin := second - ds.getD best 0
  let lim := d.get Reg.FT_CTL_IDX_MARGIN * 6 * n
  let valid := d.flag Reg.FT_STAT_VALID
  let d1 := if valid && decide (lim ≤ margin) then d.set Reg.BD_STAT_FACET ((k + best) % 6)
    else
      let d' := (List.range 6).foldl (fun d j =>
        ((d.seti (Reg.FT_A_INT_ERR j) (satI 16 (roundDivI (m6.getD j 0) (6 * n)))).set (Reg.FT_A_START_OFS j) 0).set (Reg.FT_B_TRIM j) 0) d
      (((d'.set Reg.BD_STAT_FACET (k % 6)).set Reg.FT_STAT_LEN_VALID 0).set Reg.FT_STAT_REVS 0).fire 0x1F 7 0
  let d2 := ((d1.set Reg.FT_STAT_MARGIN (satN 16 (roundDiv margin (6 * n)))).set Reg.BD_STAT_INDEXED 1).fire 0x1F 4 0
  let d3 := d2.modScan (fun s => { s with idxOn := false, rev := [], revSyn := false, eos := [], lenRevs := if d2.flag Reg.FT_STAT_REVS then s.lenRevs else 0 })
  if valid && d.get (Reg.BL_CTL_DIR_SRC 0) == 1 then
    let rs := (List.range 6).map (fun r => d.score m6 n (fun j => (r + 6 - j) % 6))
    d3.direction 0 (decide (rs.getD (leastOf rs) 0 + lim ≤ ds.getD best 0))
  else d3

/-- A BD during indexing: its interval joins the revolution, unless a BD of it was synthesised (R438). -/
def Dev.indexStep (d : Dev) (interval : Nat) (synth : Bool) : Dev :=
  if ! d.scan.idxOn then d
  else
    let k := d.scan.idxK
    let cur := d.scan.idxCur ++ [interval]
    let bad := d.scan.idxBad || synth
    if k % 6 ≠ 5 then d.modScan (fun s => { s with idxK := k + 1, idxCur := cur, idxBad := bad })
    else
      let d1 := d.modScan (fun s => { s with
        idxK := k + 1, idxCur := [], idxBad := false, idxSum := if bad then s.idxSum else List.zipWith (· + ·) s.idxSum cur,
        idxRevs := if bad then s.idxRevs else s.idxRevs + 1 })
      if atLeast1 (d.get Reg.FT_CTL_IDX_REVS) ≤ d1.scan.idxRevs then d1.indexFacets k else d1

/-- LEARN_SHIFT in force. -/
def Dev.learnShift (d : Dev) : Nat := min 10 (d.get Reg.FT_CTL_LEARN_SHIFT)

/-- The table learns from a complete revolution (R439, R440). `rev` holds the interval of each facet, `eos` its EOS distance. -/
def Dev.learn (d : Dev) (rev eos : List (Nat × Nat)) : Dev :=
  let p : Int := 2 ^ d.learnShift
  let r16 : Int := 16 * d.get Reg.REV_PERIOD_PERIOD
  let d1 := rev.foldl (fun d x =>
    let e := d.intErr x.1
    let dd := roundDivI (6 * x.2 - r16) 6
    d.seti (Reg.FT_A_INT_ERR x.1) (satI 16 (e + (dd - e).fdiv p))) d
  let full := d.flag Reg.BD_CFG_EOS_EN && (List.range 6).all (fun f => eos.any (·.1 == f))
  let sum : Int := ((eos.foldl (fun n x => n + x.2) 0 : Nat) : Int)
  let d2 := if full then
      let d' := eos.foldl (fun d x =>
        let t0 := d.geti (Reg.FT_B_TRIM x.1)
        let t := roundDivI (2 ^ 20 * (6 * x.2 - sum)) sum
        let t1 := satI 16 (t0 + (t - t0).fdiv p)
        (d.seti (Reg.FT_B_TRIM x.1) t1).seti (Reg.FT_A_START_OFS x.1) (satI 16 (roundDivI ((d.reg (Reg.SEQ_P 0 0) : Int) * t1) (2 ^ 20)))) d1
      d'.modScan (fun s => { s with lenRevs := s.lenRevs + 1 })
    else d1
  let revs := min (d.get Reg.FT_STAT_REVS + 1) 255
  let d3 := d2.set Reg.FT_STAT_REVS revs
  let d4 := if 64 ≤ revs then d3.set Reg.FT_STAT_VALID 1 else d3
  if 64 ≤ d4.scan.lenRevs then d4.set Reg.FT_STAT_LEN_VALID 1 else d4

/-- A complete revolution (R439, R444): REV_PERIOD and SPEED_TRIM, and the table where it learns. -/
def Dev.revolution (d : Dev) : Dev :=
  let s := d.scan
  let sum := s.rev.foldl (fun n x => n + x.2) 0
  let d1 := d.set Reg.REV_PERIOD_PERIOD (roundDiv sum 16)
  let r : Int := d1.get Reg.REV_PERIOD_PERIOD
  let nom : Int := atLeast1 (d.get Reg.BD_NOM_NOM)
  let d2 := d1.seti Reg.SPEED_TRIM_TRIM (clampI (-32767) 32767 (roundDivI (2 ^ 20 * (16 * r - 6 * nom)) (6 * nom)))
  let d3 := if d.flag Reg.FT_CTL_LEARN_EN && ! s.revSyn then d2.learn s.rev s.eos else d2
  d3.modScan (fun s => { s with rev := [], revSyn := false, eos := [] })

/-! ### A BD, qualified or synthesised -/

/-- The shadow boundary of SCAN and VIDEO; a new PIX_FREQ waits for a BD with no sheet armed and unlocks the PLL (R454). -/
def Dev.bdBoundary (d : Dev) : Dev :=
  let pending := d.shadows.any (fun x => x.1 == Reg.PIX_FREQ)
  if d.scan.armed = [] then
    let d1 := (d.boundary 0x1F).boundary 0x21
    if pending && d1.reg Reg.PIX_FREQ != d.reg Reg.PIX_FREQ then d1.set Reg.VID_STAT_PIX_LOCK 0 else d1
  else
    let d1 := (d.boundary 0x1F).takeShadows (fun a => onPage 0x21 a && a != Reg.PIX_FREQ)
    if pending then d1 else d1.boundary 0x21

/-- What every BD with timestamp `t` does: the boundary, FACET, the interval, the revolution, the mask at facet 0 (R445), indexing, and the
lines of armed sheets on a used facet. -/
def Dev.bd (d : Dev) (m : Mem) (t : Nat) (synth late : Bool) : Dev × Mem :=
  let f := (d.facet + 1) % 6
  let interval := t - d.scan.tLast.getD t
  let d1 := (d.bdBoundary.set Reg.BD_STAT_FACET f).set Reg.BD_PERIOD_PERIOD (satN 20 interval)
  let d2 := d1.modScan (fun s => { s with
    tLast := some t, winArmed := false, openAt := none, goSeen := false, apcDone := false, eosOpen := false,
    rev := if s.tLast.isSome then s.rev ++ [(f, interval)] else [], revSyn := s.revSyn || synth })
  let d3 := if f = 0 then
      let d' := if d2.scan.rev.length = 6 then d2.revolution else d2.modScan (fun s => { s with rev := [], revSyn := false, eos := [] })
      d'.modScan (fun s => { s with mask := gearMask (d.get Reg.PC_STAT_RUN_GEAR) })
    else d2
  let d4 := (d3.indexStep interval (synth || d.scan.tLast.isNone)).modSeq 0 (fun q => { q with latch := q.latch ||| (if synth then 2 else 1) })
  if d4.facetUsed then d4.usedBd m late else (d4, m)

/-- c_f of R443: the sum of INT_ERR over facets 1 to `f`. -/
def Dev.facetOfs (d : Dev) (f : Nat) : Int := (List.range f).foldl (fun a j => a + d.intErr (j + 1)) 0

/-- Whether a pulse with leading edge `t` and a width in cycles qualifies (R428, R429). -/
def Dev.pulseOk (d : Dev) (t width : Nat) : Bool :=
  d.scan.winArmed && (match d.scan.openAt with
    | some o => decide (o ≤ t)
    | none => false) &&
  (! d.flag Reg.BD_STAT_QUALIFIED || decide (6 * (t : Int) ≤ d.expect6 + 96 * d.get Reg.BD_WINCFG_WIN_POST)) &&
  decide (d.get Reg.BD_CFG_W_MIN ≤ width) && decide (width ≤ d.get Reg.BD_CFG_W_MAX)

/-- BD_PULSE (R429 to R431, R443): a pulse with leading edge at `t`, of `width` cycles; `late`: the composite of the line it starts is not
complete (R378). -/
def execBdPulse (t width : Nat) (late : Bool) : State → Out := onAll (fun d m =>
  if d.pulseOk t width then
    let r := (d.set Reg.BD_STAT_MISS_RUN 0).bd m t false late
    (r.1.bdFuse r.1.facet ((t : Int) - r.1.facetOfs r.1.facet), r.2)
  else (d.addSat Reg.BD_CNT_REJECTS 1, m))

/-- BD_WINDOW_OPEN (R428): with QUALIFIED 1 an armed window opens at E − WIN_PRE. -/
def execBdWindowOpen : State → Out := onDev (fun d =>
  when (d.scan.winArmed && d.flag Reg.BD_STAT_QUALIFIED && d.scan.openAt.isNone) (fun d =>
    d.modScan (fun s => { s with openAt := some (-(96 * (d.get Reg.BD_WINCFG_WIN_PRE : Int) - d.expect6).fdiv 6).toNat })) d)

/-- BD_WINDOW_CLOSE (R432, R433): the window closes at E + WIN_POST without a qualified pulse, and a BD is synthesised with timestamp
E. -/
def execBdWindowClose (late : Bool) : State → Out := onAll (fun d m =>
  if d.scan.winArmed && d.flag Reg.BD_STAT_QUALIFIED then
    let r := d.bd m (roundDivI d.expect6 6).toNat true late
    let d1 := ((r.1.addSat Reg.BD_CNT_MISSES 1).addSat Reg.BD_STAT_MISS_RUN 1).fire 0x1F 5 0
    (if atLeast1 (d.get Reg.BD_CFG_BD_LOSS) ≤ d1.get Reg.BD_STAT_MISS_RUN then d1.beamLost else d1, r.2)
  else (d, m))

/-- EOS_PULSE (R441): an EOS with leading edge `t` is captured for the current facet between LINE_END and the next BD_ARM. -/
def execEosPulse (t : Nat) : State → Out := onDev (fun d =>
  when (d.pmFunc 4 == 0 && d.scan.eosOpen && d.flag Reg.BD_CFG_EOS_EN && ! d.scan.eos.any (·.1 == d.facet)) (fun d =>
    d.modScan (fun s => { s with eos := s.eos ++ [(d.facet, t - s.tLast.getD t)] })) d)

/-- The BD_ARM pulse (R428, R441): the window is armed, and without qualification it opens at once. -/
def Dev.bdArm (d : Dev) : Dev :=
  let miss := d.scan.eosOpen && d.flag Reg.BD_CFG_EOS_EN && ! d.scan.eos.any (·.1 == d.facet)
  let d1 := if miss then d.addSat Reg.SCAN_ERR_EOS_MISS 1 else d
  d1.modScan (fun s => { s with
    winArmed := true, eosOpen := false, openAt := if d.flag Reg.BD_STAT_QUALIFIED then none else some 0 })

/-- The APC_TAKE pulse: the sample is taken, and L1 has a new measurement (R636). -/
def Dev.apcTake (d : Dev) : Dev := d.modScan (fun s => { s with apcDone := true, apcFresh := true })

/-- The LINE_END pulse: the line ends, and an EOS may be captured (R441). -/
def Dev.lineEnd (d : Dev) : Dev := (d.modScan (fun s => { s with eosOpen := true })).set Reg.VID_STAT_LINE_ACTIVE 0

/-- SEARCH_TIMEOUT (R435): SIG bit 0 has not been raised within SEARCH_MAX of the start of SEARCH. -/
def execSearchTimeout : State → Out := onDev (fun d =>
  when (d.laserState == LasSt.warming && ! d.flag Reg.BD_STAT_QUALIFIED) (fun d =>
    (((d.seqHalt 0).raise 0x1F 0xF St.bdLost 3 (d.facet * 256 + d.olderToken * 16777216)).faultOn 0x1F 2 St.bdLost 3 0).engineStopNow 0x1F 16) d)

/-! ### The pixel clock and the line buffers (R454 to R456, R463, R465) -/

/-- PIX_LOCK_ACQUIRE (R454, R785): PIXPLL has locked to a QUALIFIED XO. -/
def execPixLockAcquire : State → Out := onDev (fun d => when (d.flag Reg.CK_AUX_STAT_PIX_REF) (·.set Reg.VID_STAT_PIX_LOCK 1) d)

/-- PIXPLL has lost its lock (R465): with a sheet armed every armed sheet is gated. -/
def Dev.pixLoss (d : Dev) : Dev :=
  if d.flag Reg.VID_STAT_PIX_LOCK then
    let d1 := d.set Reg.VID_STAT_PIX_LOCK 0
    if d.scan.armed = [] then d1 else d1.bdLost 1
  else d

/-- PIX_LOCK_LOSS (R465). -/
def execPixLockLoss : State → Out := onDev (fun d => d.pixLoss)

/-- The armed sheet and image line that the next used-facet BD will expose. -/
def Dev.nextLine (d : Dev) : Option (Armed × Nat) :=
  (d.scan.armed.filterMap (fun a =>
    let l : Int := match a.line with
      | some l => l + 1
      | none => -(a.lead : Int)
    if 0 ≤ l ∧ l < a.lines then some (a, l.toNat) else none)).head?

/-- The galley reads line `y` of band `b` of a sheet (R271, R273): errors in it are found. -/
def Dev.lineRead (d : Dev) (s : Sheet) (b y : Nat) : Dev :=
  let lb := s.width * s.bpp / 8
  if 2 ≤ s.present.length then d.readBand (fun u => u.holds s 1 0 b) (y * lb) ((y + 1) * lb)
  else d.readBand (d.unitOfLayers s s.present b) (y * lb) ((y + 1) * lb)

/-- LINE_GO (R455, R456, R463): VIDEO takes the pulse, latches LINE_PHASE and PIX_TRIM and fetches the next line; `late`: the pulse comes
after the line start it names. -/
def execLineGo (late : Bool) : State → Out := onAll (fun d m =>
  if bit (d.seq 0).pulse 4 then
    let d0 := match d.nextLine with
      | some (a, l) => match d.armedSheet a with
        | some s => d.lineRead s (l / bandLines s.bandH) (l % bandLines s.bandH)
        | none => d
      | none => d
    let d1 := d0.modSeq 0 (fun q => { q with pulse := q.pulse &&& (0xFFFFF ^^^ 16) })
    let bytes := match d.nextLine with
      | some (a, l) => match d.armedSheet a with
        | some s => d.videoLine m s (l / bandLines s.bandH) (l % bandLines s.bandH)
        | none => []
      | none => []
    let d2 := (d1.modScan (fun s => { s with
      phase := (d1.seq 0).ports.getD 3 0, trim := (d1.seq 0).ports.getD 4 0, goSeen := ! late, fetched := bytes })).set
        Reg.VID_STAT_LINE_COMPLETE 1
    if late then
      let d3 := (d2.addSat Reg.SCAN_ERR_LATE_GO 1).fireRaw 0x1F 8
      match d.scan.armed.head? with
      | some a => if a.img then ((d3.raiseFree 0x1F a.ten St.spoiled 2).spoilToken a.token, m)
          else (d3.raise 0x1F 0xF 0 0 8, m)
      | none => (d3.raise 0x1F 0xF 0 0 8, m)
    else (d2.set Reg.VID_STAT_LINE_ACTIVE 1, m)
  else (d, m))

/-- LINE_ADV (R463): the buffers are exchanged; an image line that was sent counts in VID_LINES. -/
def execLineAdv : State → Out := onDev (fun d =>
  when (bit (d.seq 0).pulse 16) (fun d =>
    let sent := d.scan.goSeen && (match d.scan.armed.head? with
      | some a => a.img && ! a.gated
      | none => false)
    let d1 := (d.modSeq 0 (fun q => { q with pulse := q.pulse &&& 0xFFFF })).modScan (fun s => { s with sending := s.fetched, fetched := s.sending })
    let d1 := d1.set Reg.VID_STAT_LINE_COMPLETE 0
    if sent then d1.addWrap Reg.VID_LINES_COUNT 1 else d1) d)

end Sys2Proof.Machine
end

