-- ==== Sys2Proof/Machine/Process.lean ====
section
/-! DEFINITION. Fuser, high voltage and laser (spec/14_fuser_hv_laser.md), and the sample of a control loop with what the owning block
does at it (spec/13_loops.md, R575). -/

set_option linter.unusedVariables false

namespace Sys2Proof.Machine

/-! ### The thermistor (R607) -/

/-- ln(a / b), scaled by 2^64, for a and b above 0. -/
def lnInt (a b : Nat) : Int := if b ≤ a then (lnRatio a b : Int) else -(lnRatio b a : Int)

/-- The temperature of a RATIO, in 1/q °C to the nearest, by the equation of R607; none where the equation has no value. -/
def ntcTemp (pull ratio ntc beta q : Nat) : Option Int :=
  if pull = 0 ∨ ratio = 0 ∨ 4096 ≤ ratio ∨ ntc = 0 ∨ beta = 0 then none
  else
    let x : Int := 2 ^ 64 * 100 * (beta : Int) + 29815 * lnInt (pull * ratio) ((4096 - ratio) * ntc)
    if x ≤ 0 then none
    else some (roundDivI (2 ^ 64 * 100 * (q : Int) * 29815 * (beta : Int) - 27315 * (q : Int) * x) (100 * x))

/-- A temperature as a signed number of `w` bits; a free value where the equation gives none that the field can hold (log entry 6). -/
def Dev.tempOr (d : Dev) (w : Nat) (t : Option Int) : Int × Dev :=
  match t with
  | some t => if t = satI w t then (t, d) else (sext (Config.freeWord d.free).toNat w, d.fresh.2)
  | none => (sext (Config.freeWord d.free).toNat w, d.fresh.2)

/-! ### What the owning blocks set on their loops (R609, R624, R625, R636, R756) -/

/-- A setting of `n / k` as a Q16.16 word. -/
def q16 (n : Int) (k : Nat) : Int := roundDivI (n * 65536) k

/-- Set REF, REF_STEP, UMIN, UMAX and UOFF of a channel. -/
def Dev.loopFields (d : Dev) (n : Nat) (ref step umin umax uoff : Int) : Dev :=
  ((((d.loopSet (Reg.LP_REF_REF n) ref).loopSet (Reg.LP_REF_STEP_STEP n) step).loopSet (Reg.LP_UMIN_UMIN n) umin).loopSet
    (Reg.LP_UMAX_UMAX n) umax).loopSet (Reg.LP_UOFF_UOFF n) uoff

/-- REF_FS of high-voltage channel `c` in V. -/
def Dev.hvRefFs (d : Dev) (c : Nat) : Int :=
  match c with
  | 0 => d.geti Reg.HV_FS0_CHG_REF_FS
  | 1 => d.geti Reg.HV_FS1_DEV_REF_FS
  | _ => d.get Reg.HV_FS2_TR_REF_FS

/-- FB_FS of high-voltage channel `c`, in V for charge and developer and in 0.1 µA for transfer, and the divisor of its unit. -/
def Dev.hvFbFs (d : Dev) (c : Nat) : Int × Nat :=
  match c with
  | 0 => (d.geti Reg.HV_FS0_CHG_FB_FS, 1)
  | 1 => (d.geti Reg.HV_FS1_DEV_FB_FS, 1)
  | _ => (d.get Reg.HV_FS2_TR_FB_FS, 10)

/-- The reference of high-voltage channel `c` as a Q16.16 word (R625). -/
def Dev.hvSp (d : Dev) (c : Nat) : Int :=
  match c with
  | 0 => q16 (d.geti Reg.HV_SP0_CHG_SP) 1
  | 1 => q16 (d.geti Reg.HV_SP0_DEV_SP) 1
  | _ => q16 (match d.engine.target with
    | 2 => d.get Reg.HV_SP1_TR_G2
    | 3 => d.get Reg.HV_SP2_TR_G3
    | _ => d.get Reg.HV_SP1_TR_G1 : Nat) 10

/-- REF_STEP of a channel in bring-up: its setpoint is reached in HV_RAMP (R627); 0 outside a bring-up. -/
def Dev.hvStep (d : Dev) (c : Nat) : Int :=
  if d.proc.hvCh = some c then
    let n := atLeast1 (ceilDiv (atLeast1 (d.get Reg.HV_CFG_HV_RAMP) * 1000) (clampN 20 100000 (d.get (Reg.LP_PERIOD_PERIOD (2 + c)))))
    atLeast1 (ceilDiv (d.hvSp c).natAbs n)
  else 0

/-- What the owning block of loop `n` sets before a sample. -/
def Dev.ownerSet (d : Dev) (n : Nat) : Dev :=
  match n with
  | 0 => d.loopFields 0 (q16 (d.fuserSp d.engine.target) 1) 0 (if d.flag Reg.FU_STAT_CORR_RUN then q16 100 1 else 0) (q16 100 1) 0
  | 1 => d.loopFields 1 (q16 (d.get Reg.LS_P_P_SET) 100) 0 0 (q16 (d.get Reg.LS_BIAS_IB_MAX) 10) (q16 (d.get Reg.LS_BIAS_IB_START) 10)
  | 2 | 3 | 4 =>
    let fs := q16 (d.hvRefFs (n - 2)) 1
    d.loopFields n (d.hvSp (n - 2)) (d.hvStep (n - 2)) (min 0 fs) (max 0 fs) 0
  | 5 => d.loopFields 5 (q16 (d.vset : Nat) 1000) 0 0 (q16 (min 2000 (d.get Reg.HL_CHG_ICHG)) 1) 0
  | _ => d

/-! ### What the owning blocks read from a sample -/

/-- Since when a condition holds: kept while it holds, none when it does not. -/
def keepSince (now : Nat) (p : Bool) (t : Option Nat) : Option Nat := if p then some (t.getD now) else none

/-- Whether a condition has held for `us` microseconds. -/
def lastsFor (now us : Nat) (t : Option Nat) : Bool :=
  match t with
  | some t => decide (t + us ≤ now)
  | none => false

/-- The channel other than the one in bring-up whose feedback answers it (R628). -/
def Dev.hvSwapped (d : Dev) : Option Nat :=
  match d.proc.hvCh with
  | none => none
  | some c =>
    if 100 * d.proc.hvFb.getD c 0 < 5 * 4096 then
      (List.range 3).find? (fun x => x != c && decide (5 * 4096 < 100 * d.proc.hvFb.getD x 0))
    else none

/-- READY of channel `c` follows its feedback (R629); a departure spoils committed sheets (R643). -/
def Dev.hvReady (d : Dev) (c : Nat) (y r : Int) : Dev :=
  let inside := decide ((y - r).natAbs * 100 ≤ d.get Reg.HV_CFG_HV_WIN * r.natAbs) && d.get (Reg.LP_STAT_STATE (2 + c)) == 1
  let t := keepSince d.now inside (d.proc.hvWinAt.getD c none)
  let d1 := { d with proc := { d.proc with hvWinAt := lmod d.proc.hvWinAt c (fun _ => t) } }
  let was := bit (d.get Reg.HV_STAT_READY) c
  if was && ! inside then ((d1.setBit Reg.HV_STAT c false).fire 0x30 0 c).processSpoil 0x30
  else if ! was && lastsFor d.now 20000 t then (d1.setBit Reg.HV_STAT c true).fire 0x30 0 c
  else d1

/-- What HV sees at a feedback `code` (1/4096 of VANA) of channel `c` (R628 to R630). -/
def Dev.hvSample (d : Dev) (c code : Nat) : Dev :=
  let d1 := { d with proc := { d.proc with hvFb := lmod d.proc.hvFb c (fun _ => (code : Int)) } }
  if ! d1.flag Reg.HV_STAT_HV_EN then d1
  else match d1.hvSwapped with
    | some x => d1.hvFault 3 x
    | none =>
      let y := (d1.lch (2 + c)).y
      let r := d1.geti (Reg.LP_R_R (2 + c))
      let sat := d1.get (Reg.LP_STAT_STATE (2 + c)) == 1 && d1.flag (Reg.LP_STAT_SAT (2 + c))
      let low := keepSince d.now (sat && decide (2 * y.natAbs < r.natAbs)) (d1.proc.hvLowAt.getD c none)
      let overT := keepSince d.now (decide (110 * 4096 < 100 * code)) (d1.proc.hvOverAt.getD c none)
      let d2 := { d1 with proc := { d1.proc with
        hvLowAt := lmod d1.proc.hvLowAt c (fun _ => low), hvOverAt := lmod d1.proc.hvOverAt c (fun _ => overT) } }
      if lastsFor d.now 10000 low then d2.hvFault 1 c
      else if lastsFor d.now 1000 overT then d2.hvFault 2 c
      else d2.hvReady c y r

/-- What LASER sees at an APC sample with L1 in RUN (R638, R641). -/
def Dev.apcSample (d : Dev) : Dev :=
  if d.get (Reg.LP_STAT_STATE 1) ≠ 1 then d
  else
    let y := (d.lch 1).y
    let p : Int := d.get Reg.LS_P_P_SET
    let inside := decide ((100 * y - 65536 * p).natAbs * 100 ≤ d.get Reg.LS_P_APC_WIN * 65536 * p.natAbs)
    let dark := d.flag (Reg.LP_STAT_SAT 1) && d.flag (Reg.LP_STAT_SAT_HIGH 1) && decide (1000 * y < 65536 * p)
    let d1 := { d with proc := { d.proc with
      apcRun := if inside then min 64 (d.proc.apcRun + 1) else 0, darkRun := if dark then d.proc.darkRun + 1 else 0 } }
    let was := d.flag Reg.LS_STAT_APC_SETTLED
    let d2 := if was && ! inside then ((d1.set Reg.LS_STAT_APC_SETTLED 0).fire 0x31 3 0).processSpoil 0x31
      else if ! was && d1.proc.apcRun == 64 then (d1.set Reg.LS_STAT_APC_SETTLED 1).fire 0x31 3 1
      else d1
    if d2.proc.darkRun = 16 then d2.laserFault 2 else d2

/-- What a channel's source delivers with a reading `fb`: 1/4096 of VANA for L1 to L4, HLD_VS in mV for L5. L1 takes it only when APC_TAKE
came since the last sample. L0, L6 and L7 are delivered by their own commands. -/
def Dev.loopFeed (d : Dev) (n code : Nat) : Dev :=
  match n with
  | 1 =>
    if d.scan.apcFresh then
      ((d.modScan (fun s => { s with apc := code, apcFresh := false })).loopDeliver 1
        (roundDivI (code * d.get Reg.LS_FS_PD_FS * 65536 : Nat) 409600)).apcSample
    else d
  | 2 | 3 | 4 =>
    let fs := d.hvFbFs (n - 2)
    (d.loopDeliver n (roundDivI ((code : Int) * fs.1 * 65536) (4096 * fs.2))).hvSample (n - 2) code
  | 5 => d.loopDeliver 5 (q16 code 1000)
  | _ => d

/-- A loop without a measurement is a fault of its owning block (R645; spec/17, cause STALE). -/
def Dev.ownerStale (d : Dev) (n : Nat) : Dev :=
  match n with
  | 0 => d.fuserFault 12
  | 1 => d.laserFault 4
  | 2 | 3 | 4 => d.hvFault 5 (n - 2)
  | 5 => d.bankFault 7
  | _ => d

/-- The shadow boundary of the page whose loop `n` is (Table 5-2): a new fuser setpoint clears SETTLED (R610). -/
def Dev.ownerBoundary (d : Dev) (n : Nat) : Dev :=
  match n with
  | 0 =>
    let d1 := d.boundary 0x2F
    if d1.fuserSp d.engine.target = d.fuserSp d.engine.target then d1
    else { (d1.set Reg.FU_STAT_SETTLED 0) with proc := { d1.proc with winAt := none } }
  | 1 => d.boundary 0x31
  | 2 | 3 | 4 => d.boundary 0x30
  | _ => d

/-- LOOP_SAMPLE (R570 to R600): a sample instant of channel `n`, with the reading its source has delivered before it (none: no delivery).
A channel that is not in RUN takes its shadows only. -/
def execLoopSample (n : Fin 8) (fb : Option Nat) : State → Out := onDev (fun d =>
  let d1 := match fb with
    | some c => d.loopFeed n.val c
    | none => d
  let d2 := (d1.ownerBoundary n.val).ownerSet n.val
  if d2.get (Reg.LP_STAT_STATE n.val) = 1 then
    let d3 := d2.loopTick n.val
    if d3.get (Reg.LP_STAT_STATE n.val) = 2 then d3.ownerStale n.val else d3
  else d2.chanBoundary 0x2D n.val)

/-! ### The heater (R605, R617 to R619) -/

/-- HTR_PER in force, in ms. -/
def Dev.heaterPer (d : Dev) : Nat := clampN 10 1000 (d.get Reg.FU_HTR_HTR_PER)

/-- HEATER_PERIOD: the period that ends had a mean on-time current of `i` mA, below HTR_OPEN throughout when `low`; the next begins with the
duty of L0. -/
def execHeaterPeriod (i : Nat) (low : Bool) : State → Out := onDev (fun d =>
  let on := d.proc.onTime
  let d1 := if on = 0 then d else d.set Reg.FU_HTR_I_I (min i 65535)
  let run := if low && decide (100 ≤ on) then d.proc.openRun + 1 else 0
  let d2 := { d1 with proc := { d1.proc with openRun := run } }
  let d3 := if run = 3 then d2.fuserFault 6 else d2
  let u := if d3.heaterBlocked then 0 else (d3.loopU 0).toNat
  let t := min (d3.heaterPer * 10) (roundDiv (u * d3.heaterPer * 10) (100 * 65536))
  { (d3.setb Reg.FU_STAT_HTR_ON (t != 0)) with proc := { d3.proc with onTime := t, perAt := d3.now } })

/-- The heater gate is on now: within the on-time of the period. -/
def Dev.heaterOn (d : Dev) : Bool := d.flag Reg.FU_STAT_HTR_ON && decide (d.now < d.proc.perAt + 100 * d.proc.onTime)

/-- HEATER_OVERCURRENT (R618): the current passes HTR_OC while the gate is on. -/
def execHeaterOvercurrent : State → Out := onDev (fun d => when (d.heaterOn && ! d.faulted 0x2F 7) (fun d => d.heaterForceOff.fuserFault 7) d)

/-- A rail channel is locked off until a device reset (R619, R642, R703). -/
def Dev.lockOff (d : Dev) (n : Nat) : Dev := ((d.setBit Reg.PWR_LOCKOFF n true).chOff n false).applyForcing

/-- HEATER_STUCK (R619): a current above HTR_OPEN for 10 ms with the gate off. -/
def execHeaterStuck : State → Out := onDev (fun d =>
  when (! d.heaterOn && ! d.faulted 0x2F 8) (fun d => (d.fuserFault 8).lockOff 10) d)

/-! ### Over-temperature (R614 to R616) -/

/-- OT_TRIP (R616): the comparator trips. -/
def execOtTrip : State → Out := onDev (fun d =>
  when (! d.flag Reg.FU_STAT_OT_LATCH) (fun d =>
    (((d.set Reg.FU_STAT_OT_LATCH 1).fireRaw 0x2F 3).heaterForceOff).fuserFault 3) d)

/-- OT_CLR (R616): a write of FU_CLR with OT_CLR set; `trips`: the comparator still trips. -/
def execOtClr (l : Land) (trips : Bool) : State → Out := onDev (fun d =>
  d.land l (fun a v => a == Reg.FU_CLR && bit v.toNat 0) (fun _ _ _ d =>
    let s := d.laserState
    if ! trips && d.flag Reg.FU_STAT_OT_LATCH && (s == LasSt.stopped || s == LasSt.cold || s == LasSt.safe) then
      (d.set Reg.FU_STAT_OT_LATCH 0).procClear 0 3
    else d))

/-! ### The heating-correlation test (R620 to R623) -/

/-- CORR_TEST_START (R621, R622). -/
def execCorrTestStart : State → Out := onDev (fun d =>
  when (d.proc.corrDue && ! d.flag Reg.FU_STAT_CORR_RUN && d.laserState == LasSt.warming && d.get (Reg.CH_STAT_PG 10) == 1 &&
      ! d.procHeld 0 && d.rcpt.isNone && d.get Reg.FU_STAT_TH_STATE == 0) (fun d =>
    let d1 := ((((d.set Reg.FU_STAT_CORR_RUN 1).set Reg.FU_STAT_CORR_RESULT 0).set Reg.FU_CORR_CORR_FORCE 0).set (Reg.PG_OWNER_FW_HOLD 0x2F) 1)
    (({ d1 with proc := { d1.proc with corr := some (d1.now, d1.geti Reg.FU_TEMP_TEMP, d1.geti Reg.HD_TEMP_TEMP) } }).ownerSet 0).loopInit 0) d)

/-- CORR_FORCE (R620): a write of FU_CORR with CORR_FORCE set. -/
def execCorrForce (l : Land) : State → Out := onDev (fun d =>
  d.land l (fun a v => a == Reg.FU_CORR && bit v.toNat 8) (fun _ a v d => d.store a v.toNat))

/-- A rise in 0.1 °C as whole degrees, saturating. -/
def riseDeg (t : Int) : Nat := min 255 (t.toNat / 10)

/-- The correlation test ends (Table 14-3). -/
def Dev.corrEnd (d : Dev) (f h : Int) : Dev :=
  let d1 := ((((d.set Reg.FU_STAT_CORR_RUN 0).fwFree 0x2F).set Reg.FU_CORR_STAT_F_RISE (riseDeg f)).set
    Reg.FU_CORR_STAT_H_RISE (riseDeg h))
  let d2 := { d1 with proc := { d1.proc with corr := none, corrDue := false } }
  let rise : Int := 10 * d.get Reg.FU_WARM_CORR_RISE
  let p := fun c => c + riseDeg f * 256 + riseDeg h * 65536
  if rise ≤ f then
    if h ≤ 10 * d.get Reg.FU_CORR_HEAD_RISE then ((d2.set Reg.FU_STAT_CORR_RESULT 1).fire 0x2F 2 0).ownerSet 0
    else ((d2.set Reg.FU_STAT_CORR_RESULT 3).fireRaw 0x2F 2).procFault 0 St.fuserFault 10 (p 10)
  else if rise ≤ h then ((d2.set Reg.FU_STAT_CORR_RESULT 2).fireRaw 0x2F 2).thermSwapped (p 11)
  else ((d2.set Reg.FU_STAT_CORR_RESULT 3).fireRaw 0x2F 2).procFault 0 St.fuserFault 9 (p 9)

/-- The test's end conditions at a reading (R622). -/
def Dev.corrCheck (d : Dev) : Dev :=
  match d.proc.corr with
  | none => d
  | some (t0, f0, h0) =>
    let f := d.geti Reg.FU_TEMP_TEMP - f0
    if 10 * (d.get Reg.FU_WARM_CORR_RISE : Int) ≤ f ∨ t0 + clampN 1 10 (d.get Reg.FU_WARM_CORR_T) * 1000000 ≤ d.now then
      d.corrEnd f (d.geti Reg.HD_TEMP_TEMP - h0)
    else d

/-! ### The reading (R607 to R611) -/

/-- Window and SETTLED (R610), and the limits (R611). -/
def Dev.fuserWindow (d : Dev) : Dev :=
  let t := d.geti Reg.FU_TEMP_TEMP
  let sp : Int := 10 * d.fuserSp d.engine.target
  let inside := decide ((t - sp).natAbs ≤ 10 * d.get Reg.FU_SP1_WIN)
  let was := d.flag Reg.FU_STAT_IN_WIN
  let d1 := if inside = was then d else (d.setb Reg.FU_STAT_IN_WIN inside).fire 0x2F 0 (b2n inside)
  let at' := keepSince d.now inside (if was then d.proc.winAt else none)
  let d2 := { d1 with proc := { d1.proc with winAt := at' } }
  let d3 := d2.setb Reg.FU_STAT_SETTLED (lastsFor d.now (d.get Reg.FU_WARM_SETTLE * 100000) at')
  let d4 := if was && ! inside then d3.processSpoil 0x2F else d3
  let s := d4.laserState
  if (s = LasSt.ready ∨ s = LasSt.printing) ∧ 10 * d.get Reg.FU_SP1_LIMIT < (t - sp).natAbs ∧ ! d4.procHeld 0 then
    d4.fuserFault (if sp < t then 4 else 5)
  else d4

/-- A fuser reading whose ratio is neither open nor short (R607): TEMP, the feedback of L0, and what is judged from it. -/
def Dev.fuserTemp (d : Dev) (r : Nat) : Dev :=
  let was := d.get Reg.FU_STAT_TH_STATE
  let d2 := if was = 0 then d else (d.set Reg.FU_STAT_TH_STATE 0).procClear 0 was
  let temp := ntcTemp (d.get Reg.FU_PULL_PULLUP) r (d.get Reg.FU_NTC_NTC_RES) (d.get Reg.FU_NTC_BETA)
  let t := d2.tempOr 16 (temp 10)
  let y := t.2.tempOr 32 (temp 65536)
  (((y.2.seti Reg.FU_TEMP_TEMP t.1).loopDeliver 0 y.1).corrCheck).fuserWindow

/-- FUSER_READING (R607, R608): `ratio` is the mean of eight conversions. -/
def execFuserReading (ratio : Fin 4096) : State → Out := onDev (fun d =>
  let r := ratio.val
  let o := if 4080 ≤ r then d.proc.opens + 1 else 0
  let s := if r ≤ 16 then d.proc.shorts + 1 else 0
  let d1 := { (d.set Reg.FU_TEMP_RATIO r) with proc := { d.proc with opens := min 3 o, shorts := min 3 s } }
  let was := d.get Reg.FU_STAT_TH_STATE
  if 3 ≤ o ∨ 3 ≤ s then
    let k := if 3 ≤ o then 1 else 2
    if was = k then d1
    else
      let d2 := (d1.set Reg.FU_STAT_TH_STATE k)
      (if was = 0 then d2 else d2.faultOff 0x2F was).fuserFault k
  else d1.fuserTemp r)

/-! ### High voltage bring-up (R626, R627) -/

/-- The references of the channels other than `c` are held at 0. -/
def Dev.hvOnly (d : Dev) (c : Nat) : Dev := (List.range 3).foldl (fun d x => if x = c then d else d.loopOff (2 + x)) d

/-- Channel `c` starts to ramp. -/
def Dev.hvStart (d : Dev) (c : Nat) : Dev :=
  let d1 := (((d.set Reg.HV_STAT_HV_EN 1).set Reg.HV_STAT_BRINGUP 1).set Reg.HV_STAT_CHANNEL c).hvOnly c
  let d2 := { d1 with proc := { d1.proc with
    hvCh := some c, hvUp := c, hvEnd := d1.now + 1000 * atLeast1 (d1.get Reg.HV_CFG_HV_RAMP) } }
  (d2.ownerSet (2 + c)).loopInit (2 + c)

/-- HV_BRINGUP_STEP (R627): the bring-up starts, or a channel's ramp ends; after the last the three references stand at their setpoints
(log entry 14). -/
def execHvBringupStep : State → Out := onDev (fun d =>
  when (d.hvAllowed && d.get (Reg.CH_STAT_PG 9) == 1) (fun d =>
    match d.proc.hvCh with
    | some c =>
      if ! d.past d.proc.hvEnd 0 then d
      else if c < 2 then d.hvStart (c + 1)
      else
        let d1 := { (d.set Reg.HV_STAT_BRINGUP 0) with proc := { d.proc with hvCh := none, hvUp := 3 } }
        (List.range 3).foldl (fun d x => (d.ownerSet (2 + x)).loopInit (2 + x)) d1
    | none => if d.proc.hvUp = 0 then d.hvStart 0 else d) d)

/-! ### Interlock, overpower and the enables (R631 to R642) -/

/-- ILK_CHANGE (R626, R631): ILK_N, after its filter, reads high or low. -/
def execIlkChange (high : Bool) : State → Out := onDev (fun d => ((d.setb Reg.LS_STAT_ILK (! high)).permitUpdate).hvUpdate)

/-- OVERPOWER_TRIP (R639, R640). -/
def execOverpowerTrip : State → Out := onDev (fun d =>
  when (! d.flag Reg.LS_STAT_OP_LATCH) (fun d =>
    (((d.set Reg.LS_STAT_OP_LATCH 1).addSat Reg.LS_CNT_OP_TRIPS 1).permitUpdate).laserFault 1) d)

/-- What a write of LS_CTL does beside OP_CLR (R633, R635): COV_EN from everyone, ARM from the firmware. -/
def Dev.lsCtl (d : Dev) (ag : Agent) (v : Nat) : Dev :=
  let d1 := d.set Reg.LS_CTL_COV_EN (bitsOf v 4 2)
  if ag = .fw then d1.setArm (bit v 0) else d1

/-- OP_CLR (R640): a write of LS_CTL with OP_CLR set; `trips`: the comparator still trips. -/
def execOpClr (l : Land) (trips : Bool) : State → Out := onDev (fun d =>
  d.land l (fun a v => a == Reg.LS_CTL && bit v.toNat 1) (fun ag _ v d =>
    let d1 := if ! trips && d.flag Reg.LS_STAT_OP_LATCH && ! d.flag Reg.LS_CTL_ARM then
        ((d.set Reg.LS_STAT_OP_LATCH 0).permitUpdate).procClear 2 1
      else d
    d1.lsCtl ag v.toNat))

/-- ENABLE_MISMATCH (R642): the ball of HV_EN, or of LD_EN_OUT, reads asserted for 10 µs against the drive. -/
def execEnableMismatch (hv : Bool) : State → Out := onDev (fun d =>
  if hv then when (! d.flag Reg.HV_STAT_HV_EN && ! d.faulted 0x30 4) (fun d => (d.procFault 1 St.hvFault 4 4).lockOff 9) d
  else when (! d.flag Reg.LS_STAT_PERMIT && ! d.faulted 0x31 3) (fun d => (d.laserFault 3).lockOff 8) d)

end Sys2Proof.Machine
end

