-- ==== Sys2Proof/Machine/Head.lean ====
section
/-! DEFINITION. The thermal line head (spec/15_thermal_head.md): line data and substitution, energy and passes, preheat, the platen, the
gates, element resistance and defects, and the cutter. -/

set_option linter.unusedVariables false

namespace Sys2Proof.Machine

/-! ### Settings -/

/-- DOTS: 8 to 1728, a multiple of 8. -/
def Dev.dots (d : Dev) : Nat := clampN 8 1728 (d.get Reg.HD_CFG_DOTS) / 8 * 8

/-- The number of lanes. -/
def Dev.lanes (d : Dev) : Nat :=
  match d.get Reg.HD_CFG_LANES with
  | 0 => 1
  | 1 => 2
  | _ => 4

/-- Cycles of CLK_LINE that shifting a pattern takes (R651). -/
def Dev.shiftCycles (d : Dev) : Nat := d.dots / d.lanes * (2 * (atLeast1 (d.get Reg.HD_CFG_CLK_DIV) + 1))

/-- Dots of a strobe group (R657). -/
def Dev.groupDots (d : Dev) : Nat := ceilDiv d.dots (d.get Reg.HD_CFG_NGROUPS + 1)

/-- Groups strobed at once (R657). -/
def Dev.simGroups (d : Dev) : Nat := 2 ^ d.get Reg.HD_CFG_SIM

/-- RATE_MAX in force. -/
def Dev.rateMax (d : Dev) : Nat := min 2400 (d.get Reg.HD_RATE_RATE_MAX)

/-- HEAD_EN: level line 8 of LINE. -/
def Dev.headEn (d : Dev) : Bool := bit (d.seq 1).level 8

/-- What LINE last wrote to a port. -/
def Dev.linePort (d : Dev) (p : Nat) : Nat := (d.seq 1).ports.getD p 0

/-- The strobes are gated (R663); cause 10 is a CUT_FAULT. -/
def Dev.gated (d : Dev) : Bool :=
  d.get Reg.HD_STAT_GATE != 0 || ! d.headEn || ! d.head.vhOk || d.get Reg.HD_STAT_CAUSES % 1024 != 0

/-- Whether a pulse of LINE output line `b` waits to be taken. -/
def Dev.linePulse (d : Dev) (b : Nat) : Bool := bit (d.seq 1).pulse b

/-- Take the pulse of LINE output line `b`. -/
def Dev.takePulse (d : Dev) (b : Nat) : Dev := d.modSeq 1 (fun q => { q with pulse := q.pulse &&& (0x1FFFF ^^^ 2 ^ b) })

/-! ### Lines of the receipt (R383, R384, R667, R671) -/

/-- The job of the receipt in progress. -/
def Dev.rcptJob (d : Dev) : Option Job :=
  match d.rcpt with
  | some (k, e, j) => (d.ten k).jobs.find? (fun x => x.num == j && x.epoch == e)
  | none => none

/-- The tenant of the receipt in progress, 0xF for none. -/
def Dev.rcptTen (d : Dev) : Nat :=
  match d.rcpt with
  | some (k, _, _) => k
  | none => 0xF

/-- Whether a unit holds band `b` of the receipt in progress. -/
def Dev.rcptUnit (d : Dev) (b : Nat) (u : GUnit) : Bool :=
  match d.rcpt with
  | some (k, e, j) => u.kind == 2 && u.tenant == k && u.epoch == e && u.job == j && u.band == b
  | none => false

/-- Lines of band `b` of a receipt: the band height, or what the header of its last block gives. -/
def Job.linesOf (j : Job) (m : Mem) (b : Nat) : Nat :=
  let bs := j.stream.blocks m false
  if j.stream.last && b + 1 == bs.length then (parseHdr (j.stream.read m (bs.getD b (0, 0)).1 32)).lines else bandLines j.bandH

/-- All lines of a receipt, once its last byte has been received. -/
def Job.lineCount (j : Job) (m : Mem) : Option Nat :=
  if j.stream.last then
    let n := (j.stream.blocks m false).length
    some (if n = 0 then 0 else (n - 1) * bandLines j.bandH + j.linesOf m (n - 1))
  else none

/-- Lines of the receipt in READY units, numbered `from` or above (R384). A band that LINE has begun to shift counts on. -/
def Dev.readyFrom (d : Dev) (m : Mem) (j : Job) (from' : Nat) : Nat :=
  let h := bandLines j.bandH
  d.units.foldl (fun n u =>
    if (u.state == .ready || u.state == .scanning) && u.part == 0 && d.rcptUnit u.band u then
      n + (j.linesOf m u.band - (from' - u.band * h))
    else n) 0

/-- Whether line `n` of the receipt is in READY units. -/
def Dev.lineReady (d : Dev) (m : Mem) (j : Job) (n : Nat) : Bool :=
  let h := bandLines j.bandH
  n % h < j.linesOf m (n / h) && d.units.any (fun u => (u.state == .ready || u.state == .scanning) && d.rcptUnit (n / h) u)

/-- The fill in percent for a number of READY lines (R384). -/
def Dev.fillPct (d : Dev) (j : Job) (n : Nat) : Nat := min 100 (n * 100 / atLeast1 (d.thBands * bandLines j.bandH))

/-- Every remaining line of the receipt, from `from'` on, is READY. -/
def Dev.allReady (d : Dev) (m : Mem) (j : Job) (from' : Nat) : Bool :=
  match j.lineCount m with
  | some n => d.readyFrom m j from' == n - from'
  | none => false

/-- Line `n` is the receipt's last. -/
def Job.lastLine (j : Job) (m : Mem) (n : Nat) : Bool := j.lineCount m == some (n + 1)

/-- R of spec/15: the lower of the receipt's RATE and RATE_MAX. -/
def Dev.rcptRate (d : Dev) (j : Job) : Nat := min j.rate d.rateMax

/-- The target of R667. -/
def targetRate (r f ahead : Nat) (all : Bool) (fit : Nat) : Nat :=
  let t := if all then r
    else if ahead = 0 then 0
    else if 50 ≤ f then r
    else if 10 ≤ f then r * (400 + 15 * (f - 10)) / 1000
    else max 1 (r / 10)
  min t fit

/-- TARGET at this instant; lines not yet latched count as ahead. -/
def Dev.target (d : Dev) (m : Mem) (j : Job) : Nat :=
  let a := d.readyFrom m j d.head.latched
  targetRate (d.rcptRate j) (d.fillPct j a) a (d.allReady m j d.head.latched) (d.get Reg.HD_FIT_R_FIT)

/-- The platen's rate now, in lines/s. -/
def Dev.platenRate (d : Dev) : Nat := roundDiv ((d.ax 2).vel.natAbs * 256) d.linePitch

/-- The cutter must home before the first line (R685). -/
def Dev.homeNeeded (d : Dev) (j : Job) : Bool :=
  j.cut != 0 && d.head.next == 0 && (d.get (Reg.ST_STAT_POS_STATE 3) == 2 || ! d.flag Reg.HD_STAT_HOMED)

/-- LINE_READY (Table 9-6, R671). -/
def Dev.lineReadyCond (d : Dev) (m : Mem) : Bool :=
  match d.rcptJob with
  | none => false
  | some j =>
    d.head.job == .lines && d.head.stopping != 2 && ! d.homeNeeded j && d.lineReady m j d.head.next &&
    (d.thermalState != ThmSt.starved ||
      decide (d.get Reg.HD_RATE_RESUME_PCT ≤ d.fillPct j (d.readyFrom m j d.head.next)) || d.allReady m j d.head.next)

/-! ### Line data, defects and substitution (R649, R683, R684; Table 6-3) -/

/-- The bytes of line `n`; a word with an uncorrectable error reads as 0 bits. -/
def Dev.rcptBytes (d : Dev) (m : Mem) (j : Job) (n : Nat) : List Byte :=
  let h := bandLines j.bandH
  let lb := (j.width * j.bpp + 7) / 8
  (List.range lb).map (fun i =>
    let o := n % h * lb + i
    match d.units.findIdx? (fun u => d.rcptUnit (n / h) u && u.part == o / 16384) with
    | some u =>
      let a := unitAddr u + o % 16384
      if d.ecc.any (fun e => e.2 && a / 8 == e.1 / 8) then 0 else m.byte a
    | none => 0)

/-- The read of line `n` corrects the single flipped bits it meets (R271). -/
def Dev.rcptRead (d : Dev) (j : Job) (n : Nat) : Dev :=
  let h := bandLines j.bandH
  let lb := (j.width * j.bpp + 7) / 8
  ((List.range lb).filterMap (fun i =>
    let o := n % h * lb + i
    (d.units.findIdx? (fun u => d.rcptUnit (n / h) u && u.part == o / 16384)).map (fun u =>
      (unitAddr u + o % 16384) / 8 * 8))).eraseDups.foldl (fun d w => d.sramRead w 8) d

/-- The first uncorrectable word under line `n`. -/
def Dev.rcptEcc (d : Dev) (j : Job) (n : Nat) : Option Nat :=
  let h := bandLines j.bandH
  let lb := (j.width * j.bpp + 7) / 8
  ((List.range lb).filterMap (fun i =>
    let o := n % h * lb + i
    match d.units.findIdx? (fun u => d.rcptUnit (n / h) u && u.part == o / 16384) with
    | some u =>
      let a := unitAddr u + o % 16384
      if d.ecc.any (fun e => e.2 && a / 8 == e.1 / 8) then some (a / 8 * 8) else none
    | none => none)).head?

/-- The line's dots as the host sent them (R649). -/
def Dev.hostDots (d : Dev) (px : List Nat) : List Bool :=
  let n := d.dots
  let ofs : Int := (if d.flag Reg.HD_CFG_XALIGN then 0 else ((n : Int) - px.length).fdiv 2) + d.geti Reg.HD_POS_HX_OFS
  (List.range n).map (fun (k : Nat) => decide (0 ≤ (k : Int) - ofs) && px.getD ((k : Int) - ofs).toNat 0 != 0)

/-- Whether an entry of a defect map names dot `k`. -/
def namesDot (k : Nat) (x : Option (Nat × Nat)) : Bool :=
  match x with
  | some e => e.1 == k
  | none => false

/-- Whether a dot is defective in the map in force, that of the last line boundary (R682). -/
def Dev.defective (d : Dev) (k : Nat) : Bool := d.head.defsUsed.any (namesDot k)

/-- Substitution (R683, R684): the dots to fire, with the counts of SUBST and LOST_DOTS. -/
def Dev.substitute (d : Dev) (host : List Bool) : List Bool × Nat × Nat :=
  let n := host.length
  let clean := (List.range n).map (fun k => host.getD k false && ! d.defective k)
  let ok := fun (k : Int) => decide (0 ≤ k) && decide (k < n) && ! d.defective k.toNat && ! host.getD k.toNat false
  if d.flag Reg.HD_DEF_SUB_EN then
    (List.range n).foldl (fun (x : List Bool × Nat × Nat) k =>
      if host.getD k false && d.defective k then
        let s : Int := if d.flag Reg.HD_DEF_SUB_DIR then 1 else -1
        if ok (k + s) then (x.1.set (k + s).toNat true, x.2.1 + 1, x.2.2)
        else if ok (k - s) then (x.1.set (k - s).toNat true, x.2.1 + 1, x.2.2)
        else (x.1, x.2.1, x.2.2 + 1)
      else x) (clean, 0, 0)
  else (clean, 0, 0)

/-- The dots that line `n` of the receipt fires. -/
def Dev.lineDots (d : Dev) (m : Mem) (j : Job) (n : Nat) : List Bool × Nat × Nat :=
  d.substitute (d.hostDots ((unpackPixels j.bpp (d.rcptBytes m j n)).take j.width))

/-! ### Energy and passes (R653 to R659) -/

/-- E[TEMP_BIN][c] in 0.5 µJ. -/
def Dev.energy (d : Dev) (c : Nat) : Nat :=
  let a := 2 * d.get Reg.HD_STAT_TEMP_BIN + c / 2
  d.get (if c % 2 = 0 then Reg.HD_ETAB_E0 a else Reg.HD_ETAB_E1 a)

/-- The class width w_c of R655; at 0 mV, where the equation has no value, any width up to W_CAP (a free value). -/
def Dev.classWidth (d : Dev) (c v s : Nat) : Nat :=
  if v = 0 then (Config.freeWord (d.free + c)).toNat % (d.linePort 3 + 1)
  else min (roundDiv (d.energy c * 50 * d.get Reg.HD_ENERGY_R_AVG * 1000000 * s) (100 * v * v)) (d.linePort 3)

/-- The history class of dot `k` (R653). -/
def Head.classOf (h : Head) (k : Nat) : Nat := 2 * b2n (h.h1.getD k false) + b2n (h.h2.getD k false)

/-- The groups that fire for a pattern: those that hold a dot of it and are enabled. -/
def Dev.firingGroups (d : Dev) (p : Nat → Bool) : Nat :=
  ((List.range (d.get Reg.HD_CFG_NGROUPS + 1)).filter (fun g => bit (d.linePort 2) g &&
    (List.range d.groupDots).any (fun i => g * d.groupDots + i < d.dots && p (g * d.groupDots + i)))).length

/-- The length of a train of strobes of `w` cycles for a pattern (R657, R658). -/
def Dev.trainLen (d : Dev) (p : Nat → Bool) (w : Nat) : Nat :=
  let n := ceilDiv (d.firingGroups p) d.simGroups
  n * w + (n - 1) * d.get Reg.HD_ENERGY_SET_GAP

/-- The distinct nonzero widths, rising. -/
def widthSteps (ws : List Nat) : List Nat := (sortNat (ws.filter (· != 0))).eraseDups

/-- End of the last pass, from the start of the first: `start` and `end'` of the pass before (R659). -/
def Dev.passes (d : Dev) (wd : List Nat) : List Nat → Nat → Option (Nat × Nat) → Nat
  | [], _, none => 0
  | [], _, some x => x.2
  | w :: ws, lo, prev =>
    let len := d.trainLen (fun k => w ≤ wd.getD k 0) (w - lo)
    let s := match prev with
      | none => 0
      | some x => max (x.2 + d.get Reg.HD_ENERGY_SET_GAP) (max x.2 (x.1 + d.shiftCycles) + 20)
    d.passes wd ws w (some (s, s + len))

/-! ### Line boundaries -/

/-- The thermal line boundary: shadows of LINE and HEAD are taken, and changes of the defect map take effect (R682). -/
def Dev.headBoundary (d : Dev) : Dev :=
  ((d.boundary 0x22).boundary 0x24).modHead (fun h => { h with defsUsed := h.defects })

/-- The position of line boundary `n` (R668). -/
def Dev.boundaryPos (d : Dev) (n : Nat) : Int := d.head.start + roundDiv (n * d.linePitch) 256

/-- LINE goes to its IDLE entry: the program in hand is halted, so that HEAD_EN is 0. -/
def Dev.lineIdle (d : Dev) : Dev := let d1 := d.seqHalt 1; if (d1.seq 1).rom then d1.seqGo 1 1 else d1

/-- The firmware starts an entry of LINE whose store is loaded. -/
def Dev.lineEntry (d : Dev) (e : Nat) : Dev := if (d.seq 1).rom then d.seqGo 1 e else d

/-! ### The cutter (R674, R685, R686) -/

/-- A move of the cutter by `n` microsteps: a SINE to CUT_V and back to 0. -/
def Dev.cutMove (d : Dev) (n : Nat) (back : Bool) : Dev :=
  let v : Int := d.get Reg.HD_CUT2_CUT_V
  if v = 0 ∨ n = 0 then d
  else
    let t := atLeast1 (roundDiv (n * 50000) v.toNat)
    (d.axPost 3 (segOf 2 (if back then -v else v) t 0)).axPost 3 (segOf 2 0 t 0)

/-- The cutter homes (R685): backward at CUT_V, or in reverse under HOME_STOP, until SNS4 reads occupied. -/
def Dev.homingStart (d : Dev) : Dev :=
  let d1 := d.modHead (fun h => { h with job := .homing, cutAt := d.now })
  if d1.flag Reg.HD_STAT_HOMED then d1.homingDone
  else if d1.s4Dc then (d1.set (Reg.ST_DC_DIR 3) 1).set (Reg.ST_DC_BRAKE 3) 0 else d1.axBlend 3 (-(d1.get Reg.HD_CUT2_CUT_V : Int))

/-- CUT starts with its kind in P7 (R674); none is started at a PFW (R769). -/
def Dev.cutStart (d : Dev) (kind : Nat) : Dev :=
  if d.flag Reg.PF_STAT_PFW then d
  else
    let j := match d.head.job with
      | .feed k => HdJob.feedCut k
      | _ => HdJob.cut
    ((d.setReg (Reg.SEQ_P 1 7) kind).modHead (fun h => { h with job := j, cutKind := kind, cutAt := d.now, cutDone := false, cutOn := 0 })).lineEntry 5

/-- The receipt ends with its lines, feed and cut done: the engine is IDLE. -/
def Dev.receiptDone (d : Dev) (status : Nat) : Dev := ((d.setThm ThmSt.idle 0).endReceipt status).lineIdle

/-- The feed of `n` lines starts (R675): a running platen goes to FEED_RATE, one at rest starts at STEP. -/
def Dev.feedStart (d : Dev) (n : Nat) (j : HdJob) : Dev :=
  let d1 := ((d.setReg (Reg.SEQ_P 1 5) n).modHead (fun h => { h with
    job := j, feedLeft := n, stopping := 0, start := if (d.ax 2).vel = 0 then d.pos 2 else h.start, bounds := if (d.ax 2).vel = 0 then 0 else h.bounds }))
  let d2 := d1.lineEntry 3
  if (d2.ax 2).vel = 0 then d2 else d2.axBlend 2 (d2.platenV (d2.reg (Reg.SEQ_P 1 6)))

/-- What follows the last line, or the end of a feed: the feed, the cut, or the end (R674). -/
def Dev.afterFeed (d : Dev) : Dev :=
  match d.head.job with
  | .cutFeed => if d.head.cutKind = 0 then d.receiptDone St.ok else d.cutStart d.head.cutKind
  | .feed _ => if d.head.cutKind = 0 then d else d.cutStart d.head.cutKind
  | _ => d

/-- The receipt's lines are done (R674): with the job still open its end is waited for. -/
def Dev.receiptTail (d : Dev) (j : Job) : Dev :=
  if j.state = 0 then d.modHead (fun h => { h with waiting := true })
  else
    let d1 := d.modHead (fun h => { h with waiting := false, cutKind := j.cut })
    if d.flag Reg.PF_STAT_PFW then d1
    else if j.cut = 0 then
      if (d1.ax 2).vel = 0 then d1.receiptDone St.ok else d1.platenStop.modHead (fun h => { h with stopping := 3 })
    else if d1.get Reg.HD_CUT0_CUT_FEED = 0 then (d1.platenStop.modHead (fun h => { h with job := .cutFeed })).afterFeed
    else d1.feedStart (d1.get Reg.HD_CUT0_CUT_FEED) .cutFeed

/-- A cancel or a tenant reset stops the receipt after its current line (R191, R675). -/
def Dev.receiptStop (d : Dev) : Dev :=
  if d.rcpt.isNone then d
  else if (d.ax 2).vel = 0 && ! d.head.lineOn then d.receiptDone St.spoiled
  else (if d.head.stopping = 0 then d.platenStop else d).modHead (fun h => { h with stopping := 2 })

/-- A receipt begins (R84, R654, R668, R673): the engine is PRINTING, boundary 0 is latched and PRINT starts. -/
def Dev.receiptStart (d : Dev) (m : Mem) (k e j : Nat) : Dev :=
  let d1 := { d with rcpt := some (k, e, j), rcptBad := [] }.headBoundary
  let d2 := (d1.modHead (fun h => { h with
    job := if h.job == .homing then .homing else .lines, next := 0, shifted := none, latched := 0, h1 := [], h2 := [], stops := 0,
    printed := 0, cutMade := 0, cutKind := 0, start := d1.pos 2, bounds := 0, stopping := 0, waiting := false, lineOn := false,
    overran := false })).set Reg.HD_FIT_R_FIT d1.rateMax
  let d3 := match d2.rcptJob with
    | some x => d2.set Reg.HD_RATE_STAT_TARGET (d2.target m x)
    | none => d2
  ((d3.setThm ThmSt.printing 0).lineEntry 2).modSeq 1 (fun q => { q with latch := q.latch ||| 128 })

/-! ### SHIFT_GO, LATCH and the strobes -/

/-- The units of band `b` as its line is shifted: SCANNING from the first line, RELEASING after the last, when the next band is asked
for (R383). -/
def Dev.shiftUnits (d : Dev) (m : Mem) (j : Job) (n : Nat) : Dev :=
  let h := bandLines j.bandH
  let b := n / h
  let d1 := d.modUnits (fun u => u.state == .ready && d.rcptUnit b u) (fun u => { u with state := .scanning })
  if n % h + 1 < j.linesOf m b then d1
  else
    let d2 := d1.release (fun u => u.state == .scanning && d.rcptUnit b u)
    let last := d.units.foldl (fun x u => if d.rcptUnit u.band u then max x u.band else x) b
    let r : GReq := match d.rcpt with
      | some (k, e, i) => ⟨2, k, e, i, 0, last + 1, d.now, false⟩
      | none => ⟨2, 0, 0, 0, 0, 0, 0, false⟩
    let beyond := j.stream.last && decide ((j.stream.blocks m false).length ≤ last + 1)
    if beyond || d2.galReqs.any (fun q => q.kind == 2 && q.band == r.band) then d2 else { d2 with galReqs := d2.galReqs ++ [r] }

/-- SHIFT_GO (R649 to R651): the next line's dots are shifted; with no line READY the lanes shift 0 bits. -/
def execShiftGo : State → Out := onAll (fun d m =>
  if d.linePulse 0 then
    let d1 := d.takePulse 0
    match d1.rcptJob with
    | none => (d1.modHead (fun h => { h with shifted := none, shiftDots := [], shiftDone := true }), m)
    | some j =>
      let n := d1.head.next
      if d1.lineReady m j n then
        let x := d1.lineDots m j n
        let d2 := match d1.rcptEcc j n with
          | some a => (d1.rcptRead j n).eccCount a d1.rcptTen 2
          | none => d1.rcptRead j n
        let d3 := (d2.addSat Reg.HD_CNT1_SUBST x.2.1).addSat Reg.HD_CNT1_LOST_DOTS x.2.2
        ((d3.shiftUnits m j n).modHead (fun h => { h with
          shifted := some n, next := n + 1, shiftDots := x.1, shiftDone := true, stepDone := false }), m)
      else (d1.modHead (fun h => { h with shifted := none, shiftDots := [], shiftDone := true }), m)
  else (d, m))

/-- Line `n` of receipt job `j` is latched (R653 to R655): the class widths of this instant, the width of each dot and which dots fire;
`vh`: VHEAD in mV. A VHEAD of 0 leaves the four widths free values. -/
def Dev.latchLine (d : Dev) (vh n : Nat) (j : Job) : Dev :=
  let ws := (List.range 4).map (fun c => d.classWidth c vh j.energy)
  let h := d.head
  let wd := (List.range d.dots).map (fun k => if h.shiftDots.getD k false then ws.getD (h.classOf k) 0 else 0)
  let fired := (List.range d.dots).map (fun k => wd.getD k 0 != 0 && bit (d.linePort 2) (k / atLeast1 d.groupDots))
  let d2 := (((((d.set Reg.HD_W01_W0 (ws.getD 0 0)).set Reg.HD_W01_W1 (ws.getD 1 0)).set Reg.HD_W23_W2 (ws.getD 2 0)).set
    Reg.HD_W23_W3 (ws.getD 3 0)).set Reg.HD_VHEAD_VH (min vh 65535))
  { d2 with free := if vh = 0 then d2.free + 4 else d2.free }.modHead (fun h => { h with
    shifted := none, latched := n + 1, lineW := wd, widths := ws, h2 := h.h1, h1 := fired, pre := [], preN := 0, preUsed := 0,
    sched := 0, strobeDone := false, lineOn := true, overran := false })

/-- LATCH with no line shifted: the 0 bits that an empty SHIFT_GO has shifted are latched, and no dot fires. -/
def Dev.latchBlank (d : Dev) : Dev :=
  if d.head.shiftDots.isEmpty && ! d.flag Reg.PF_STAT_PFW then d.modHead (fun h => { h with lineW := [] }) else d

/-- LATCH (R653 to R655, R670, R769): the shifted line is latched. With nothing ahead and lines to come the platen stops and the
engine is STARVED. -/
def execLatch (vh : Nat) : State → Out := onAll (fun d m =>
  if d.linePulse 1 then
    let d1 := d.takePulse 1
    match d1.head.shifted, d1.rcptJob with
    | some n, some j =>
      if d1.flag Reg.PF_STAT_PFW then (d1, m)
      else
        let d3 := d1.latchLine vh n j
        if d3.readyFrom m j (n + 1) = 0 && ! j.lastLine m n && d3.head.stopping == 0 then
          ((((d3.platenStop.historyOff.modHead (fun h => { h with stopping := 1, stops := h.stops + 1 })).addSat
            Reg.HD_CNT0_STARVE_STOPS 1).setThm ThmSt.starved 0), m)
        else (d3, m)
    | _, _ => (d1.latchBlank, m)
  else (d, m))

/-- The preheat pattern of the line (R660): what the next line fires and this one does not, when the next line is READY. -/
def Dev.prePattern (d : Dev) (m : Mem) : List Bool :=
  match d.rcptJob with
  | some j =>
    if d.lineReady m j d.head.latched then
      let nx := (d.lineDots m j d.head.latched).1
      (List.range d.dots).map (fun k => nx.getD k false && d.head.lineW.getD k 0 == 0)
    else []
  | none => []

/-- The dots of the latched line whose group is enabled. -/
def Dev.firedDots (d : Dev) : Nat :=
  ((List.range d.dots).filter (fun k => d.head.lineW.getD k 0 != 0 && bit (d.linePort 2) (k / atLeast1 d.groupDots))).length

/-- The line is strobed (Table 23-6): it and its dots count. Under a gate nothing fires, and the history of every dot is "not fired"
(R653, R663). -/
def Dev.strobeLine (d : Dev) : Dev :=
  if d.gated then d.modHead (fun h => { h with h1 := [] }) else (d.lifeAdd 13 1).lifeSub 14 d.firedDots 1000000

/-- STROBE_GO (R656 to R660): all passes of the latched line fire. A line with no pass is done at once. -/
def execStrobeGo : State → Out := onAll (fun d m =>
  if d.linePulse 2 then
    let d1 := (d.takePulse 2).strobeLine
    let len := d1.passes d1.head.lineW (widthSteps d1.head.lineW) 0 none
    (d1.modHead (fun h => { h with
      train := len, sched := len, strobeDone := len == 0, pre := if len = 0 then d1.prePattern m else h.pre }), m)
  else (d, m))

/-- STROBE_DONE (R659): the train that runs has ended. After the passes the preheat pattern is built. -/
def execStrobeDone : State → Out := onAll (fun d m =>
  if d.head.train ≠ 0 then
    let pre := if d.head.preN = 0 then d.prePattern m else d.head.pre
    (d.modHead (fun h => { h with train := 0, strobeDone := true, pre := pre }), m)
  else (d, m))

/-- PREHEAT_GO (R660 to R662): the preheat pattern fires once, `gap` cycles after the last train ended. -/
def execPreheatGo (gap : Nat) : State → Out := onDev (fun d =>
  when (d.linePulse 3) (fun d =>
    let d1 := d.takePulse 3
    if 4 ≤ d1.head.preN then d1.addSat Reg.HD_CNT1_PRE_REFUSED 1
    else
      let ws := d1.head.widths.filter (· != 0)
      let wmin := (sortNat ws).headD 0
      let cap := min 50 (d1.get Reg.HD_ENERGY_PRE_PCT) * wmin / 100
      let w := min (d1.linePort 4) (cap - d1.head.preUsed)
      let len := if w = 0 then 0 else d1.trainLen (fun k => d1.head.pre.getD k false) w
      d1.modHead (fun h => { h with
        preN := h.preN + 1, preUsed := h.preUsed + w, train := len, sched := if len = 0 then h.sched else h.sched + gap + len,
        strobeDone := len == 0 })) d)

/-! ### The platen (R667 to R675) -/

/-- STEP (R672): the platen starts from rest toward TARGET, or toward FEED_RATE in a feed; while it runs STEP has no effect. -/
def execStep : State → Out := onAll (fun d m =>
  if d.linePulse 4 then
    let d1 := (d.takePulse 4).modHead (fun h => { h with stepDone := true })
    if (d1.ax 2).vel ≠ 0 ∨ ! (d1.ax 2).queue.isEmpty ∨ d1.flag Reg.PF_STAT_PFW then (d1, m)
    else match d1.head.job with
      | .lines => match d1.rcptJob with
        | none => (d1, m)
        | some j =>
          let t := d1.target m j
          let d2 := (d1.set Reg.HD_RATE_STAT_TARGET t).platenStart t
          ((d2.modHead (fun h => { h with stopping := if h.stopping = 1 then 0 else h.stopping })).setThm ThmSt.printing 0, m)
      | .cutFeed | .feed _ => (if d1.head.feedLeft = 0 then d1 else d1.platenStart (d1.reg (Reg.SEQ_P 1 6)), m)
      | _ => (d1, m)
  else (d, m))

/-- LINE_DONE (R667, R669, R673, R674): the line boundary; the schedule is stored, an overrun lowers R_FIT, TARGET is set and a rate change
is passed to stepper S3. After the last line the feed, the cut or the stop follows. -/
def execLineDone : State → Out := onAll (fun d m =>
  if d.linePulse 7 then
    let d1 := (d.takePulse 7).headBoundary
    if ! d1.head.lineOn then (d1, m)
    else
      let s := d1.head.sched
      let fit := 95000000 / atLeast1 s
      let d2 := d1.set Reg.HD_FIT_SCHED (min 65535 (s / 100))
      let d3 := if d1.head.overran && decide (fit < d1.get Reg.HD_FIT_R_FIT) then d2.set Reg.HD_FIT_R_FIT fit else d2
      let d4 := d3.modHead (fun h => { h with lineOn := false, overran := false, printed := h.printed + 1 })
      match d4.rcptJob with
      -- The job of a receipt whose tenant has been reset is gone (spec/02, tenant reset steps 7 and 11).
      | none => (if d4.rcpt.isSome && d4.head.stopping = 2 && (d4.ax 2).vel = 0 then d4.receiptDone St.spoiled else d4, m)
      | some j =>
        let t := d4.target m j
        let d5 := d4.set Reg.HD_RATE_STAT_TARGET t
        if j.lastLine m (d5.head.latched - 1) && d5.head.stopping != 2 then (d5.receiptTail j, m)
        else if d5.head.stopping = 2 then (if (d5.ax 2).vel = 0 then d5.receiptDone St.spoiled else d5, m)
        else
          let now := d5.platenRate
          let diff := (t : Int) - now
          if (d5.ax 2).vel ≠ 0 ∧ d5.head.stopping = 0 ∧ ! d5.flag (Reg.ST_STAT_BOOST 2) ∧ (d5.ax 2).queue.isEmpty ∧ t ≠ 0 ∧
              d5.get Reg.HD_RATE_RATE_HYS * d5.rcptRate j < 100 * diff.natAbs ∧ ! d5.flag Reg.PF_STAT_PFW then
            (d5.axBlend 2 (d5.platenV t), m)
          else (d5, m)
  else (d, m))

/-- The commanded position of S3 has reached line boundaries (R668, R673, R675): RATE_TICK latches, a line in progress overruns, a feed
counts down and stops one pitch before its end. -/
def Dev.platenBounds : Nat → Dev → Dev
  | 0, d => d
  | f + 1, d =>
    if d.boundaryPos (d.head.bounds + 1) ≤ d.pos 2 then
      let d1 := (d.modHead (fun h => { h with bounds := h.bounds + 1, overran := h.overran || h.lineOn })).modSeq 1 (fun q => { q with
        latch := q.latch ||| 128 })
      let d2 := if d.head.lineOn && ! d.head.overran then d1.addSat Reg.HD_CNT0_OVERRUN 1 else d1
      let feeding := match d2.head.job with
        | .cutFeed | .feed _ => true
        | _ => false
      let d3 := if feeding && d2.head.feedLeft != 0 then
          let x := d2.modHead (fun h => { h with feedLeft := h.feedLeft - 1 })
          if x.head.feedLeft ≤ 1 ∧ x.head.stopping = 0 then x.platenStop.modHead (fun h => { h with stopping := 3 }) else x
        else d2
      Dev.platenBounds f d3
    else d

/-- The platen has come to rest: what it stopped for goes on (R654, R670, R674, R675). -/
def Dev.platenRest (d : Dev) : Dev :=
  let d1 := d.historyOff
  match d1.head.job with
  | .lines => match d1.head.stopping with
    | 2 => if d1.head.lineOn then d1 else d1.receiptDone St.spoiled
    | 3 => d1.receiptDone St.ok
    | _ => d1
  | .cutFeed => if d1.head.stopping = 2 then d1.receiptDone St.spoiled else (d1.modHead (fun h => { h with feedLeft := 0 })).afterFeed
  | .feed _ => (d1.modHead (fun h => { h with feedLeft := 0 })).afterFeed
  | _ => d1

/-- FEED_DONE: the feed and the cut of a FEED command are done, and it completes. -/
def execFeedDone : State → Out := onDev (fun d =>
  match d.head.job with
  | .feed k =>
    if d.head.feedLeft = 0 ∧ d.head.cutKind = 0 ∧ (d.ax 2).vel = 0 then
      ((d.setThm ThmSt.idle 0).endFeed St.ok).lineIdle
    else d
  | _ => d)

/-! ### The gates (R663 to R665) -/

/-- GATE_INPUT (R663, R664): HD_OPEN, HD_PO and HD_JAM as they now read. -/
def execGateInput (open' po jam : Bool) : State → Out := onDev (fun d =>
  let g := b2n open' + 2 * b2n po + 4 * b2n jam
  let was := d.get Reg.HD_STAT_GATE
  let d1 := (d.set Reg.HD_STAT_GATE g).modHead (fun h => { h with
    condAt := if g = 0 then none else some (h.condAt.getD d.now), clearAt := if g = 0 then some (h.clearAt.getD d.now) else none })
  if g &&& (7 ^^^ was) ≠ 0 ∧ d1.head.cutting then d1.cutBrake.modHead (fun h => { h with homeLost := true }) else d1)

/-- BLOCKED_ENTRY (R665): a gate input has held its condition for BLK_DEB. -/
def execBlockedEntry : State → Out := onDev (fun d =>
  let s := d.thermalState
  when (d.get Reg.HD_STAT_GATE != 0 && (s == ThmSt.idle || s == ThmSt.printing || s == ThmSt.starved)) (fun d =>
    let g := d.get Reg.HD_STAT_GATE
    let st := if bit g 0 then St.coverOpen else if bit g 1 then St.mediaOut else St.spoiled
    let d1 := (((d.setThm ThmSt.blocked 0).endReceipt st).endFeed st).strobesOff.historyOff
    let d2 := if (d1.ax 2).vel = 0 then d1 else d1.axStop 2 0
    (if d2.head.cutting then d2.modHead (fun h => { h with job := .none }) else d2).lineIdle) d)

/-- BLOCKED_CLEAR: every gate input has read clear for CLEAR_T; a cutter whose cut was stopped homes (R664). -/
def execBlockedClear : State → Out := onDev (fun d =>
  when (d.thermalState == ThmSt.blocked && d.get Reg.HD_STAT_GATE == 0) (fun d =>
    let d1 := d.setThm ThmSt.idle 0
    if d1.head.homeLost then d1.homingStart else d1) d)

/-! ### Faults (R666, R688 to R690) -/

/-- A cause of Table 15-6 is no longer present. -/
def Dev.headClear (d : Dev) (c : Nat) : Dev :=
  let b := d.get Reg.HD_STAT_CAUSES
  if bit b c then (d.set Reg.HD_STAT_CAUSES (b - 2 ^ c)).faultOff 0x24 c else d

/-- Whether cause `c` is gone (R690). Causes 1 to 4 are cleared by their own readings. -/
def Dev.headCauseGone (d : Dev) (c : Nat) : Bool :=
  match c with
  | 6 => d.head.defects.any (·.isNone)
  | 7 => d.get Reg.FU_STAT_CORR_RESULT == 1
  | 8 => d.get (Reg.SEQ_STAT_STATE 1) != 3
  | 9 => d.axState 2 != 4
  | 10 => true
  | _ => false

/-- DEF_CLR removes every measured entry (R682). -/
def Dev.defClr (d : Dev) : Dev := d.modHead (fun h => { h with defects := h.defects.map (fun x => match x with
  | some e => if e.2 = 0 then some e else none
  | none => none) })

/-- HD_CLR (Table 15-1, R690): a write of HD_CTL with HD_CLR set; with every cause gone FAULT is left. -/
def execHdClr (l : Land) : State → Out := onDev (fun d =>
  d.land l (fun a v => a == Reg.HD_CTL && bit v.toNat 0) (fun _ _ v d =>
    let d0 := if bit v.toNat 1 then d.defClr else d
    let d1 := (List.range 16).foldl (fun d c => if d.headCauseGone c then d.headClear c else d) d0
    if d1.thermalState = ThmSt.fault ∧ d1.get Reg.HD_STAT_CAUSES = 0 then
      if d1.get Reg.HD_STAT_GATE = 0 then d1.setThm ThmSt.idle 0 else d1.setThm ThmSt.blocked 0
    else d1))

/-- STROBE_MISMATCH (R666): a strobe ball reads asserted for 10 µs against the drive; PCH7 is locked off. -/
def execStrobeMismatch : State → Out := onDev (fun d =>
  when (! bit (d.get Reg.HD_STAT_CAUSES) 5) (fun d => (d.headFault 5 St.headFault).lockOff 7) d)

/-- TEMP_BIN of a temperature in 0.1 °C (R652). -/
def Dev.tempBin (d : Dev) (t : Int) : Nat :=
  (clampI 0 15 ((t - 10 * d.geti Reg.HD_TH_BIN_BASE).fdiv (10 * atLeast1 (d.get Reg.HD_TH_BIN_STEP)))).toNat

/-- A head temperature reading whose ratio is neither open nor short (R652, R688): TEMP and its bin; HEAD_TMAX or more is cause 3. -/
def Dev.headTemp (d : Dev) (r : Nat) : Dev :=
  let t := ((d.headClear 1).headClear 2).tempOr 16
    (ntcTemp (d.get Reg.HD_TH_PULLUP) r (d.get Reg.HD_NTC_NTC_RES) (d.get Reg.HD_NTC_BETA) 10)
  let d2 := (t.2.seti Reg.HD_TEMP_TEMP t.1).set Reg.HD_STAT_TEMP_BIN (t.2.tempBin t.1)
  if 10 * (d2.get Reg.HD_LIM_HEAD_TMAX : Int) ≤ t.1 then d2.headFault 3 St.headFault else d2.headClear 3

/-- HEAD_TEMP_READING (R652, R688): `ratio` is the mean of eight conversions of HD_TH. -/
def execHeadTempReading (ratio : Fin 4096) : State → Out := onDev (fun d =>
  let r := ratio.val
  let o := if 4080 ≤ r then d.head.opens + 1 else 0
  let s := if r ≤ 16 then d.head.shorts + 1 else 0
  let d1 := (d.set Reg.HD_TEMP_RATIO r).modHead (fun h => { h with opens := min 3 o, shorts := min 3 s })
  if 3 ≤ o then (d1.headClear 2).headFault 1 St.headFault
  else if 3 ≤ s then (d1.headClear 1).headFault 2 St.headFault
  else d1.headTemp r)

/-- VHEAD_WINDOW (R663, R688): a reading of VHEAD in mV; outside its window for 1 ms with HEAD_EN 1 it is a HEAD_FAULT. -/
def execVheadWindow (mv : Nat) : State → Out := onDev (fun d =>
  let out := decide (mv < d.get Reg.HD_VH_VH_MIN) || decide (d.get Reg.HD_VH_VH_MAX < mv)
  let t := keepSince d.now (out && d.headEn) d.head.vhAt
  let d1 := d.modHead (fun h => { h with vhOk := ! out, vhAt := t })
  if lastsFor d.now 1000 t then d1.headFault 4 St.headFault else if out then d1 else d1.headClear 4)

/-! ### Element resistance and the defect map (R676 to R682) -/

/-- MEAS_GO (R677): the element of port MEAS_ELEM is measured. -/
def execMeasGo : State → Out := onDev (fun d =>
  when (d.linePulse 5) (fun d =>
    let d1 := d.takePulse 5
    if d1.thermalState = ThmSt.idle then d1.modHead (fun h => { h with elem := d1.linePort 5 % 2048, measDone := false }) else d1) d)

/-- KIND of a measured defect (R681), 0 for none. -/
def Dev.defectKind (d : Dev) (ohm : Nat) : Nat :=
  let r := d.get Reg.HD_ENERGY_R_AVG
  let p := d.get Reg.HD_DEF_DEF_PCT
  if ohm = 0xFFF then 1
  else if r * (100 + p) < 100 * ohm then 2
  else if 100 * ohm < r * (100 - p) then 3
  else 0

/-- A measured defect enters the map once (R681, R682). -/
def Dev.enterDefect (d : Dev) (e kind : Nat) : Dev :=
  if kind = 0 ∨ d.head.defects.any (namesDot e) then d
  else match d.head.defects.findIdx? (·.isNone) with
    | none => d.headFault 6 St.headFault
    | some i =>
      ((d.modHead (fun h => { h with defects := lmod h.defects i (fun _ => some (e, kind)) })).raise 0x24 0xF St.elementDefect 0 e).fireRaw 0x24 2

/-- The measured part of the head's record: R_AVG and the measured entries of the defect map (Table 23-5). -/
def Dev.headBody (d : Dev) : List Byte :=
  leBytes 4 (d.get Reg.HD_ENERGY_R_AVG) ++ d.head.defects.flatMap (fun e => match e with
    | some x => if x.2 = 0 then [] else leBytes 2 (x.1 + x.2 * 4096)
    | none => [])

/-- The sweep has measured every element (R679, R680); its result is saved as a HEAD record (spec/23, "Calibrations"). -/
def Dev.sweepDone (d : Dev) : Dev :=
  let d1 := (d.set Reg.HD_MEAS_SWEEP_DONE 1).fire 0x24 3 0
  let good := (List.range d1.dots).filter (fun e => ! d1.head.defects.any (namesDot e))
  let sum := good.foldl (fun n e => n + ((d1.head.res.find? (fun x => x.1 == e)).map (·.2)).getD 0) 0
  let d2 := if ! d1.flag Reg.HD_ENERGY_R_AUTO || good.isEmpty then d1 else d1.set Reg.HD_ENERGY_R_AVG (roundDiv sum good.length)
  d2.queueRec 6 d2.headBody

/-- MEAS_DONE (R677, R678): the sense voltage, in mV, gives the element's resistance; below R_LEAD the spec gives no value (a free value). -/
def execMeasDone (mv : Nat) : State → Out := onDev (fun d =>
  let h := d.head
  let ohm : Int := (roundDiv mv 2 : Nat) - (d.get Reg.HD_DEF_R_LEAD : Int)
  let free := decide (mv < 4500) && decide (ohm < 0)
  let v := if 4500 ≤ mv then 0xFFF else if free then (Config.freeWord d.free).toNat % 4096 else min 0xFFF ohm.toNat
  let elems := if h.elems.contains h.elem then h.elems else h.elems ++ [h.elem]
  let d1 := (if free then d.fresh.2 else d).modHead (fun h => { h with
    measDone := true, elems := elems, res := (h.res.filter (fun x => x.1 != h.elem)) ++ [(h.elem, v)] })
  let d2 := (d1.set Reg.HD_MEAS_DONE_ELEMS elems.length).enterDefect h.elem (d1.defectKind v)
  if (List.range d2.dots).all (fun e => elems.contains e) && ! d2.flag Reg.HD_MEAS_SWEEP_DONE then d2.sweepDone else d2)

/-- DEF_CLR (R682): a write of HD_CTL with DEF_CLR and without HD_CLR. -/
def execDefClr (l : Land) : State → Out := onDev (fun d =>
  d.land l (fun a v => a == Reg.HD_CTL && ! bit v.toNat 0 && bit v.toNat 1) (fun _ _ _ d => d.defClr))

/-- Entry `o` of the defect map after a T0 write of VALID and ELEM: only a HOST entry is added or removed (R682). -/
def hostEntry (o : Option (Nat × Nat)) (valid : Bool) (elem : Nat) : Option (Nat × Nat) :=
  if o.any (·.2 != 0) then o else if valid then some (elem, 0) else none

/-- HD_DEF_ENT_WRITE (R682): a HOST entry is added or removed; lines follow it from the next line boundary on. -/
def execHdDefEntWrite (l : Land) : State → Out := onDev (fun d =>
  d.land l (fun a _ => a == Reg.HD_DEF_ENT) (fun _ _ v d =>
    d.modHead (fun h => { h with
      defects := lmod h.defects (d.get Reg.HD_DEF_SEL_ENTRY) (fun o => hostEntry o (bit v.toNat 15) (v.toNat % 2048)) })))

/-! ### The cutter's commands (R685 to R687) -/

/-- CUT_GO (R686): the cutter starts. -/
def execCutGo : State → Out := onDev (fun d =>
  when (d.linePulse 6) (fun d =>
    let d1 := d.takePulse 6
    if ! d1.head.cutting || d1.head.job == .homing || d1.flag Reg.PF_STAT_PFW then d1
    else
      let d2 := d1.modHead (fun h => { h with cutAt := d1.now, cutDone := false, cutOn := 1 })
      if d2.s4Dc then (d2.set (Reg.ST_DC_DIR 3) 0).set (Reg.ST_DC_BRAKE 3) 0
      else
        let n := if d2.head.cutKind = 1 then d2.get Reg.HD_CUT1_CUT_PART else d2.get Reg.HD_CUT1_CUT_FULL
        (d2.cutMove n false).cutMove n true) d)

/-- A DC partial cut runs in reverse after PART_T (R686). -/
def Dev.partReverse (d : Dev) : Dev :=
  if d.s4Dc && d.head.cutting && d.head.job != .homing && d.head.cutKind == 1 && ! d.head.cutDone &&
      decide (d.head.cutAt + d.get Reg.HD_CUT2_PART_T * 1000 ≤ d.now) && ! d.flag (Reg.ST_DC_DIR 3) then
    d.set (Reg.ST_DC_DIR 3) 1
  else d

/-- A cut that CUT_GO has started is at its end (R686): the stepper's moves are over; in DC mode SNS4 has become occupied again. -/
def Dev.cutOver (d : Dev) : Bool :=
  if d.s4Dc then d.head.cutOn == 2 else d.head.cutOn != 0 && (d.ax 3).queue.isEmpty && (d.ax 3).vel == 0

/-- CUT_DONE (R686): the cut ends with SNS4 occupied. -/
def execCutDone : State → Out := onDev (fun d =>
  when (d.head.cutting && d.head.job != .homing && d.flag Reg.HD_STAT_HOMED && d.cutOver) (fun d =>
    let k := d.head.cutKind
    let d1 := (d.modHead (fun h => { h with cutDone := true, cutMade := k, cutOn := 0 })).fire 0x24 4 0
    let d2 := (d1.lifeAdd (if k = 2 then 15 else 16) 1).set (Reg.ST_STAT_POS_STATE 3) 0
    match d2.head.job with
    | .feedCut t => d2.modHead (fun h => { h with job := .feed t, feedLeft := 0, cutKind := 0 })
    | _ => d2.receiptDone St.ok) d)

/-- HOMING (R685): the cutter homes before the first line of a receipt that asks for a cut. -/
def execHoming : State → Out := onDev (fun d =>
  match d.rcptJob with
  | some j => if d.head.job = .lines ∧ d.homeNeeded j ∧ ! d.flag Reg.PF_STAT_PFW then d.homingStart else d
  | none => d)

/-- CUT_TIMEOUT (R687): a homing or cut has not ended within CUT_TMAX; the report's status follows R191. -/
def execCutTimeout : State → Out := onDev (fun d =>
  when (d.head.cutting && d.past d.head.cutAt (10000 * d.get Reg.HD_CUT0_CUT_TMAX)) (fun d =>
    let d1 := d.cutBrake.modHead (fun h => { h with cutMade := 0, homeLost := true })
    let d2 := d1.headFaultSt 10 St.cutFault St.ok
    d2.modHead (fun h => { h with job := .none })) d)

/-! ### Conditions and ports of LINE (Tables 9-6 and 9-9) -/

/-- Condition 32 + `c` of LINE, RATE_TICK (latched) apart. -/
def Dev.lineCond (d : Dev) (m : Mem) (c : Nat) : Bool :=
  match c with
  | 0 => d.lineReadyCond m
  | 1 => d.head.shiftDone
  | 2 => d.head.strobeDone
  | 3 => bit (d.get Reg.HD_STAT_GATE) 0
  | 4 => bit (d.get Reg.HD_STAT_GATE) 1
  | 5 => bit (d.get Reg.HD_STAT_GATE) 2
  | 6 => d.head.stepDone
  | 7 => bit (d.seq 1).latch 7
  | 8 => d.head.measDone
  | 9 => d.head.cutDone
  | 10 => match d.head.shifted, d.rcptJob with
    | some n, some j => j.lastLine m n
    | none, some j => d.head.lineOn && j.lastLine m (d.head.latched - 1)
    | _, _ => false
  | _ => false

/-- A read of a LINE port. -/
def Dev.linePortIn (d : Dev) (p : Nat) : Nat :=
  match p with
  | 0 => (d.head.shifted.getD (d.head.latched - 1)) % 2 ^ 32
  | 1 => d.get Reg.HD_STAT_TEMP_BIN
  | 6 => ((d.head.res.find? (fun x => x.1 == d.head.elem)).map (·.2)).getD 0
  | _ => let r := d.platenRate; if r = 0 then 0 else 100000000 / r

end Sys2Proof.Machine
end

