-- ==== Sys2Proof/Machine/Kestrel.lean ====
section
/-! DEFINITION. The Kestrel microsequencers SCAN (0) and LINE (1): control-store words, conditions, micro-operations, faults, and the
control-store window (spec/09_kestrel.md). A word runs as one command, whichever of its two operations names it. -/

set_option linter.unusedVariables false

namespace Sys2Proof.Machine

/-! ### The store (Table 9-1, R386, R409, R420) -/

/-- Words of the control store. -/
def storeSize (i : Nat) : Nat := if i = 0 then 4096 else 2048

/-- Words of the baseline program. -/
def baseWords (i : Nat) : Nat := if i = 0 then 0xA00 else 0x500

/-- The word at an address: what was written since the load from ROM, else the baseline program (entries 6 to 15 a HALT word, Table
9-11) and zeros above it; before the first load nothing defined. -/
def Dev.word (d : Dev) (i a : Nat) : Nat :=
  match (d.seq i).store.find? (fun x => x.1 == a) with
  | some x => x.2.toNat
  | none =>
    if (d.seq i).rom then
      (if baseWords i ≤ a then 0 else if 6 ≤ a ∧ a < 16 then 2 ^ 95 + 7 * 2 ^ 82 else (Config.romWord i a).toNat)
    else (Config.blankWord i a).toNat

/-- Write a word of the store. -/
def Dev.setWord (d : Dev) (i a w : Nat) : Dev :=
  d.modSeq i (fun q => { q with store := q.store.filter (fun x => x.1 != a) ++ [(a, BitVec.ofNat 96 w)] })

/-! ### Fields of a word (Tables 9-2 and 9-3) -/

def kFmt (w : Nat) : Bool := bit w 95
def kWt (w : Nat) : Bool := bit w 94
def kCinv (w : Nat) : Bool := bit w 93
def kCondOf (w : Nat) : Nat := bitsOf w 87 6
def kNt (w : Nat) : Nat := bitsOf w 74 12
def kNf (w : Nat) : Nat := bitsOf w 62 12
def kBop (w : Nat) : Nat := bitsOf w 82 4
def kBtgt (w : Nat) : Nat := bitsOf w 70 12
def kBarg (w : Nat) : Nat := bitsOf w 62 8
def kMop (w : Nat) : Nat := bitsOf w 56 6
def kMsel (w : Nat) : Nat := bitsOf w 52 4
def kImm (w : Nat) : Nat := bitsOf w 32 20
def kOmask (w : Nat) : Nat := bitsOf w 16 16
def kOval (w : Nat) : Nat := bitsOf w 0 16

/-- The bits of MSEL and of IMM that a MOP uses, none for an illegal MOP (Table 9-8). -/
def mopBits (mop : Nat) : Option (Nat × Nat) :=
  match mop with
  | 0x00 => some (0, 0)
  | 0x01 => some (7, 0xFFFFF)
  | 0x02 => some (7, 0xFFF)
  | 0x03 | 0x04 | 0x05 | 0x06 | 0x07 => some (7, 0xFFFFF)
  | 0x08 | 0x09 | 0x0A => some (7, 7)
  | 0x0B | 0x0C => some (7, 0x1F)
  | 0x0D | 0x0E => some (7, 0xFF)
  | 0x10 => some (3, 0xFFFFF)
  | 0x11 => some (3, 7)
  | 0x12 => some (3, 0xFFFFF)
  | 0x13 => some (3, 7)
  | 0x14 => some (3, 0)
  | 0x18 | 0x19 => some (7, 0xFF)
  | 0x1A => some (7, 0xFFFF)
  | 0x1B | 0x1C => some (0, 0xF)
  | _ => none

/-- Ports of the instance (Table 9-9): 0 to 8 of SCAN, 0 to 7 of LINE. -/
def portMax (i : Nat) : Nat := if i = 0 then 8 else 7

/-- Output lines the instance has (Table 9-7). -/
def lineMask (i : Nat) : Nat := if i = 0 then 0xFF else 0x1FF

/-- R388: whether a word is illegal on instance `i`. -/
def kIllegal (i w : Nat) : Bool :=
  let c := kCondOf w
  bit w 86 ||
  (18 ≤ c && c < 32) || 43 ≤ c ||
  (kFmt w && 8 ≤ kBop w) ||
  (kFmt w && kBop w == 5 && 11 < bitsOf (kBarg w) 3 4) ||
  (kOmask w &&& lineMask i) != kOmask w ||
  (match mopBits (kMop w) with
    | none => true
    | some (ms, im) => (kMsel w &&& ms) != kMsel w || (kImm w &&& im) != kImm w) ||
  ((kMop w == 0x18 || kMop w == 0x19) && portMax i < kImm w)

/-! ### Conditions (Tables 9-5 and 9-6) -/

/-- Condition 32 + `c` of SCAN. -/
def Dev.scanCond (d : Dev) (c : Nat) : Bool :=
  match c with
  | 0 => bit (d.seq 0).latch 0
  | 1 => bit (d.seq 0).latch 1
  | 2 => d.facetUsed
  | 3 => match d.scan.armed.head? with
    | some a => a.img
    | none => false
  | 4 => d.flag Reg.VID_STAT_LINE_COMPLETE
  | 5 => d.scan.apcDone
  | 6 => d.flag Reg.VID_STAT_PIX_LOCK
  | 7 => d.flag Reg.LS_STAT_PERMIT
  | 8 => d.engine.pendGear != 0
  | 9 => match d.scan.armed.head? with
    | some a => a.gated
    | none => false
  | 10 => d.facet == 0
  | _ => false

/-- The selected condition before CINV. -/
def Dev.kCond (d : Dev) (m : Mem) (i c : Nat) : Bool :=
  let q := d.seq i
  if c = 0 then true
  else if c ≤ 4 then q.lc.getD (c - 1) 0 == 0
  else if c ≤ 8 then (match q.tm.getD (c - 5) (0, false) with
    | (n, run) => run && n == 0)
  else if c = 9 then q.fz
  else if c = 10 then q.fn
  else if c = 11 then q.fc
  else if c = 12 then d.flag (Reg.SEQ_STAT_ENT_PEND i)
  else if c = 13 then q.stack.isEmpty
  else if c ≤ 17 then bit (d.get (Reg.SEQ_FLAG_FLAG i)) (c - 14)
  else if i = 0 then d.scanCond (c - 32) else d.lineCond m (c - 32)

/-- Whether the word uses its condition: a wait, a linked word, BR, CALL and RET (Table 9-4). -/
def kUses (w : Nat) : Bool := kWt w || ! kFmt w || kBop w == 1 || kBop w == 2 || kBop w == 3

/-- Whether a condition is latched: BD_EDGE, BD_MISS and RATE_TICK (Table 9-6). -/
def kLatched (i c : Nat) : Bool := if i = 0 then c == 32 || c == 33 else c == 39

/-! ### Ports (Table 9-9) -/

/-- A read of a SCAN port; BD_PERIOD reads in whole cycles, where its register holds sixteenths. -/
def Dev.scanPortIn (d : Dev) (p : Nat) : Nat :=
  match p with
  | 0 => roundDiv (d.get Reg.BD_PERIOD_PERIOD) 16
  | 1 => d.facet
  | 2 => d.get (Reg.FT_A_START_OFS d.facet) + 65536 * d.get (Reg.FT_B_TRIM d.facet)
  | 5 => (match d.scan.armed.head?.bind (·.line) with
    | some l => unsext l 32
    | none => 0xFFFF8000)
  | 6 => gearMask (d.get Reg.PC_STAT_RUN_GEAR)
  | _ => d.scan.apc

/-- Ports that are written: a read of one has no stated value. -/
def portWritten (i p : Nat) : Bool := if i = 0 then p == 3 || p == 4 || p == 8 else p == 2 || p == 3 || p == 4 || p == 5

/-- A write of a port; a write of a port that is read does nothing. -/
def Dev.portOut (d : Dev) (i p v : Nat) : Dev :=
  if i = 0 ∧ p = 8 then d.modSeq 0 (fun q => { q with pulse := q.pulse ||| 0x10000 })
  else if portWritten i p then d.modSeq i (fun q => { q with ports := lmod q.ports p (fun _ => v) })
  else d

/-! ### Micro-operations (Table 9-8) -/

/-- GR `k`. -/
def Dev.gr (d : Dev) (i k : Nat) : Nat := d.reg (Reg.SEQ_GR i k)

/-- Write GR `k` (modulo 2^32). -/
def Dev.setGr (d : Dev) (i k v : Nat) : Dev := d.setReg (Reg.SEQ_GR i k) v

/-- Set the flags from a 32-bit result and the carry. -/
def Dev.kFlags (d : Dev) (i r : Nat) (c : Bool) : Dev :=
  d.modSeq i (fun q => { q with fz := r % 2 ^ 32 == 0, fn := bit r 31, fc := c })

/-- Write GR `k` and set the flags. -/
def Dev.setGrF (d : Dev) (i k v : Nat) (c : Bool) : Dev := (d.setGr i k v).kFlags i v c

/-- The immediate sign-extended to 32 bits. -/
def kImmS (w : Nat) : Nat := unsext (sext (kImm w) 20) 32

/-- The MOP of a word. -/
def Dev.mop (d : Dev) (m : Mem) (i w : Nat) : Dev :=
  let k := kMsel w % 8
  let n := kMsel w % 4
  let im := kImm w
  let g := d.gr i k
  let s := d.gr i (im % 8)
  match kMop w with
  | 0x01 => d.setGr i k im
  | 0x02 => d.setGr i k (bitsPut g 20 12 im)
  | 0x03 => d.setGrF i k (g + kImmS w) (decide (2 ^ 32 ≤ g + kImmS w))
  | 0x04 => d.setGrF i k (g &&& im) false
  | 0x05 => d.setGrF i k (g ||| im) false
  | 0x06 => d.setGrF i k (g ^^^ im) false
  | 0x07 => d.kFlags i (g + 2 ^ 32 - kImmS w) (decide (kImmS w ≤ g))
  | 0x08 => d.setGr i k s
  | 0x09 => d.setGrF i k (g + s) (decide (2 ^ 32 ≤ g + s))
  | 0x0A => d.setGrF i k (g + 2 ^ 32 - s) (decide (s ≤ g))
  | 0x0B => let h := im % 32; d.setGrF i k (g <<< h) (h != 0 && bit g (32 - h))
  | 0x0C => let h := im % 32; d.setGrF i k (g >>> h) (h != 0 && bit g (h - 1))
  | 0x0D => d.setGr i k (d.reg (Reg.SEQ_P i (im % 256)))
  | 0x0E =>
    let a := Reg.SEQ_P i (im % 256)
    let d1 := d.setReg a g
    { d1 with shadows := d1.shadows.filter (fun x => x.1 != a) }
  | 0x10 => d.modSeq i (fun q => { q with lc := lmod q.lc n (fun _ => im) })
  | 0x11 => d.modSeq i (fun q => { q with lc := lmod q.lc n (fun _ => s % 2 ^ 20) })
  | 0x12 => d.modSeq i (fun q => { q with tm := lmod q.tm n (fun _ => (im, true)) })
  | 0x13 => d.modSeq i (fun q => { q with tm := lmod q.tm n (fun _ => (s % 2 ^ 20, true)) })
  | 0x14 => d.modSeq i (fun q => { q with tm := lmod q.tm n (fun x => (x.1, false)) })
  | 0x18 =>
    let p := im % 256
    if portWritten i p then
      let (j, d1) := d.fresh
      d1.setGr i k (Config.freeWord j).toNat
    else d.setGr i k (if i = 0 then d.scanPortIn p else d.linePortIn p)
  | 0x19 => d.portOut i (im % 256) g
  | 0x1A => d.raise (seqPage i) 8 0 0 (im % 65536 + (g % 65536) * 65536)
  | 0x1B =>
    let d1 := (d.orReg (Reg.SEQ_SIG i) (im % 16)).fire (seqPage i) 2 0
    if i = 0 ∧ bit im 0 ∧ (d.seq 0).entry = 2 then d1.qualify else d1
  | 0x1C => d.clrReg (Reg.SEQ_FLAG i) (im % 16)
  | _ => d

/-! ### Outputs (Table 9-7, R392) -/

/-- The level lines of an instance. -/
def levelMask (i : Nat) : Nat := if i = 0 then 0x00F else 0x100

/-- The lines a word drives take their values: level lines keep theirs, pulses reach the driven block. What BD_ARM, APC_TAKE and LINE_END
of SCAN do is done at once; the other pulses wait for the command that takes them. -/
def Dev.drive (d : Dev) (i w : Nat) : Dev :=
  let mk := kOmask w
  let v := kOval w
  let lv := mk &&& levelMask i
  let pu := mk &&& v &&& (0xFFFF ^^^ levelMask i)
  let d1 := d.modSeq i (fun q => { q with level := (q.level &&& (0xFFFF ^^^ lv)) ||| (lv &&& v) })
  if i = 0 then
    let d2 := d1.modSeq 0 (fun q => { q with pulse := q.pulse ||| (pu &&& 0x10) })
    let d3 := if bit pu 7 then d2.lineEnd else d2
    let d4 := if bit pu 5 then d3.bdArm else d3
    if bit pu 6 then d4.apcTake else d4
  else d1.modSeq 1 (fun q => { q with pulse := q.pulse ||| pu })

/-! ### Faults (R412, R424, Table 9-15) -/

/-- A fault of sequencer `i`: it halts at the faulting word, and the engine it drives stops. -/
def Dev.seqFault (d : Dev) (i kind : Nat) : Dev :=
  let p := seqPage i
  let code := if kind = 5 then St.eccUncorrectable else St.notReady
  let d1 := (d.set (Reg.SEQ_FAULT_KIND i) kind).set (Reg.SEQ_FAULT_PC i) (d.get (Reg.SEQ_STAT_PC i))
  let d2 := ((d1.seqStop i 3).fire p 1 kind).faultOn p 1 code 3 kind
  if i = 0 then
    d2.spoilCommitted.engineStop 0x1F 1
  else d2.headFault 8 St.headFault

/-! ### Running a word (R397) -/

/-- The next address and the kind of fault, 0 for none (R389, R403, Table 9-4); `c` is the condition with CINV applied. -/
def Dev.kNext (d : Dev) (i w : Nat) (c : Bool) : Nat × Nat :=
  let q := d.seq i
  let pc := d.get (Reg.SEQ_STAT_PC i)
  let fits := fun (a : Nat) => if storeSize i ≤ a then (a, 2) else (a, 0)
  if ! kFmt w then fits (if c then kNt w else kNf w)
  else match kBop w with
  | 1 => fits (if c then kBtgt w else pc + 1)
  | 2 => if c then (if 4 ≤ q.stack.length then (pc, 3) else fits (kBtgt w)) else fits (pc + 1)
  | 3 => if c then (match q.stack with
      | [] => (pc, 4)
      | a :: _ => fits a) else fits (pc + 1)
  | 4 => fits (if 1 < q.lc.getD (kBarg w % 4) 0 then kBtgt w else pc + 1)
  | 5 => fits (kBtgt w + d.gr i (kBarg w % 8) % 2 ^ bitsOf (kBarg w) 3 4)
  | 6 => fits (if d.flag (Reg.SEQ_STAT_ENT_PEND i) then d.get (Reg.SEQ_CTL_ENTRY i) else kBtgt w)
  | 7 => (pc, 0)
  | _ => fits (pc + 1)

/-- What the BOP does beside the next address: the stack, the loop counter and the entry request. -/
def Dev.kBranch (d : Dev) (i w : Nat) (c : Bool) : Dev :=
  let q := d.seq i
  let pc := d.get (Reg.SEQ_STAT_PC i)
  let stackTo := fun (st : List Nat) => (d.modSeq i (fun q => { q with stack := st })).set (Reg.SEQ_STAT_SP i) st.length
  if ! kFmt w then d
  else match kBop w with
  | 2 => if c ∧ q.stack.length < 4 then stackTo ((pc + 1) :: q.stack) else d
  | 3 => if c then stackTo q.stack.tail else d
  | 4 => if q.lc.getD (kBarg w % 4) 0 = 0 then d
    else d.modSeq i (fun q => { q with lc := lmod q.lc (kBarg w % 4) (· - 1) })
  | 6 =>
    if d.flag (Reg.SEQ_STAT_ENT_PEND i) then
      let d1 := ((stackTo []).set (Reg.SEQ_STAT_ENT_PEND i) 0).set (Reg.SEQ_CTL_GO i) 0
      d1.modSeq i (fun q => { q with entry := d.get (Reg.SEQ_CTL_ENTRY i) })
    else d
  | _ => d

/-- One cycle of the word at PC: a wait that is not over only waits; else the word does all it names. -/
def Dev.runWord (d : Dev) (m : Mem) (i w : Nat) : Dev :=
  let raw := d.kCond m i (kCondOf w)
  let c := raw != kCinv w
  let d0 := if kUses w && kLatched i (kCondOf w) && ! kCinv w && raw then
      d.modSeq i (fun q => { q with latch := q.latch &&& (0xFFFF ^^^ 2 ^ (kCondOf w - 32)) }) else d
  if kWt w && ! c then d.set (Reg.SEQ_STAT_STATE i) 2
  else
    let (next, kind) := d.kNext i w c
    let d1 := (((d0.set (Reg.SEQ_STAT_STATE i) 1).kBranch i w c).mop m i w).drive i w
    if kind ≠ 0 then d1.seqFault i kind
    else if kFmt w && kBop w == 7 then (d1.seqStop i 0).fire (seqPage i) 0 0
    else d1.set (Reg.SEQ_STAT_PC i) next

/-- Whether sequencer `i` fetches. -/
def Dev.seqRuns (d : Dev) (i : Nat) : Bool := d.get (Reg.SEQ_STAT_STATE i) == 1 || d.get (Reg.SEQ_STAT_STATE i) == 2

/-- A word is fetched and executed when `sel` holds of it; `ecc` is what the check bits of its fetch show (R399, R419). -/
def Dev.fetchWord (d : Dev) (m : Mem) (i : Nat) (ecc : Ecc) (sel : Nat → Bool) (run : Dev → Nat → Dev) : Dev :=
  let pc := d.get (Reg.SEQ_STAT_PC i)
  let w := d.word i pc
  if d.seqRuns i && sel w then
    match ecc with
    | .uncorrectable => (d.set (Reg.CS_ERR_ADDR_ADDR i) pc).seqFault i 5
    | .corrected => run (d.addSat (Reg.CS_ERR_CORR i) 1) w
    | .ok => run d w
  else d

/-- A legal word with a MOP. -/
def Dev.mopWord (d : Dev) (m : Mem) (i : Fin 2) (ecc : Ecc) (code : Nat) : Dev :=
  d.fetchWord m i ecc (fun w => ! kIllegal i w && kMop w == code) (fun d w => d.runWord m i w)

/-- A legal sequential word with a BOP. -/
def Dev.bopWord (d : Dev) (m : Mem) (i : Fin 2) (ecc : Ecc) (code : Nat) : Dev :=
  d.fetchWord m i ecc (fun w => ! kIllegal i w && kFmt w && kBop w == code) (fun d w => d.runWord m i w)

/-- A MOP row as a command. -/
def execMop (code : Nat) (i : Fin 2) (ecc : Ecc) : State → Out := onAll (fun d m => (d.mopWord m i ecc code, m))

/-- A BOP row as a command. -/
def execBop (code : Nat) (i : Fin 2) (ecc : Ecc) : State → Out := onAll (fun d m => (d.bopWord m i ecc code, m))

/-- NOP: a word whose MOP is 0x00 (Table 9-8). -/
def execKNop (i : Fin 2) (ecc : Ecc) : State → Out := execMop 0x00 i ecc

/-- LDI: a word whose MOP is 0x01 (Table 9-8). -/
def execKLdi (i : Fin 2) (ecc : Ecc) : State → Out := execMop 0x01 i ecc

/-- LDIH: a word whose MOP is 0x02 (Table 9-8). -/
def execKLdih (i : Fin 2) (ecc : Ecc) : State → Out := execMop 0x02 i ecc

/-- ADDI: a word whose MOP is 0x03 (Table 9-8). -/
def execKAddi (i : Fin 2) (ecc : Ecc) : State → Out := execMop 0x03 i ecc

/-- ANDI: a word whose MOP is 0x04 (Table 9-8). -/
def execKAndi (i : Fin 2) (ecc : Ecc) : State → Out := execMop 0x04 i ecc

/-- ORI: a word whose MOP is 0x05 (Table 9-8). -/
def execKOri (i : Fin 2) (ecc : Ecc) : State → Out := execMop 0x05 i ecc

/-- XORI: a word whose MOP is 0x06 (Table 9-8). -/
def execKXori (i : Fin 2) (ecc : Ecc) : State → Out := execMop 0x06 i ecc

/-- CMPI: a word whose MOP is 0x07 (Table 9-8). -/
def execKCmpi (i : Fin 2) (ecc : Ecc) : State → Out := execMop 0x07 i ecc

/-- MOV: a word whose MOP is 0x08 (Table 9-8). -/
def execKMov (i : Fin 2) (ecc : Ecc) : State → Out := execMop 0x08 i ecc

/-- ADD: a word whose MOP is 0x09 (Table 9-8). -/
def execKAdd (i : Fin 2) (ecc : Ecc) : State → Out := execMop 0x09 i ecc

/-- SUB: a word whose MOP is 0x0A (Table 9-8). -/
def execKSub (i : Fin 2) (ecc : Ecc) : State → Out := execMop 0x0A i ecc

/-- SHL: a word whose MOP is 0x0B (Table 9-8). -/
def execKShl (i : Fin 2) (ecc : Ecc) : State → Out := execMop 0x0B i ecc

/-- SHR: a word whose MOP is 0x0C (Table 9-8). -/
def execKShr (i : Fin 2) (ecc : Ecc) : State → Out := execMop 0x0C i ecc

/-- LDP: a word whose MOP is 0x0D (Table 9-8). -/
def execKLdp (i : Fin 2) (ecc : Ecc) : State → Out := execMop 0x0D i ecc

/-- STP: a word whose MOP is 0x0E (Table 9-8). -/
def execKStp (i : Fin 2) (ecc : Ecc) : State → Out := execMop 0x0E i ecc

/-- LCI: a word whose MOP is 0x10 (Table 9-8). -/
def execKLci (i : Fin 2) (ecc : Ecc) : State → Out := execMop 0x10 i ecc

/-- LCR: a word whose MOP is 0x11 (Table 9-8). -/
def execKLcr (i : Fin 2) (ecc : Ecc) : State → Out := execMop 0x11 i ecc

/-- TMI: a word whose MOP is 0x12 (Table 9-8). -/
def execKTmi (i : Fin 2) (ecc : Ecc) : State → Out := execMop 0x12 i ecc

/-- TMR: a word whose MOP is 0x13 (Table 9-8). -/
def execKTmr (i : Fin 2) (ecc : Ecc) : State → Out := execMop 0x13 i ecc

/-- TMSTOP: a word whose MOP is 0x14 (Table 9-8). -/
def execKTmstop (i : Fin 2) (ecc : Ecc) : State → Out := execMop 0x14 i ecc

/-- PIN: a word whose MOP is 0x18 (Table 9-8). -/
def execKPin (i : Fin 2) (ecc : Ecc) : State → Out := execMop 0x18 i ecc

/-- POUT: a word whose MOP is 0x19 (Table 9-8). -/
def execKPout (i : Fin 2) (ecc : Ecc) : State → Out := execMop 0x19 i ecc

/-- EVT: a word whose MOP is 0x1A (Table 9-8). -/
def execKEvt (i : Fin 2) (ecc : Ecc) : State → Out := execMop 0x1A i ecc

/-- SIG: a word whose MOP is 0x1B (Table 9-8). -/
def execKSig (i : Fin 2) (ecc : Ecc) : State → Out := execMop 0x1B i ecc

/-- FCLR: a word whose MOP is 0x1C (Table 9-8). -/
def execKFclr (i : Fin 2) (ecc : Ecc) : State → Out := execMop 0x1C i ecc

/-- NEXT: a sequential word whose BOP is 0 (Table 9-4). -/
def execKNext (i : Fin 2) (ecc : Ecc) : State → Out := execBop 0 i ecc

/-- BR: a sequential word whose BOP is 1 (Table 9-4). -/
def execKBr (i : Fin 2) (ecc : Ecc) : State → Out := execBop 1 i ecc

/-- CALL: a sequential word whose BOP is 2 (Table 9-4). -/
def execKCall (i : Fin 2) (ecc : Ecc) : State → Out := execBop 2 i ecc

/-- RET: a sequential word whose BOP is 3 (Table 9-4). -/
def execKRet (i : Fin 2) (ecc : Ecc) : State → Out := execBop 3 i ecc

/-- LOOP: a sequential word whose BOP is 4 (Table 9-4). -/
def execKLoop (i : Fin 2) (ecc : Ecc) : State → Out := execBop 4 i ecc

/-- DISP: a sequential word whose BOP is 5 (Table 9-4). -/
def execKDisp (i : Fin 2) (ecc : Ecc) : State → Out := execBop 5 i ecc

/-- ENT: a sequential word whose BOP is 6 (Table 9-4). -/
def execKEnt (i : Fin 2) (ecc : Ecc) : State → Out := execBop 6 i ecc

/-- HALT: a sequential word whose BOP is 7 (Table 9-4). -/
def execKHalt (i : Fin 2) (ecc : Ecc) : State → Out := execBop 7 i ecc

/-- ILLEGAL_WORD (R388): an illegal word faults when it is fetched and executes nothing. -/
def execIllegalWord (i : Fin 2) (ecc : Ecc) : State → Out := onAll (fun d m =>
  (d.fetchWord m i ecc (fun w => kIllegal i w) (fun d w => d.seqFault i 1), m))

/-! ### Timers and the watchdog (R395, R396, R404) -/

/-- TIMER_EXPIRE (R395): a running timer has counted down to 0. -/
def execTimerExpire (i : Fin 2) (n : Fin 4) : State → Out := onDev (fun d =>
  d.modSeq i (fun q => { q with tm := lmod q.tm n (fun x => if x.2 then (0, true) else x) }))

/-- WAIT_WATCHDOG (R404): a WT word has waited longer than WAIT_MAX. -/
def execWaitWatchdog (i : Fin 2) : State → Out := onDev (fun d =>
  when (d.get (Reg.SEQ_STAT_STATE i) == 2 && d.get (Reg.SEQ_WDOG_WAIT_MAX i) != 0) (fun d => d.seqFault i 6) d)

/-! ### GO and HALT (R405 to R408) -/

/-- The instance whose register is at `a`, by the registers of SCAN and LINE. -/
def instOf (r : Nat → Nat) (a : Nat) : Nat := if a = r 0 then 0 else 1

/-- SEQ_GO (R405, R406): a write of SEQ_CTL with GO and without HALT (R408). -/
def execSeqGo (l : Land) : State → Out := onDev (fun d =>
  d.land l (fun a v => (a == Reg.SEQ_CTL 0 || a == Reg.SEQ_CTL 1) && bit v.toNat 4 && ! bit v.toNat 5)
    (fun ag a v d => d.seqGo (instOf Reg.SEQ_CTL a) (v.toNat % 16)))

/-- SEQ_HALT (R407, R408): a write of SEQ_CTL with HALT. -/
def execSeqHalt (l : Land) : State → Out := onDev (fun d =>
  d.land l (fun a v => (a == Reg.SEQ_CTL 0 || a == Reg.SEQ_CTL 1) && bit v.toNat 5)
    (fun ag a v d => (d.set (Reg.SEQ_CTL_ENTRY (instOf Reg.SEQ_CTL a)) (v.toNat % 16)).seqHalt (instOf Reg.SEQ_CTL a)))

/-! ### The store window (R414 to R419) -/

/-- CS_ADDR increments after a command with AUTOINC set. -/
def Dev.csInc (d : Dev) (i : Nat) : Dev := if d.flag (Reg.CS_ADDR_AUTOINC i) then d.addWrap (Reg.CS_ADDR_ADDR i) 1 else d

/-- CS_CMD_WRITE (R414 to R416, R418): CS_DATA0 to CS_DATA2 go to the word at CS_ADDR. -/
def execCsCmdWrite (l : Land) : State → Out := onDev (fun d =>
  d.land l (fun a v => (a == Reg.CS_CMD 0 || a == Reg.CS_CMD 1) && bit v.toNat 0) (fun ag a v d =>
    let i := instOf Reg.CS_CMD a
    let ad := d.get (Reg.CS_ADDR_ADDR i)
    if storeSize i ≤ ad then d.set (Reg.CS_STAT_WR_REFUSED i) 1
    else if d.seqRuns i || d.flag (Reg.CS_CRC_CTL_CRC_GO i) then (d.set (Reg.CS_STAT_WR_REFUSED i) 1).csInc i
    else (d.setWord i ad (d.reg (Reg.CS_DATA0 i) + 2 ^ 32 * d.reg (Reg.CS_DATA1 i) + 2 ^ 64 * d.reg (Reg.CS_DATA2 i))).csInc i))

/-- An uncorrectable store error found by a READ command or a CRC pass (R419). -/
def Dev.csUncorr (d : Dev) (i ad : Nat) : Dev :=
  ((d.addSat (Reg.CS_ERR_UNCORR i) 1).set (Reg.CS_ERR_ADDR_ADDR i) ad).raiseFree (if i = 0 then 0x20 else 0x23) 0xF St.eccUncorrectable 2

/-- Three data registers take free words: the contents of a word that cannot be corrected are not known. -/
def Dev.csFree (d : Dev) (i : Nat) : Dev :=
  let (a, d1) := d.fresh
  let (b, d2) := d1.fresh
  let (c, d3) := d2.fresh
  ((d3.setReg (Reg.CS_DATA0 i) (Config.freeWord a).toNat).setReg (Reg.CS_DATA1 i) (Config.freeWord b).toNat).setReg (Reg.CS_DATA2 i)
    (Config.freeWord c).toNat

/-- CS_CMD_READ (R414 to R416, R419): the word at CS_ADDR goes to CS_DATA0 to CS_DATA2. -/
def execCsCmdRead (l : Land) (ecc : Ecc) : State → Out := onDev (fun d =>
  d.land l (fun a v => (a == Reg.CS_CMD 0 || a == Reg.CS_CMD 1) && bit v.toNat 1 && ! bit v.toNat 0) (fun ag a v d =>
    let i := instOf Reg.CS_CMD a
    let ad := d.get (Reg.CS_ADDR_ADDR i)
    if storeSize i ≤ ad then d.set (Reg.CS_STAT_WR_REFUSED i) 1
    else
      let w := d.word i ad
      let d1 := match ecc with
        | .uncorrectable => (d.csUncorr i ad).csFree i
        | _ => ((d.setReg (Reg.CS_DATA0 i) (bitsOf w 0 32)).setReg (Reg.CS_DATA1 i) (bitsOf w 32 32)).setReg (Reg.CS_DATA2 i)
          (bitsOf w 64 32)
      d1.csInc i))

/-- CRC_GO (R418): a write of CS_CRC_CTL with CRC_GO. -/
def execCrcGo (l : Land) : State → Out := onDev (fun d =>
  d.land l (fun a v => (a == Reg.CS_CRC_CTL 0 || a == Reg.CS_CRC_CTL 1) && bit v.toNat 0) (fun ag a v d => d.store a v.toNat))

/-- A pass over the whole store is compared with the reference of R936; a mismatch, or an uncorrectable word, marks the store for rebuild
(R937). Before the end of BOOT there is no reference. -/
def Dev.storeJudge (d : Dev) (i : Nat) (whole bad : Bool) : Dev :=
  let ref := if i = 0 then d.reg Reg.BG_REF_SCAN else d.reg Reg.BG_REF_LINE
  if d.boot.decided && (bad || (whole && d.reg (Reg.CS_CRC i) != ref)) then
    { d with bg := { d.bg with rebuild := lmod d.bg.rebuild i (fun _ => true) } }
  else d

/-- CRC_DONE (R418, R419, R936): the pass over words 0 to CRC_LAST ends; `bad` are the words it found uncorrectable, whose CRC is not known. -/
def execCrcDone (i : Fin 2) (bad : List Nat) : State → Out := onDev (fun d =>
  when (d.flag (Reg.CS_CRC_CTL_CRC_GO i)) (fun d =>
    let last := min (d.get (Reg.CS_CRC_CTL_CRC_LAST i)) (storeSize i - 1)
    let hit := bad.filter (· ≤ last)
    let d1 := (hit.foldl (fun d a => d.csUncorr i a) d).set (Reg.CS_CRC_CTL_CRC_GO i) 0
    let d2 := if hit = [] then
        d1.setReg (Reg.CS_CRC i) (crc32c ((List.range (last + 1)).flatMap (fun a => leBytes 12 (d.word i a))))
      else d1.fresh.2.setReg (Reg.CS_CRC i) (Config.freeWord d1.fresh.1).toNat
    d2.storeJudge i (last + 1 == storeSize i) (! hit.isEmpty)) d)

end Sys2Proof.Machine
end

