-- ==== Sys2Proof/Machine/Motion.lean ====
section
/-! DEFINITION. PROFILE_TICK (spec/12_steppers_path.md R517 to R522): the four axes at a 20 µs tick, with what the path and the head do when
an axis comes to rest or S3 reaches line boundaries (R548, R668, R673). -/

set_option linter.unusedVariables false

namespace Sys2Proof.Machine

/-- Stepper S1 has reached velocity 0 with the buckle formed: the sheet is HELD (R548). -/
def Dev.buckled (d : Dev) (m : Mem) (i : Nat) : Dev :=
  if (d.slot i).stopping && (d.ax 0).vel == 0 && (d.ax 0).cur.isNone && (d.ax 0).queue.isEmpty && ! d.flag Reg.PT_JAM_ACTIVE then
    d.holdEntry m i
  else d

/-- Whether the platen's line boundaries count: a receipt's lines or a feed. -/
def HdJob.moves : HdJob → Bool
  | .lines | .cutFeed | .feed _ => true
  | _ => false

/-- What S3 does at a tick beside its profile: boundaries (R668, R673, R675), the rest of a stop, PLATEN_M (Table 23-6). `v` is its
velocity before the tick. -/
def Dev.platenTick (d : Dev) (v : Int) : Dev :=
  if ! d.head.job.moves || (v == 0 && (d.ax 2).vel == 0) then d
  else
    let n := d.head.bounds
    let d1 := if d.linePitch = 0 then d else d.platenBounds 5200
    let k := d1.head.bounds - n
    let d2 := if k = 0 then d1 else d1.lifeSub 17 k (atLeast1 Config.linesPerMetre)
    if v ≠ 0 ∧ (d2.ax 2).vel = 0 ∧ (d2.ax 2).queue = [] then d2.platenRest else d2

/-- PROFILE_TICK (R517). -/
def execProfileTick : State → Out := onAll (fun d m =>
  let v := (d.ax 2).vel
  let d1 := (List.range 4).foldl (fun d i => d.axTick i) (d.addWrap Reg.MS_TICKS_TICKS 1)
  let d2 := (List.range 4).foldl (fun d i => d.buckled m i) d1
  ((d2.platenTick v).partReverse, m))

end Sys2Proof.Machine
end

