-- ==== Sys2Proof/Machine/Clocks.lean ====
section
/-! DEFINITION. Clocks (spec/18_clocks.md): the sources XO and REFIN, SYSPLL's reference and its switches domain by domain, and what the
loss of a source does. -/

set_option linter.unusedVariables false

namespace Sys2Proof.Machine

/-! ### Sources (R777 to R781) -/

/-- The state field of source `s`: 0 XO, 1 REFIN. -/
def srcFld (s : Nat) : Fld := if s = 0 then Reg.CK_SRC_STAT_XO else Reg.CK_SRC_STAT_REFIN

/-- The HELD field of source `s`. -/
def heldFld (s : Nat) : Fld := if s = 0 then Reg.CK_SRC_STAT_XO_HELD else Reg.CK_SRC_STAT_REFIN_HELD

/-- Whether source `s` is enabled. -/
def Dev.srcEn (d : Dev) (s : Nat) : Bool := d.flag (if s = 0 then Reg.CK_CFG_XO_EN else Reg.CK_CFG_REFIN_EN)

/-- Whether reference `r` (1 XO, 2 REFIN, 3 IRC) is QUALIFIED; the IRC always is a valid target. -/
def Dev.refOk (d : Dev) (r : Nat) : Bool := r == 3 || ((r == 1 || r == 2) && d.srcEn (r - 1) && d.get (srcFld (r - 1)) == 2)

/-- The highest-ranked QUALIFIED reference below rank `r`. -/
def Dev.nextRef (d : Dev) (r : Nat) : Nat := if r = 0 ∧ d.refOk 1 then 1 else if r ≤ 1 ∧ d.refOk 2 then 2 else 3

/-- The reference target: one that ranks above the present reference must also be held. -/
def Dev.refTarget (d : Dev) : Nat :=
  let ref := d.get Reg.CK_SYS_STAT_REF
  let fit := fun (r : Nat) => d.refOk r && (ref ≤ r || d.flag (heldFld (r - 1)))
  if fit 1 then 1 else if fit 2 then 2 else 3

/-- The references of USBPLL and PIXPLL (R785, R786): PIX_LOCK falls with the XO. -/
def Dev.auxRefs (d : Dev) : Dev :=
  let d1 := ((d.set Reg.CK_AUX_STAT_USB_REF (d.nextRef 0)).set Reg.CK_AUX_STAT_USB_LOCK 1).setb Reg.CK_AUX_STAT_PIX_REF (d.refOk 1)
  if d.refOk 1 then { d1 with clk := { d1.clk with xoSeen := true } } else d1.pixLoss

/-! ### Domains (Table 18-2, R789, R799) -/

/-- Nominal ratios of domains 0 to 41, in eighths. -/
def nomRatios : List Nat :=
  [16] ++ List.replicate 12 24 ++ [48, 48] ++ List.replicate 7 24 ++ List.replicate 5 48 ++ [75, 75, 60, 200, 200] ++
  List.replicate 5 96 ++ [192, 192] ++ List.replicate 3 96

/-- The nominal ratio of domain `k`. -/
def nomRatio (k : Nat) : Nat := nomRatios.getD k 8

/-- The slow ratio of domain `k` (R799). -/
def Dev.slowRatio (d : Dev) (k : Nat) : Nat := max (8 * max 2 (d.get Reg.CK_RAMP_DIV_RAMP_MAX)) (nomRatio k)

/-- Domain `k`: ratio and stand. -/
def Dev.dom (d : Dev) (k : Nat) : Nat × Nat := d.clk.doms.getD k (8, 3)

/-- Change the clocks. -/
def Dev.modClk (d : Dev) (f : Clk → Clk) : Dev := { d with clk := f d.clk }

/-- Whether some domain's mux stands on the IRC. -/
def Dev.muxMoved (d : Dev) : Bool := d.clk.doms.any (fun x => x.2 == 2 || x.2 == 3 || x.2 == 4)

/-- Every domain is at its nominal ratio on SYSPLL. -/
def Dev.allNominal (d : Dev) : Bool := d.clk.doms.all (fun x => x.2 == 0)

/-- A domain with its ratio moved by 1.000 toward `goal`, the last step whatever remains. -/
def stepTo (goal x : Nat) : Nat := if x < goal then min goal (x + 8) else max goal (x - 8)

/-! ### The switch (R797 to R807) -/

/-- The CLK_SWITCH record at the end of a switch or a reversal (R801, R802, R805). -/
def Dev.clkReport (d : Dev) (rev : Bool) : Dev :=
  let us := min 65535 (d.now - d.clk.startAt)
  let p := d.clk.oldRef + 4 * d.get Reg.CK_SYS_STAT_REF + (if rev then 16 else 0) + 65536 * us
  let d1 := (d.addSat (if rev then Reg.CK_CNT_REVERSALS else Reg.CK_CNT_SWITCHES) 1).set Reg.CK_SYS_STAT_SW_STATE 0
  (((d1.setReg Reg.CK_LAST p).setReg Reg.CK_LAST_TIME d.now).raise 0x0C 0xF St.clkSwitch 0 p).fireRaw 0x0C 1

/-- SYSPLL is locked to its reference: what waits for the XO goes on (R811). -/
def Dev.clkLocked (d : Dev) : Dev :=
  if d.get Reg.CK_SYS_STAT_REF = 1 ∧ d.flag Reg.CK_SYS_STAT_LOCKED then (d.faultOff 0x0C 1).evalEngine else d

/-- The domains reverse (R805): SYSPLL has left HOLDOVER on its reference. -/
def Dev.clkReverse (d : Dev) : Dev :=
  let d1 := (((d.set Reg.CK_SYS_STAT_SW_STATE 3).set Reg.CK_SYS_STAT_HOLDOVER 0).set Reg.CK_SYS_STAT_LOCKED 1).set
    Reg.CK_SYS_STAT_TARGET (d.get Reg.CK_SYS_STAT_REF)
  (d1.modClk (fun c => { c with doms := c.doms.mapIdx (fun k x => if x.1 = nomRatio k then (x.1, 0) else (x.1, 6)) })).clkLocked

/-- The target follows the sources: a switch becomes due, is cancelled (R804), reverses (R805) or changes its target (R803, R807). -/
def Dev.clkEval (d : Dev) : Dev :=
  let ref := d.get Reg.CK_SYS_STAT_REF
  let sw := d.get Reg.CK_SYS_STAT_SW_STATE
  let tg := d.get Reg.CK_SYS_STAT_TARGET
  if ref = 0 then
    if tg ≠ 0 then (if d.refOk tg then d else d.set Reg.CK_SYS_STAT_TARGET (d.nextRef tg))
    else if d.refOk 1 then d.set Reg.CK_SYS_STAT_TARGET 1
    else if d.clk.xoOver || ! d.srcEn 0 then d.set Reg.CK_SYS_STAT_TARGET (d.nextRef 0) else d
  else if sw = 0 then
    let t := d.refTarget
    let d1 := d.set Reg.CK_SYS_STAT_TARGET t
    if t = ref then d1 else d1.set Reg.CK_SYS_STAT_SW_STATE 1
  else if sw = 1 then
    let t := d.refTarget
    let d1 := d.set Reg.CK_SYS_STAT_TARGET t
    if t = ref then
      ((((d1.set Reg.CK_SYS_STAT_SW_STATE 0).set Reg.CK_SYS_STAT_HOLDOVER 0).set Reg.CK_SYS_STAT_LOCKED 1).fire 0x0C 1 0).clkLocked
    else d1
  else if sw = 2 ∧ d.flag Reg.CK_SYS_STAT_HOLDOVER ∧ d.refOk ref ∧ ! d.muxMoved then
    let d1 := d.clkReverse
    if d1.allNominal then d1.clkReport true else d1
  else if (sw = 2 ∨ sw = 4) ∧ ! d.refOk tg then d.set Reg.CK_SYS_STAT_TARGET (d.nextRef tg)
  else d

/-- A QUALIFIED source is lost, or is turned off (R778, R780, R783, R810, R811). -/
def Dev.srcLost (d : Dev) (s tgt : Nat) : Dev :=
  let d1 := (((d.set (srcFld s) tgt).set (heldFld s) 0).fire 0x0C 0 0).addSat Reg.CK_CNT_LOSSES 1
  let d2 := d1.raise 0x0C 0xF St.clkLost (if s = 0 then 3 else 0) (s + 1)
  let d3 := if d.get Reg.CK_SYS_STAT_REF = s + 1 ∧ d.flag Reg.CK_SYS_STAT_LOCKED then
      (d2.set Reg.CK_SYS_STAT_HOLDOVER 1).set Reg.CK_SYS_STAT_LOCKED 0 else d2
  let d4 := d3.auxRefs
  let d5 := if s = 0 then
      let x := d4.faultOn 0x0C 1 St.clkLost 3 1
      if 1 ≤ x.laserState ∧ x.laserState ≤ 4 then x.engineStop 0x0C 1 else x
    else d4
  d5.clkEval

/-- The supplies the clocks run from are up. -/
def Dev.clkOn (d : Dev) : Bool := d.devState != DevSt.off && d.devState != DevSt.tripped

/-- REFIN_HZ as it acts (Table 18-3). -/
def Dev.refinHz (d : Dev) : Nat := clampN 1000000 50000000 (d.get Reg.CK_REFIN_REFIN_HZ)

/-- QUAL_WINDOW (R777, R778): a 2 ms window of source `s` ends with `edges` edges counted against the IRC; `gap`: a gap occurred in it. -/
def execQualWindow (s : Fin 2) (edges : Nat) (gap : Bool) : State → Out := onDev (fun d =>
  when (d.clkOn && d.srcEn s.val) (fun d =>
    let nom := if s.val = 0 then 24000000 else d.refinHz
    let good := ! gap && (s.val == 0 || d.pmFunc 17 == 0) && decide (((1000 * edges : Nat) - (2 * nom : Nat) : Int).natAbs * 100 ≤ 8 * nom)
    let st := d.get (srcFld s.val)
    if st = 2 then (if good then d else d.srcLost s.val 3)
    else if good then ((((d.set (srcFld s.val) 2).fire 0x0C 0 0).auxRefs).clkEval)
    else if st = 1 then d else (d.set (srcFld s.val) 1).fire 0x0C 0 0) d)

/-- SOURCE_GAP (R778): a QUALIFIED source shows a gap. -/
def execSourceGap (s : Fin 2) : State → Out := onDev (fun d =>
  when (d.clkOn && d.get (srcFld s.val) == 2) (fun d => d.srcLost s.val 3) d)

/-- SOURCE_HELD (R779): a source has been QUALIFIED without a break for QUAL_HOLD. -/
def execSourceHeld (s : Fin 2) : State → Out := onDev (fun d =>
  when (d.clkOn && d.get (srcFld s.val) == 2) (fun d => (d.set (heldFld s.val) 1).clkEval) d)

/-- The page's shadows are taken where no domain is switching, and a source that is no longer enabled turns OFF at once, one that has been
enabled starts QUALIFYING (R780). -/
def Dev.clkShadow (d : Dev) : Dev :=
  let d1 := if 2 ≤ d.get Reg.CK_SYS_STAT_SW_STATE then d else d.boundary 0x0C
  [0, 1].foldl (fun d s =>
    let st := d.get (srcFld s)
    if ! d.srcEn s ∧ st ≠ 0 then
      (if st = 2 ∧ d.get Reg.CK_SYS_STAT_REF = s + 1 then d.srcLost s 0
       else ((((d.set (srcFld s) 0).set (heldFld s) 0).fire 0x0C 0 0).auxRefs).clkEval)
    else if d.srcEn s ∧ st = 0 then (d.set (srcFld s) 1).fire 0x0C 0 0
    else d) d1

/-- REFIN_HZ_WRITE (R780): a write that changes REFIN_HZ puts REFIN back into QUALIFYING; that counts as a loss where REFIN is the
reference. -/
def execRefinHzWrite (l : Land) : State → Out := onDev (fun d =>
  d.land l (fun a _ => a == Reg.CK_REFIN) (fun _ a v d =>
    let change := v.toNat % 2 ^ 26 ≠ d.shGet Reg.CK_REFIN_REFIN_HZ
    let d1 := (d.store a v.toNat).clkShadow
    if ! change ∨ ! d1.srcEn 1 ∨ d1.get (srcFld 1) = 0 then d1
    else if d1.get (srcFld 1) = 2 ∧ d1.get Reg.CK_SYS_STAT_REF = 2 then d1.srcLost 1 1
    else ((((d1.set (srcFld 1) 1).set (heldFld 1) 0).fire 0x0C 0 0).auxRefs).clkEval))

/-- CLK_FAIL (R781, R803): the clocks cannot go on, and the device enters SAFE_STOP. -/
def Dev.clkFail (d : Dev) (payload : Nat) : Dev :=
  (((d.raise 0x0C 0xF St.clkFail 5 payload).fireRaw 0x0C 2).faultOn 0x0C 2 St.clkFail 5 payload).safeCause 4 0

/-- IRC_FAIL (R781): the LPO finds that the IRC has failed. -/
def execIrcFail : State → Out := onDev (fun d =>
  when (d.clkOn && d.flag Reg.CK_SRC_STAT_IRC_OK) (fun d => (d.set Reg.CK_SRC_STAT_IRC_OK 0).clkFail 3) d)

/-- CLK_SWITCH_START (R797, R798): the engines and the sequencer are idle, and a pending switch enters its first phase. -/
def execClkSwitchStart : State → Out := onDev (fun d =>
  when (d.get Reg.CK_SYS_STAT_SW_STATE == 1 && d.rcpt.isNone && d.head.job == .none && d.get Reg.TOK_PATH_IN_PATH == 0 &&
      d.get Reg.TOK_PATH_EXPECTED == 0 && d.pw.phase == 0 && ! d.flag Reg.PF_STAT_PFW) (fun d =>
    (d.set Reg.CK_SYS_STAT_SW_STATE 2).modClk (fun c => { c with
      startAt := d.now, oldRef := d.get Reg.CK_SYS_STAT_REF, doms := c.doms.map (fun x => (x.1, 1)) })) d)

/-- Domains that stand at ratio 1 on the IRC start their return once SYSPLL is locked (R801). -/
def Dev.clkReturn (d : Dev) : Dev :=
  let sw := d.get Reg.CK_SYS_STAT_SW_STATE
  if sw = 5 ∨ (sw = 4 ∧ d.flag Reg.CK_SYS_STAT_LOCKED ∧ d.clk.doms.any (fun x => x.2 == 3)) then
    (d.set Reg.CK_SYS_STAT_SW_STATE 5).modClk (fun c => { c with doms := c.doms.map (fun x => if x.2 = 3 then (x.1, 4) else x) })
  else d

/-- Injection test `n` flips this lane or parity group (R883). -/
def testLane (n : Nat) : Nat := if n % 2 = 0 then (n / 2) % 192 else ((n - 1) / 2) % 40

/-- The return of BOOT is complete (Table 19-9 step 4): the firmware starts, the watchdog is armed, and the lockstep self-test has run;
`miss` is the test that failed (R887, R888). -/
def Dev.bootClocked (d : Dev) (miss : Option Nat) : Dev :=
  let d1 := ((d.set Reg.CK_SYS_STAT_SW_STATE 0).set Reg.BT_STAT_STEP 4).set Reg.LK_STAT_WD_ARMED 1
  let d2 := { d1 with lock := { d1.lock with kickAt := d.now } }
  (match miss with
  | some n => (d2.fire 0x17 2 0).safeCause 9 (testLane n)
  | none => d2).clkEval

/-- A domain has taken its step: muxes that have all moved begin the relock; domains that are all nominal end the switch. -/
def Dev.clkSettle (d : Dev) (miss : Option Nat) : Dev :=
  let sw := d.get Reg.CK_SYS_STAT_SW_STATE
  if sw = 2 ∧ d.clk.doms.all (fun x => x.2 != 1) then
    ((d.set Reg.CK_SYS_STAT_SW_STATE 4).set Reg.CK_SYS_STAT_LOCKED 0).clkReturn
  else if sw = 3 ∧ d.allNominal then ((d.clkReport true).clkLocked).clkEval
  else if sw = 5 ∧ d.allNominal then
    (if d.devState = DevSt.boot ∧ d.get Reg.BT_STAT_STEP < 4 then d.bootClocked miss else ((d.clkReport false).clkLocked).clkEval)
  else d.clkReturn

/-- RAMP_STEP (R799 to R801): domain `k` has held its ratio for RAMP_DWELL and takes its next step; `miss` is the failing test of the boot's
self-test, for the step that completes the boot's return. -/
def execRampStep (k : Fin 42) (miss : Option (Fin 232)) : State → Out := onDev (fun d =>
  let x := d.dom k.val
  let slow := d.slowRatio k.val
  let nom := nomRatio k.val
  let fin : Nat → Nat × Nat := fun st => if x.1 = nom then (nom, 0) else (x.1, st)
  let y : Nat × Nat := match x.2 with
    | 1 => if x.1 = slow then (x.1, 2) else (stepTo slow x.1, 1)
    | 2 => let r := stepTo 8 x.1; (r, if r = 8 then 3 else 2)
    | 4 => if x.1 = slow then fin 5 else (stepTo slow x.1, 4)
    | 5 => let r := stepTo nom x.1; (r, if r = nom then 0 else 5)
    | 6 => let r := stepTo nom x.1; (r, if r = nom then 0 else 6)
    | _ => x
  if x.2 = 0 ∨ x.2 = 3 then d
  else ((d.boundary 0x0C).modClk (fun c => { c with doms := lmod c.doms k.val (fun _ => y) })).clkSettle (miss.map (·.val)))

/-- SYSPLL_LOCK (R796, R801): SYSPLL locks to the target, in the relock of a switch or at the start of BOOT, whose return begins. -/
def execSyspllLock : State → Out := onDev (fun d =>
  let sw := d.get Reg.CK_SYS_STAT_SW_STATE
  let d0 := if d.get Reg.CK_SYS_STAT_REF = 0 then d.auxRefs.clkEval else d
  let t := d0.get Reg.CK_SYS_STAT_TARGET
  let lock := fun (d : Dev) => ((d.set Reg.CK_SYS_STAT_REF t).set Reg.CK_SYS_STAT_LOCKED 1).set Reg.CK_SYS_STAT_HOLDOVER 0
  if d.get Reg.CK_SYS_STAT_REF = 0 then
    (if d.devState = DevSt.boot ∧ d.get Reg.BT_STAT_STEP = 2 ∧ t ≠ 0 then
      (((lock d0).set Reg.BT_STAT_STEP 3).set Reg.CK_SYS_STAT_SW_STATE 4).clkReturn
    else d)
  else if sw = 4 ∧ ! d.flag Reg.CK_SYS_STAT_LOCKED then (lock d0).clkReturn
  else d)

/-- RELOCK_TIMEOUT (R803): SYSPLL has not locked within 2 ms: the next lower-ranked QUALIFIED source is the target; after the IRC the
device enters SAFE_STOP with every domain parked. -/
def execRelockTimeout : State → Out := onDev (fun d =>
  let t := d.get Reg.CK_SYS_STAT_TARGET
  let boot := d.get Reg.CK_SYS_STAT_REF == 0 && d.devState == DevSt.boot && d.get Reg.BT_STAT_STEP == 2
  when (t != 0 && ! d.flag Reg.CK_SYS_STAT_LOCKED && (boot || d.get Reg.CK_SYS_STAT_SW_STATE == 4)) (fun d =>
    if t = 3 then d.clkFail 1 else d.set Reg.CK_SYS_STAT_TARGET (d.nextRef t)) d)

/-- XO_WAIT_EXPIRY (R796): XO_WAIT has passed at BOOT with the XO not QUALIFIED. -/
def execXoWaitExpiry : State → Out := onDev (fun d =>
  when (d.devState == DevSt.boot && d.get Reg.CK_SYS_STAT_REF == 0) (fun d =>
    ((d.modClk (fun c => { c with xoOver := true })).auxRefs).clkEval) d)

end Sys2Proof.Machine
end

