-- ==== Sys2Proof/Machine/Pins.lean ====
section
/-! DEFINITION. Balls (spec/24_pins_package.md R965 to R975): the multiplexed balls' levels, FUNC writes and GPIO inputs. -/

set_option linter.unusedVariables false

namespace Sys2Proof.Machine

/-- The level of mux entry `k`'s ball (R966): what the controller drives, else what the board gives it. With FUNC 0, EN12 to EN15 follow
their channels; the waves of the other outputs are the outside's to give (log entry 7). -/
def Dev.ballLevel (d : Dev) (k : Nat) : Bool :=
  let out := bit (d.get Reg.PM_OUT_OUT) k
  let drives := d.pmFunc k == 1 && bit (d.get Reg.PM_OE_OE) k && ! (bit (d.get Reg.PM_OD_OD) k && out)
  -- EN12 to EN15 are driven low in SAFE_STOP whatever FUNC holds (R974).
  if 20 ≤ k ∧ k < 24 ∧ d.lockMode = 2 then false
  else if 20 ≤ k ∧ k < 24 ∧ d.pmFunc k = 0 then d.chOn (k - 8)
  else if drives then out else bit d.balls k

/-- PM_IN (R967). -/
def Dev.pmIn (d : Dev) : Nat :=
  (List.range 28).foldl (fun m k => if d.pmFunc k != 2 && d.ballLevel k then m + 2 ^ k else m) 0

/-- Sources of the PINMUX page fire for the GPIO balls whose PM_IN bit has changed from `old` (R975). -/
def Dev.pmFire (d : Dev) (old : Nat) : Dev :=
  let now := d.pmIn
  (List.range 28).foldl (fun d k => if d.pmFunc k == 1 && bit now k != bit old k then d.fire 0x3C k 0 else d) d

/-- Entry `k` is EN12 to EN15 or PG12 to PG15: its channel. -/
def ballChan (k : Nat) : Option Nat := if 20 ≤ k ∧ k < 28 then some (12 + (k - 20) % 4) else none

/-- PM_FUNC_WRITE (R969, R973): a write of PM_FUNC0 or PM_FUNC1; a channel whose EN or PG ball is taken away while it is on goes off without
discharge. -/
def execPmFuncWrite (l : Land) : State → Out := onDev (fun d =>
  d.land l (fun a _ => a == Reg.PM_FUNC0 || a == Reg.PM_FUNC1) (fun _ a v d =>
    let old := d.pmIn
    let d1 := d.store a v.toNat
    let d2 := if a = Reg.PM_FUNC1 then
        (List.range 8).foldl (fun d j => match ballChan (20 + j) with
          | some n => if bitsOf v.toNat (2 * (4 + j)) 2 ≠ 0 ∧ d.chOn n then d.chOff n false else d
          | none => d) d1
      else d1
    d2.pmFire old))

/-- GPIO_CHANGE (R967, R975): the board gives ball `k` of Table 24-4 another level. -/
def execGpioChange (k : Fin 28) (high : Bool) : State → Out := onDev (fun d =>
  let old := d.pmIn
  let d1 := { d with balls := bitsPut d.balls k.val 1 (b2n high) }
  d1.pmFire old)

end Sys2Proof.Machine
end

