-- ==== Sys2Proof/Machine/Analog.lean ====
section
/-! DEFINITION. The converters ADC0 and ADC1, the I2C controllers (spec/25_electrical.md R997 to R1008) and the TAP's instruction register
(spec/26_register_index.md R1013). -/

set_option linter.unusedVariables false

namespace Sys2Proof.Machine

/-! ### Converters -/

/-- Inputs that Table 25-10 does not reserve. -/
def adcInputs (a : Nat) : List Nat := if a = 0 then List.range 19 else List.range 12 ++ (List.range 12).map (· + 16)

/-- The inputs of a round of converter `a` (R997, R998), ascending. -/
def Dev.adcRound (d : Dev) (a : Nat) : List Nat :=
  (adcInputs a).filter (fun i => bit (d.get (Reg.AD_FWMASK_MASK a) ||| d.get (Reg.AD_SCAN_SCAN a)) i)

/-- The round that runs has ended: AD_SCAN is taken into use and a new round begins. -/
def Dev.adcNewRound (d : Dev) (a : Nat) : Dev :=
  let d1 := { d.boundary (0x33 + a) with adcNext := lmod d.adcNext a (fun _ => 0) }
  d1.set (Reg.AD_STAT_ROUND a) (d1.adcRound a).length

/-- A conversion is a delivery to the loops L6 and L7 whose IN_SEL names the input (R999). -/
def Dev.adcDeliver (d : Dev) (a i code : Nat) : Dev :=
  [6, 7].foldl (fun d n => if d.get (Reg.LP_IN_IN_SEL n) = 32 * a + i then d.loopDeliver n code else d) d

/-- The value in mV of a code, times 32 for a divided input (R1000). -/
def adcMv (code : Nat) (divided : Bool) : Nat := roundDiv (code * 1800) 4096 * (if divided then 32 else 1)

/-- V of channel `i` in 10 mV: a divided input's value (R1000, Table 25-10), its rounding to 10 mV left open (log entry 22). -/
def railV (i code : Nat) : Nat :=
  if 5 ≤ i then
    let mv := adcMv code true
    mv / 10 + (if mv % 10 = 0 then 0 else Config.railMeas 0 i code % 2)
  else Config.railMeas 0 i code

/-- What the power pages show of a conversion (Table 25-10): VIN and VM, and voltage and current of the channels. -/
def Dev.adcPower (d : Dev) (a i code : Nat) : Dev :=
  if a = 0 then
    if i = 16 then d.set Reg.PWR_IN_VIN (adcMv code true) else if i = 17 then d.set Reg.PWR_IN_VM (adcMv code true) else d
  else if i < 12 then d.set (Reg.CH_MEAS_V i) (railV i code)
  else if 16 ≤ i ∧ i < 28 then d.set (Reg.CH_MEAS_I (i - 16)) (Config.railMeas 1 (i - 16) code)
  else d

/-- ADC_CONVERSION (R997): converter `a` converts the next input of its round; a converter without a round takes AD_SCAN into use. -/
def execAdcConversion (a : Fin 2) (code : Fin 4096) : State → Out := onDev (fun d =>
  let a := a.val
  let next := fun (d : Dev) => (d.adcRound a).find? (fun i => d.adcNext.getD a 0 ≤ i)
  let d0 := if (next d).isNone then d.adcNewRound a else d
  match next d0 with
  | none => d0
  | some i =>
    let d1 := ((d0.set (Reg.AD_DATA_CODE a i) code.val).addWrap (Reg.AD_DATA_SEQ a i) 1).addWrap (Reg.AD_CNT_COUNT a) 1
    let d2 := { d1 with adcNext := lmod d1.adcNext a (fun _ => i + 1) }.adcDeliver a i code.val |>.adcPower a i code.val
    if (next d2).isNone then d2.adcNewRound a else d2)

/-! ### I2C -/

/-- WLEN and RLEN as they act (Table 25-20). -/
def Dev.i2cLens (d : Dev) (i : Nat) : Nat × Nat := (min 32 (d.get (Reg.I2C_CMD_WLEN i)), min 32 (d.get (Reg.I2C_CMD_RLEN i)))

/-- I2C_GO (R1008): a write of I2C_CMD with GO starts a transfer when the controller is not busy. -/
def execI2cGo (l : Land) : State → Out := onDev (fun d =>
  d.land l (fun a v => (a == Reg.I2C_CMD 0 || a == Reg.I2C_CMD 1) && bit v.toNat 24) (fun _ a v d =>
    let i := if a = Reg.I2C_CMD 0 then 0 else 1
    let d1 := d.store a v.toNat
    if d.flag (Reg.I2C_STAT_BUSY i) then d1
    else
      let d2 := (d1.boundary (0x3A + i)).setReg (Reg.I2C_STAT i) 1
      { d2 with i2cRun := lmod d2.i2cRun i (fun _ => d2.i2cLens i) }))

/-- A transfer has ended: GO and BUSY clear, the shadows are taken, DONE fires. -/
def Dev.i2cEnd (d : Dev) (i n : Nat) : Dev :=
  ((((d.set (Reg.I2C_STAT_DONE_BYTES i) n).set (Reg.I2C_STAT_BUSY i) 0).set (Reg.I2C_CMD_GO i) 0).boundary (0x3A + i)).fire (0x3A + i) 0 0

/-- Bytes read go to I2C_BUF from byte 0. -/
def Dev.i2cBuf (d : Dev) (i : Nat) (bytes : List Byte) : Dev :=
  (List.range bytes.length).foldl (fun d j =>
    let a := Reg.I2C_BUF i (j / 4)
    d.setReg a (bitsPut (d.reg a) (8 * (j % 4)) 8 (byteAt bytes j))) d

/-- I2C_DONE (R1006): the transfer in progress ends. On I2C1 with a ball taken away the bus reads high, and the address is not answered
(R968). -/
def execI2cDone (i : Fin 2) (e : I2cEnd) : State → Out := onDev (fun d =>
  let i := i.val
  when (d.flag (Reg.I2C_STAT_BUSY i)) (fun d =>
    let (w, r) := d.i2cRun.getD i (0, 0)
    let cut := i = 1 ∧ (d.pmFunc 15 ≠ 0 ∨ d.pmFunc 16 ≠ 0)
    match if cut then I2cEnd.nackAddr else e with
    | .done bytes => (d.i2cBuf i (padTo r bytes)).i2cEnd i (min 63 (w + r))
    | .nackAddr => (d.set (Reg.I2C_STAT_NACK_ADDR i) 1).i2cEnd i 0
    | .nackData n => (d.set (Reg.I2C_STAT_NACK_DATA i) 1).i2cEnd i n
    | .arbLost n => (d.set (Reg.I2C_STAT_ARB_LOST i) 1).i2cEnd i n) d)

/-- I2C_STRETCH_TIMEOUT (R1007): SCL has been held low for longer than STRETCH_MAX after `n` bytes. -/
def execI2cStretchTimeout (i : Fin 2) (n : Nat) : State → Out := onDev (fun d =>
  when (d.flag (Reg.I2C_STAT_BUSY i.val)) (fun d => (d.set (Reg.I2C_STAT_TIMEOUT i.val) 1).i2cEnd i.val n) d)

/-! ### The TAP -/

/-- TAP_INSTRUCTION (Table 26-3, R1013): TAP_RESET and BSCAN follow the TAP. -/
def execTapInstruction (ir : TapIr) : State → Out := onDev (fun d =>
  (d.setb Reg.DBG_STAT_TAP_RESET (ir == .reset)).setb Reg.DBG_STAT_BSCAN (ir == .scan))

end Sys2Proof.Machine
end

