-- ==== Sys2Proof/Machine/Bundle.lean ====
section
/-! DEFINITION. Patch bundles (spec/19_boot_otp_patches.md, Tables 19-5, 19-6 and 19-8): layout, the ECDSA P-256 signature,
decryption and the records of the body. -/

set_option linter.unusedVariables false

namespace Sys2Proof.Machine

/-! ### ECDSA over P-256 -/

/-- The field prime. -/
def p256p : Nat := 0xFFFFFFFF00000001000000000000000000000000FFFFFFFFFFFFFFFFFFFFFFFF

/-- The order of the base point. -/
def p256n : Nat := 0xFFFFFFFF00000000FFFFFFFFFFFFFFFFBCE6FAADA7179E84F3B9CAC2FC632551

/-- The curve's constant b. -/
def p256b : Nat := 0x5AC635D8AA3A93E7B3EBBD55769886BC651D06B0CC53B0F63BCE3C3E27D2604B

/-- The base point. -/
def p256g : Nat × Nat :=
  (0x6B17D1F2E12C4247F8BCE6E563A440F277037D812DEB33A0F4A13945D898C296,
   0x4FE342E2FE1A7F9B8EE7EB4A7C0F9E162BCE33576B315ECECBB6406837BF51F5)

/-- `x ^ e mod m` over the low `n` bits of `e`. -/
def powMod (m x e : Nat) : Nat → Nat
  | 0 => 1 % m
  | n + 1 =>
    let r := powMod m x e n
    let sq := r * r % m
    if bit e (255 - n) then sq * x % m else sq

/-- The inverse modulo a prime. -/
def invMod (m x : Nat) : Nat := powMod m (x % m) (m - 2) 256

/-- The sum of two points; none is the point at infinity. -/
def ecAdd (a b : Option (Nat × Nat)) : Option (Nat × Nat) :=
  match a, b with
  | none, q => q
  | q, none => q
  | some (x1, y1), some (x2, y2) =>
    if x1 = x2 ∧ (y1 + y2) % p256p = 0 then none
    else
      let l := if x1 = x2 then (3 * x1 * x1 + (p256p - 3)) * invMod p256p (2 * y1) % p256p
        else (y2 + p256p - y1) * invMod p256p (x2 + p256p - x1) % p256p
      let x3 := (l * l + 2 * p256p - x1 - x2) % p256p
      some (x3, (l * (x1 + p256p - x3) + p256p - y1) % p256p)

/-- A multiple of a point, by the high `n` bits of a 256-bit scalar. -/
def ecMul (k : Nat) (q : Option (Nat × Nat)) : Nat → Option (Nat × Nat)
  | 0 => none
  | n + 1 =>
    let r := ecMul k q n
    let dbl := ecAdd r r
    if bit k (255 - n) then ecAdd dbl q else dbl

/-- Verify an ECDSA signature on a 32-byte digest. -/
def ecdsaOk (qx qy : Nat) (digest : List Byte) (r s : Nat) : Bool :=
  let onCurve := qx < p256p && qy < p256p &&
    qy * qy % p256p == (qx * qx * qx + (p256p - 3) * qx + p256b) % p256p
  if ! onCurve || r == 0 || p256n ≤ r || s == 0 || p256n ≤ s then false
  else
    let w := invMod p256n s
    let z := beNat digest
    match ecAdd (ecMul (z * w % p256n) (some p256g) 256) (ecMul (r * w % p256n) (some (qx, qy)) 256) with
    | none => false
    | some (x, _) => x % p256n == r

/-! ### The records of a body -/

/-- An image of a control store: interface version, word entries, parameter entries and STORE_CRC. -/
structure Image where
  major : Nat
  minor : Nat
  crc : Nat
  words : List (Nat × Nat)
  params : List (Nat × Nat)
deriving DecidableEq, Repr

/-- A body record (Table 19-6). -/
inductive BRec where
  | stop
  | image (line : Bool) (im : Image)
  | remap (slot addr : Nat) (line : List Byte)
  | code (off : Nat) (bytes : List Byte)
deriving DecidableEq, Repr

/-- The payload of a record of a type; none when its LEN does not fit. -/
def recPayload (typ : Nat) (b : List Byte) : Option BRec :=
  match typ with
  | 0 => if b = [] then some .stop else none
  | 3 => if b.length = 40 then some (.remap (byteAt b 0) (leAt b 4 4) (b.drop 8)) else none
  | 4 => if 4 ≤ b.length then some (.code (leAt b 0 4) (b.drop 4)) else none
  | _ =>
    if typ = 1 ∨ typ = 2 then
      let nw := leAt b 2 2
      let np := leAt b 4 2
      if b.length = 12 + 16 * nw + 8 * np then
        some (.image (typ == 2) {
          major := byteAt b 0, minor := byteAt b 1, crc := leAt b 8 4,
          words := (List.range nw).map (fun i => (leAt b (12 + 16 * i) 2, leAt b (12 + 16 * i + 4) 12)),
          params := (List.range np).map (fun i => (byteAt b (12 + 16 * nw + 8 * i), leAt b (12 + 16 * nw + 8 * i + 4) 4)) })
      else none
    else none

/-- The records of a body up to and with END; none when a head or a LEN does not fit, or bytes follow END. -/
def bodyRecs : Nat → List Byte → Option (List BRec)
  | 0, _ => none
  | f + 1, b =>
    if b.length < 8 then none
    else
      let n := leAt b 4 4
      if b.length < 8 + n then none
      else match recPayload (byteAt b 0) ((b.drop 8).take n) with
        | none => none
        | some .stop => if b.length = 8 then some [.stop] else none
        | some r => (bodyRecs f (b.drop (8 + n))).map (fun rs => r :: rs)

/-- Step 6 of Table 19-8 for records whose LENs fit: at most one image per instance, word addresses in the store of `size`
words, distinct remap slots, code in the 32 KiB patch area. -/
def recsOk (size : Nat) (rs : List BRec) : Bool :=
  let imgs := rs.filterMap (fun r => match r with
    | .image l im => some (l, im)
    | _ => none)
  let slots := rs.filterMap (fun r => match r with
    | .remap s _ _ => some s
    | _ => none)
  (imgs.filter (·.1)).length ≤ 1 && (imgs.filter (! ·.1)).length ≤ 1 &&
  imgs.all (fun x => x.2.words.all (fun w => w.1 < size)) &&
  slots.all (· < 32) && slots.eraseDups.length == slots.length &&
  rs.all (fun r => match r with
    | .code o b => o + b.length ≤ 32768
    | _ => true)

/-! ### The checks of Table 19-8 -/

/-- The SEC_VER of a bundle. -/
def bundleSecVer (b : List Byte) : Nat := byteAt b 12

/-- Steps 1 to 7 on a bundle: the failing step and its status, or the records and the decrypted body. `size` is the words of a
control store and `ifOk` the interface versions R421 accepts. -/
def Dev.bundleCheck (d : Dev) (b : List Byte) (size : Nat) (ifOk : Nat → Nat → Bool) :
    (Nat × Nat) ⊕ (List BRec × List Byte) :=
  let clen := leAt b 64 4
  let np := byteAt b 14
  let step1 := b.length ≤ 98304 && b.length == 208 + clen && leAt b 0 4 == 0x424B5245 && leAt b 4 2 == 1 &&
    leAt b 6 2 == 128 && byteAt b 13 / 2 == 0 && byteAt b 15 == 0 && leAt b 49 3 == 0 && leAt b 68 60 == 0 &&
    (List.range 8).all (fun i => byteAt b (16 + 4 * i + 3) == 0) && 1 ≤ np && np ≤ 8 && byteAt b 48 < 8
  if ! step1 then .inl (1, St.patchFormat)
  else
    let qx := leNat (d.otpBytes 72 80)
    let qy := leNat (d.otpBytes 80 88)
    let sig := b.drop (144 + clen)
    if ! ecdsaOk qx qy (sha256 (b.take (144 + clen))) (beNat (sig.take 32)) (beNat (sig.drop 32)) then .inl (2, St.patchSig)
    else if ! (List.range np).any (fun i => leAt b (16 + 4 * i) 2 == 0x0137 && byteAt b (18 + 4 * i) == 0xA1) then
      .inl (3, St.patchCompat)
    else if bundleSecVer b < d.get Reg.OTP_SECVER_SEC_VER then .inl (4, St.patchRollback)
    else
      let key := d.otpBytes 64 72
      let iv := (b.drop 52).take 12
      let ct := (b.drop 128).take clen
      if gcmTag key iv (b.take 128) ct ≠ (b.drop (128 + clen)).take 16 then .inl (5, St.patchSig)
      else
        let body := gcmCrypt key iv ct
        match bodyRecs (body.length / 8 + 1) body with
        | none => .inl (6, St.patchFormat)
        | some rs =>
          if ! recsOk size rs then .inl (6, St.patchFormat)
          else if ! rs.all (fun r => match r with
              | .image _ im => ifOk im.major im.minor
              | _ => true) then .inl (7, St.patchCompat)
          else .inr (rs, body)

end Sys2Proof.Machine
end

