-- ==== Sys2Proof/Machine/Spine.lean ====
section
/-! DEFINITION. The event spine (spec/05_registers_events.md, R255 to R266): records, who sees them, acceptance into the ring, and
what acceptance does to the tenants' summaries and pushes. -/

set_option linter.unusedVariables false

namespace Sys2Proof.Machine

/-- The 16 bytes of a record in the ring (Table 5-4). -/
def RingRec.bytes (r : RingRec) : List Byte :=
  leBytes 4 r.seq ++ leBytes 4 r.time ++ leBytes 4 r.ev.payload.toNat ++ leBytes 2 r.ev.code ++ leBytes 1 r.ev.src ++
  leBytes 1 (r.ev.ten % 16 + r.ev.sev % 8 * 16 + b2n r.ev.synth * 128)

/-- Whether tenant `k` sees a record (R265). -/
def EvRec.visible (e : EvRec) (k : Nat) : Bool := k == 0 || e.ten == k || e.ten == 0xF

/-- TSEV_k. -/
def Dev.tsev (d : Dev) (k : Nat) : Nat := bitsOf (d.reg Reg.EVT_TSEV) (3 * k) 3

/-- The SPINE source of tenant `k`'s page on an accepted record (R266): at most one firing in a microsecond, and what falls meanwhile
shares the firing held back. -/
def Dev.spineFire (d : Dev) (k : Nat) (e : EvRec) : Dev :=
  if ! e.visible k || d.tsev k == 7 || e.sev < d.tsev k then d
  else if d.spine.fired.getD k none = some d.now then
    { d with spine := { d.spine with heldBack := lmod d.spine.heldBack k (fun _ => true) } }
  else ({ d with spine := { d.spine with fired := lmod d.spine.fired k (fun _ => some d.now) } }).fireRaw (2 + k) 4

/-- The push of an accepted record to a subscribed tenant (R197, R198); a subscription ends with its session and at step 11 of a tenant
reset, and at nothing else (R199). -/
def Dev.spinePush (d : Dev) (k : Nat) (r : RingRec) : Dev :=
  let t := d.ten k
  if 6 < t.minSev ∨ r.ev.sev < t.minSev ∨ ! r.ev.visible k then d
  else if 28 ≤ t.respQ.length + t.respWait.length then d.modTen k (fun t => { t with skipped := min 255 (t.skipped + 1) })
  else (d.modTen k (fun t => { t with skipped := 0 })).unsol k St.ok ([4] ++ leBytes 1 t.skipped ++ [0, 0] ++ r.bytes) 0 0

/-- The spine accepts a record (R258, R259, R264): it is numbered, stamped and written into the ring. -/
def Dev.spineTake (d : Dev) (e : EvRec) : Dev :=
  let s := d.spine.nextSeq
  let r : RingRec := ⟨s, d.now % 2 ^ 32, e, false⟩
  let d1 := { d with spine := { d.spine with nextSeq := (s + 1) % 2 ^ 32, ring := (r :: d.spine.ring).take 1024 } }
  let d2 := d1.setReg Reg.EVT_LAST s
  (List.range 8).foldl (fun d k => (d.spineFire k e).spinePush k r) d2

/-- A notice of the spine itself (Table 5-5). -/
def spineNotice (payload : Nat) : EvRec := ⟨0x0A, 0xF, 0, 0, false, BitVec.ofNat 32 payload⟩

/-- The spine accepts the oldest record of a page's buffer; records lost meanwhile are told by an OVERRUN notice (R255, R256,
R262). -/
def Dev.spineAccept (d : Dev) (p : Nat) : Dev :=
  match (d.page p).buf with
  | [] => d
  | e :: rest =>
    let n := (d.page p).lost
    let d1 := (d.modPage p (fun q => { q with buf := rest, lost := 0 })).spineTake e
    if n = 0 then d1
    else (d1.spineTake (spineNotice (1 + p * 256 + min n 65535 * 65536))).fireRaw 0x0A 0

/-- SPINE_ACCEPT (R255 to R266): the arbiter takes a record from the buffer of page `p`; which of several is taken first is not
specified (R257), so the outside says. -/
def execSpineAccept (p : Fin 65) : State → Out := onDev (·.spineAccept p)

/-- TIME_WRAP (R260, Table 5-5): the always-on counter has wrapped. -/
def execTimeWrap : State → Out := onDev (fun d =>
  when (d.now % 2 ^ 32 == 0 && d.now != 0) (fun d => (d.spineTake (spineNotice 2)).fireRaw 0x0A 1) d)

/-- One tick of the 1 µs always-on counter (log entry 5): what `Dev.tick0` does, and a SPINE firing held back is raised (R266). -/
def Dev.tick (d : Dev) : Dev :=
  (List.range 8).foldl (fun d k =>
    if d.spine.heldBack.getD k false then
      ({ d with spine := { d.spine with
          heldBack := lmod d.spine.heldBack k (fun _ => false), fired := lmod d.spine.fired k (fun _ => some d.now) } }).fireRaw (2 + k) 4
    else d) d.tick0

/-- A record that is accepted before the next one is raised (R775). -/
def Dev.raiseNow (d : Dev) (p ten code sev payload : Nat) : Dev :=
  (List.range 5).foldl (fun d _ => d.spineAccept p) (d.raise p ten code sev payload)

end Sys2Proof.Machine
end

