-- ==== Sys2Proof/Machine/Boot.lean ====
section
/-! DEFINITION. The boot sequence from xSPI set-up to the request of STANDBY_EXIT (spec/19_boot_otp_patches.md, Table 19-9 steps 5 to 9;
spec/06_memory_dma.md, xSPI set-up; spec/23_background.md, R951): the journal's mount, the reports of the previous run, the boot
window, the bundle and the raise of the security version. -/

set_option linter.unusedVariables false

namespace Sys2Proof.Machine

/-! ### xSPI set-up and the NOR partitions (R275, R276, R281, R282) -/

/-- Set up both chip selects: an enabled one whose set-up fails is left absent. A PSRAM without SFDP takes its size from RAM_CFG; a NOR
needs SFDP (step 5 names chip select 0 alone; DEDUCED, log entry 10). -/
def Dev.xspiSetup (d : Dev) (x : XspiFound) : Dev :=
  let e0 := d.flag Reg.XSPI_CFG_CS0_EN
  let e1 := d.flag Reg.XSPI_CFG_CS1_EN
  let ok0 := e0 && x.ram
  let ok1 := e1 && x.nor
  let ram := if x.ramSfdp then x.ramSize else 2 ^ min 6 (d.get Reg.RAM_CFG_SIZE) * 1048576
  let d1 := d.addSat Reg.XSPI_ERR_SETUP_FAIL (b2n (e0 && ! x.ram) + b2n (e1 && ! x.nor))
  let d2 := ((d1.set Reg.XSPI_STAT_CS0_MODE (if ok0 then 2 else 0)).set Reg.XSPI_STAT_CS1_MODE (if ok1 then 2 else 0)).setb
    Reg.XSPI_STAT_CS0_SFDP (ok0 && x.ramSfdp)
  let d3 := ((d2.setb Reg.XSPI_STAT_CS1_SFDP ok1).setb Reg.XSPI_STAT_SUSPEND (ok1 && x.suspend)).set Reg.XSPI_STAT_DQS_DLY x.dly
  (d3.setReg Reg.CS0_SIZE (if ok0 then ram else 0)).setReg Reg.CS1_SIZE (if ok1 then x.norSize else 0)

/-- The patch, journal and forms partitions: base and size in 64 KiB. -/
def Dev.norParts (d : Dev) : List (Nat × Nat) :=
  let ws := [387, 388, 389].map d.intWord
  if ws.all (· == 0) then [(0, 4), (4, 16), (20, d.reg Reg.CS1_SIZE / 65536 - 20)] else ws.map (fun w => (w % 1024, bitsOf w 16 10))

/-- Two ranges of units meet. -/
def overlaps (a b : Nat × Nat) : Bool := a.2 != 0 && b.2 != 0 && a.1 < b.1 + b.2 && b.1 < a.1 + a.2

/-- Whether forms and journal may be used (R282). -/
def Dev.norUsable (d : Dev) : Bool :=
  match d.norParts with
  | [p, j, f] => ! overlaps p j && ! overlaps p f && ! overlaps j f &&
      [p, j, f].all (fun x => x.1 + x.2 ≤ d.reg Reg.CS1_SIZE / 65536)
  | _ => false

/-- Show the partitions; when they cannot be used, FAULT_CODE of the XSPI page holds NOT_READY. -/
def Dev.norLayout (d : Dev) : Dev :=
  let put := fun (d : Dev) (a : Nat) (x : Nat × Nat) => d.setReg a (x.1 % 1024 + x.2 % 1024 * 65536)
  let ps := d.norParts
  let d1 := put (put (put d Reg.NOR_PATCH (ps.getD 0 (0, 0))) Reg.NOR_JOURNAL (ps.getD 1 (0, 0))) Reg.NOR_FORMS (ps.getD 2 (0, 0))
  if d1.norUsable || d1.get Reg.XSPI_STAT_CS1_MODE == 0 then d1 else d1.faultOn 0x19 1 St.notReady 0 0

/-! ### The baseline programs (R420, Table 9-11) -/

/-- Baseline values of the parameter registers from P0 on; those not given are 0 (DESIGN CHOICE, log entry 13). -/
def baseParams (i : Nat) : List Nat :=
  if i = 0 then [7168, 36000, 1600, 1200, 0x3F, 500, 12, 423] else [40000, 0, 0, 500, 0xFF, 0, 1000, 0, 0]

/-- Copy the baseline program into store `i`, with zeros above it. -/
def Dev.storeBaseline (d : Dev) (i : Nat) : Dev := d.modSeq i (fun q => { q with rom := true, store := [] })

/-- The baseline program and P0 to P255 of instance `i`. -/
def Dev.loadBaseline (d : Dev) (i : Nat) : Dev :=
  let lo := Reg.SEQ_P i 0
  let d1 := { d with shadows := d.shadows.filter (fun x => ! (lo ≤ x.1 && x.1 < lo + 1024)) }
  (List.range 256).foldl (fun d k => d.setReg (Reg.SEQ_P i k) ((baseParams i).getD k 0)) (d1.storeBaseline i)

/-! ### Mounting the journal (R951, R957, R763) -/

/-- Restore the newest record of a TYPE to its registers. -/
def Dev.restoreRec (d : Dev) (t : Nat) (b : List Byte) : Dev :=
  match t with
  | 2 =>
    let d1 := (List.range 6).foldl (fun d k =>
      (d.setReg (Reg.FT_A k) (leAt b (4 * k) 4)).setReg (Reg.FT_B k) (leAt b (24 + 4 * k) 4)) d
    (d1.setb Reg.FT_STAT_VALID (bit (leAt b 48 4) 0)).setb Reg.FT_STAT_LEN_VALID (bit (leAt b 48 4) 1)
  | 3 => (List.range 3).foldl (fun d i => d.setb (Reg.BL_CTL_MAP_SWAP i) (bit (leAt b 0 4) i)) d
  | 4 => (((d.setReg Reg.HL_C (leAt b 0 4)).set Reg.HL_ESR_ESR (leAt b 4 4)).set Reg.HL_STAT_C_VALID 1).set Reg.HL_STAT_RESTORED 1
  | 6 =>
    let n := min 64 ((b.length - 4) / 2)
    let es := (List.range n).map (fun i => some (leAt b (4 + 2 * i) 2 % 2048, bitsOf (leAt b (4 + 2 * i) 2) 12 2))
    let d1 := d.set Reg.HD_ENERGY_R_AVG (leAt b 0 4)
    { d1 with head := { d1.head with defects := es ++ List.replicate (64 - n) none } }
  | 7 => d.setReg Reg.BG_LPC (leAt b 0 4)
  | _ => d

/-- Life counters at a mount: each takes its bound as its value; what this run has already counted waits (R955, R957). -/
def Dev.lifeMount (d : Dev) (b : List Byte) : Dev :=
  let bs := (List.range 24).map (fun i => leAt b (8 * i) 8)
  let l := d.life
  ({ d with life := { l with
    value := bs, bound := bs, pend := (List.range 24).map (fun i => l.value.getD i 0 + l.pend.getD i 0) } }).set Reg.LF_STAT_RESTORED 1

/-- Mount the journal. -/
def Dev.mount (d : Dev) (m : Mem) : Dev :=
  if ! d.norUsable || d.get Reg.XSPI_STAT_CS1_MODE == 0 then d.journalFault 1 0
  else
    let rs := d.journalRecs m
    let torn := (List.range d.segCount).filter (fun i => ! d.segErased m i && (d.segHdr m i).isNone)
    let d1 := (d.lifeMount (((newestRec 1 rs).map (·.body)).getD [])).set Reg.JR_STAT_STATE 1
    let d2 := [2, 3, 4, 6, 7].foldl (fun d t => match newestRec t rs with
      | some r => d.restoreRec t r.body
      | none => d) d1
    let top := rs.foldl (fun n r => if r.ok then max n r.seq else n) 0
    let d3 := (d2.setReg Reg.JR_SEQ top).set Reg.JR_CNT_TORN ((rs.filter (·.torn)).length)
    let d4 := match d3.headSeg m with
      | some (i, _) => d3.set Reg.JR_HEAD_OFFSET (i * 65536 + d3.headOffset m i)
      | none => d3
    let pf := newestRec 5 (rs.filter (fun r => r.unacked))
    ({ d4 with journal := { d4.journal with torn := torn, pfRec := pf.map (fun (r : JRec) => (r.addr, r.body)) } }).journalCounts m

/-- The firmware runs a step of the boot sequence: in BOOT, at step `n`, with no power-fail warning (R846). -/
def Dev.bootAt (d : Dev) (n : Nat) : Bool := d.devState == DevSt.boot && d.get Reg.BT_STAT_STEP == n && ! d.flag Reg.PF_STAT_PFW

/-- JOURNAL_MOUNT (R951; Table 19-9 step 5): the firmware sets up xSPI, copies the baseline programs into both stores and mounts the
journal. -/
def execJournalMount (x : XspiFound) : State → Out := onAll (fun d m =>
  (when (d.bootAt 4) (fun d =>
    let d1 := (((d.xspiSetup x).norLayout).loadBaseline 0).loadBaseline 1
    (d1.mount m).set Reg.BT_STAT_STEP 5) d, m))

/-! ### The reports of the previous run (R923) -/

/-- The power-fail reports (R775): the summary, the record's ACK, and the records in their order. -/
def Dev.pfReport (d : Dev) (m : Mem) : Dev × Mem :=
  match d.journal.pfRec with
  | none => (d, m)
  | some (a, b) =>
    let n := byteAt b 11
    let it := fun i => (b.drop (28 + 12 * i)).take 12
    let cut := ((List.range n).filter (fun i => bit (byteAt (it i) 9) 3)).length
    let out := ((List.range n).filter (fun i => ! bit (byteAt (it i) 9) 3 && byteAt (it i) 8 != 0)).length
    let lost := (List.range 16).foldl (fun s i => s + byteAt b (12 + i)) 0
    let vin := leAt b 4 2
    let d1 := ((((d.setReg Reg.HL_PF0 (leAt b 0 4)).set Reg.HL_PF1_NITEM n).set Reg.HL_PF1_EJECTED out).set Reg.HL_PF1_CUT_OFF cut).set
      Reg.HL_PF1_LOST (min 255 lost)
    let d2 := ((d1.set Reg.HL_PF2_VBANK_REC (leAt b 8 2)).set Reg.HL_PF2_VIN_PFW vin).raiseNow 0x11 0xF St.powerFail 0 (vin + n * 65536)
    let d3 := (List.range n).foldl (fun d i =>
      let final := leAt (it i) 6 2
      d.raiseNow 0x11 (bitsOf (byteAt (it i) 9) 4 3) final (if final = St.ok then 0 else 2) (leAt (it i) 2 2 + leAt (it i) 4 2 * 65536)) d2
    let d4 := (List.range 8).foldl (fun d k =>
      let ls := byteAt b (12 + k)
      let lr := byteAt b (20 + k)
      if ls + lr = 0 then d else d.raiseNow 0x11 k St.powerFail 0 (ls + lr * 256)) d3
    (({ d4 with journal := { d4.journal with pfRec := none } }).lifeAdd 20 1, m.program (a + 12) [0])

/-- BOOT_REPORTS (R923, R735, R908, R775; Table 19-9 steps 6 and 7): the reports, each accepted before the next, and then the boot
window opens. -/
def execBootReports : State → Out := onAll (fun d m =>
  if d.bootAt 5 then
    let d1 := d.set Reg.BT_STAT_STEP 6
    let d2 := if d1.flag Reg.TRIP_REC_VALID then (d1.raiseNow 0x10 0xF St.tripped 6 (d1.reg Reg.TRIP_REC)).lifeAdd 18 1 else d1
    let d3 := if d2.flag Reg.LK_REC_VALID then (d2.raiseNow 0x17 0xF St.safeStop 0 (d2.reg Reg.LK_REC)).lifeAdd 19 1 else d2
    let (d4, m1) := d3.pfReport m
    (({ d4 with boot := { d4.boot with windowAt := d4.now } }.set Reg.BT_STAT_WINDOW 1).set Reg.BT_STAT_STEP 7, m1)
  else (d, m))

/-- BOOT_WINDOW_CLOSE (R836): 200 ms after the ports have opened. -/
def execBootWindowClose : State → Out := onDev (fun d =>
  when (d.flag Reg.BT_STAT_WINDOW && d.past d.boot.windowAt 200000) (fun d => (d.set Reg.BT_STAT_WINDOW 0).set Reg.BT_STAT_STEP 8) d)

/-- A push is abandoned (R205, R838). -/
def Dev.pushAbandon (d : Dev) : Dev := ({ d with boot := { d.boot with push := none } }).set Reg.BT_STAT_PUSHING 0

/-- PUSH_LIMIT (R838): 2 s after the window opened, a push that has not reached LAST is abandoned. -/
def execPushLimit : State → Out := onDev (fun d => when (d.devState == DevSt.boot && d.boot.push.isSome && d.past d.boot.windowAt 2000000) Dev.pushAbandon d)

/-- PUSH_GAP_TIMEOUT (R205): more than 100 ms have passed since the last chunk. -/
def execPushGapTimeout : State → Out := onDev (fun d => match d.boot.push with
  | some p => if p.when + 100000 < d.now then d.pushAbandon else d
  | none => d)

/-! ### The bundle (R830 to R842, R845) -/

/-- Interface versions the firmware of ROM build 0x0137 accepts (R421). -/
def ifAccepted (major minor : Nat) : Bool := major == 1 && minor ≤ 3

/-- The image records of a body. -/
def imagesOf (rs : List BRec) : List (Nat × Image) :=
  rs.filterMap (fun r => match r with
    | .image l im => some (b2n l, im)
    | _ => none)

/-- Step 1 of R832 for one image. -/
def Dev.applyImage (d : Dev) (i : Nat) (im : Image) : Dev :=
  let d1 := im.words.foldl (fun d w => d.setWord i w.1 w.2) d
  im.params.foldl (fun d p => d.setReg (Reg.SEQ_P i p.1) p.2) d1

/-- The CRC of R418 over the whole store. -/
def Dev.storeCrc (d : Dev) (i : Nat) : Nat := crc32c ((List.range (storeSize i)).flatMap (fun a => leBytes 12 (d.word i a)))

/-- Where FW_CODE goes: the patch code area in SRAM bank 2. -/
def codeArea : Nat := 0x20058000

/-- Apply the records (R832): the images are written and verified before code and remap slots; none when a store's CRC differs (R833). -/
def Dev.applyRecs (d : Dev) (m : Mem) (rs : List BRec) : Option (Dev × Mem) :=
  let d1 := (imagesOf rs).foldl (fun d x => d.applyImage x.1 x.2) d
  if (imagesOf rs).all (fun x => d1.storeCrc x.1 == x.2.crc) then
    let m1 := rs.foldl (fun m r => match r with
      | .code off bs => m.writeBytes (codeArea + off) bs
      | _ => m) m
    let en := rs.foldl (fun n r => match r with
      | .remap s _ _ => n ||| 2 ^ s
      | _ => n) 0
    some (d1.setReg Reg.BT_REMAP en, m1)
  else none

/-- A bundle is rejected at a step with a status (R833, R841): both stores, the parameters and the patch code area are as they were
before any bundle, and the device will run BASELINE. -/
def Dev.bundleReject (d : Dev) (m : Mem) (src step status : Nat) : Dev × Mem :=
  let d1 := if step = 8 then ((d.loadBaseline 0).loadBaseline 1).setReg Reg.BT_REMAP 0 else d
  let d2 := ((d1.set Reg.BT_PATCH_LAST status).set Reg.BT_PATCH_STEP step).set Reg.BT_STAT_DECISION 2
  ({ ((d2.raise 0x13 0xF status 0 (step + src * 16)).fireRaw 0x13 1) with boot := { d2.boot with baseline := true } },
    if step = 8 then m.writeBytes codeArea (zeros 32768) else m)

/-- Check and apply a bundle from source 1 (NOR) or 2 (PATCH_PUSH); answers the status too. -/
def Dev.useBundle (d : Dev) (m : Mem) (src : Nat) (b : List Byte) : Dev × Mem × Nat :=
  let d0 := (d.set Reg.BT_STAT_SOURCE src).set Reg.BT_SECVER_BUNDLE (bundleSecVer b)
  let bad := fun (step status : Nat) =>
    let x := d0.bundleReject m src step status
    (x.1, x.2, status)
  match d0.bundleCheck b 4096 ifAccepted with
  | .inl (step, status) => bad step status
  | .inr (rs, body) =>
    if ! (imagesOf rs).all (fun x => x.2.words.all (fun w => w.1 < storeSize x.1)) then bad 6 St.patchFormat
    else match d0.applyRecs m rs with
    | none => bad 8 St.patchFormat
    | some (d1, m1) =>
      let sv := bundleSecVer b
      let up := bit (byteAt b 13) 0 && d1.get Reg.BT_SECVER_SENSED < sv
      let d2 := (((d1.setReg Reg.BT_BUNDLE (leAt b 8 4)).set Reg.BT_PATCH_LAST St.ok).set Reg.BT_STAT_DECISION 1).setReg Reg.BT_FEATURE
        (d1.reg Reg.BT_FEATURE % 256 + byteAt b 48 * 256)
      ({ d2 with boot := { d2.boot with applied := body, raiseTo := if up then sv else 0 } }, m1, St.ok)

/-- The bundle in the NOR partition, none where it holds none (R839) or there is no NOR. Its length is what its CLEN says. -/
def Dev.norBundle (d : Dev) (m : Mem) : Option (List Byte) :=
  let a := 0x70000000 + d.get Reg.NOR_PATCH_BASE * 65536
  if d.get Reg.XSPI_STAT_CS1_MODE = 0 ∨ m.readLE a 4 = 0xFFFFFFFF then none
  else some (m.readBytes a (min (208 + m.readLE (a + 64) 4) 98305))

/-- The end of BOOT (R936, R845, Table 19-9 step 9): the reference CRCs, the integrator's sequence program, and STANDBY_EXIT. -/
def Dev.bootEnd (d : Dev) : Dev :=
  let d1 := (d.setReg Reg.BG_REF_SCAN (d.storeCrc 0)).setReg Reg.BG_REF_LINE (d.storeCrc 1)
  let d2 := if bit (d1.intWord 384) 0 then
      let d3 := (d1.store Reg.PSEQ_VEC0 (d1.intWord 392)).store Reg.PSEQ_VEC1 (d1.intWord 393)
      ((List.range 64).foldl (fun d s => d.store (Reg.PSEQ_STEP s) (d.intWord (394 + s))) d3).boundary 0x0F
    else d1
  (d2.set Reg.BT_STAT_STEP 9).pseqRequest 3

/-- BUNDLE_DECIDE (R839 to R842): when the window has closed with no push running, or when a push has reached LAST: the pushed bundle,
else the NOR bundle, or none. The LAST chunk's response is placed (R206). -/
def execBundleDecide : State → Out := onAll (fun d m =>
  let due := d.devState == DevSt.boot && ! d.boot.decided && ! d.flag Reg.PF_STAT_PFW && 7 ≤ d.get Reg.BT_STAT_STEP &&
    (d.boot.pushed.isSome || (! d.flag Reg.BT_STAT_WINDOW && d.boot.push.isNone))
  if ! due then (d, m)
  else
    let d0 := ((d.set Reg.BT_STAT_WINDOW 0).set Reg.BT_STAT_STEP 8).set Reg.BT_STAT_PUSHING 0
    let d1 := { (d0.set Reg.BT_TIME_MS (min 65535 ((d.now - d.boot.enteredAt) / 1000))) with boot := { d0.boot with decided := true } }
    let pick := match d.boot.pushed with
      | some b => some (2, b)
      | none => if bit (d.intWord 384) 3 then none else (d.norBundle m).map (fun b => (1, b))
    let (d2, m2, status) := match pick with
      | some (src, b) => d1.useBundle m src b
      | none => (d1.set Reg.BT_STAT_DECISION 1, m, St.ok)
    let d3 := ({ d2 with boot := { d2.boot with pushed := none } }).fire 0x13 0 0
    let d4 := (List.range 8).foldl (fun d k => d.finish k 0x0A02 status []) d3
    (d4.bootEnd, m2))

/-- The bits of COUNTERS word `896 + i` that a raise from `lo` to `hi` burns (R843). -/
def raiseBits (lo hi i : Nat) : Nat :=
  (List.range 32).foldl (fun n b => if lo ≤ 32 * i + b ∧ 32 * i + b < hi then n + 2 ^ b else n) 0

/-- SEC_VER_RAISE (R843, R844): in NOMINAL the firmware starts the burn of the next word of the raise; a refused one ends the raise for
this run. -/
def execSecVerRaise : State → Out := onDev (fun d =>
  let lo := d.get Reg.BT_SECVER_SENSED
  when (d.devState == DevSt.nominal && lo < d.boot.raiseTo && d.otp.busy.isNone) (fun d =>
    match (List.range 4).find? (fun i => raiseBits lo d.boot.raiseTo i != 0 && ! d.otp.burned.contains (896 + i)) with
    | none => { d with boot := { d.boot with raiseTo := 0 } }
    | some i =>
      let d1 := d.otpStart .fw false 0x0E7A (896 + i) (raiseBits lo d.boot.raiseTo i)
      if d1.otp.busy.isSome then d1.set Reg.BT_SECVER_RAISED 1 else { d1 with boot := { d1.boot with raiseTo := 0 } }) d)

end Sys2Proof.Machine
end

