-- ==== Sys2Proof/Machine/Ports.lean ====
section
/-! DEFINITION. Host ports and framing (spec/03_host_ports.md): the acceptance of frames (Table 3-2), notices and
responses, and the USB, UART and CAN port events. Register access over SPI and USB stands in PortRegs. -/

set_option linter.unusedVariables false

namespace Sys2Proof.Machine

/-! ### Port counters -/

/-- The RESYNC counter of a channel's port (R1017). -/
def resyncFld (c : Nat) : Fld :=
  if c < 8 then Reg.USB_ERR_RESYNC else if c = 8 then Reg.SPIT_ERR_RESYNC
  else if c < 11 then Reg.UART_ERR_RESYNC (c - 9) else Reg.CAN_ERR_RESYNC

/-- The NOTICE_LOST counter of a channel's port (R119). -/
def noticeLostFld (c : Nat) : Fld :=
  if c < 8 then Reg.USB_ERR_NOTICE_LOST else if c = 8 then Reg.SPIT_ERR_NOTICE_LOST
  else if c < 11 then Reg.UART_ERR1_NOTICE_LOST (c - 9) else Reg.CAN_ERR_NOTICE_LOST

/-! ### Accepting a frame (Table 3-2) -/

/-- A notice is due on channel `c` (R117 to R119): at most 4 wait, a further one is dropped and counted. -/
def Dev.notice (d : Dev) (c opcode seq status : Nat) : Dev :=
  if 4 ≤ (d.chan c).notices.length then d.addSat (noticeLostFld c) 1
  else d.modChan c (fun x => { x with notices := x.notices ++ [⟨opcode, seq, status, x.expSeq.getD 0xFFFF⟩] })

/-- A step of resync (step 1, R115, R1017): one byte is dropped; the first of a run counts in RESYNC and toward the tenant
fault rule. -/
def Dev.resyncStep (d : Dev) (c k : Nat) : Dev :=
  let run := (d.chan c).inResync
  let d1 := d.modChan c (fun x => { x with rx := x.rx.tail, inResync := true })
  if run then d1 else (d1.addSat (resyncFld c) 1).protoErr k

/-- Whether 16 bytes pass step 1: SYNC and HCRC. -/
def headerOk (h : List Byte) : Bool :=
  byteAt h 0 == 0xA5 && leAt h 12 4 == crc32c (h.take 12)

/-- Whether the tag of a frame satisfies step 4 for tenant `k` (R171, R861). -/
def Dev.tagStep (d : Dev) (k : Nat) (opcode : Nat) (hdr payload tag : List Byte) : Bool :=
  let t := d.ten k
  if t.state = .closed && opcode == 1 then true
  else if t.tags then
    match d.hmacKey t.tagSlot with
    | some key => tag.length == 16 && tag == hmacTag key (hdr ++ payload)
    | none => false
  else tag.isEmpty

/-- The checks of steps 3 to 6 on a frame that has arrived in full, and its acceptance. -/
def Dev.judgeFrame (d : Dev) (c k : Nat) (fr : List (Byte × Bool)) : Dev :=
  let bs := fr.map (·.1)
  let hdr := bs.take 16
  let opcode := leAt hdr 2 2
  let seq := leAt hdr 4 2
  let len := leAt hdr 8 3
  let payload := (bs.drop 16).take len
  let tag := if bit (byteAt hdr 1) 0 then (bs.drop (16 + len)).take 16 else []
  let fcrc := leNat (bs.drop (16 + len + tag.length))
  let ch := d.chan c
  if fcrc ≠ crc32c (payload ++ tag) ∨ fr.any (·.2) then (d.notice c opcode seq St.badCrc).protoErr k
  else if ! d.tagStep k opcode hdr payload tag then (d.notice c opcode seq St.authFail).protoErr k
  else if ch.expSeq ≠ none ∧ ch.expSeq ≠ some seq then
    if ch.lastSeq = some seq then d.notice c opcode seq St.accepted
    else (d.notice c opcode seq St.badFrame).protoErr k
  else if (d.ten k).limit ≤ (d.ten k).credOut then
    (d.notice c opcode seq St.noCredit).addSat (Reg.TQ_ERRCNT_NOCREDIT k) 1
  else
    let d1 := d.modTen k (fun t => { t with
      cmdQ := t.cmdQ ++ [⟨c, opcode, seq, hdr, payload, tag⟩], credOut := t.credOut + 1, lastCh := c,
      keepFrom := d.now })
    d1.modChan c (fun x => { x with expSeq := some ((seq + 1) % 65536), lastSeq := some seq })

/-- One step of the parser on a channel bound to tenant `k`; none when it must wait for bytes. -/
def Dev.parseStep (d : Dev) (c k : Nat) : Option Dev :=
  let ch := d.chan c
  if 0 < ch.skip then
    if ch.rx.isEmpty then none
    else some (d.modChan c (fun x => { x with rx := x.rx.drop x.skip, skip := x.skip - x.rx.length }))
  else match ch.rx with
  | [] => none
  | b :: _ =>
    if b.1 ≠ 0xA5 then some (d.resyncStep c k)
    else if ch.rx.length < 16 then none
    else
      let h := (ch.rx.take 16).map (·.1)
      if ! headerOk h then some (d.resyncStep c k)
      else
        let d0 := if ch.inResync then d.modChan c (fun x => { x with inResync := false }) else d
        let flags := byteAt h 1
        let len := leAt h 8 3
        let total := 16 + len + (if bit flags 0 then 16 else 0) + 4
        let resetting := (d.ten k).state = .resetting
        if flags / 2 ≠ 0 ∨ leAt h 6 2 ≠ 0 ∨ byteAt h 11 ≠ 0 ∨ 65536 < len then
          let d1 := d0.modChan c (fun x => { x with skip := if 65536 < len then 16 else total })
          some (if resetting then d1.addSat (Reg.TQ_ERRCNT_DROPPED k) 1
            else (d1.notice c (leAt h 2 2) (leAt h 4 2) St.badFrame).protoErr k)
        else if ch.rx.length < total then none
        else
          let d1 := d0.modChan c (fun x => { x with rx := x.rx.drop total })
          some (if resetting then d1.addSat (Reg.TQ_ERRCNT_DROPPED k) 1 else d1.judgeFrame c k (ch.rx.take total))

/-- Parse what a channel holds, at most `n` steps. -/
def Dev.parse : Nat → Nat → Nat → Dev → Dev
  | 0, _, _, d => d
  | n + 1, c, k, d => match d.parseStep c k with
    | some d1 => Dev.parse n c k d1
    | none => d

/-- A transport message of CAN carries exactly one frame; any other is discarded and counts as BAD_FRAME (R154, R155). -/
def Dev.canMessage (d : Dev) (c k : Nat) (msg : List (Byte × Bool)) : Dev :=
  let h := (msg.take 16).map (·.1)
  let total := 16 + leAt h 8 3 + (if bit (byteAt h 1) 0 then 16 else 0) + 4
  if headerOk h && total == msg.length then
    Dev.parse 3 c k (d.modChan c (fun x => { x with rx := msg, skip := 0 }))
  else (d.modChan c (fun x => { x with rx := [] })).protoErr k

/-- Count UART parity and framing errors of the bytes that arrive (Table 3-11). -/
def Dev.uartErrs (d : Dev) (c : Nat) (bytes : List (Byte × RxErr)) : Dev :=
  if c = 9 ∨ c = 10 then
    let p := (bytes.filter (fun b => b.2 = .parity)).length
    let f := (bytes.filter (fun b => b.2 = .framing)).length
    (d.addSat (Reg.UART_ERR_PARITY_ERR (c - 9)) p).addSat (Reg.UART_ERR_FRAMING_ERR (c - 9)) f
  else d

/-- Whether a USB pair is presented, or a CAN stream is on (Tables 3-9 and 3-12); other ports always listen. -/
def Dev.chanOn (d : Dev) (c : Nat) : Bool :=
  d.portsOpen &&
  if c < 8 then bit (d.get Reg.USB_CTL_PAIRS) c
  else if 11 ≤ c && c < 15 then d.flag (Reg.CAN_RXID_EN (c - 11)) && ! d.ports.canBusOff
  else c < 15

/-- A clock switch runs: the UARTs and CAN start nothing (R809). -/
def Dev.clkBusy (d : Dev) : Bool := 2 ≤ d.get Reg.CK_SYS_STAT_SW_STATE

/-- Bytes arrive on channel `c`: an unbound channel discards them (R60); in DMA mode they bypass Table 3-2 until the chain
has its bytes (R131); else they are parsed. `fin` says that a CAN transport message ends with them. -/
def Dev.receive (d : Dev) (c : Nat) (bytes : List (Byte × RxErr)) (fin : Bool) : Dev :=
  match (d.chan c).bind with
  | none => d
  | some k =>
    if ! d.chanOn c ∨ (c = 10 ∧ d.pmFunc 10 ≠ 0) ∨ (11 ≤ c ∧ c < 15 ∧ d.pmFunc 14 ≠ 0) then d
    else
      -- During a clock switch a UART discards what it receives as framing errors (R809).
      let bytes := if (c = 9 ∨ c = 10) ∧ d.clkBusy then bytes.map (fun b => (b.1, RxErr.framing)) else bytes
      let d0 := d.uartErrs c bytes
      let bs := bytes.map (fun b => (b.1, decide (b.2 ≠ .none)))
      let n := if c < 8 then min (d.chan c).dmaLeft bs.length else 0
      let d1 := d0.modChan c (fun x => { x with
        dmaIn := x.dmaIn ++ (bs.take n).map (·.1), dmaLeft := x.dmaLeft - n })
      let rest := bs.drop n
      if 11 ≤ c ∧ c < 15 then
        let all := (d1.chan c).rx ++ rest
        if fin then
          let d2 := { d1 with ports := { d1.ports with canRx := lmod d1.ports.canRx (c - 11) (fun _ => false) } }
          d2.canMessage c k all
        else
          let d2 := d1.modChan c (fun x => { x with rx := all })
          { d2 with ports := { d2.ports with canRx := lmod d2.ports.canRx (c - 11) (fun _ => true) } }
      else
        let d2 := d1.modChan c (fun x => { x with rx := x.rx ++ rest })
        Dev.parse (2 * (d2.chan c).rx.length + 2) c k d2

/-- FRAME_RECEIVE (R114): bytes arrive on a channel, and every frame that they complete is checked by Table 3-2. -/
def execFrameReceive (c : Fin 16) (bytes : List (Byte × RxErr)) (fin : Bool) : State → Out :=
  onDev (fun d => d.receive c.val bytes fin)

/-! ### Sending -/

/-- Whether a channel can begin to send now: bound to the tenant, able to send, a USB port attached and awake, a UART not held
back by CTS_N (R149), CAN not in bus-off. -/
def Dev.sendOpen (d : Dev) (c : Nat) : Bool :=
  d.canSend c && d.chanOn c && ! (9 ≤ c && d.clkBusy) &&
  ! (c == 10 && d.flag (Reg.UART_CFG_RS485 1) && d.pmFunc 11 != 0) &&
  (if c < 8 then d.get Reg.USB_STAT_SPEED != 0 && ! d.flag Reg.USB_STAT_SUSPENDED
   else if c = 9 ∨ c = 10 then ! (d.flag (Reg.UART_CFG_FLOW (c - 9)) && ! d.flag (Reg.UART_CFG_RS485 (c - 9)) &&
      (d.ports.ctsHeld.getD (c - 9) false || (c == 10 && d.pmFunc 12 != 0)))
   else true)

/-- Data bytes of an ISO 15765-2 first frame, and of a single frame (Table 3-8). -/
def Dev.canCaps (d : Dev) (len : Nat) : Nat × Nat × Nat :=
  if d.flag Reg.CAN_CTL_CLASSIC_TP then (7, (if len ≤ 4095 then 6 else 2), 7)
  else (62, (if len ≤ 4095 then 62 else 58), 63)

/-- The frames of channel `c` after it begins one more: the SPI target keeps them until they are clocked out, the other ports
send them whole. On CAN, what a first frame leaves over waits for flow control. -/
def Dev.beginSend (d : Dev) (c k : Nat) (isResp : Bool) (bytes : List Byte) : Dev :=
  if c = 8 then d.modChan 8 (fun x => { x with out := x.out ++ [(isResp, bytes)] })
  else
    let d1 := d.modChan c (fun x => { x with out := [(isResp, bytes)] })
    if c = 9 ∨ c = 10 then { d1 with ports := { d1.ports with collisions := lmod d1.ports.collisions (c - 9) (fun _ => 0) } }
    else if 11 ≤ c then
      let (sf, ff, _) := d1.canCaps bytes.length
      let left := if bytes.length ≤ sf then 0 else bytes.length - ff
      { d1 with ports := { d1.ports with
        canTx := lmod d1.ports.canTx (c - 11) (fun _ => left), canWaits := lmod d1.ports.canWaits (c - 11) (fun _ => 0) } }
    else d1

/-- Whether the frame before has been sent in full on the ports that show it (R1018): on the SPI target no response is held,
on a CAN stream nothing waits for flow control. -/
def Dev.sendIdle (d : Dev) (c : Nat) : Bool :=
  if c = 8 then ! (d.chan 8).out.any (·.1)
  else if 11 ≤ c ∧ c < 15 then d.ports.canTx.getD (c - 11) 0 == 0
  else true

/-- RESPONSE_SEND (R1018): the next response for channel `c` leaves the response queue; notices go first (R122). A session
that requires tags and has no key keeps its responses (R861). What waited for room is placed (R74, R100). -/
def execResponseSend (c : Fin 16) : State → Out := onDev (fun d =>
  match (d.chan c.val).bind with
  | none => d
  | some k =>
    let t := d.ten k
    let key := if t.tags then d.hmacKey t.tagSlot else none
    if ! d.sendOpen c.val || ! d.sendIdle c.val || ! (d.chan c.val).notices.isEmpty || (t.tags && key.isNone) then d
    else match t.respQ.find? (fun r => d.respChan k r == c.val) with
    | none => d
    | some r =>
      let d1 := d.modTen k (fun t => { t with respQ := t.respQ.erase r })
      ((d1.beginSend c.val k true (d.respFrame k r key)).drain k).noticeQueued d)

/-- NOTICE_SEND (R122): the oldest notice of channel `c` goes out ahead of responses that have not started; without a tag when
the session's tag slot holds no key (R861). -/
def execNoticeSend (c : Fin 16) : State → Out := onDev (fun d =>
  match (d.chan c.val).bind, (d.chan c.val).notices with
  | some k, n :: rest =>
    if ! d.sendOpen c.val || (11 ≤ c.val && ! d.sendIdle c.val) then d
    else
      let t := d.ten k
      let key := if t.tags then d.hmacKey t.tagSlot else none
      let bytes := frameBytes 6 n.opcode n.seq n.status (t.retCred % 256) (leBytes 2 n.exp ++ zeros 2) key
      (d.modChan c.val (fun x => { x with notices := rest })).beginSend c.val k false bytes
  | _, _ => d)

/-! ### USB port events -/

/-- USBPLL runs from the XO (R786, Table 18: USB_REF 1). -/
def Dev.usbXo (d : Dev) : Bool := d.get Reg.CK_AUX_STAT_USB_REF == 1

/-- Partly received frames on every bulk pair are discarded; sessions, queues and SEQ values stay (R134). -/
def Dev.dropUsbFrames (d : Dev) : Dev :=
  { d with chans := d.chans.mapIdx (fun i x => if i < 8 then { x with rx := [], skip := 0, inResync := false } else x) }

/-- Bulk pairs with response bytes waiting, one bit per pair (status report byte 0). -/
def Dev.usbWaiting (d : Dev) : Nat :=
  (List.range 8).foldl (fun m c =>
    match (d.chan c).bind with
    | none => m
    | some k => if ! (d.chan c).notices.isEmpty || (d.ten k).respQ.any (fun r => d.respChan k r == c) then m + 2 ^ c else m) 0

/-- The pending summary of tenant `k`: EVT_RAW AND EVT_EN of its TQ page (R248). -/
def Dev.pend (d : Dev) (p : Nat) : Nat := d.reg (Reg.EVT_RAW p) &&& d.reg (Reg.EVT_EN p)

/-- The 8-byte status report of EP9. -/
def Dev.statusReport (d : Dev) : List Byte :=
  leBytes 1 d.usbWaiting ++
  leBytes 1 ((List.range 8).foldl (fun m k => if d.pend (2 + k) ≠ 0 then m + 2 ^ k else m) 0) ++
  zeros 2 ++ leBytes 4 (d.reg Reg.EVT_LAST)

/-- USB_BUS_RESET (R135): the port is enumerated anew, takes its shadows into use, and returns to High-Speed where HS_EN is
set, the host offers it (`hs`) and USBPLL runs from the XO. -/
def execUsbBusReset (hs : Bool) : State → Out := onDev (fun d => when (d.get Reg.USB_STAT_SPEED != 0) (fun d =>
  let d1 := (d.boundary 0x35).addSat Reg.USB_ERR_BUS_RESETS 1
  let high := hs && d1.flag Reg.USB_CTL_HS_EN && d1.usbXo
  let d2 := (((d1.set Reg.USB_STAT_SPEED (if high then 2 else 1)).set Reg.USB_STAT_ADDR 0).set Reg.USB_STAT_CONFIGURED 0).set
    Reg.USB_STAT_SUSPENDED 0
  let d3 := if high then (d2.set Reg.USB_STAT_FS_FALLBACK 0).set Reg.USB_STAT_SOF_LOCK 0 else d2
  { d3 with ports := { d3.ports with usbWake := false, usbWakeSig := false } }) d)

/-- USB_SUSPEND (R129): nothing but the port's suspend state changes. -/
def execUsbSuspend : State → Out := onDev (fun d =>
  when (d.get Reg.USB_STAT_SPEED != 0) (fun d => d.set Reg.USB_STAT_SUSPENDED 1) d)

/-- USB_RESUME (R129): bus activity ends suspend. -/
def execUsbResume : State → Out := onDev (fun d =>
  let d1 := d.set Reg.USB_STAT_SUSPENDED 0
  { d1 with ports := { d1.ports with usbWakeSig := false } })

/-- REMOTE_WAKEUP (R130): a suspended port with RWAKE_EN, the host's permission and a queued status report signals wakeup. -/
def execRemoteWakeup : State → Out := onDev (fun d =>
  when (d.flag Reg.USB_STAT_SUSPENDED && d.flag Reg.USB_CTL_RWAKE_EN && d.ports.usbWake && d.statusReport != d.ports.usbLast)
    (fun d => { d with ports := { d.ports with usbWakeSig := true } }) d)

/-- The port detaches: D+ pull-up off. -/
def Dev.usbDetach (d : Dev) (why : Nat) : Dev :=
  let d1 := (((d.set Reg.USB_STAT_SPEED 0).set Reg.USB_STAT_SUSPENDED 0).set Reg.USB_STAT_CONFIGURED 0).set Reg.USB_STAT_ADDR 0
  { d1 with ports := { d1.ports with reattach := why, usbWake := false, usbWakeSig := false } }

/-- USB_FS_FALLBACK (R133): USBPLL has lost the XO at High-Speed; the port detaches for 10 ms and will attach at Full-Speed. -/
def execUsbFsFallback : State → Out := onDev (fun d =>
  when (d.get Reg.USB_STAT_SPEED == 2 && ! d.usbXo) (fun d => d.usbDetach 2) d)

/-- REATTACH (R134): a write to USB_CTL with REATTACH set detaches the port for 10 ms. -/
def execReattach (l : Land) : State → Out := onDev (fun d =>
  d.land l (fun a v => a == Reg.USB_CTL && bit v.toNat 1) (fun _ a v d => (d.store a v.toNat).usbDetach 1))

/-- ATTACH (R134): the pull-up goes on, by ATTACH or at the end of a re-attach: shadows are taken, partly received frames of
the pairs are discarded, and the speed is chosen by R132, R133 and R135; without a reference good
enough the port does not attach (R787). -/
def execAttach (hs : Bool) : State → Out := onDev (fun d =>
  when (d.flag Reg.USB_CTL_ATTACH && d.get Reg.USB_STAT_SPEED == 0 && (d.clk.xoSeen || d.get Reg.CK_SRC_STAT_REFIN == 2)) (fun d =>
    let why := d.ports.reattach
    let d1 := (d.boundary 0x35).dropUsbFrames
    let high := hs && why != 2 && d1.flag Reg.USB_CTL_HS_EN && d1.usbXo
    let d2 := ((d1.set Reg.USB_STAT_SPEED (if high then 2 else 1)).setb Reg.USB_STAT_FS_FALLBACK (why == 2)).setb
      Reg.USB_STAT_SOF_LOCK (why == 2)
    { d2 with ports := { d2.ports with reattach := 0 } }) d)

/-- STANDARD_REQUEST (R130): the host sets the address or the configuration, or permits remote wakeup. -/
def execStandardRequest (r : StdReq) : State → Out := onDev (fun d =>
  when (d.get Reg.USB_STAT_SPEED != 0) (fun d =>
    match r with
    | .setAddress a => d.set Reg.USB_STAT_ADDR a
    | .setConfiguration on => d.setb Reg.USB_STAT_CONFIGURED on
    | .remoteWakeup on => { d with ports := { d.ports with usbWake := on } }) d)

/-- STATUS_REPORT (R128): an 8-byte report with the values of this instant goes out on EP9 when a field has changed. -/
def execStatusReport : State → Out := onDev (fun d =>
  when (d.get Reg.USB_STAT_SPEED != 0 && ! d.flag Reg.USB_STAT_SUSPENDED && d.statusReport != d.ports.usbLast)
    (fun d => { d with ports := { d.ports with usbLast := d.statusReport } }) d)

/-- SOFT_RESET (R126, Table 3-4): the partly received frame on the Printer Class pair is discarded. -/
def execSoftReset : State → Out := onDev (fun d =>
  when (d.flag Reg.USB_CTL_PRN_EN)
    (fun d => d.modChan (d.get Reg.USB_CTL_PRN_PAIR) (fun x => { x with rx := [], skip := 0 })) d)

/-! ### UART events -/

/-- UART_FRAME_GAP (R150): no byte for FRAME_GAP character times discards the partial frame and counts in RESYNC. -/
def execUartFrameGap (u : Fin 2) : State → Out := onDev (fun d =>
  let c := 9 + u.val
  when (d.flag (Reg.UART_CFG_FRAME_GAP u.val) && (0 < (d.chan c).skip || ! (d.chan c).rx.isEmpty))
    (fun d => (d.modChan c (fun x => { x with rx := [], skip := 0, inResync := false })).addSat (resyncFld c) 1) d)

/-- RS485_COLLISION (R152, R153): the frame is to be sent again; after 8 collisions on one frame it is dropped. -/
def execRs485Collision (u : Fin 2) : State → Out := onDev (fun d =>
  let c := 9 + u.val
  when (d.flag (Reg.UART_CFG_RS485 u.val) && ! (d.chan c).out.isEmpty) (fun d =>
    let n := d.ports.collisions.getD u.val 0 + 1
    let d1 := d.addSat (Reg.UART_ERR_COLLISION u.val) 1
    if 8 ≤ n then
      let d2 := d1.modChan c (fun x => { x with out := [] })
      { d2 with ports := { d2.ports with collisions := lmod d2.ports.collisions u.val (fun _ => 0) } }
    else { d1 with ports := { d1.ports with collisions := lmod d1.ports.collisions u.val (fun _ => n) } }) d)

/-- CTS_N_CHANGE (R149): while CTS_N is high a UART with FLOW begins no new byte; when it falls, sending resumes. -/
def execCtsNChange (u : Fin 2) (high : Bool) : State → Out := onDev (fun d =>
  { d with ports := { d.ports with ctsHeld := lmod d.ports.ctsHeld u.val (fun _ => high) } })

/-! ### CAN events -/

/-- Change the CAN part of a stream's transmission. -/
def Dev.canTxEnd (d : Dev) (st : Nat) : Dev :=
  let d1 := d.modChan (11 + st) (fun x => { x with out := [] })
  { d1 with ports := { d1.ports with canTx := lmod d1.ports.canTx st (fun _ => 0) } }

/-- CAN_N_CR_TIMEOUT (R157): a reception that passes N_Cr is discarded and counts as BAD_FRAME. -/
def execCanNCrTimeout (st : Fin 4) : State → Out := onDev (fun d =>
  when (d.ports.canRx.getD st.val false) (fun d =>
    let d1 := d.modChan (11 + st.val) (fun x => { x with rx := [] })
    let d2 := { d1 with ports := { d1.ports with canRx := lmod d1.ports.canRx st.val (fun _ => false) } }
    match (d2.chan (11 + st.val)).bind with
    | some k => d2.protoErr k
    | none => d2) d)

/-- CAN_N_BS_TIMEOUT (R157): a transmission that passes N_Bs is dropped and counted; its credit stays returned. -/
def execCanNBsTimeout (st : Fin 4) : State → Out := onDev (fun d =>
  when (d.ports.canTx.getD st.val 0 != 0) (fun d => (d.canTxEnd st.val).addSat Reg.CAN_ERR_TP_TIMEOUT 1) d)

/-- CAN_FLOW_CONTROL (R154, Table 3-8): CTS lets the next block go with the host's BS and STmin; WAIT is accepted WFT_MAX times
in a row; a further WAIT, or OVFLW, ends the transmission. -/
def execCanFlowControl (st : Fin 4) (fs : FlowSt) (bs stmin : Nat) : State → Out := onDev (fun d =>
  let i := st.val
  let left := d.ports.canTx.getD i 0
  when (left != 0) (fun d =>
    match fs with
    | .cts =>
      let cap := (d.canCaps left).2.2
      let sent := if bs % 256 = 0 then left else min left (bs % 256 * cap)
      { d with ports := { d.ports with
        canTx := lmod d.ports.canTx i (fun _ => left - sent), canWaits := lmod d.ports.canWaits i (fun _ => 0),
        canBs := lmod d.ports.canBs i (fun _ => bs % 256), canSt := lmod d.ports.canSt i (fun _ => stmin % 256) } }
    | .wait =>
      let n := d.ports.canWaits.getD i 0 + 1
      if d.get Reg.CAN_TP_WFT_MAX < n then d.canTxEnd i
      else { d with ports := { d.ports with canWaits := lmod d.ports.canWaits i (fun _ => n) } }
    | .ovflw => d.canTxEnd i) d)

/-- Partial transport messages in both directions are discarded (R158). -/
def Dev.canDrop (d : Dev) : Dev :=
  let d1 := { d with chans := d.chans.mapIdx (fun i (x : Chan) => if 11 ≤ i ∧ i < 15 then { x with rx := [], out := [] } else x) }
  { d1 with ports := { d1.ports with canRx := List.replicate 4 false, canTx := [0, 0, 0, 0] } }

/-- BUS_OFF (R158): the controller enters bus-off, counts it, and the streams stop. -/
def execBusOff : State → Out := onDev (fun d =>
  when (! d.ports.canBusOff) (fun d =>
    let d1 := (d.canDrop.addSat Reg.CAN_ERR_BUS_OFF 1).set Reg.CAN_STAT_STATE 2
    { d1 with ports := { d1.ports with canBusOff := true, canRecover := false } }) d)

/-- BOR (R158): a write to CAN_CTL with BOR set starts bus-off recovery. -/
def execBor (l : Land) : State → Out := onDev (fun d =>
  d.land l (fun a v => a == Reg.CAN_CTL && bit v.toNat 5) (fun _ a v d =>
    let d1 := d.store a v.toNat
    if d1.ports.canBusOff then { d1 with ports := { d1.ports with canRecover := true } } else d1))

/-- AUTO_BOR_RECOVERY (R158): 128 occurrences of 11 recessive bits end bus-off, with AUTO_BOR set or after a BOR write. -/
def execAutoBorRecovery : State → Out := onDev (fun d =>
  when (d.ports.canBusOff && (d.flag Reg.CAN_CTL_AUTO_BOR || d.ports.canRecover)) (fun d =>
    let d1 := ((d.canDrop.set Reg.CAN_STAT_STATE 0).set Reg.CAN_STAT_TEC 0).set Reg.CAN_STAT_REC 0
    { d1 with ports := { d1.ports with canBusOff := false, canRecover := false } }) d)

end Sys2Proof.Machine
end

