-- ==== Sys2Proof/Machine/Background.lean ====
section
/-! DEFINITION. Background work (spec/23_background.md): the scrubber, the tasks and their slices, the calibrations of Table 23-2, and
the life counters that count time. -/

set_option linter.unusedVariables false

namespace Sys2Proof.Machine

/-! ### The scrubber (R928 to R930, R273, Table 6-3) -/

/-- The reaction of Table 6-3 to an uncorrectable word the scrubber finds at `a`. -/
def Dev.eccReact (d : Dev) (m : Mem) (a : Nat) (at1 : Bank1) : Dev × Mem :=
  let bank := (a - 0x20000000) / 0x20000
  if bank = 0 ∨ bank = 2 then ((d.eccCount a 8 5).safeCause 6 0, m)
  else if bank = 1 then
    match at1 with
    | .input c =>
      let d1 := d.eccCount a ((d.chan c.val).bind.getD 0xF) 1
      let h := (d1.chan c.val).rx.map (·.1)
      (if h = [] then d1
       else (d1.modChan c.val (fun x => { x with rx := [], inResync := false })).notice c.val (leAt h 2 2) (leAt h 4 2) St.badCrc, m)
    | .cmd k i =>
      let d1 := d.eccCount a k.val 1
      (if i < (d1.ten k.val).cmdQ.length then
        (d1.modTen k.val (fun t => { t with cmdQ := t.cmdQ.eraseIdx i })).tenantFault k.val else d1, m)
    | .resp k i =>
      let d1 := d.eccCount a k.val 1
      (if i < (d1.ten k.val).respQ.length then
        (((d1.modTen k.val (fun t => { t with respQ := t.respQ.eraseIdx i })).tenantFault k.val).drain k.val).noticeQueued d else d1, m)
    | .spare => (d.eccCount a 0xF 0, m)
  else if bank = 3 then
    if a < 0x20062000 then (d.eccCount a (d.dmaTen ((a - 0x20060000) / 512)) 2, m)
    else if a < 0x20066000 then
      let i := (a - 0x20062000) / 16
      (({ d with spine := { d.spine with ring := d.spine.ring.map (fun (r : RingRec) => if r.seq % 1024 = i then { r with bad := true } else r) } }).eccCount
        a 0xF 0, m)
    else (d.eccCount a 8 0, m)
  else
    let u := unitOf a
    let g := d.unit u
    if g.state = .free then
      ({ (d.eccCount a 0xF 0) with ecc := d.ecc.filter (fun (e : Nat × Bool) => e.1 != a) }, m.writeBytes a (zeros 8))
    else if g.kind = 3 then ((d.eccCount a 0 0).modUnit u (fun x => { x with state := .releasing }), m)
    else if g.kind = 2 then (d.eccCount a g.tenant 2, m)
    else ((d.eccCount a g.tenant 2).eccLaser u, m)

/-- A word of the burst as it is found: a single flipped bit is corrected, written back and counted (R929); two are uncorrectable. -/
def Dev.scrubWord (d : Dev) (m : Mem) (a : Nat) (double : Bool) (at1 : Bank1) : Dev × Mem :=
  if double then ({ d with ecc := d.ecc.filter (fun (e : Nat × Bool) => e.1 != a) ++ [(a, true)] }).eccReact m a at1
  else ({ (d.addSat Reg.MEM_ERR_CORR 1) with ecc := d.ecc.filter (fun (e : Nat × Bool) => e.1 != a) }, m)

/-- SCRUB_BURST (R928 to R930): the next aligned 64-byte burst is read. `found` are the words of it that have since flipped one bit or
two, beside those already flipped; `at1` says what a word of bank 1 belongs to. -/
def execScrubBurst (found : List (Fin 8 × Bool)) (at1 : Bank1) : State → Out := onAll (fun d m =>
  if d.devState = DevSt.off ∨ d.devState = DevSt.tripped then (d, m)
  else
    let a := d.reg Reg.BG_SCRUB_POS
    let word := fun (i : Nat) =>
      if d.ecc.any (fun e => e.1 == a + 8 * i && e.2) || found.any (fun f => f.1.val == i && f.2) then some true
      else if d.ecc.any (fun e => e.1 == a + 8 * i) || found.any (fun f => f.1.val == i) then some false else none
    let (d1, m1) := (List.range 8).foldl (fun x i => match word i with
      | some b => x.1.scrubWord x.2 (a + 8 * i) b at1
      | none => x) (d, m)
    if a + 64 < 0x20200000 then (d1.setReg Reg.BG_SCRUB_POS (a + 64), m1)
    else (((d1.setReg Reg.BG_SCRUB_POS 0x20000000).addWrap Reg.BG_SCRUB_PASSES 1).fire 0x3D 0 0, m1))

/-! ### When tasks fall due (Table 23-1) -/

/-- The period of a task in µs, 0 for none. -/
def Dev.bgPeriod (d : Dev) (t : Nat) : Nat :=
  match t with
  | 1 => if d.get Reg.BG_PER1_STORE_PER = 0 then 0 else max 100 (d.get Reg.BG_PER1_STORE_PER) * 1000
  | 2 => d.get Reg.BG_PER0_FACET_PER * 1000000
  | 3 => d.get Reg.BG_PER0_HEADRES_PER * 3600000000
  | 4 => d.get Reg.HL_MEAS_PER_MEAS_PER * 1000000
  | _ => 0

/-- Deadlines in µs, 0 for none. -/
def bgDeadline (t : Nat) : Nat :=
  match t with
  | 1 => 1000000
  | 2 => 60000000
  | 5 => 100000
  | 6 => 100000
  | 7 => 10000000
  | _ => 0

/-- A tenant's CALIBRATE that waits: its CAL. -/
def Dev.calWaits (d : Dev) : List (Nat × Nat) :=
  (List.range 8).filterMap (fun k => match d.deferred? k 0x0401 with
    | some x => if d.bg.cal.any (fun c => c.2 == k) then none else some (x.args.getD 0 0, k)
    | none => none)

/-- Whether a task without a period is due. -/
def Dev.bgWants (d : Dev) (t : Nat) : Bool :=
  match t with
  | 5 => d.mounted && d.lifeDue && ! d.journal.queue.any (fun r => r.1 == 1)
  | 6 => d.mounted && ! d.journal.queue.isEmpty
  | 7 => d.mounted && (d.get Reg.JR_STAT_ERASED < 2 || ! d.journal.torn.isEmpty)
  | 8 => ! d.calWaits.isEmpty
  | _ => false

/-- The firmware's background tasks exist: after BOOT, outside SAFE_STOP. -/
def Dev.bgLives (d : Dev) : Bool :=
  [DevSt.nominal, DevSt.baseline, DevSt.standby, DevSt.safeFinish].contains d.devState

/-- Tasks fall due: the periodic ones when their period has passed since the last time, the others when there is work. -/
def Dev.bgTick (d : Dev) : Dev :=
  if ! d.bgLives then d
  else
    let d1 := [1, 2, 3, 4].foldl (fun d t =>
      if d.bgPeriod t ≠ 0 ∧ max (d.bg.last.getD t 0) d.resetAt + d.bgPeriod t ≤ d.now then
        let d' := { d with bg := { d.bg with last := lmod d.bg.last t (fun _ => d.now) } }
        if t = 4 then { (d'.bgFall t) with hold := { d'.hold with due := true } } else d'.bgFall t
      else d) d
    [5, 6, 7, 8].foldl (fun d t => if d.bgWants t then d.bgFall t else d) d1

/-- What passes with one tick of the always-on counter when no command waits (log entry 5). -/
def Dev.idle (d : Dev) : Dev := d.tick.bgTick

/-- BG_LATE (R934): a task with a deadline has not started DEADLINE after it fell due; told once. -/
def execBgLate (t : Fin 9) : State → Out := onDev (fun d =>
  match d.bg.due.find? (fun x => x.1 == t.val) with
  | none => d
  | some x =>
    when (bgDeadline t != 0 && ! x.2.2 && decide (x.2.1 + bgDeadline t ≤ d.now)) (fun d =>
      let late := min 65535 ((d.now - x.2.1) / 10000)
      let d1 := ((d.raise 0x3D 8 St.bgLate 0 (t.val + late * 65536)).fireRaw 0x3D 2).addSat Reg.BG_LATE_COUNT 1
      let d2 := d1.set Reg.BG_LATE_TASK t.val
      { d2 with bg := { d2.bg with due := d2.bg.due.map (fun y => if y.1 = t.val then (y.1, y.2.1, true) else y) } }) d)

/-! ### Calibrations (Table 23-2) -/

/-- The laser engine is READY with no token and no sheet HELD. -/
def Dev.laserFree (d : Dev) : Bool :=
  d.laserState == LasSt.ready && ! d.sheets.any (fun s => s.state != .queued && ! s.state.final)

/-- The thermal engine is IDLE with no receipt. -/
def Dev.thermalFree (d : Dev) : Bool := d.thermalState == ThmSt.idle && d.rcpt.isNone

/-- The engine a calibration needs is idle. CAL 3 also joins a measurement that runs (R942). -/
def Dev.calIdle (d : Dev) (cal : Nat) : Bool :=
  match cal with
  | 2 => d.thermalFree
  | 3 => d.get Reg.HL_STAT_STATE == 2 || ({ d with hold := { d.hold with due := true } }).measReady
  | _ => d.laserFree

/-- The facet table's record. -/
def Dev.facetBody (d : Dev) : List Byte :=
  (List.range 6).flatMap (fun k => leBytes 4 (d.reg (Reg.FT_A k))) ++ (List.range 6).flatMap (fun k => leBytes 4 (d.reg (Reg.FT_B k))) ++
  leBytes 4 (d.get Reg.FT_STAT_VALID + 2 * d.get Reg.FT_STAT_LEN_VALID)

/-- Zero the facet table, VALID, LEN_VALID and REVS (FT_CTL RELEARN). -/
def Dev.facetRelearn (d : Dev) : Dev :=
  let d1 := (List.range 6).foldl (fun d k => (d.setReg (Reg.FT_A k) 0).setReg (Reg.FT_B k) 0) d
  (((d1.set Reg.FT_STAT_VALID 0).set Reg.FT_STAT_LEN_VALID 0).set Reg.FT_STAT_REVS 0).modScan (fun s => { s with lenRevs := 0 })

/-- The firmware starts an element sweep (R676, R679): PCH7 goes off and LINE runs MEASURE; a new sweep begins at element 0, one in
progress goes on from P8 unless it is restarted (R943). -/
def Dev.sweepStart (d : Dev) (restart : Bool) : Dev :=
  let d1 := if restart || d.flag Reg.HD_MEAS_SWEEP_DONE then
      (((d.setReg (Reg.SEQ_P 1 8) 0).set Reg.HD_MEAS_SWEEP_DONE 0).set Reg.HD_MEAS_DONE_ELEMS 0).modHead (fun h => { h with elems := [] })
    else d
  (d1.chOff 7 true).lineEntry 4

/-- A calibration starts; it holds its scheduler until its response is placed (R944). -/
def Dev.calStart (d : Dev) (cal k : Nat) : Dev :=
  let d0 := { d with bg := { d.bg with cal := some (cal, k), calAt := d.now } }
  let d1 := (d0.set Reg.BG_CAL_CAL cal).set Reg.BG_CAL_RUNNING 1
  match cal with
  | 1 => (d1.set Reg.BG_STAT_HOLD_L 1).facetRelearn.seqGo 0 5
  | 2 => (d1.set Reg.BG_STAT_HOLD_T 1).sweepStart true
  | 3 => if d1.get Reg.HL_STAT_STATE = 2 then d1 else { d1 with hold := { d1.hold with due := true, result := 0 } }
  | _ => (d1.set Reg.BG_STAT_HOLD_L 1).apcOff.seqGo 0 4

/-- A calibration ends: RESULT and VALUE, the source, and the response (R941, R944). -/
def Dev.calEnd (d : Dev) (cal k : Nat) (pass : Bool) (value : Nat) : Dev :=
  let d1 := (((d.setb Reg.BG_CAL_RESULT (! pass)).set Reg.BG_CAL_RUNNING 0).setReg Reg.BG_CAL_VALUE value).fireT 0x3D 1 k 0
  let d2 := ({ d1 with bg := { d1.bg with cal := none } }).finish k 0x0401 St.ok
    (leBytes 1 cal ++ leBytes 1 (b2n (! pass)) ++ [0, 0] ++ leBytes 4 value)
  (d2.set Reg.BG_STAT_HOLD_L 0).set Reg.BG_STAT_HOLD_T 0

/-- SCAN goes back to the line loop after entry 4 or 5. -/
def Dev.scanBack (d : Dev) : Dev :=
  if ! (d.seq 0).rom then d else if d.flag Reg.BD_STAT_QUALIFIED then d.seqGo 0 3 else d.seqGo 0 2

/-- The samples of CAL 4 above 10 % of PD_FS: step (1 to 16) and code (of 4096 at PD_FS). -/
def lpcPoints (codes : List Nat) : List (Nat × Nat) :=
  (List.range 16).filterMap (fun i => if 4096 < 10 * codes.getD i 0 then some (i + 1, codes.getD i 0) else none)

/-- The sums of a least-squares fit: n, Σx, Σy, Σx², Σxy. -/
def lpcSums (ps : List (Nat × Nat)) : Int × Int × Int × Int × Int :=
  (ps.length, ps.foldl (fun (a : Int) p => a + p.1) 0, ps.foldl (fun (a : Int) p => a + p.2) 0,
    ps.foldl (fun (a : Int) p => a + p.1 * p.1) 0, ps.foldl (fun (a : Int) p => a + p.1 * p.2) 0)

/-- I_TH in 0.1 mA and SLOPE in µW/mA (R939), to the nearest unit (DEDUCED, log entry 12): the bias of step i is IB_MAX × i / 16, in
0.1 mA, and the power of a code is code × PD_FS / 4096, in 0.01 mW. None where the fit has no positive slope. -/
def Dev.lpcFit (d : Dev) (codes : List Nat) : Option (Int × Int) :=
  let ps := lpcPoints codes
  let (n, sx, sy, sxx, sxy) := lpcSums ps
  let dx := n * sxx - sx * sx
  let dy := n * sxy - sx * sy
  let ib : Int := d.get Reg.LS_BIAS_IB_MAX
  let slope := roundDivI (dy * d.get Reg.LS_FS_PD_FS * 1600) (4096 * dx * ib)
  if ps.length < 4 ∨ dx * ib = 0 ∨ slope ≤ 0 then none
  else some (roundDivI ((sx * dy - sy * dx) * ib) (16 * n * dy), slope)

/-- CAL 4 ends (R939, R940): a passing fit is kept, saved and, with LPC_APPLY, sets IB_START; L1 restarts. A value that does not fit its
16 bits is not stated: a free value. -/
def Dev.lpcDone (d : Dev) (k : Nat) (codes : List Nat) : Dev :=
  let back := fun (d : Dev) => let d' := d.scanBack; if d'.flag Reg.LS_STAT_PERMIT && d'.flag Reg.BD_STAT_QUALIFIED then d'.loopInit 1 else d'
  match d.lpcFit codes with
  | none => (back d).calEnd 4 k false 0
  | some (th, slope) =>
    let fits := decide (0 ≤ th) && decide (th < 65536) && decide (slope < 65536)
    let th' := if decide (0 ≤ th) && decide (th < 65536) then th.toNat else (Config.freeWord d.free).toNat % 65536
    let sl' := if slope < 65536 then slope.toNat else (Config.freeWord d.free).toNat / 65536
    let d0 := if fits then d else d.fresh.2
    let v := th' + sl' * 65536
    let d1 := (d0.setReg Reg.BG_LPC v).queueRec 7 (leBytes 4 v)
    let d2 := if d1.flag Reg.BG_CFG_LPC_APPLY then
        d1.store Reg.LS_BIAS (bitsPut (d1.shadow Reg.LS_BIAS) 16 16 (min (th' + 20) (d1.get Reg.LS_BIAS_IB_MAX)))
      else d1
    (back d2).calEnd 4 k true v

/-- The greatest magnitude of a signed field over the facets. -/
def Dev.facetMax (d : Dev) (f : Nat → Fld) : Nat := (List.range 6).foldl (fun n k => max n (d.geti (f k)).natAbs) 0

/-- CALIBRATE_DONE (R939 to R941, R944, Table 23-2): the running calibration ends when what it waits for has come, or it has failed;
`samples` are the 16 APC samples of CAL 4, as codes. -/
def execCalibrateDone (samples : List Nat) : State → Out := onDev (fun d =>
  match d.bg.cal with
  | none => d
  | some (1, k) =>
    if d.flag Reg.FT_STAT_VALID && (! d.flag Reg.BD_CFG_EOS_EN || d.flag Reg.FT_STAT_LEN_VALID) then
      (d.queueRec 2 d.facetBody).scanBack.calEnd 1 k true (min (d.facetMax Reg.FT_A_INT_ERR) 65535 + min (d.facetMax Reg.FT_B_TRIM) 65535 * 65536)
    else if d.flag Reg.BD_STAT_LOST || d.bg.calAt + 2000000 ≤ d.now then d.scanBack.calEnd 1 k false 0
    else d
  | some (2, k) =>
    if d.get Reg.HD_STAT_CAUSES ≠ 0 then d.calEnd 2 k false 0
    else if d.flag Reg.HD_MEAS_SWEEP_DONE then
      let n := (d.head.defects.filter (·.isSome)).length
      ((d.chEna 7).lineEntry 1).calEnd 2 k true (n + d.get Reg.HD_ENERGY_R_AVG * 65536)
    else d
  | some (3, k) =>
    if d.get Reg.HL_STAT_STATE = 2 then d
    else match d.hold.result with
      | 0 => d
      | 1 => d.calEnd 3 k true (d.reg Reg.HL_C)
      | 2 => d.calEnd 3 k false 1
      | 3 => d.calEnd 3 k false 5
      | _ => d.calEnd 3 k false 0
  | some (_, k) => d.lpcDone k samples)

/-! ### Slices (R931 to R937, R945 to R951) -/

/-- A slice may start for task `t` (R931, R932). -/
def Dev.sliceOk (d : Dev) (t : Nat) : Bool :=
  d.tenants.all (fun x => x.cmdQ.isEmpty && x.state != .resetting) && ! d.flag Reg.PF_STAT_PFW &&
  ([DevSt.nominal, DevSt.baseline, DevSt.standby].contains d.devState || (d.devState == DevSt.safeFinish && (t == 5 || t == 6)))

/-- The engine that a store drives is idle (R937). -/
def Dev.storeIdle (d : Dev) (i : Nat) : Bool :=
  if i = 0 then [LasSt.cold, LasSt.cooling, LasSt.stopped].contains d.laserState || d.laserFree else d.thermalFree

/-- An entry of the facet table differs from the saved copy by more than 2 units, or none is saved. -/
def Dev.facetMoved (d : Dev) (m : Mem) : Bool :=
  match newestRec 2 (d.journalRecs m) with
  | none => true
  | some r =>
    let now := d.facetBody
    (List.range 24).any (fun i => 2 < (sext (leAt now (2 * i) 2) 16 - sext (leAt r.body (2 * i) 2) 16).natAbs)

/-- The first waiting calibration whose engine is idle. -/
def Dev.calReady (d : Dev) : Option (Nat × Nat) :=
  if d.bg.cal.isSome then none else d.calWaits.find? (fun c => d.calIdle c.1)

/-- The conditions of Table 23-1 for a task that is due. Task 4 runs as BANK_MEAS_START. -/
def Dev.taskReady (d : Dev) (m : Mem) (t : Nat) : Bool :=
  match t with
  | 1 => (List.range 2).any (fun i => (d.seq i).rom)
  | 2 => d.flag Reg.FT_STAT_VALID && d.facetMoved m
  | 3 => d.thermalFree && (d.seq 1).rom && d.bg.cal.isNone
  | 5 => d.mounted
  | 6 => d.mounted && ! d.journal.queue.isEmpty
  | 7 => d.mounted && (! d.journal.torn.isEmpty || 2 ≤ (d.openSegs m).length)
  | 8 => d.calReady.isSome || (d.calWaits.any (fun c => (c.1 == 1 || c.1 == 4) && (d.laserState == LasSt.cold || d.laserState == LasSt.cooling)))
  | _ => false

/-- Rebuild store `i` from ROM and the kept records (R937): the sequencer halts, the store is rewritten, its CRC is computed again and INIT
restarts. -/
def Dev.rebuild (d : Dev) (i : Nat) : Dev :=
  let b := d.boot.applied
  let rs := (bodyRecs (b.length / 8 + 1) b).getD []
  let ims : List Image := (imagesOf rs).filterMap (fun x => if x.1 = i then some x.2 else none)
  let d1 := (d.seqHalt i).storeBaseline i
  let d2 := ims.foldl (fun d im => im.words.foldl (fun d w => d.setWord i w.1 w.2) d) d1
  let d3 := (d2.setReg (Reg.CS_CRC i) (d2.storeCrc i)).seqGo i 0
  { d3 with bg := { d3.bg with rebuild := lmod d3.bg.rebuild i (fun _ => false) } }

/-- Task 1: a store marked for rebuild whose engine is idle is rebuilt; else a CRC pass over each loaded store begins. -/
def Dev.storeCheck (d : Dev) : Dev :=
  (List.range 2).foldl (fun d i =>
    if (d.seq i).rom then (d.set (Reg.CS_CRC_CTL_CRC_LAST i) (storeSize i - 1)).set (Reg.CS_CRC_CTL_CRC_GO i) 1 else d) d

/-- Task 6: the oldest queued record is written; when its read-back differs (`rb`) it stays queued for the next slot. -/
def Dev.journalWrite (d : Dev) (m : Mem) (rb : Bool) : Dev × Mem :=
  match d.journal.queue with
  | [] => (d, m)
  | (t, b) :: rest =>
    let (d1, m1, ok) := d.writeRec m t b rb
    (if ok then { d1 with journal := { d1.journal with queue := rest } } else d1, m1)

/-- Task 7 (R950, R951): a TORN segment is erased; else the live records of the OPEN segment with the lowest SEG_SEQ are copied to the head
and it is erased, when every copy is committed. `er` is an erase that leaves a byte not 0xFF. -/
def Dev.compact (d : Dev) (m : Mem) (er : Bool) : Dev × Mem :=
  match d.journal.torn with
  | i :: rest =>
    let d1 := ({ d with journal := { d.journal with torn := rest } }).journalFault 2 i
    let (d2, m2) := d1.eraseSeg m i er
    (d2.journalCounts m2, m2)
  | [] =>
    match d.tailSeg m with
    | none => (d, m)
    | some (i, _) =>
      let (d1, m1, ok) := (d.liveRecs m i).foldl (fun x r =>
        if x.2.2 then
          let y := x.1.writeRec x.2.1 r.typ r.body false
          if r.unacked then y
          else
            let a := 0x70000000 + y.1.get Reg.NOR_JOURNAL_BASE * 65536 + y.1.get Reg.JR_HEAD_OFFSET - recSpan r.body.length
            (y.1, y.2.1.program (a + 12) [0], y.2.2)
        else x) (d, m, true)
      if ! ok then (d1, m1)
      else
        let (d2, m2) := d1.eraseSeg m1 i er
        (d2.journalCounts m2, m2)

/-- What a slice of task `t` does. -/
def Dev.runTask (d : Dev) (m : Mem) (t : Nat) (rb er : Bool) : Dev × Mem :=
  match t with
  | 1 => (d.storeCheck, m)
  | 2 => (d.queueRec 2 d.facetBody, m)
  | 3 => (d.sweepStart false, m)
  | 5 => (d.queueRec 1 d.lifeBody, m)
  | 6 => d.journalWrite m rb
  | 7 => d.compact m er
  | 8 => (match d.calReady with
    | some (cal, k) => d.calStart cal k
    | none => d.setLas LasSt.warming, m)
  | _ => (d, m)

/-- A task that has run is due no longer, unless it has more to do. -/
def Dev.taskDone (d : Dev) (t : Nat) : Dev :=
  if d.bgWants t then d else { d with bg := { d.bg with due := d.bg.due.filter (fun x => x.1 != t) } }

/-- TASK_SLICE (R931 to R937): of the tasks that are due and whose conditions hold, the one with the lowest number runs a slice; a store
marked for rebuild comes first. `rb`: a record's read-back differs (R946). `er`: an erase leaves a byte not 0xFF. -/
def execTaskSlice (rb er : Bool) : State → Out := onAll (fun d m =>
  let d0 := (d.boundary 0x3D).bgTick
  match (List.range 2).find? (fun i => d0.bg.rebuild.getD i false && d0.storeIdle i && d0.sliceOk 1) with
  | some i => (d0.rebuild i, m)
  | none =>
    match [1, 2, 3, 5, 6, 7, 8].find? (fun t => d0.bg.due.any (fun x => x.1 == t) && d0.sliceOk t && d0.taskReady m t) with
    | none => (d0, m)
    | some t =>
      let (d1, m1) := d0.runTask m t rb er
      (d1.taskDone t, m1))

/-! ### Life counters -/

/-- LIFE_SECONDS (R955, Table 23-6): one second of each condition that holds. -/
def execLifeSeconds : State → Out := onDev (fun d =>
  let add := fun (p : Bool) (i : Nat) (d : Dev) => if p then d.lifeAdd i 1 else d
  add (d.flag Reg.LS_STAT_PERMIT) 11 (add (d.get (Reg.LP_STAT_STATE 0) == 1) 8 (add (d.blState 1 == 5) 7 (add (d.blState 0 == 5) 6
    (add (d.devState != DevSt.off) 0 d)))))

/-- FLUSH (R956): a write of JR_CFG with FLUSH queues a LIFE record at once; the bit clears when it is committed. -/
def execFlush (l : Land) : State → Out := onDev (fun d =>
  d.land l (fun a v => a == Reg.JR_CFG && bit v.toNat 16) (fun _ a v d =>
    let d1 := d.store a v.toNat
    if d1.mounted then d1.queueRec 1 d1.lifeBody else d1))

end Sys2Proof.Machine
end

