-- ==== Sys2Proof/Machine/View.lean ====
section
/-! DEFINITION. Reading registers (spec/05_registers_events.md R215 to R220, R242, spec/02_tenants.md R103 to R107): the word a register
shows, which for many RO fields follows from the block's state, the images of FREEZE and of the book snapshots, and what a
granted read does (R14). -/

set_option linter.unusedVariables false

namespace Sys2Proof.Machine

/-- A word with fields replaced. -/
def overlay (base : Nat) (fs : List (Fld × Nat)) : Nat := fs.foldl (fun n x => bitsPut n x.1.lo x.1.w x.2) base

/-- A mask of the indices below `n` that satisfy `p`. -/
def maskOf (n : Nat) (p : Nat → Bool) : Nat := (List.range n).foldl (fun m i => if p i then m + 2 ^ i else m) 0

/-! ### Whether a block is mid-operation (BUSY of PG_STAT) -/

/-- BUSY of page `p` (Table 5-6, "mid-operation"): the pages whose boundary of Table 5-2 is the end of an operation show that operation; no
chapter defines BUSY further, and it reads 0 elsewhere (DEDUCED, log entry 21). -/
def Dev.pageBusy (d : Dev) (p : Nat) : Bool :=
  if p = 0x0C then ! d.allNominal
  else if p = 0x0E ∨ p = 0x0F then d.pw.phase != 0
  else if p = 0x11 then d.get Reg.HL_STAT_STATE == 2
  else if p = 0x18 ∨ p = 0x19 then d.norBusy != 0
  else if p = 0x1A ∨ p = 0x1B then d.dma.any (fun c => c.active.isSome)
  else if p = 0x14 then d.dma.any (fun c => (c.active.map (fun a => a.snap.isSome)).getD false)
  else if p = 0x1C then d.codec.suspended || ! d.codec.q0.isEmpty || ! d.codec.q1.isEmpty || ! d.codec.q2.isEmpty
  else if p = 0x1D ∨ p = 0x1E then d.sheets.any (fun s => s.state == .imaging)
  else if p = 0x1F ∨ p = 0x21 then d.blState 0 == 5
  else if p = 0x22 ∨ p = 0x24 then d.head.job != .none
  else if 0x25 ≤ p ∧ p ≤ 0x27 then d.blState (p - 0x25) != 0
  else if 0x28 ≤ p ∧ p ≤ 0x2B then (d.ax (p - 0x28)).cur.isSome
  else if p = 0x2C then d.axes.any (fun x => x.cur.isSome)
  else if p = 0x2D then (List.range 8).any (fun n => d.get (Reg.LP_STAT_STATE n) == 1)
  else if p = 0x2F then d.get (Reg.LP_STAT_STATE 0) == 1
  else if p = 0x30 then [2, 3, 4].any (fun n => d.get (Reg.LP_STAT_STATE n) == 1)
  else if p = 0x31 then d.get (Reg.LP_STAT_STATE 1) == 1
  else if p = 0x33 ∨ p = 0x34 then d.get (Reg.AD_STAT_ROUND (p - 0x33)) != 0
  else if p = 0x35 then d.get Reg.USB_STAT_SPEED != 0
  else if p = 0x37 ∨ p = 0x38 then ! (d.chan (9 + (p - 0x37))).rx.isEmpty
  else if p = 0x39 then d.ports.canRx.any id || d.ports.canTx.any (· != 0)
  else if p = 0x3A ∨ p = 0x3B then d.flag (Reg.I2C_STAT_BUSY (p - 0x3A))
  else false

/-! ### What the RO fields show -/

/-- The common header (Table 5-6, R248, R253, R1009, R1010). READY has no definition in any chapter and keeps its reset value. -/
def Dev.liveHdr (d : Dev) (p a : Nat) : Nat :=
  if a = Reg.PG_ID p then 1 + (p - blockFirst p) * 256 + (0xE500 + blockFirst p) * 65536
  else if a = Reg.PG_CAP p then nsrc p + b2n (! noBoundary p) * 256
  else if a = Reg.PG_STAT p then
    overlay (d.reg a) [(Reg.PG_STAT_BUSY p, b2n (d.pageBusy p)), (Reg.PG_STAT_FAULT p, b2n (d.flag (Reg.FAULT_CODE_CODE p)))]
  else if a = Reg.EVT_PEND p then d.pend p
  else d.reg a

/-- Units of a state on the books. -/
def Dev.books (d : Dev) : List (Fld × Nat) :=
  [(Reg.GAL_BOOK0_FREE, d.unitCount .free), (Reg.GAL_BOOK0_FILLING, d.unitCount .filling),
   (Reg.GAL_BOOK0_READY, d.unitCount .ready), (Reg.GAL_BOOK0_SCANNING, d.unitCount .scanning)]

/-- Page TEN (Table 2-5). -/
def Dev.liveTen (d : Dev) (a : Nat) : Nat :=
  let st := fun (s : TState) => maskOf 8 (fun k => (d.ten k).state = s)
  if a = Reg.BOOK_SNAP then overlay (d.reg a) [(Reg.BOOK_SNAP_HELD, b2n d.globalSnap.isSome)]
  else if a = Reg.TEN_RESET then overlay (d.reg a) [(Reg.TEN_RESET_RST, d.get Reg.TEN_RESET_RST)]
  else if a = Reg.TEN_STAT then
    overlay 0 [(Reg.TEN_STAT_FAULTED, st .faulted), (Reg.TEN_STAT_OPEN, st .opened), (Reg.TEN_STAT_RESETTING, st .resetting)]
  else if a = Reg.GAL_BOOK0 then overlay 0 d.books
  else if a = Reg.GAL_BOOK1 then d.unitCount .releasing
  else d.reg a

/-- The code of TQ_STAT.STATE. -/
def TState.code : TState → Nat
  | .closed => 0
  | .opened => 1
  | .faulted => 2
  | .resetting => 3

/-- Credits free and outstanding of tenant `k`. -/
def Dev.credFree (d : Dev) (k : Nat) : Nat := (d.ten k).limit - (d.ten k).credOut

/-- Writes of tenant `k` that are posted or wait in the SPI buffer, and not complete. -/
def Dev.outstanding (d : Dev) (k : Nat) : List Nat :=
  (d.br k).queue.map (·.addr) ++ (if (d.chan 8).bind = some k then d.ports.wbuf.map (·.1) else [])

/-- WRITE_FENCE of tenant `k` (R232). -/
def Dev.fenceWord (d : Dev) (k : Nat) : Nat := (d.br k).done % 65536 + min 65535 (d.br k).err * 65536

/-- The HELD sheet of tenant `k`. -/
def Dev.heldOf (d : Dev) (k : Nat) : Option Sheet := d.sheets.find? (fun s => s.tenant == k && s.state == .held)

/-- Page TQk (Tables 2-6 and 5-8). -/
def Dev.liveTq (d : Dev) (k a : Nat) : Nat :=
  let t := d.ten k
  let le := (d.br k).late.headD ⟨0, 0, 0, 0⟩
  if a = Reg.TQ_STAT k then overlay 0 [(Reg.TQ_STAT_STATE k, t.state.code), (Reg.TQ_STAT_CRED_FREE k, d.credFree k),
    (Reg.TQ_STAT_CRED_OUT k, t.credOut), (Reg.TQ_STAT_RESP_FILL k, t.respQ.length)]
  else if a = Reg.TQ_EPOCH k then t.epoch
  else if a = Reg.TQ_JOBS k then overlay 0 [(Reg.TQ_JOBS_JOBS_USED k, t.jobs.length),
    (Reg.TQ_JOBS_SHEETS_QUEUED k, (d.sheets.filter (fun s => s.tenant == k && s.placed && s.state == .queued)).length),
    (Reg.TQ_JOBS_RCPT_QUEUED k, (t.jobs.filter (·.waiting)).length)]
  else if a = Reg.TQ_GAL k then overlay 0 [(Reg.TQ_GAL_HELD k, d.held k), (Reg.TQ_GAL_GUAR k, d.guar k),
    (Reg.TQ_GAL_USABLE k, ((d.heldOf k).map d.usable).getD 0)]
  else if a = Reg.TQ_SPOOL k then ceilDiv (d.spoolUsed k) 1024
  else if a = Reg.TQ_ORPH k then overlay (d.reg a) [(Reg.TQ_ORPH_ORPH_CNT k, t.orphans.length)]
  else if a = Reg.TQ_SNAP k then overlay (d.reg a) [(Reg.TQ_SNAP_HELD k, b2n (d.tqSnaps.getD k none).isSome)]
  else if a = Reg.WRITE_FENCE k then d.fenceWord k
  else if a = Reg.LE_STAT k then overlay (d.reg a) [(Reg.LE_STAT_COUNT k, (d.br k).late.length)]
  else if a = Reg.LE_ADDR k then le.addr
  else if a = Reg.LE_INFO k then le.tag % 65536 + le.reason * 65536
  else if a = Reg.LE_DATA k then le.data.toNat
  else d.reg a

/-- The record EVT_RD_SEQ names, where the ring holds it, `who` sees it and it is readable. -/
def Dev.rdRecord (d : Dev) (who : Agent) : Option RingRec :=
  d.spine.ring.find? (fun r => r.seq == d.reg Reg.EVT_RD_SEQ && ! r.bad &&
    match who with
    | .tenant k => r.ev.visible k
    | .fw => true)

/-- Whether the record with sequence number `s` has been overwritten (R264). -/
def Dev.seqGone (d : Dev) (s : Nat) : Bool :=
  let age := (d.reg Reg.EVT_LAST + 2 ^ 32 - s) % 2 ^ 32
  s != 0 && 1024 ≤ d.spine.ring.length && 1024 ≤ age && age < 2 ^ 31

/-- IRQn_N is asserted (R267). -/
def Dev.irq (d : Dev) (route : Nat) : Bool :=
  (List.range 8).any (fun k => bit (d.reg route) k && d.pend (2 + k) != 0) || (bit (d.reg route) 8 && d.pend 0x0A != 0)

/-- Page EVT (Table 5-7). -/
def Dev.liveEvt (d : Dev) (who : Agent) (a : Nat) : Nat :=
  if a = Reg.EVT_TIME then d.now % 2 ^ 32
  else if a = Reg.IRQ_STAT then b2n (d.irq Reg.IRQ_ROUTE0) + 2 * b2n (d.irq Reg.IRQ_ROUTE1)
  else if a = Reg.EVT_RD_STAT then b2n (d.rdRecord who).isSome + 2 * b2n (d.seqGone (d.reg Reg.EVT_RD_SEQ))
  else if Reg.EVT_RD 0 ≤ a ∧ a ≤ Reg.EVT_RD 3 then
    match d.rdRecord who with
    | some r => leAt r.bytes (a - Reg.EVT_RD 0) 4
    | none => 0
  else d.reg a

/-- Page BRIDGE (Table 5-10). -/
def Dev.liveBridge (d : Dev) (a : Nat) : Nat :=
  let fill := fun (k : Nat) => (List.range 4).foldl (fun n j => n + (d.br (k + j)).queue.length * 2 ^ (8 * j)) 0
  if a = Reg.BR_FILL0 then fill 0 else if a = Reg.BR_FILL1 then fill 4 else d.reg a

/-- The state code of DMA channel `c` (Table 6-13). -/
def Dev.dmaState (d : Dev) (c : Nat) : Nat :=
  let ch := d.dch c
  match ch.active with
  | some a =>
    if ch.stop.isSome then 5 else if ch.barWait then 3
    else if a.path = 1 ∧ a.done < a.count ∧ (d.chan (a.w 1 % 16)).dmaIn.isEmpty then 4 else 2
  | none =>
    if ! d.dmaEn c then 6 else if ch.queued = 0 then 0 else 1

/-- Pages DMA0 and DMA1, channel `c` (spec/06). -/
def Dev.liveDma (d : Dev) (c a : Nat) : Nat :=
  let ch := d.dch c
  let le := ch.late.headD (0, 0, 0)
  if a = Reg.DCH_STAT c then overlay 0 [(Reg.DCH_STAT_STATE c, d.dmaState c), (Reg.DCH_STAT_QUEUED c, ch.queued),
    (Reg.DCH_STAT_ACTIVE c, b2n ch.active.isSome), (Reg.DCH_STAT_OWNER c, d.dmaOwner.getD c 0xF)]
  else if a = Reg.DCH_LE_STAT c then overlay (d.reg a) [(Reg.DCH_LE_STAT_COUNT c, ch.late.length)]
  else if a = Reg.DCH_LE_ADDR c then le.1
  else if a = Reg.DCH_LE_INFO c then le.2.1 % 65536 + le.2.2 * 65536
  else d.reg a

/-- Pages CODEC, GALLEY and IMPO (spec/07, spec/08). -/
def Dev.liveGalley (d : Dev) (m : Mem) (a : Nat) : Nat :=
  let u := d.unit (d.get Reg.GAL_SEL_UNIT)
  if a = Reg.CODEC_STAT then overlay 0 [(Reg.CODEC_STAT_DEC_BUSY, b2n (! d.codec.q0.isEmpty || ! d.codec.q1.isEmpty)),
    (Reg.CODEC_STAT_SUSPENDED, b2n d.codec.suspended), (Reg.CODEC_STAT_ENC_BUSY, b2n (! d.codec.q2.isEmpty)),
    (Reg.CODEC_STAT_Q0_DEPTH, min 15 d.codec.q0.length), (Reg.CODEC_STAT_Q1_DEPTH, min 15 d.codec.q1.length),
    (Reg.CODEC_STAT_Q2_DEPTH, min 15 d.codec.q2.length)]
  else if a = Reg.GAL_UNIT0 then overlay 0 [(Reg.GAL_UNIT0_STATE, match u.state with
      | .free => 0
      | .filling => 1
      | .ready => 2
      | .scanning => 3
      | .releasing => 4),
    (Reg.GAL_UNIT0_TENANT, u.tenant), (Reg.GAL_UNIT0_KIND, u.kind), (Reg.GAL_UNIT0_LAYER, u.layer), (Reg.GAL_UNIT0_TOKEN, u.token)]
  else if a = Reg.GAL_UNIT1 then u.band % 65536 + u.job * 65536
  else if a = Reg.GAL_WAIT then overlay 0 [(Reg.GAL_WAIT_UNITS, min 127 (d.galReqs.foldl (fun n r => n + d.reqUnits r) 0)),
    (Reg.GAL_WAIT_GRANTS, min 255 d.galReqs.length)]
  else if a = Reg.GAL_TH then
    match d.rcptJob with
    | some j =>
      let n := d.readyFrom m j d.head.next
      overlay 0 [(Reg.GAL_TH_FILL, d.fillPct j n), (Reg.GAL_TH_AHEAD, n)]
    | none => 0
  else if a = Reg.IMPO_STAT then
    match d.scan.armed.head? with
    | some x =>
      match d.armedSheet x, x.line with
      | some s, some l =>
        let l := l.toNat
        let b := l / bandLines s.bandH
        overlay 0 [(Reg.IMPO_STAT_BAND, b), (Reg.IMPO_STAT_TOKEN, x.token), (Reg.IMPO_STAT_LEAD,
          if d.units.any (fun u => u.holds s 1 0 b) then min 255 (s.linesOf b - l % bandLines s.bandH - 1) else 0)]
      | _, _ => 0
    | none => 0
  else d.reg a

/-- SHEET_LINE and VID_STAT (spec/10). -/
def Dev.liveScan (d : Dev) (a : Nat) : Nat :=
  let old := d.scan.armed.head?
  if a = Reg.SHEET_LINE then overlay 0 [
    (Reg.SHEET_LINE_LINE_NO, match old with
      | some x => match x.line with
        | some l => unsext l 16
        | none => unsext (-(x.lead : Int)) 16
      | none => 0x8000),
    (Reg.SHEET_LINE_TOKEN, (old.map (·.token)).getD 0), (Reg.SHEET_LINE_IMG, b2n ((old.map (·.img)).getD false)),
    (Reg.SHEET_LINE_GATED, b2n ((old.map (·.gated)).getD false)), (Reg.SHEET_LINE_ARMED, d.scan.armed.length)]
  else if a = Reg.VID_STAT then overlay (d.reg a) [(Reg.VID_STAT_GATED, b2n ((old.map (·.gated)).getD false))]
  else d.reg a

/-- The window of a slot that closes next. -/
def nextWin : List (Nat × Nat × Nat) → Option (Nat × Nat × Nat)
  | [] => none
  | w :: ws => match nextWin ws with
    | some v => if v.2.2 < w.2.2 then some v else some w
    | none => some w

/-- Page PATH: the tracker's slots, and the registers of the page contract (Table 12-10, Table 1-10). -/
def Dev.livePath (d : Dev) (a : Nat) : Nat :=
  let held := d.sheets.find? (fun s => s.state == .held)
  if a = Reg.PC_STAT then overlay (d.reg a) [(Reg.PC_STAT_HOLDING, b2n held.isSome), (Reg.PC_STAT_IN_PATH, d.get Reg.TOK_PATH_IN_PATH),
    (Reg.PC_STAT_HOLD_AGE, (held.map (fun s => min 65535 (d.holdAge s / 1000))).getD 0)]
  else if 0x40032200 ≤ a ∧ a < 0x40032240 then
    let s := (a - 0x40032200) / 16
    let t := d.slot s
    let w := nextWin (t.wins.filter (fun w => w.2.2 != 0))
    if a = Reg.TK_A s then overlay 0 [(Reg.TK_A_TOKEN s, t.token), (Reg.TK_A_STATE s, t.state), (Reg.TK_A_TENANT s, t.ten), (Reg.TK_A_GEAR s, t.gear),
      (Reg.TK_A_NEXT_EDGE s, (w.map (·.1)).getD 0)]
    else if a = Reg.TK_TREL s then t.tRel % 2 ^ 32
    else if a = Reg.TK_OPEN s then (w.map (·.2.1)).getD 0 % 2 ^ 32
    else if a = Reg.TK_CLOSE s then (w.map (·.2.2)).getD 0 % 2 ^ 32
    else d.reg a
  else d.reg a

/-- Pages LOOP and LOOPC (spec/13). -/
def Dev.liveLoop (d : Dev) (a : Nat) : Nat :=
  let st := fun (n : Nat) => d.get (Reg.LP_STAT_STATE n)
  if a = Reg.LOOP_TICK then (d.now - d.resetAt) % 2 ^ 32
  else if a = Reg.LOOP_STAT then overlay 0 [(Reg.LOOP_STAT_RUN, maskOf 8 (fun n => st n == 1)),
    (Reg.LOOP_STAT_FAULT, maskOf 8 (fun n => st n == 2)), (Reg.LOOP_STAT_SAT, maskOf 8 (fun n => d.flag (Reg.LP_STAT_SAT n)))]
  else if a = Reg.LC_STAT then overlay (d.reg a) [(Reg.LC_STAT_ACTIVE, maskOf 8 (fun n => d.flag (Reg.LP_STAT_BANK n)))]
  else match (List.range 8).find? (fun n => a == Reg.LP_U n) with
    | some n => unsext (d.loopU n) 32
    | none => d.reg a

/-- Pages FUSER and LASER (spec/14). -/
def Dev.liveProc (d : Dev) (a : Nat) : Nat :=
  let open' := fun (j : Nat) => (d.path.covers.getD j (false, 0)).1
  if a = Reg.FU_STAT then overlay (d.reg a) [(Reg.FU_STAT_HTR_ON, b2n d.heaterOn)]
  else if a = Reg.LS_STAT then overlay (d.reg a) [(Reg.LS_STAT_COV_OPEN, b2n (open' 1) + 2 * b2n (open' 2))]
  else d.reg a

/-- Page HEAD (spec/15). -/
def Dev.liveHead (d : Dev) (a : Nat) : Nat :=
  let w := fun (i : Nat) => d.head.widths.getD i 0 % 65536
  if a = Reg.HD_STAT then overlay (d.reg a) [(Reg.HD_STAT_GATED, b2n d.gated), (Reg.HD_STAT_PLATEN_RUN, b2n ((d.ax 2).vel != 0))]
  else if a = Reg.HD_RATE_STAT then overlay (d.reg a) [(Reg.HD_RATE_STAT_NOW, d.platenRate)]
  else if a = Reg.HD_W01 then w 0 + w 1 * 65536
  else if a = Reg.HD_W23 then w 2 + w 3 * 65536
  else if a = Reg.HD_RES_VAL then ((d.head.res.find? (fun x => x.1 == d.get Reg.HD_RES_SEL_ELEM)).map (·.2)).getD 0
  else if a = Reg.HD_DEF_ENT then
    match d.head.defects.getD (d.get Reg.HD_DEF_SEL_ENTRY) none with
    | some (e, k) => overlay 0 [(Reg.HD_DEF_ENT_ELEM, e), (Reg.HD_DEF_ENT_KIND, k), (Reg.HD_DEF_ENT_VALID, 1)]
    | none => 0
  else if a = Reg.HD_DEF_CNT then (d.head.defects.filter (·.isSome)).length
  else d.reg a

/-- Pages PWR, PSEQ and HOLD (spec/16, spec/17). -/
def Dev.livePower (d : Dev) (a : Nat) : Nat :=
  if a = Reg.PWR_ON then maskOf 16 d.chOn + maskOf 16 (fun n => d.flag (Reg.CH_STAT_PG n)) * 65536
  else if a = Reg.PWR_FORCED then maskOf 16 d.chForced
  else if a = Reg.PSEQ_STAT then overlay (d.reg a) [(Reg.PSEQ_STAT_PEND, d.get Reg.PSEQ_REQ_REQ)]
  else if a = Reg.HL_ESR then overlay (d.reg a) [(Reg.HL_ESR_AGE,
    if d.flag Reg.HL_STAT_C_VALID then min 65535 ((d.now - d.hold.storedAt) / 1000000) else 0)]
  else d.reg a

/-- Pages CLK0 and CLK1 (spec/18). -/
def Dev.liveClk (d : Dev) (a : Nat) : Nat :=
  if a = Reg.CK_OFFNOM0 then maskOf 32 (fun k => (d.dom k).2 != 0)
  else if a = Reg.CK_OFFNOM1 then maskOf 10 (fun k => (d.dom (32 + k)).2 != 0)
  else match (List.range 64).find? (fun k => a == Reg.CK_DOM k) with
    | some k => if 42 ≤ k then 0 else overlay 0 [(Reg.CK_DOM_DIV k, (d.dom k).1), (Reg.CK_DOM_NOM k, nomRatio k),
        (Reg.CK_DOM_ON_IRC k, b2n ((d.dom k).2 == 2 || (d.dom k).2 == 3 || (d.dom k).2 == 4))]
    | none => d.reg a

/-- Pages CRYPT, KEYS, TRNG and OTP (spec/19, spec/20). -/
def Dev.liveKeys (d : Dev) (a : Nat) : Nat :=
  if a = Reg.OTP_RD_DATA then d.otpShown (d.get Reg.OTP_RD_ADDR_ADDR)
  else if a = Reg.CR_STAT then
    let busy := (List.range 16).any (fun s => ! (d.snapHolders s).isEmpty)
    overlay 0 [(Reg.CR_STAT_AES_BUSY, b2n busy), (Reg.CR_STAT_AES_OP, b2n busy)]
  else if a = Reg.KS_TYPE then (List.range 16).foldl (fun n s => n + (if s = 0 then 3 else (d.key s).typ % 4) * 4 ^ s) 0
  else if a = Reg.KS_USE then maskOf 16 (fun s => ! (d.snapHolders s).isEmpty)
  else if a = Reg.TR_STAT then overlay (d.reg a) [(Reg.TR_STAT_QUEUED, d.trng.queue.length), (Reg.TR_STAT_FAILS, min 3 d.trngRecent.length)]
  else d.reg a

/-- The index LF_SEL shows, none above 23. -/
def Dev.lfIndex (d : Dev) : Option Nat := let i := d.get Reg.LF_SEL_INDEX; if i < 24 then some i else none

/-- A word of a list of life values; 0 where no counter is shown. -/
def Dev.lfWord (d : Dev) (l : List Nat) (hi : Bool) : Nat :=
  match d.lfIndex with
  | some i => if hi then l.getD i 0 / 2 ^ 32 % 2 ^ 32 else l.getD i 0 % 2 ^ 32
  | none => 0

/-- Pages BG and LIFE (spec/23). LF_HI holds what a read of LF_LO latched. -/
def Dev.liveBg (d : Dev) (a : Nat) : Nat :=
  if a = Reg.BG_STAT then overlay (d.reg a) [(Reg.BG_STAT_PENDING, maskOf 8 (fun t => d.bg.due.any (fun x => x.1 == t + 1)))]
  else if a = Reg.LF_LO then d.lfWord d.life.value false
  else if a = Reg.LF_BOUND then d.lfWord d.life.bound false
  else if a = Reg.LF_STAT then overlay (d.reg a) [(Reg.LF_STAT_WAITING, maskOf 24 (fun i => d.life.pend.getD i 0 != 0))]
  else d.reg a

/-- Response bytes that wait for STREAM_READ. -/
def Dev.spiAvail (d : Dev) : Nat := (d.chan 8).out.foldl (fun n x => n + x.2.length) 0

/-- The port pages (spec/03). The parser takes bytes as they arrive, so the input buffers are empty between commands (log entry 7). -/
def Dev.livePorts (d : Dev) (a : Nat) : Nat :=
  if a = Reg.USB_ID then (let w := d.intWord 385; if w = 0 then d.otpWord 88 else w)
  else if a = Reg.USB_DMA then maskOf 8 (fun c => (d.chan c).dmaLeft != 0)
  else if a = Reg.SPIT_STAT then 2048 + (8 - d.ports.wbuf.length) * 65536
  else if a = Reg.SPIT_RESP then min 65535 d.spiAvail
  else d.reg a

/-- The word register `a` of page `p` shows to `who`, before access codes, images and snapshots. -/
def Dev.live (d : Dev) (m : Mem) (who : Agent) (p a : Nat) : Nat :=
  if a % 0x1000 < 0x40 then d.liveHdr p a
  else match p with
  | 0x00 => if a = Reg.SYS_FEATURE then d.reg Reg.BT_FEATURE else d.reg a
  | 0x01 => d.liveTen a
  | 0x0A => d.liveEvt who a
  | 0x0B => d.liveBridge a
  | 0x0C | 0x0D => d.liveClk a
  | 0x0E | 0x0F | 0x11 => d.livePower a
  | 0x12 | 0x14 | 0x15 | 0x16 => d.liveKeys a
  | 0x1A | 0x1B => d.liveDma ((p - 0x1A) * 8 + (a % 0x1000 - 0x100) / 0x40) a
  | 0x1C | 0x1D | 0x1E => d.liveGalley m a
  | 0x1F | 0x21 => d.liveScan a
  | 0x20 => if who != .fw && (a = Reg.CS_DATA0 0 || a = Reg.CS_DATA1 0 || a = Reg.CS_DATA2 0) then 0 else d.reg a
  | 0x23 => if who != .fw && (a = Reg.CS_DATA0 1 || a = Reg.CS_DATA1 1 || a = Reg.CS_DATA2 1) then 0 else d.reg a
  | 0x24 => d.liveHead a
  | 0x2D | 0x2E => d.liveLoop a
  | 0x2F | 0x31 => d.liveProc a
  | 0x32 => d.livePath a
  | 0x35 | 0x36 => d.livePorts a
  | 0x3C => if a = Reg.PM_IN then d.pmIn else d.reg a
  | 0x3D | 0x3E => d.liveBg a
  | _ => if 2 ≤ p ∧ p ≤ 9 then d.liveTq (p - 2) a else d.reg a

/-! ### Snapshots of the books (R103 to R108) -/

/-- The book fields of a register (Table 2-4), as a mask. -/
def bookMask (p a : Nat) : Nat :=
  if p = 1 then
    if a = Reg.GAL_BOOK0 ∨ a = Reg.GAL_BOOK1 ∨ a = Reg.TOK_ISSUED ∨ a = Reg.TOK_PATH ∨ a = Reg.TOK_EXITED ∨ a = Reg.TOK_CLEARED then
      0xFFFFFFFF else 0
  else if 2 ≤ p ∧ p ≤ 9 then if a = Reg.TQ_STAT (p - 2) then 0x001F1F00 else if a = Reg.TQ_GAL (p - 2) then 0x7F else 0
  else if p = 0x1A ∨ p = 0x1B then
    let c := (p - 0x1A) * 8 + (a % 0x1000 - 0x100) / 0x40
    if a = Reg.DCH_STAT c then 0x3F0 else if a = Reg.DCH_POSTED c ∨ a = Reg.DCH_RETIRED c then 0xFFFFFFFF else 0
  else if a = Reg.LF_LO ∨ a = Reg.LF_BOUND then 0xFFFFFFFF else 0

/-- The book registers of pages TEN, TQ0 to TQ7 and DMA0 to DMA1. -/
def bookRegs : List Nat :=
  [Reg.GAL_BOOK0, Reg.GAL_BOOK1, Reg.TOK_ISSUED, Reg.TOK_PATH, Reg.TOK_EXITED, Reg.TOK_CLEARED] ++
  (List.range 8).flatMap (fun k => [Reg.TQ_STAT k, Reg.TQ_GAL k]) ++
  (List.range 16).flatMap (fun c => [Reg.DCH_STAT c, Reg.DCH_POSTED c, Reg.DCH_RETIRED c])

/-- The key under which a snapshot holds word `j` (0 low, 1 high, 2 bound) of life counter `i`. -/
def lifeKey (i j : Nat) : Nat := 2 ^ 32 + 4 * i + j

/-- The book registers as they stand, for the registers of `as'`. -/
def Dev.takeBooks (d : Dev) (m : Mem) (as' : List Nat) : List (Nat × Word) :=
  as'.map (fun (a : Nat) => (a, BitVec.ofNat 32 (d.live m .fw ((a - 0x40000000) / 0x1000) a)))

/-- The life counters as they stand. -/
def Dev.takeLife (d : Dev) : List (Nat × Word) :=
  (List.range 24).flatMap (fun i => [(lifeKey i 0, BitVec.ofNat 32 (d.life.value.getD i 0)),
    (lifeKey i 1, BitVec.ofNat 32 (d.life.value.getD i 0 / 2 ^ 32)), (lifeKey i 2, BitVec.ofNat 32 (d.life.bound.getD i 0))])

/-- A word held in a list. -/
def held? (l : List (Nat × Word)) (a : Nat) : Option Nat := (l.find? (fun x => x.1 == a)).map (fun x => x.2.toNat)

/-- The word of life counter `i` in the global snapshot, where one is held. -/
def Dev.lifeSnap (d : Dev) (j : Nat) : Option Nat :=
  match d.globalSnap, d.lfIndex with
  | some g, some i => held? g.2 (lifeKey i j)
  | _, _ => none

/-- The snapshot that a read of register `a` of page `p` meets: the page's own first (R107). -/
def Dev.snapOf (d : Dev) (p a : Nat) : Option Nat :=
  if a = Reg.LF_LO then d.lifeSnap 0
  else if a = Reg.LF_BOUND then d.lifeSnap 2
  else
    let own := if 2 ≤ p ∧ p ≤ 9 then d.tqSnaps.getD (p - 2) none else none
    match own with
    | some s => held? s.2 a
    | none => d.globalSnap.bind (fun g => held? g.2 a)

/-- The word a register shows with its book fields from the snapshot in force. -/
def Dev.booked (d : Dev) (m : Mem) (who : Agent) (p a : Nat) : Nat :=
  let v := d.live m who p a
  match d.snapOf p a with
  | some s => merge v s (bookMask p a)
  | none => v

/-! ### Reads -/

/-- Registers whose word depends on who reads. -/
def readerRegs (p : Nat) : List Nat :=
  if p = 0x0A then [Reg.EVT_RD_STAT, Reg.EVT_RD 0, Reg.EVT_RD 1, Reg.EVT_RD 2, Reg.EVT_RD 3] else []

/-- The key of a register in a FREEZE image: registers whose word depends on the reader stand there once for each. -/
def imageKey (who : Agent) (p a : Nat) : Nat :=
  if (readerRegs p).contains a then
    match who with
    | .tenant k => a + (k + 1) * 2 ^ 32
    | .fw => a
  else a

/-- The registers of a page: those of its rows, the header first. -/
def pageRegs (p : Nat) : List Nat :=
  (rows_HDR ++ pageRows p).flatMap (fun r =>
    if r.stride = 0 then [pageBase p + r.off] else (List.range r.count).map (fun i => pageBase p + r.off + r.stride * i))

/-- The RO and RC fields of a page as they stand (R242). -/
def Dev.image (d : Dev) (m : Mem) (p : Nat) : List (Nat × Word) :=
  (pageRegs p).flatMap (fun a =>
    if accMask a (fun c => c == .ro || c == .rc) = 0 then []
    else if (readerRegs p).contains a then
      (List.range 8).map (fun k => (imageKey (.tenant k) p a, BitVec.ofNat 32 (d.booked m (.tenant k) p a))) ++
        [(a, BitVec.ofNat 32 (d.booked m .fw p a))]
    else [(a, BitVec.ofNat 32 (d.booked m .fw p a))])

/-- The word a granted read of register `a` of page `p` returns (R9, R10, R216, R242): RWS fields their shadow, RO and RC fields the image
while FREEZE is 1, WO and reserved bits 0. -/
def Dev.view (d : Dev) (m : Mem) (who : Agent) (a : Nat) : Nat :=
  match pageOf a with
  | none => 0
  | some p =>
    let v := merge (d.booked m who p a) (d.shadow a) (accMask a (· == .rws))
    let v1 := match (d.page p).image with
      | some im => match held? im (imageKey who p a) with
        | some w => merge v w (accMask a (fun c => c == .ro || c == .rc))
        | none => v
      | none => v
    v1 &&& accMask a (· != .wo)

/-- Whether a read by tenant `k` is granted (R218). -/
def Dev.readOk (d : Dev) (k a : Nat) : Bool :=
  match pageOf a with
  | none => false
  | some p => a % 4 == 0 && bit (d.reg (Reg.PG_OWNER p)) k

/-- Completed writes of tenant `k` that a read of register `a` waits for: its earlier writes to that page (R219), and for its own
WRITE_FENCE all of them (R231). -/
def Dev.readAfter (d : Dev) (k a : Nat) : Nat :=
  let out := d.outstanding k
  let n := if a = Reg.WRITE_FENCE k then out.length
    else ((List.range out.length).filter (fun i => pageOf (out.getD i 0) == pageOf a)).foldl (fun n i => max n (i + 1)) 0
  (d.br k).done + n

/-- Whether the page answers a read of register `a` now (R220). -/
def Dev.answers (d : Dev) (a : Nat) : Bool :=
  match pageOf a with
  | none => true
  | some p => ! (d.page p).inReset

/-- Whether a read of register `a` by tenant `k` has its word now. -/
def Dev.readReady (d : Dev) (k a : Nat) : Bool := d.answers a && d.readAfter k a == (d.br k).done

/-- What a granted read does (R14, R242, R254, R264, spec/23 LF_LO): RC fields clear, FIRST is armed again, EVT_RD3 advances EVT_RD_SEQ,
LF_LO latches LF_HI. -/
def Dev.readEff (d : Dev) (a : Nat) : Dev :=
  match pageOf a with
  | none => d
  | some p =>
    let rc := accMask a (· == .rc)
    let d1 := if rc = 0 ∨ (d.page p).image.isSome then d
      else
        let d0 := d.clrReg a rc
        if a = Reg.FAULT_INFO p then d0.modPage p (fun q => { q with firstArmed := true }) else d0
    if a = Reg.EVT_RD 3 ∧ d1.flag Reg.EVT_CFG_RD_AUTOINC then d1.setReg Reg.EVT_RD_SEQ ((d1.reg Reg.EVT_RD_SEQ + 1) % 2 ^ 32)
    else if a = Reg.LF_LO then d1.setReg Reg.LF_HI ((d.lifeSnap 1).getD (d.lfWord d.life.value true))
    else d1

/-- A granted read: its word, and the block after it. -/
def Dev.readReg (d : Dev) (m : Mem) (who : Agent) (a : Nat) : Nat × Dev := (d.view m who a, d.readEff a)

/-- Granted reads of consecutive addresses, in order. -/
def Dev.readRegs (m : Mem) (who : Agent) : Nat → Nat → Dev → List Nat × Dev
  | 0, _, d => ([], d)
  | n + 1, a, d =>
    let (v, d1) := d.readReg m who a
    let (vs, d2) := Dev.readRegs m who n (a + 4) d1
    (v :: vs, d2)

/-- The bytes of words on a port (R1). -/
def wordBytes (ws : List Nat) : List Byte := ws.flatMap (leBytes 4)

end Sys2Proof.Machine
end

