-- ==== Sys2Proof/Machine/PortRegs.lean ====
section
/-! DEFINITION. Register access and streams over USB and SPI (spec/03_host_ports.md, Tables 3-4 to 3-7, R126, R136 to R146, R187,
R1019). A transaction row is one SPI transaction from its command byte to its last byte; CS_N_DEASSERT ends it. -/

set_option linter.unusedVariables false

namespace Sys2Proof.Machine

/-- The register paths of channels 8 and 15 work: the ports are open, or the device is in SAFE_STOP (R904). -/
def Dev.regPorts (d : Dev) : Bool := d.portsOpen || d.devState == DevSt.safeStop

/-- The tenant of a channel's register path, none where the path is closed or the channel is unbound (R60). -/
def Dev.pathTen (d : Dev) (c : Nat) : Option Nat := if d.regPorts then (d.chan c).bind else none

/-! ### USB control endpoint -/

/-- The IEEE 1284 identifier (Table 3-4). -/
def deviceId : List Byte := "MFG:Ussal Gulvia;MDL:ERK5640;CMD:ERKF;".toList.map (fun c => BitVec.ofNat 8 c.toNat)

/-- The Printer Class interface answers. -/
def Dev.prnOn (d : Dev) : Bool := d.get Reg.USB_STAT_SPEED != 0 && d.flag Reg.USB_CTL_PRN_EN

/-- The control endpoint answers with bytes. -/
def Dev.usbReply (d : Dev) (bs : List Byte) : Dev := { d with ports := { d.ports with usbIn := bs, usbStall := false } }

/-- GET_DEVICE_ID (Table 3-4): the string with its length, big-endian; the length counts its own two bytes, as IEEE 1284 has it
(PRESUMED, log entry 23). -/
def execGetDeviceId : State → Out := onDev (fun d =>
  when d.prnOn (·.usbReply ([BitVec.ofNat 8 ((deviceId.length + 2) / 256), BitVec.ofNat 8 (deviceId.length + 2)] ++ deviceId)) d)

/-- The port status byte (Table 3-4). -/
def Dev.portStatus (d : Dev) : Nat :=
  let paper := ! d.trayOcc || bit (d.get Reg.HD_STAT_GATE) 1
  let sel := d.devState == DevSt.nominal || d.devState == DevSt.baseline
  let err := d.laserState == LasSt.stopped || d.laserState == LasSt.safe || d.thermalState == ThmSt.blocked || d.thermalState == ThmSt.fault
  32 * b2n paper + 16 * b2n sel + 8 * b2n (! err)

/-- GET_PORT_STATUS (Table 3-4). -/
def execGetPortStatus : State → Out := onDev (fun d => when d.prnOn (fun d => d.usbReply (leBytes 1 d.portStatus)) d)

/-- A vendor request is answered with a STALL; GET_LINK gives `status` (R138). -/
def Dev.usbRefuse (d : Dev) (status : Nat) : Dev :=
  { d with ports := { d.ports with usbIn := [], usbStall := true, usbRefused := status } }

/-- Address and length of a vendor request are well formed (Table 3-5, R138). -/
def vendorOk (a len : Nat) : Bool := a % 4 == 0 && len % 4 == 0 && 4 ≤ len && len ≤ 64

/-- Post words to consecutive addresses (R136, R201). -/
def Dev.postWords (k : Nat) : Nat → List Nat → Dev → Dev
  | _, [], d => d
  | a, v :: vs, d => Dev.postWords k (a + 4) vs (d.postWrite k a (BitVec.ofNat 32 v))

/-- The words of a byte string. -/
def wordsOf (bs : List Byte) : List Nat := (List.range (bs.length / 4)).map (fun i => leAt bs (4 * i) 4)

/-- USB_REG_WRITE (R136, R138): the words are posted; while the write queue has no room the data stage is held with NAK (R224), and nothing
changes. -/
def execUsbRegWrite (a : Nat) (data : List Byte) : State → Out := onDev (fun d =>
  if d.get Reg.USB_STAT_SPEED = 0 then d
  else match d.pathTen 15 with
  | none => d
  | some k =>
    if ! vendorOk a data.length then d.usbRefuse St.badFrame
    else if d.brRoom k < data.length / 4 ∨ (d.chan 8).bind = some k ∧ d.ports.wbuf ≠ [] then d
    else (Dev.postWords k a (wordsOf data) d).usbReply [])

/-- The addresses of a read of `n` words. -/
def readAddrs (a n : Nat) : List Nat := (List.range n).map (fun i => a + 4 * i)

/-- USB_REG_READ (R137, R138, R218): a malformed or refused read is answered with a STALL; until every word is available the data stage is
held with NAK, and nothing changes. -/
def execUsbRegRead (a len : Nat) : State → Out := onAll (fun d m =>
  if d.get Reg.USB_STAT_SPEED = 0 then (d, m)
  else match d.pathTen 15 with
  | none => (d, m)
  | some k =>
    if ! vendorOk a len then (d.usbRefuse St.badFrame, m)
    else
      let as' := readAddrs a (len / 4)
      if ! as'.all (d.readOk k) then (d.usbRefuse St.notPermitted, m)
      else if ! as'.all (d.readReady k) then (d, m)
      else
        let (ws, d1) := Dev.readRegs m (.tenant k) (len / 4) a d
        (d1.usbReply (wordBytes ws), m))

/-- GET_LINK (Table 3-5): the frame number is the bus's, a free value to the model (log entry 6). -/
def execGetLink : State → Out := onDev (fun d =>
  when (d.get Reg.USB_STAT_SPEED != 0 && d.regPorts) (fun d =>
    let (i, d1) := d.fresh
    d1.usbReply (leBytes 2 d1.ports.usbRefused ++ [0, 0] ++ leBytes 4 (Config.freeWord i).toNat)) d)

/-! ### SPI target -/

/-- LSTAT (Table 3-6). The input buffer is empty between commands (log entry 7), so bit 1 reads 1. -/
def Dev.lstat (d : Dev) : Nat :=
  b2n (d.spiAvail != 0) + 2 + 4 * b2n d.ports.wbuf.isEmpty +
  8 * b2n (match (d.chan 8).bind with
    | some k => ! (d.br k).late.isEmpty
    | none => false) + 16 * b2n d.ports.spiBad

/-- A transaction with command code `cmd` starts: LSTAT goes out, and nothing has spoilt the transaction yet. -/
def Dev.spiStart (d : Dev) (cmd : Nat) : Dev :=
  { d with ports := { d.ports with spiCmd := cmd + 1, spiMiso := leBytes 1 d.lstat, spiMark := false } }

/-- Bytes go out on MISO. -/
def Dev.spiSend (d : Dev) (bs : List Byte) : Dev := { d with ports := { d.ports with spiMiso := d.ports.spiMiso ++ bs } }

/-- The transaction is spoilt: LSTAT bit 4 is set for the next one (Table 3-6). -/
def Dev.spiSpoil (d : Dev) : Dev := { d with ports := { d.ports with spiMark := true } }

/-- A transaction runs only where none is in progress and the register paths are open. -/
def Dev.spiRun (d : Dev) (cmd : Nat) (f : Nat → Dev → Dev) : Dev :=
  if d.ports.spiCmd ≠ 0 ∨ ! d.regPorts then d
  else
    let d1 := d.spiStart cmd
    match (d.chan 8).bind with
    | some k => f k d1
    | none => d1

/-- WAIT_MAX: 0 acts as 1. -/
def Dev.waitMax (d : Dev) : Nat := atLeast1 (d.get Reg.SPIT_CFG_WAIT_MAX)

/-- Wait bytes before a marker: at most WAIT_MAX, their number not fixed (R144), so a free value. -/
def Dev.spiWait (d : Dev) : Dev :=
  let (i, d1) := d.fresh
  d1.spiSend (zeros ((Config.freeWord i).toNat % (d1.waitMax + 1)))

/-- Words of a REG_READ transaction, `n` of them issued (R144). -/
def Dev.spiWords (m : Mem) (k : Nat) : Nat → Nat → Dev → Dev
  | 0, _, d => d
  | n + 1, a, d =>
    if ! d.readOk k a then d.spiWait.spiSend ([0xE1] ++ leBytes 2 St.notPermitted)
    else if ! d.readReady k a then d.spiSend (zeros d.waitMax ++ [0xE1] ++ leBytes 2 St.busy)
    else
      let d1 := d.spiWait
      let (v, d2) := d1.readReg m (.tenant k) a
      let w := leBytes 4 v
      Dev.spiWords m k n (a + 4) (d2.spiSend ([0x5A] ++ w ++ if d.flag Reg.SPIT_CFG_RA_CRC then [BitVec.ofNat 8 (crc8 w)] else []))

/-- Bit 7 of a command byte is 0, or quad I/O is honoured (R139, R970). A quad transaction that is not honoured is discarded (Table 24-7;
log entry 7). -/
def Dev.quadOk (d : Dev) (quad : Bool) : Bool :=
  ! quad || (d.flag Reg.SPIT_CFG_QUAD_EN && d.pmFunc 6 == 0 && d.pmFunc 7 == 0)

/-- SPI_REG_READ (R139, R142, R144): `mosi` are the bytes after the command byte, `words` how many words the host has had issued; the first
is issued with the last ADDR byte. Honoured quad I/O changes the lines and not the bytes. -/
def execSpiRegRead (quad : Bool) (mosi : List Byte) (words : Nat) : State → Out := onAll (fun d m =>
  (d.spiRun 1 (fun k d =>
    if ! d.quadOk quad || mosi.length < 4 then d.spiSpoil else Dev.spiWords m k (max 1 words) (leAt mosi 0 4) d), m))

/-- A word of a REG_WRITE transaction has arrived: it goes to the write buffer, or is counted in WDROP (R142, R143); from a tenant in
RESETTING it is discarded (R234). -/
def Dev.spiWrite (d : Dev) (k a v : Nat) : Dev :=
  if (d.ten k).state = .resetting then d
  else if 8 ≤ d.ports.wbuf.length then d.addSat Reg.SPIT_ERR_WDROP 1
  else { d with ports := { d.ports with wbuf := d.ports.wbuf ++ [(a, BitVec.ofNat 32 v)] } }.spiDrain

/-- The words of a REG_WRITE transaction after its ADDR bytes: each checked by its CRC where RA_CRC is 1 (R141, R142). -/
def Dev.spiWriteWords (k : Nat) (cmd : Byte) : Nat → Nat → List Byte → Dev → Dev
  | 0, _, _, d => d
  | n + 1, a, bs, d =>
    let crc := d.flag Reg.SPIT_CFG_RA_CRC
    let len := if crc then 5 else 4
    if bs.isEmpty then d
    else if bs.length < len then d.spiSpoil
    else
      let good := ! crc || byteAt bs 4 == crc8 ([cmd] ++ leBytes 4 a ++ bs.take 4)
      let d1 := if good then d.spiWrite k a (leAt bs 0 4) else (d.addSat Reg.SPIT_ERR_RA_CRC_ERR 1).spiSpoil
      Dev.spiWriteWords k cmd n (a + 4) (bs.drop len) d1

/-- SPI_REG_WRITE (R139, R141 to R143). -/
def execSpiRegWrite (quad : Bool) (mosi : List Byte) : State → Out := onDev (·.spiRun 2 (fun k d =>
  if ! d.quadOk quad || mosi.length < 4 then d.spiSpoil
  else Dev.spiWriteWords k (BitVec.ofNat 8 (2 + 128 * b2n quad)) mosi.length (leAt mosi 0 4) (mosi.drop 4) d))

/-- STREAM_WRITE (R146): frame stream bytes. -/
def execStreamWrite (bytes : List Byte) : State → Out := onDev (·.spiRun 3 (fun _ d =>
  d.receive 8 (bytes.map (fun b => (b, RxErr.none))) false))

/-- Take `n` bytes from the front of the frames that wait. -/
def takeBytes : Nat → List (Bool × List Byte) → List Byte × List (Bool × List Byte)
  | _, [] => ([], [])
  | n, (r, bs) :: rest =>
    if n < bs.length then (bs.take n, (r, bs.drop n) :: rest)
    else
      let (out, left) := takeBytes (n - bs.length) rest
      (bs ++ out, left)

/-- STREAM_READ (R145): AVAIL, then `n` bytes clocked out in full; bytes beyond AVAIL are 0xFF. -/
def execStreamRead (n : Nat) : State → Out := onDev (·.spiRun 4 (fun _ d =>
  let avail := d.spiAvail
  let (bs, left) := takeBytes n (d.chan 8).out
  (d.modChan 8 (fun x => { x with out := left })).spiSend (leBytes 2 (min 65535 avail) ++ bs ++ List.replicate (n - bs.length) 0xFF)))

/-- DMA_WRITE (R187): raw data for the DMA channel connected to the SPI target; bytes beyond COUNT are discarded (DESIGN CHOICE, log
entry 24). -/
def execDmaWrite (bytes : List Byte) : State → Out := onDev (·.spiRun 5 (fun _ d =>
  d.modChan 8 (fun x => { x with dmaIn := x.dmaIn ++ bytes.take x.dmaLeft, dmaLeft := x.dmaLeft - bytes.length })))

/-- SPI_BAD_COMMAND (R1019): no transaction starts; MISO is 0xFF after LSTAT until CS_N deasserts. -/
def execSpiBadCommand (cmd : Fin 256) : State → Out := onDev (fun d =>
  let c := cmd.val % 128
  if 1 ≤ c ∧ c ≤ 5 then d else d.spiRun c (fun _ d => (d.spiSend [0xFF]).spiSpoil))

/-- CS_N_DEASSERT (R142, Table 3-6): the transaction ends, and LSTAT bit 4 of the next one says whether it was discarded. -/
def execCsNDeassert : State → Out := onDev (fun d =>
  when (d.ports.spiCmd != 0) (fun d =>
    { d with ports := { d.ports with spiCmd := 0, spiMiso := [], spiBad := d.ports.spiMark, spiMark := false } }) d)

end Sys2Proof.Machine
end

