-- ==== Sys2Proof/Machine/Commands.lean ====
section
/-! DEFINITION. The command layer (spec/04_commands.md): the opcodes and where each is accepted, the order of checks (R166), the execution
of the frame at the head of a tenant's command queue, sessions and the small queries. -/

set_option linter.unusedVariables false

namespace Sys2Proof.Machine

/-! ### Opcodes (Tables 4-1 and 4-17, R213) -/

/-- A row of Tables 4-1 and 4-17: the minor version it is available since, whether T0 alone may send it, whether it is permitted in
CLOSED and in FAULTED, and the status that refuses it in BOOT, in NOMINAL, BASELINE and STANDBY, and in SAFE_FINISH (0: it is
accepted), and whether it wakes. -/
structure OpRow where
  minor : Nat
  t0 : Bool
  closed : Bool
  faulted : Bool
  boot : Nat
  run : Nat
  finish : Nat
  wakes : Bool
deriving DecidableEq, Repr

/-- The opcodes. DATA and DATA_DMA are accepted in SAFE_FINISH for committed sheets (`Dev.stepChecks`). -/
def opRow (op : Nat) : Option OpRow :=
  match op with
  | 0x0001 => some ⟨0, false, true, false, 0, 0, 0, false⟩
  | 0x0002 => some ⟨0, false, false, false, 0, 0, 0, false⟩
  | 0x0003 => some ⟨0, false, true, true, 0, 0, 0, false⟩
  | 0x0004 => some ⟨0, false, true, true, 0, 0, 0, false⟩
  | 0x0101 => some ⟨0, false, false, false, St.notReady, 0, St.safeFinish, true⟩
  | 0x0102 => some ⟨0, false, false, false, St.notReady, 0, St.safeFinish, true⟩
  | 0x0103 => some ⟨0, false, false, false, St.notReady, 0, St.safeFinish, true⟩
  | 0x0104 => some ⟨0, false, false, false, St.notReady, 0, St.safeFinish, true⟩
  | 0x0105 => some ⟨0, false, false, false, St.notReady, 0, St.safeFinish, true⟩
  | 0x0106 => some ⟨0, false, false, false, St.notReady, 0, 0, false⟩
  | 0x0107 => some ⟨0, false, false, true, St.notReady, 0, 0, false⟩
  | 0x0201 => some ⟨0, false, false, false, St.notReady, 0, St.safeFinish, false⟩
  | 0x0202 => some ⟨0, false, false, false, St.notReady, 0, St.safeFinish, false⟩
  | 0x0203 => some ⟨0, false, false, true, St.notReady, 0, 0, false⟩
  | 0x0301 => some ⟨0, false, false, false, St.notReady, 0, St.safeFinish, true⟩
  | 0x0302 => some ⟨0, true, false, false, St.notReady, 0, St.safeFinish, true⟩
  | 0x0401 => some ⟨0, true, false, false, St.notReady, 0, St.safeFinish, true⟩
  | 0x0501 => some ⟨0, false, false, true, St.notReady, 0, 0, false⟩
  | 0x0502 => some ⟨0, false, false, false, St.notReady, 0, 0, false⟩
  | 0x0601 => some ⟨0, false, false, true, 0, 0, 0, false⟩
  | 0x0602 => some ⟨1, false, false, false, 0, 0, 0, false⟩
  | 0x0701 => some ⟨0, false, false, true, 0, 0, 0, false⟩
  | 0x0702 => some ⟨0, false, false, true, 0, 0, 0, false⟩
  | 0x0703 => some ⟨0, false, false, true, 0, 0, 0, false⟩
  | 0x0801 => some ⟨0, false, false, false, St.notReady, 0, St.safeFinish, false⟩
  | 0x0802 => some ⟨0, false, false, false, St.notReady, 0, 0, false⟩
  | 0x0803 => some ⟨0, false, false, true, St.notReady, 0, 0, false⟩
  | 0x0901 => some ⟨0, false, false, false, St.notReady, 0, 0, false⟩
  | 0x0A01 => some ⟨0, false, true, true, 0, 0, 0, false⟩
  | 0x0A02 => some ⟨0, true, false, false, 0, St.tooLate, St.tooLate, false⟩
  | 0x0B01 => some ⟨0, false, true, true, 0, 0, 0, false⟩
  | _ => none

/-! ### The order of checks (R166) -/

/-- Byte `i` of a frame's payload. -/
def Frame.b (f : Frame) (i : Nat) : Nat := byteAt f.payload i

/-- The 16-bit field at payload byte `i`. -/
def Frame.h (f : Frame) (i : Nat) : Nat := leAt f.payload i 2

/-- The 32-bit field at payload byte `i`. -/
def Frame.w (f : Frame) (i : Nat) : Nat := leAt f.payload i 4

/-- LEN. -/
def Frame.len (f : Frame) : Nat := f.payload.length

/-- Payload bytes `i` to `j` are 0. -/
def Frame.zero (f : Frame) (i j : Nat) : Bool := (List.range (j + 1 - i)).all (fun n => f.b (i + n) == 0)

/-- The job and sheet a DATA or DATA_DMA frame names belong to a committed sheet. -/
def Dev.dataCommitted (d : Dev) (k : Nat) (f : Frame) : Bool := (d.sheet? k (f.h 0) (f.h 2)).any (·.state.committedOn)

/-- Step 3: the status with which the device state refuses an opcode, 0 when it permits it. -/
def Dev.deviceCheck (d : Dev) (k : Nat) (f : Frame) (r : OpRow) : Nat :=
  if d.devState = DevSt.boot then r.boot
  else if d.devState = DevSt.safeFinish then
    if (f.opcode = 0x0103 ∨ f.opcode = 0x0104) ∧ d.dataCommitted k f then 0 else r.finish
  else r.run

/-- Steps 1 to 5 of R166: the status of the first that fails, 0 when none does. A tenant without a session has agreed no minor
version, and step 2 decides (DEDUCED, log entry 25). -/
def Dev.stepChecks (d : Dev) (k : Nat) (f : Frame) (r : OpRow) (form : Bool) : Nat :=
  let t := d.ten k
  if t.state ≠ .closed ∧ t.minor < r.minor then St.badOpcode
  else if t.state = .closed ∧ ! r.closed then St.wrongState
  else if t.state = .opened ∧ f.opcode = 1 then St.wrongState
  else if t.state = .faulted ∧ ! r.faulted then St.tenantFaulted
  else if d.deviceCheck k f r ≠ 0 then d.deviceCheck k f r
  else if r.t0 ∧ k ≠ 0 then St.notPermitted
  else if ! form then St.badPayload
  else 0

/-! ### Executing a frame -/

/-- The frame the firmware executes next for tenant `k`: the oldest accepted one, while the firmware processes frames, the tenant is not
RESETTING (R214) and no closing session waits for its response. -/
def Dev.nextFrame (d : Dev) (k : Nat) : Option Frame :=
  let t := d.ten k
  if ! d.fwRuns || t.state == .resetting || t.respWait.any (·.act == 2) then none else t.cmdQ.head?

/-- The frame leaves the command queue. -/
def Dev.takeFrame (d : Dev) (k : Nat) : Dev := d.modTen k (fun t => { t with cmdQ := t.cmdQ.tail })

/-- R211: a command marked "wakes" that is accepted in STANDBY starts STANDBY_EXIT. -/
def Dev.wake (d : Dev) (r : OpRow) : Dev := if r.wakes && d.devState == DevSt.standby then d.pseqRequest 3 else d

/-- Execute the frame at the head of tenant `k`'s queue when it is of opcode `op` and `sel` holds: the checks of R166, `form` for step 5
and `pre` for step 6, in order, and then its effect. While `hold` holds the command waits and stays at the head. A frame of an
opcode that no row spells is answered by whichever command row runs (R166 step 1; log entry 25). -/
def runFrame (op : Nat) (sel : Frame → Bool) (form : Dev → Frame → Bool) (hold : Dev → Mem → Frame → Bool)
    (pre : Dev → Mem → Frame → Nat) (act : Frame → Dev → Mem → Dev × Mem) (k : Nat) (d : Dev) (m : Mem) : Dev × Mem :=
  match d.nextFrame k with
  | none => (d, m)
  | some f =>
    match opRow f.opcode with
    | none => ((d.takeFrame k).answer k f St.badOpcode [], m)
    | some r =>
      if f.opcode ≠ op ∨ ! sel f then (d, m)
      else if d.stepChecks k f r (form d f) ≠ 0 then ((d.takeFrame k).answer k f (d.stepChecks k f r (form d f)) [], m)
      else if pre d m f ≠ 0 then ((d.takeFrame k).answer k f (pre d m f) [], m)
      else if hold d m f then (d, m)
      else act f ((d.takeFrame k).wake r) m

/-- Every frame of the opcode. -/
def anyFrame (_ : Frame) : Bool := true

/-- Nothing holds the command. -/
def noHold (_ : Dev) (_ : Mem) (_ : Frame) : Bool := false

/-- No precondition of its own. -/
def noPre (_ : Dev) (_ : Mem) (_ : Frame) : Nat := 0

/-- LEN is `n`. -/
def lenIs (n : Nat) (_ : Dev) (f : Frame) : Bool := f.len == n

/-- In BASELINE, a feature whose bit is clear is missing (R175). -/
def Dev.lacks (d : Dev) (b : Nat) : Bool := d.devState == DevSt.baseline && ! bit (d.reg Reg.BT_FEATURE) b

/-- ROM_BUILD and STEPPING. -/
def buildBytes : List Byte := leBytes 2 0x0137 ++ [0xA1]

/-- The form a tenant means by a FORM_ID, none while the partitions of NOR cannot be used (R282). -/
def Dev.formSeen (d : Dev) (k id : Nat) : Option Form := if d.norUsable && d.get Reg.XSPI_STAT_CS1_MODE != 0 then d.form? k id else none

/-! ### Sessions (R169 to R173) -/

/-- The form of a SESSION_OPEN payload (Table 4-2). -/
def sessionForm (_ : Dev) (f : Frame) : Bool :=
  f.len == 8 && f.b 4 / 2 == 0 && f.zero 6 7 && (if bit (f.b 4) 0 then 1 ≤ f.b 5 && f.b 5 ≤ 15 else f.b 5 == 0)

/-- R172: the tag slot and the frame's own tag. A wrong MAJOR is answered first, with its payload (R169). -/
def Dev.sessionPre (d : Dev) (k : Nat) (f : Frame) : Nat :=
  if f.h 0 ≠ 1 ∨ ! bit (f.b 4) 0 then 0
  else if d.keyOwner (f.b 5) ≠ k then St.notPermitted
  else match d.hmacKey (f.b 5) with
    | none => St.keyEmpty
    | some key => if f.tag.length = 16 ∧ f.tag = hmacTag key (f.hdr ++ f.payload) then 0 else St.authFail

/-- The SESSION_OPEN response (Table 4-3). -/
def Dev.sessionPayload (d : Dev) (k minor : Nat) : List Byte :=
  let t := d.ten k
  leBytes 2 1 ++ leBytes 2 minor ++ leBytes 2 t.epoch ++ leBytes 1 (d.creditLimit k) ++ leBytes 1 (d.jobMax k) ++ buildBytes ++
  leBytes 1 d.devState ++ leBytes 4 (d.reg Reg.BT_FEATURE) ++ leBytes 2 (d.get Reg.BT_PATCH_LAST) ++ leBytes 1 k ++
  leBytes 1 t.orphans.length

/-- A session opens (R170, R173): the tenant is OPEN, the returned credits start at 0, and after the response the orphan records follow
in their order (R100). -/
def Dev.openSession (d : Dev) (k : Nat) (f : Frame) : Dev :=
  if f.h 0 ≠ 1 then d.answer k f St.badVersion (leBytes 2 1 ++ leBytes 2 1)
  else
    let minor := min (f.h 2) 1
    let pl := d.sessionPayload k minor
    let limit := d.creditLimit k
    let orphans := (d.ten k).orphans
    let d1 := d.modTen k (fun t => { t with
      state := .opened, everOpen := true, limit := limit, minor := minor, tags := bit (f.b 4) 0, tagSlot := f.b 5, retCred := 0, minSev := 7, skipped := 0,
      errTimes := [], keepFrom := d.now })
    orphans.foldl (fun d o => d.unsol k St.orphanComplete o.bytes 0 0) (d1.answer k f St.ok pl)

/-- SESSION_OPEN. -/
def execSessionOpen (k : Fin 8) : State → Out := onAll (runFrame 0x0001 anyFrame sessionForm noHold
  (fun d _ f => d.sessionPre k.val f) (fun f d m => (d.openSession k.val f, m)) k.val)

/-- SESSION_CLOSE: BUSY while a job slot is in use; else the tenant is CLOSED when the response is placed. -/
def execSessionClose (k : Fin 8) : State → Out := onAll (runFrame 0x0002 anyFrame (lenIs 0) noHold
  (fun d _ _ => if (d.ten k.val).jobs = [] then 0 else St.busy)
  (fun f d m => (d.answerAct k.val f St.ok [] 2 0, m)) k.val)

/-- PING returns its 0 to 8 bytes. -/
def execPing (k : Fin 8) : State → Out := onAll (runFrame 0x0003 anyFrame (fun _ f => f.len ≤ 8) noHold noPre
  (fun f d m => (d.answer k.val f St.ok f.payload, m)) k.val)

/-- The MEDIA bits of GET_INFO (Table 4-5, R544). -/
def Dev.mediaBits (d : Dev) : Nat :=
  b2n (! d.trayOcc) + 2 * b2n (bit (d.get Reg.HD_STAT_GATE) 1) + 4 * b2n (bit (d.get Reg.HD_STAT_GATE) 0) + 8 * b2n (! d.coversClosed)

/-- GET_INFO (Table 4-5). SESSION has codes for CLOSED and OPEN only: for a FAULTED tenant the byte is a free value (log entry 6). -/
def execGetInfo (k : Fin 8) : State → Out := onAll (runFrame 0x0004 anyFrame (lenIs 0) noHold noPre
  (fun f d m =>
    let t := d.ten k.val
    let d1 := if t.state = .faulted then d.fresh.2 else d
    let ses := match t.state with
      | .closed => 0
      | .opened => 1
      | _ => (Config.freeWord d.free).toNat
    (d1.answer k.val f St.ok (leBytes 1 d.devState ++ leBytes 1 d.laserState ++ leBytes 1 d.thermalState ++ leBytes 1 ses ++
      leBytes 4 (d.reg Reg.BT_FEATURE) ++ buildBytes ++ leBytes 1 (d.get Reg.PC_STAT_RUN_GEAR) ++ leBytes 2 d.mediaBits ++ zeros 2), m)) k.val)

/-- PATCH_STATUS. -/
def execPatchStatus (k : Fin 8) : State → Out := onAll (runFrame 0x0A01 anyFrame (lenIs 0) noHold noPre
  (fun f d m => (d.answer k.val f St.ok (leBytes 1 d.devState ++ leBytes 1 (d.get Reg.BT_STAT_SOURCE) ++
    leBytes 2 (d.get Reg.BT_PATCH_LAST) ++ leBytes 4 (d.reg Reg.BT_BUNDLE) ++ leBytes 1 (d.get Reg.OTP_SECVER_SEC_VER) ++
    leBytes 1 (d.get Reg.BT_SECVER_BUNDLE) ++ buildBytes ++ zeros 3 ++ leBytes 4 (d.reg Reg.BT_FEATURE)), m)) k.val)

/-! ### Tenant resets (R207 to R210) -/

/-- The tenant a TENANT_RESET names. -/
def resetTarget (k : Nat) (f : Frame) : Nat := if f.b 0 = 0xFF then k else f.b 0

/-- TENANT_RESET: of itself a tenant gets no response; T0's of another tenant waits for that tenant's RESET_DONE. -/
def execTenantReset (k : Fin 8) : State → Out := onAll (runFrame 0x0B01 anyFrame
  (fun _ f => f.len == 4 && f.zero 1 3 && (f.b 0 == 0xFF || f.b 0 ≤ 7)) noHold
  (fun d _ f => if resetTarget k.val f = k.val then 0 else if k.val ≠ 0 then St.notPermitted
    else if d.canDefer k.val 0x0B01 then 0 else St.busy)
  (fun f d m =>
    let j := resetTarget k.val f
    (if j = k.val then d.startReset j else (d.defer k.val f [j] []).startReset j, m)) k.val)

end Sys2Proof.Machine
end

