-- ==== Sys2Proof/Machine/DmaCmds.lean ====
section
/-! DEFINITION. The end of a descriptor (spec/06_memory_dma.md, R272, R273, R291 to R297, Table 6-5): DESCRIPTOR_RETIRE and TRANSFER_FAIL,
with the uncorrectable SRAM errors that a transfer meets. -/

set_option linter.unusedVariables false

namespace Sys2Proof.Machine

/-- Where a transfer first meets a word with two flipped bits: a source word of a COPY, or a destination word that a write of fewer than
8 bytes must merge with (R272): the offset within the descriptor and the word. -/
def Dev.eccMeets (d : Dev) (a : ActiveDesc) : Option (Nat × Nat) :=
  let n := a.count
  let src := (d.ecc.filter (fun e => e.2 && a.path == 0 && a.w 1 ≤ e.1 + 7 && e.1 < a.w 1 + n)).map (fun e => (e.1 - a.w 1, e.1))
  let dst := (d.ecc.filter (fun e => e.2 && (a.path == 0 || a.path == 4) && a.w 2 ≤ e.1 + 7 && e.1 < a.w 2 + n &&
    (e.1 < a.w 2 || a.w 2 + n < e.1 + 8))).map (fun e => (e.1 - a.w 2, e.1))
  (src ++ dst).foldl (fun b x => match b with
    | some y => if y.1 ≤ x.1 then b else some x
    | none => some x) none

/-- The SRAM word that a burst at byte offset `off` reads: of the source where that is SRAM, else of the destination. -/
def ActiveDesc.sramWord (a : ActiveDesc) (off : Nat) : Option Nat :=
  if a.path = 0 ∧ inSram (a.w 1) a.count then some ((a.w 1 + off) / 8 * 8)
  else if (a.path = 0 ∨ a.path = 4) ∧ inSram (a.w 2) a.count then some ((a.w 2 + off) / 8 * 8)
  else none

/-- An uncorrectable error has the count, the event and the reaction of Table 6-3 (R273; a word of bank 1 belongs to no entry of a queue
as far as a COPY can tell, R1022). -/
def Dev.eccFound (d : Dev) (m : Mem) (w : Option Nat) : Dev × Mem :=
  match w with
  | some a => d.eccReact m a .spare
  | none => (d, m)

/-- The active descriptor fails at byte offset `off`: it retires BAD with the offset of the failing burst, and the channel moves on (R297). -/
def Dev.transferBad (d : Dev) (m : Mem) (c : Nat) (a : ActiveDesc) (code off : Nat) : Dev × Mem :=
  let d1 := if a.path = 2 ∨ a.path = 3 then d.failFetch a 3 else d
  let x := d1.retire m c a 2 code (off / 64 * 64)
  x.1.afterRetire x.2 c

/-- The data of a COPY or FILL up to the burst that meets an uncorrectable word. -/
def Dev.moveUpTo (d : Dev) (m : Mem) (c : Nat) (a : ActiveDesc) (off : Nat) : Dev × Mem :=
  let k := off / 64 * 64
  if a.path = 0 then ((d.sramRead (a.w 1) k).sramWritten (a.w 2) k, m.writeBytes (a.w 2) (m.readBytes (a.w 1) k))
  else (d.sramWritten (a.w 2) k, m.writeBytes (a.w 2) ((List.range (k / 4)).flatMap (fun _ => leBytes 4 (a.w 4))))

/-- The retirement of a descriptor whose transfer meets no uncorrectable word. -/
def Dev.retireMoved (d : Dev) (m : Mem) (c : Nat) (a0 : ActiveDesc) (ack : Bool) : Dev × Mem :=
  let (d1, m1, a) := if (d.dch c).barWait then (d, m, a0) else d.moveData m c a0
  if a.path = 1 ∧ a.done < a.count ∧ d1.reach (a.w 2) a.count = a.count then (d1, m1)
  else if a.done < a.count ∨ d1.reach (a.w 2) a.count < a.count ∧ a.path = 1 then
    d1.transferBad m1 c a St.busError (if a.path = 1 then d1.reach (a.w 2) a.count else a.done)
  else if a.path = 3 ∧ ! a.tagOk then
    let d2 := ((d1.failFetch a 3).addSat Reg.CR_ERR_TAG_FAIL 1).fireRaw 0x14 0
    let (d3, m3) := d2.retire m1 c a 2 St.tagMismatch a.done
    d3.afterRetire m3 c
  else if a.barrier && ! ack then (d1.modDch c (fun x => { x with active := some a, barWait := true }), m1)
  else
    let d2 := if a.path = 3 then (d1.tagMatched a).addWrap Reg.CR_DEC_BYTES (a.count - 32) else d1
    let (d3, m3) := d2.retire m1 c a 1 0 a.done
    d3.afterRetire m3 c

/-- DESCRIPTOR_RETIRE (R291 to R293): the active descriptor has issued its last write; with BARRIER it retires once every earlier
write is acknowledged (`ack`). A range that no memory answers retires BAD with BUS_ERROR at the failing burst, an uncorrectable word
with ECC_UNCORRECTABLE; a FETCH_DEC whose tag does not match retires BAD with TAG_MISMATCH (R314). -/
def execDescriptorRetire (c : Fin 16) (ack : Bool) : State → Out := onAll (fun d m =>
  let c := c.val
  match (d.dch c).active with
  | none => (d, m)
  | some a0 =>
    let out := match (if (d.dch c).barWait then none else d.eccMeets a0) with
      | some (off, w) =>
        let x := d.moveUpTo m c a0 off
        let y := x.1.eccFound x.2 (some w)
        y.1.transferBad y.2 c a0 St.eccUncorrectable off
      | none => d.retireMoved m c a0 ack
    (out.1.walkChain out.2 c, out.2))

/-- TRANSFER_FAIL (R297, Table 6-5): a read or write of the active descriptor fails at byte offset `off`: an uncorrectable SRAM error
(`ecc`), or a target that fails. -/
def execTransferFail (c : Fin 16) (ecc : Bool) (off : Nat) : State → Out := onAll (fun d m =>
  let c := c.val
  match (d.dch c).active with
  | none => (d, m)
  | some a =>
    if a.count ≤ off then (d, m)
    else
      let x := if ecc then d.eccFound m (a.sramWord off) else (d, m)
      let y := x.1.transferBad x.2 c a (if ecc then St.eccUncorrectable else St.busError) off
      (y.1.walkChain y.2 c, y.2))

end Sys2Proof.Machine
end

