-- ==== Sys2Proof/Machine/FormCmds.lean ====
section
/-! DEFINITION. Stored forms (spec/04_commands.md, R192 to R195; R351, R365, R926): FORM_STORE, its end, FORM_DELETE and FORM_LIST. -/

set_option linter.unusedVariables false

namespace Sys2Proof.Machine

/-- Bytes of a form in NOR. -/
def Form.size (g : Form) : Nat := g.blocks.foldl (fun n b => n + b.2.1) 0

/-- The form area: its first address and its length in bytes; empty while NOR cannot be used (R282). -/
def Dev.formArea (d : Dev) : Nat × Nat :=
  if d.norUsable && d.get Reg.XSPI_STAT_CS1_MODE != 0 then
    (0x70000000 + bitsOf (d.reg Reg.NOR_FORMS) 0 10 * 65536, bitsOf (d.reg Reg.NOR_FORMS) 16 10 * 65536)
  else (0, 0)

/-- A sheet that is not in a final state names the form (R195). -/
def Dev.formInUse (d : Dev) (k id : Nat) : Bool :=
  d.sheets.any (fun s => ! s.state.final && s.layers.any (fun y => y.source == 1 && y.arg == id && formOwner s.tenant y.arg == formOwner k id))

/-- A store of form `id` with `n` bytes exceeds what R194 allows. -/
def Dev.formQuota (d : Dev) (k id n : Nat) : Bool :=
  let o := formOwner k id
  (if o = 8 then 64 else 32) ≤ (d.forms.filter (fun g => g.owner == o && g.id != id)).length ||
  decide (4194304 < n) || decide (d.formArea.2 < d.forms.foldl (fun s g => s + g.size) 0 + n)

/-- The blocks of a form's data by their headers; none where a header is damaged or a block is cut short. -/
def splitBlocks : Nat → List Byte → Option (List (List Byte))
  | _, [] => some []
  | 0, _ => none
  | f + 1, bs =>
    let h := bs.take 32
    let n := 32 + (parseHdr h).plen
    if ! hdrCrcOk h || ! hdrValid (parseHdr h) || bs.length < n then none
    else (splitBlocks f (bs.drop n)).map (bs.take n :: ·)

/-- What block `b` of `n` blocks of a form is checked against (Table 7-6). -/
def Dev.formCtx (d : Dev) (p : FormPart) (b n : Nat) (blk : List Byte) : DecCtx :=
  ⟨b, p.width, p.bpp, p.bandH, bandLines p.bandH, b + 1 == n, d.outMax, d.outMax, d.ratioLog2, blk.length⟩

/-- The blocks of a form stored without ENCODE when every one passes Table 7-6 (R351). -/
def Dev.formBlocks (d : Dev) (p : FormPart) : Option (List (List Byte)) :=
  match splitBlocks 1024 p.data with
  | none => none
  | some bs => if (List.range bs.length).all (fun b => (decodeBlock (d.formCtx p b bs.length (bs.getD b [])) (bs.getD b [])).detail == 0)
      then some bs else none

/-- Bytes of a raw line. -/
def FormPart.lineBytes (p : FormPart) : Nat := p.width * p.bpp / 8

/-- Raw lines received with ENCODE. -/
def FormPart.rawLines (p : FormPart) : Nat := p.data.length / p.lineBytes

/-- Bands of a form stored with ENCODE. -/
def FormPart.rawBands (p : FormPart) : Nat := ceilDiv p.rawLines (bandLines p.bandH)

/-- The rasters the encoder is given for a form. -/
def formRasters (k epoch : Nat) (p : FormPart) : List EncBlk :=
  (List.range p.rawBands).map (fun b =>
    let first := b * bandLines p.bandH
    let n := min (bandLines p.bandH) (p.rawLines - first)
    ⟨true, k, epoch, p.id, 0, 0, b, p.width, p.bpp, p.bandH, n, (p.data.drop (first * p.lineBytes)).take (n * p.lineBytes)⟩)

/-- The store in progress that a FORM_STORE part continues: none where R192 abandons it. A part whose BPP, WIDTH, BAND_H or ENCODE differs
from the first one's does not continue it (DEDUCED, log entry 25). -/
def Dev.formGoesOn (d : Dev) (k : Nat) (f : Frame) : Option FormPart :=
  let enc := bit (f.b 2) 2
  if bit (f.b 2) 0 then
    if f.w 8 = 0 then some ⟨f.h 0, enc, f.b 3, f.h 4, f.b 6, [], [], false⟩ else none
  else match (d.ten k).formParts.find? (fun p => p.id == f.h 0 && ! p.last) with
    | some p => if p.encode == enc && p.bpp == f.b 3 && p.width == f.h 4 && p.bandH == f.b 6 && p.data.length == f.w 8 then some p else none
    | none => none

/-- The store of `id` in progress is abandoned. -/
def Dev.formAbandon (d : Dev) (k id : Nat) : Dev :=
  d.modTen k (fun t => { t with formParts := t.formParts.filter (fun p => p.id != id || p.last) })

/-- The store in progress is now `p`. -/
def Dev.formKeep (d : Dev) (k : Nat) (p : FormPart) : Dev :=
  (d.formAbandon k p.id).modTen k (fun t => { t with formParts := t.formParts ++ [p] })

/-- The LAST part: the checks in order, and the start of programming (R192 to R195, R351). -/
def Dev.formLast (d : Dev) (k : Nat) (f : Frame) (p : FormPart) : Dev :=
  let none' := if p.encode then p.rawLines = 0 ∨ p.data.length % p.lineBytes ≠ 0 else p.data = []
  if none' then (d.formAbandon k p.id).answer k f St.badPayload []
  else if d.formInUse k p.id then d.answer k f St.formInUse []
  else if d.formQuota k p.id (if p.encode then 0 else p.data.length) then d.answer k f St.quotaExceeded []
  else if p.encode then
    if d.canDefer k 0x0201 then
      let d1 := (d.defer k f [] []).formKeep k { p with last := true }
      { d1 with codec := { d1.codec with q2 := d1.codec.q2 ++ formRasters k (d1.ten k).epoch p } }
    else d.answer k f St.busy []
  else match d.formBlocks p with
  | none => d.answer k f St.corruptBlock []
  | some bs => if d.canDefer k 0x0201 then (d.defer k f [] []).formKeep k { p with last := true, blocks := bs } else d.answer k f St.busy []

/-- FORM_STORE (R192 to R195, R351): a part joins the store in progress; one that does not continue it abandons it. Any other refusal
leaves it as it is (R168). -/
def execFormStore (k : Fin 8) : State → Out := onAll (runFrame 0x0201 anyFrame
  (fun _ f => 12 ≤ f.len && f.b 2 / 8 == 0 && [1, 2, 4].contains (f.b 3) && f.h 4 % 8 == 0 && 8 ≤ f.h 4 && f.h 4 ≤ 5120 && f.b 6 ≤ 3 &&
    f.b 7 == 0) noHold
  (fun _ _ f => if bit (f.h 0) 15 && k.val != 0 then St.notPermitted else 0)
  (fun f d m =>
    (match d.formGoesOn k.val f with
     | none => (d.formAbandon k.val (f.h 0)).answer k.val f St.badPayload []
     | some p0 =>
       let p := { p0 with data := p0.data ++ f.payload.drop 12 }
       if 4194304 < p.data.length then d.answer k.val f St.quotaExceeded []
       else if bit (f.b 2) 1 then d.formLast k.val f p
       else (d.formKeep k.val p).answer k.val f St.ok [], m)) k.val)

/-- Every cached band of a form leaves the cache (R365). -/
def Dev.formEvict (d : Dev) (owner id : Nat) : Dev := d.release (fun u => u.kind == 3 && u.job == id && u.index == owner)

/-- Write bytes to erased NOR. -/
def Mem.norFill (m : Mem) : Nat → List Byte → Mem
  | _, [] => m
  | a, b :: bs => (m.setNor a b).norFill (a + 1) bs

/-- Where each block of a form lies behind the one before: offset, length and lines. -/
def layBlocks : Nat → List (List Byte) → List (Nat × Nat × Nat)
  | _, [] => []
  | o, b :: bs => (o, b.length, (parseHdr b).lines) :: layBlocks (o + b.length) bs

/-- `n` bytes at `base` lie in the form area and touch no form. -/
def Dev.formPlaceOk (d : Dev) (base n : Nat) : Bool :=
  d.formArea.1 ≤ base && base + n ≤ d.formArea.1 + d.formArea.2 && d.forms.all (fun g => base + n ≤ g.base || g.base + g.size ≤ base)

/-- The programmed form replaces an older one with its FORM_ID (R193, R365). -/
def Dev.formInstall (d : Dev) (m : Mem) (k base : Nat) (p : FormPart) : Dev × Mem :=
  let o := formOwner k p.id
  let g : Form := ⟨o, p.id, p.bpp, p.bandH, p.width, base, layBlocks 0 p.blocks⟩
  let d1 := d.formEvict o p.id
  let d2 := { d1 with forms := d1.forms.filter (fun (x : Form) => ! (x.owner == o && x.id == p.id)) ++ [g] }
  let d3 := d2.modTen k (fun t => { t with formParts := t.formParts.filter (fun x => ! x.last) })
  (d3.finish k 0x0201 St.ok [], m.norFill base p.blocks.flatten)

/-- FORM_PROGRAM_DONE (R193, R926): the firmware has programmed the form at `base`, which it chose in the form area. A store cut off by
SAFE_FINISH ends with that status (DEDUCED, log entry 25); one whose encoded blocks do not fit ends with QUOTA_EXCEEDED (R194). -/
def execFormProgramDone (k : Fin 8) (base : Nat) : State → Out := onAll (fun d m =>
  match d.deferred? k.val 0x0201 with
  | none => (d, m)
  | some _ =>
    match (d.ten k.val).formParts.find? (·.last) with
    | none => (if d.devState = DevSt.safeFinish then d.finish k.val 0x0201 St.safeFinish [] else d, m)
    | some p =>
      let n := p.blocks.flatten.length
      if p.encode ∧ p.blocks.length < p.rawBands then (d, m)
      else if d.formQuota k.val p.id n then
        ((d.modTen k.val (fun t => { t with formParts := t.formParts.filter (fun x => ! x.last) })).finish k.val 0x0201 St.quotaExceeded [], m)
      else if d.formPlaceOk base n then d.formInstall m k.val base p
      else (d, m))

/-- FORM_DELETE (R194, R195, R365). -/
def execFormDelete (k : Fin 8) : State → Out := onAll (runFrame 0x0202 anyFrame (fun _ f => f.len == 4 && f.zero 2 3) noHold
  (fun d _ f =>
    if bit (f.h 0) 15 && k.val != 0 then St.notPermitted
    else if (d.formSeen k.val (f.h 0)).isNone then St.formNotFound
    else if d.formInUse k.val (f.h 0) then St.formInUse else 0)
  (fun f d m =>
    let o := formOwner k.val (f.h 0)
    let d1 := d.formEvict o (f.h 0)
    (({ d1 with forms := d1.forms.filter (fun x => ! (x.owner == o && x.id == f.h 0)) } : Dev).answer k.val f St.ok [], m)) k.val)

/-- Insert a form in FORM_ID order. -/
def insForm (g : Form) : List Form → List Form
  | [] => [g]
  | x :: xs => if g.id ≤ x.id then g :: x :: xs else x :: insForm g xs

/-- FORM_LIST: the forms the tenant sees, in FORM_ID order. -/
def execFormList (k : Fin 8) : State → Out := onAll (runFrame 0x0203 anyFrame (lenIs 0) noHold noPre
  (fun f d m =>
    let seen := if d.formArea.2 = 0 then [] else d.forms.filter (fun g => g.owner == 8 || g.owner == k.val)
    let sorted := seen.foldl (fun l g => insForm g l) []
    (d.answer k.val f St.ok (sorted.flatMap (fun g => leBytes 2 g.id ++ leBytes 1 g.bpp ++ leBytes 1 g.bandH ++ leBytes 4 g.size)), m)) k.val)

end Sys2Proof.Machine
end

