-- ==== Sys2Proof/Machine/JobCmds.lean ====
section
/-! DEFINITION. Jobs, sheets and data (spec/04_commands.md, R176 to R191): JOB_START, SHEET_DEFINE, DATA, DATA_DMA, JOB_END, JOB_CANCEL and
JOB_STATUS. -/

set_option linter.unusedVariables false

namespace Sys2Proof.Machine

/-! ### JOB_START -/

/-- The form of a JOB_START payload (Table 4-6). -/
def jobForm (d : Dev) (f : Frame) : Bool :=
  f.len == 16 && f.b 1 == 0 && f.zero 6 7 && f.zero 11 15 && f.b 0 ≤ 1 && f.b 3 ≤ 3 && f.h 4 % 8 == 0 && 8 ≤ f.h 4 &&
  (if f.b 0 = 0 then [1, 2, 4].contains (f.b 2) && f.h 4 ≤ 5120 && f.h 8 == 0 && f.b 10 == 0
   else f.b 2 == 1 && f.h 4 ≤ d.get Reg.HD_CFG_DOTS && 1 ≤ f.h 8 && f.h 8 ≤ 2400 && 50 ≤ f.b 10 && f.b 10 ≤ 150)

/-- The number after `n`, modulo 2^16, without 0. -/
def jobAfter (n : Nat) : Nat := if (n + 1) % 65536 = 0 then 1 else (n + 1) % 65536

/-- The first number from `n` on that is not in use (R177); a tenant holds at most 8 jobs. -/
def freeJob (used : List Nat) : Nat → Nat → Nat
  | 0, n => n
  | f + 1, n => if used.contains n then freeJob used f (jobAfter n) else n

/-- A new job of a JOB_START payload. -/
def newJob (f : Frame) (num epoch : Nat) : Job :=
  { num := num, thermal := f.b 0 == 1, bpp := f.b 2, bandH := f.b 3, width := f.h 4, rate := f.h 8, energy := f.b 10, state := 0, cut := 0,
    defined := 0, final := 0, printed := 0, epoch := epoch, stream := Stream.empty, waiting := false, told := false }

/-- JOB_START (R176, R177): a receipt waits for the thermal scheduler from its response on. -/
def execJobStart (k : Fin 8) : State → Out := onAll (runFrame 0x0101 anyFrame jobForm noHold
  (fun d _ f => if d.lacks (f.b 0) then St.notReady else if d.jobMax k.val ≤ (d.ten k.val).jobs.length then St.quotaExceeded else 0)
  (fun f d m =>
    let t := d.ten k.val
    let n := freeJob (t.jobs.map (·.num)) 8 t.nextJob
    let d1 := d.modTen k.val (fun t => { t with jobs := t.jobs ++ [newJob f n t.epoch], nextJob := jobAfter n })
    (d1.answerAct k.val f St.ok (leBytes 2 n ++ leBytes 2 t.epoch) (if f.b 0 = 1 then 4 else 0) n, m)) k.val)

/-! ### SHEET_DEFINE -/

/-- Layer descriptor `l` of a SHEET_DEFINE payload (Table 4-8). -/
def sheetLayer (f : Frame) (l : Nat) : LayerDesc :=
  let o := 16 + 8 * l
  ⟨f.b o, f.b (o + 1), bit (f.b (o + 2)) 0, bit (f.b (o + 2)) 1, f.b (o + 3), f.h (o + 4)⟩

/-- The form of layer descriptor `l`. -/
def layerForm (f : Frame) (l : Nat) : Bool :=
  let o := 16 + 8 * l
  let y := sheetLayer f l
  y.source ≤ 4 && y.rop ≤ 3 && f.b (o + 2) / 4 == 0 && f.zero (o + 6) (o + 7) &&
  (if y.encrypted then 1 ≤ y.keySlot && y.keySlot ≤ 15 else y.keySlot == 0) &&
  (match y.source with
   | 1 => true
   | 4 => y.arg < 16
   | _ => y.arg == 0)

/-- The form of a SHEET_DEFINE payload (Table 4-7). -/
def sheetForm (_ : Dev) (f : Frame) : Bool :=
  48 ≤ f.len && f.len == 48 + 4 * f.h 10 && f.zero 12 15 && 1000 ≤ f.h 4 && f.h 4 ≤ 6000 && f.h 6 ≤ 500 && 1 ≤ f.h 8 &&
  (List.range 4).all (layerForm f)

/-- The layers of a SHEET_DEFINE payload. -/
def sheetLayers (f : Frame) : List LayerDesc := (List.range 4).map (sheetLayer f)

/-- Band count of a SHEET_DEFINE for a job. -/
def sheetBands (f : Frame) (j : Job) : Nat := ceilDiv (f.h 8) (bandLines j.bandH)

/-- The preconditions of SHEET_DEFINE (R178, R179, R356, R175). A job that is thermal, ended or cancelled is out of range for JOB
(DEDUCED, log entry 25). -/
def Dev.sheetPre (d : Dev) (k : Nat) (f : Frame) : Nat :=
  match d.job? k (f.h 0) with
  | none => St.jobNotFound
  | some j =>
    let ls := sheetLayers f
    if j.thermal ∨ j.state ≠ 0 ∨ f.h 2 ≠ j.defined ∨ ls.all (·.source == 0) ∨ ls.any (fun y => y.encrypted && y.source != 2) ∨
        600 * f.h 4 < 600 * f.h 6 + 254 * f.h 8 ∨ 1024 < sheetBands f j ∨ (f.h 10 ≠ 0 ∧ f.h 10 ≠ sheetBands f j) ∨
        ls.any (fun y => y.source == 4 && decide (2 ^ j.bpp ≤ y.arg)) then St.badPayload
    else
      let forms := ls.filterMap (fun y => if y.source = 1 then some (d.formSeen k y.arg) else none)
      if forms.any (·.isNone) then St.formNotFound
      else if forms.any (fun o => o.any (fun g => g.bpp != j.bpp || g.width != j.width || g.bandH != j.bandH)) then St.badPayload
      else if ls.any (·.encrypted) && d.lacks 2 then St.notReady
      else 0

/-- A new sheet of a SHEET_DEFINE payload. -/
def newSheet (f : Frame) (k : Nat) (j : Job) : Sheet :=
  { tenant := k, epoch := j.epoch, job := j.num, index := f.h 2, bpp := j.bpp, bandH := j.bandH, width := j.width, length := f.h 4,
    top := f.h 6, lines := f.h 8, sizes := (List.range (f.h 10)).map (fun b => f.w (48 + 4 * b)), layers := sheetLayers f,
    streams := List.replicate 4 Stream.empty, placed := false, state := .queued, token := 0, spoil := false, atRisk := false,
    integrity := false, revoked := false, cancelled := false, gear := 0, blank := false, released := false, order := 0, heldAt := 0,
    selected := false, tRel := 0, failCheck := 0, decided := 0, voided := [], voidFrom := [], omitted := [], failed := [] }

/-- SHEET_DEFINE (R180): the sheet is QUEUED when the response is placed. -/
def execSheetDefine (k : Fin 8) : State → Out := onAll (fun d m =>
  let r := runFrame 0x0102 anyFrame sheetForm noHold (fun d _ f => d.sheetPre k.val f) (fun f d m =>
    match d.job? k.val (f.h 0) with
    | none => (d, m)
    | some j =>
      let d1 := (({ d with sheets := d.sheets ++ [newSheet f k.val j] } : Dev).modJob k.val j.num (fun x => { x with defined := x.defined + 1 }))
      (d1.answerAct k.val f St.ok (leBytes 2 (sheetBands f j)) 1 (j.num * 65536 + f.h 2), m)) k.val d m
  (r.1.noticeQueued d, r.2))

/-! ### DATA -/

/-- Whether a DATA_DMA chain feeds this layer stream now. -/
def Dev.chainFeeds (d : Dev) (k j i l : Nat) : Bool :=
  d.dma.any (fun c => match c.chain with
    | some h => ! h.ended && h.ten == k && h.epoch == (d.ten k).epoch && h.job == j && h.index == i && h.layer == l
    | none => false)

/-- The layer stream a DATA or DATA_DMA frame names, or the status that refuses it (R184, R185). A defined sheet that has no record any
more has reached its final state or was removed. -/
def Dev.dataStream (d : Dev) (k : Nat) (f : Frame) : Except Nat Stream :=
  match d.job? k (f.h 0) with
  | none => .error St.jobNotFound
  | some j =>
    if j.thermal then
      if f.h 2 ≠ 0 ∨ f.b 4 ≠ 0 ∨ j.stream.last then .error St.badPayload else .ok j.stream
    else if j.defined ≤ f.h 2 then .error St.badPayload
    else match d.sheet? k (f.h 0) (f.h 2) with
    | none => .error St.tooLate
    | some s =>
      if 4 ≤ f.b 4 ∨ (s.layer (f.b 4)).source ≠ 2 ∨ (s.stream (f.b 4)).last then .error St.badPayload
      else if s.state.final then .error St.tooLate
      else .ok (s.stream (f.b 4))

/-- New extents a stream needs to grow to `n` bytes. -/
def Stream.needs (s : Stream) (n : Nat) : Nat := extsFor n - s.exts.length

/-- Extents of PSRAM that no stream uses. -/
def Dev.extsFree (d : Dev) : Nat := d.psramSize / 65536 - d.extsUsed.eraseDups.length

/-- R76: `n` more bytes of a stream stay within the quota; PSRAM itself can be short only where the quotas exceed it (R77). -/
def Dev.spoolCheck (d : Dev) (k : Nat) (s : Stream) (n : Nat) : Nat :=
  if d.spoolQuota k < d.spoolUsed k + n ∨ d.extsFree < s.needs (s.len + n) then St.quotaExceeded else 0

/-- Change the stream a frame names. -/
def Dev.modStream (d : Dev) (k j i l : Nat) (g : Stream → Stream) : Dev :=
  if (d.job? k j).any (·.thermal) then d.modJob k j (fun x => { x with stream := g x.stream })
  else d.modSheets (·.is k (d.ten k).epoch j i) (fun s => { s with streams := lmod s.streams l g })

/-- The stream a frame names is walked anew after it has grown (R343). -/
def Dev.walkStream (d : Dev) (m : Mem) (k j i l : Nat) : Dev :=
  if (d.job? k j).any (·.thermal) then d.walkJob m k j else d.walkSheet m k (d.ten k).epoch j i l

/-- The extents the firmware has chosen for a stream that grows to `n` bytes are what it needs. -/
def Dev.extsFit (d : Dev) (s : Stream) (n : Nat) (es : List Nat) : Bool := es.length == s.needs n && d.extsOk es

/-- DATA (R182 to R185, R76): the bytes join the layer's stream in the extents `es`, which the firmware chooses; the response gives the
bytes stored. While a DATA_DMA chain feeds the layer the command waits its turn (DESIGN CHOICE, log entry 25). -/
def execData (k : Fin 8) (es : List Nat) : State → Out := onAll (runFrame 0x0103 anyFrame
  (fun _ f => 8 ≤ f.len && f.len ≤ 65536 && f.b 5 / 2 == 0 && f.zero 6 7)
  (fun d _ f => d.chainFeeds k.val (f.h 0) (f.h 2) (f.b 4) || (match d.dataStream k.val f with
    | .ok s => ! d.extsFit s (s.len + (f.len - 8)) es
    | .error _ => false))
  (fun d _ f => match d.dataStream k.val f with
    | .error e => e
    | .ok s => d.spoolCheck k.val s (f.len - 8))
  (fun f d m =>
    match d.dataStream k.val f with
    | .error _ => (d, m)
    | .ok s =>
      let bs := f.payload.drop 8
      let s1 := { s with exts := s.exts ++ es }
      let m1 := s1.write m s.len bs
      let d1 := (d.ingest k.val bs.length).modStream k.val (f.h 0) (f.h 2) (f.b 4) (fun t => { t with
        exts := t.exts ++ es, len := t.len + bs.length, last := bit (f.b 5) 0 })
      ((d1.walkStream m1 k.val (f.h 0) (f.h 2) (f.b 4)).answer k.val f St.ok (leBytes 4 (s.len + bs.length)), m1)) k.val)

/-! ### DATA_DMA -/

/-- The chain of PORT_IN descriptors for `n` bytes at stream offset `o`: one for each extent touched (R187, R296). `n` bounds the number. -/
def chainDescs (s : Stream) (port tag : Nat) (bar : Bool) : Nat → Nat → Nat → List (List Nat)
  | 0, _, _ => []
  | fuel + 1, o, n =>
    if n = 0 then []
    else
      let c := min n (65536 - o % 65536)
      let fin := n == c
      [1 + (if fin then 32 + 16 * b2n bar else 0) + tag * 65536, port, s.addr o, c, 0, 0] :: chainDescs s port tag bar fuel (o + c) (n - c)

/-- Preconditions of DATA_DMA (R161, R184 to R186, R76): the channel the command names is the tenant's (Table 4-10, status DEDUCED, log
entry 25), and carries no chain. -/
def Dev.dmaPre (d : Dev) (k : Nat) (f : Frame) : Nat :=
  if 8 < f.ch then St.notPermitted
  else match d.dataStream k f with
  | .error e => e
  | .ok s =>
    if d.dmaOwner.getD (f.b 5) 0xF ≠ k then St.notPermitted
    else if ! d.canDefer k 0x0104 || (match (d.dch (f.b 5)).chain with
        | some h => ! h.ended
        | none => false) then St.busy
    else d.spoolCheck k s (f.w 8)

/-- DATA_DMA (R186 to R188): the firmware builds the chain in the extents `es` and posts what the queue has room for; the channel's port
takes COUNT bytes as raw data from here on (DEDUCED, log entry 25: the response, which completes the command, comes after them). -/
def execDataDma (k : Fin 8) (es : List Nat) : State → Out := onAll (runFrame 0x0104 anyFrame
  (fun _ f => f.len == 12 && f.zero 6 7 && 4 ≤ f.b 5 && f.b 5 ≤ 15 && 1 ≤ f.w 8 && f.w 8 ≤ 2 ^ 26)
  (fun d _ f => match d.dataStream k.val f with
    | .ok s => ! d.extsFit s (s.len + f.w 8) es
    | .error _ => false)
  (fun d _ f => d.dmaPre k.val f)
  (fun f d m =>
    match d.dataStream k.val f with
    | .error _ => (d, m)
    | .ok s =>
      let c := f.b 5
      let s1 := { s with exts := s.exts ++ es }
      let ws := chainDescs s1 f.ch f.seq (d.flag (Reg.DCH_CTL_END_BAR c)) 1025 s.len (f.w 8)
      let h : DChain := ⟨k.val, (d.ten k.val).epoch, f.seq, f.h 0, f.h 2, f.b 4, s.len, 0, 0, 0, false, false, false, ws, s1.exts⟩
      let d1 := (d.defer k.val f [c] []).modStream k.val (f.h 0) (f.h 2) (f.b 4) (fun t => { t with exts := t.exts ++ es })
      let d2 := (d1.modDch c (fun x => { x with chain := some h })).modChan f.ch (fun x => { x with dmaLeft := f.w 8 })
      Dev.chainPost 16 c d2 m) k.val)

/-- DATA_DMA_DONE (R188, R299, R304): the chain of channel `c` has retired; the response gives the bytes stored. -/
def execDataDmaDone (c : Fin 16) : State → Out := onDev (fun d =>
  match (d.dch c.val).chain with
  | none => d
  | some h =>
    if ! h.ended || h.answered then d
    else
      let d1 := d.modDch c.val (fun x => { x with chain := some { h with answered := true } })
      match d1.deferred? h.ten 0x0104 with
      | some x => if x.seq = h.seq ∧ (d1.ten h.ten).epoch = h.epoch then d1.finish h.ten 0x0104 h.status (leBytes 4 h.stored) else d1
      | none => d1)

/-! ### JOB_END, JOB_CANCEL and JOB_STATUS -/

/-- The form of JOB_END (Table 4-11). -/
def jobEndForm (d : Dev) (f : Frame) : Bool := f.len == 4 && f.b 3 == 0 && f.b 2 ≤ 2

/-- The job a command names must be in use; a laser job takes no CUT. -/
def Dev.jobPre (d : Dev) (k : Nat) (f : Frame) (cut : Nat) : Nat :=
  match d.job? k (f.h 0) with
  | none => St.jobNotFound
  | some j => if ! j.thermal && cut != 0 then St.badPayload else 0

/-- The receipt in progress is that of job `j` of tenant `k`. -/
def Dev.rcptIs (d : Dev) (k j : Nat) : Bool := d.rcpt == some (k, (d.ten k).epoch, j)

/-- JOB_END (R189, R674): the job takes no more sheets; a receipt whose lines are done goes on to its feed and cut. -/
def execJobEnd (k : Fin 8) : State → Out := onAll (runFrame 0x0105 anyFrame jobEndForm noHold
  (fun d _ f => d.jobPre k.val f (f.b 2))
  (fun f d m =>
    let n := f.h 0
    match d.job? k.val n with
    | none => (d, m)
    | some j =>
      let d0 := d.answer k.val f St.ok []
      if j.state ≠ 0 then (d0, m)
      else
        let d1 := d0.modJob k.val n (fun x => { x with state := 1, cut := f.b 2 })
        let d2 := if d1.rcptIs k.val n && d1.head.waiting then
            match d1.job? k.val n with
            | some x => d1.receiptTail x
            | none => d1
          else d1
        (d2.jobCheck k.val n, m)) k.val)

/-- Remove the QUEUED sheets of a job. -/
def Dev.dropQueued (d : Dev) (k j : Nat) : Dev :=
  let mine := fun (s : Sheet) => s.tenant == k && s.epoch == (d.ten k).epoch && s.job == j && s.state == .queued
  let d1 := (d.sheets.filter mine).foldl (fun d s => d.dropSheetWork s) d
  { d1 with sheets := d1.sheets.filter (fun s => ! mine s) }

/-- Sheets of tenant `k`'s job `n` that satisfy `p`. -/
def Dev.sheetsOf (d : Dev) (k n : Nat) (p : Sheet → Bool) : Nat :=
  (d.sheets.filter (fun s => s.is k (d.ten k).epoch n s.index && p s)).length

/-- JOB_CANCEL's effect on the job: QUEUED sheets are removed, STAGED and HELD ones will fail commit check 4, and a receipt that still waits
is removed (DEDUCED, log entry 25). -/
def Dev.cancelJob (d : Dev) (k n : Nat) : Dev :=
  let d1 := (d.dropQueued k n).modSheets (fun s => s.is k (d.ten k).epoch n s.index && (s.state == .staged || s.state == .held))
    (fun s => { s with cancelled := true })
  d1.modJob k n (fun x => { x with state := 2, waiting := if d1.rcptIs k n then x.waiting else false })

/-- The counts a JOB_CANCEL response gives: sheets removed, sheets that will come out blank, and sheets that complete. -/
def Dev.cancelCounts (d : Dev) (k n : Nat) : List Byte :=
  leBytes 2 (d.sheetsOf k n (·.state == .queued)) ++
  leBytes 2 (d.sheetsOf k n (fun s => s.state == .staged || s.state == .held)) ++
  leBytes 2 (d.sheetsOf k n (·.state.committedOn))

/-- JOB_CANCEL: committed sheets complete (R51), and a receipt in progress stops at its next line boundary. -/
def execJobCancel (k : Fin 8) : State → Out := onAll (runFrame 0x0106 anyFrame
  (fun _ f => f.len == 4 && f.zero 2 3) noHold (fun d _ f => d.jobPre k.val f 0)
  (fun f d m =>
    let n := f.h 0
    let d1 := (d.cancelJob k.val n).answer k.val f St.ok (d.cancelCounts k.val n)
    let d2 := if d1.rcptIs k.val n then d1.receiptStop else d1
    ((d2.jobCheck k.val n).queueChanged, m)) k.val)

/-- The bytes of a job in the spool (Table 4-12). -/
def Dev.jobSpool (d : Dev) (k : Nat) (j : Job) : Nat :=
  (d.sheets.filter (fun s => s.tenant == k && s.epoch == j.epoch && s.job == j.num)).foldl
    (fun n s => s.streams.foldl (fun n x => n + x.bytesHeld) n) j.stream.len

/-- JOB_STATUS (Table 4-12). A receipt counts as one sheet, as Table 4-14 counts it (DEDUCED, log entry 25). -/
def execJobStatus (k : Fin 8) : State → Out := onAll (runFrame 0x0107 anyFrame (lenIs 2) noHold
  (fun d _ f => d.jobPre k.val f 0)
  (fun f d m =>
    match d.job? k.val (f.h 0) with
    | none => (d, m)
    | some j => (d.answer k.val f St.ok (leBytes 1 (b2n j.thermal) ++ leBytes 1 j.state ++ leBytes 2 (if j.thermal then 1 else j.defined) ++
        leBytes 2 j.final ++ leBytes 2 j.printed ++ leBytes 4 (d.jobSpool k.val j)), m)) k.val)

end Sys2Proof.Machine
end

