-- ==== Sys2Proof/Machine/MiscCmds.lean ====
section
/-! DEFINITION. The other commands of spec/04_commands.md: FEED, ENGINE_CTL, CALIBRATE, life counters, sealed reports, events, register
access, keys, random numbers and PATCH_PUSH. -/

set_option linter.unusedVariables false

namespace Sys2Proof.Machine

/-! ### FEED -/

/-- Preconditions of FEED: the cause of BLOCKED, a receipt or a state other than IDLE, a further FEED (R161). -/
def Dev.feedPre (d : Dev) (k : Nat) : Nat :=
  if d.lacks 1 then St.notReady
  else if d.thermalState = ThmSt.blocked ∧ bit (d.get Reg.HD_STAT_GATE) 0 then St.coverOpen
  else if d.thermalState = ThmSt.blocked ∧ bit (d.get Reg.HD_STAT_GATE) 1 then St.mediaOut
  else if d.thermalState ≠ ThmSt.idle ∨ d.rcpt.isSome ∨ ! d.canDefer k 0x0301 then St.busy
  else 0

/-- A feed of `n` lines and a cut for tenant `k` begin; nothing to do completes at once. -/
def Dev.feedBegin (d : Dev) (k n cut : Nat) : Dev :=
  let d1 := (d.setThm ThmSt.printing 0).modHead (fun h => { h with cutKind := cut, cutMade := 0 })
  if n ≠ 0 then d1.feedStart n (.feed k)
  else if cut ≠ 0 then (d1.modHead (fun h => { h with job := .feed k })).cutStart cut
  else (d1.setThm ThmSt.idle 0).finish k 0x0301 St.ok []

/-- FEED: the platen runs LINES lines, the cut follows, and the command completes after both (R675, Table 15-1). -/
def execFeed (k : Fin 8) : State → Out := onAll (runFrame 0x0301 anyFrame
  (fun _ f => f.len == 4 && f.h 0 ≤ 4000 && f.b 2 ≤ 2 && f.b 3 == 0) noHold (fun d _ _ => d.feedPre k.val)
  (fun f d m => ((d.defer k.val f [f.h 0, f.b 2] []).feedBegin k.val (f.h 0) (f.b 2), m)) k.val)

/-! ### ENGINE_CTL -/

/-- The form of ENGINE_CTL. -/
def engineForm (_ : Dev) (f : Frame) : Bool := f.len == 4 && f.b 0 == 0 && f.zero 2 3 && (f.b 1 == 1 || f.b 1 == 2)

/-- ENGINE_CTL with ACTION 1: a warm-up from COLD or COOLING; from any other state it changes nothing. Every ENGINE_CTL frame but one of
ACTION 2 is answered here. -/
def execEngineCtlWarm (k : Fin 8) : State → Out := onAll (runFrame 0x0302 (fun f => f.b 1 != 2) engineForm noHold
  (fun d _ _ => if d.lacks 0 then St.notReady else 0)
  (fun f d m =>
    let d1 := if d.laserState = LasSt.cold ∨ d.laserState = LasSt.cooling then d.setLas LasSt.warming else d
    (d1.answer k.val f St.ok [], m)) k.val)

/-- ENGINE_CTL with ACTION 2: READY moves to COOLING, unless a token is in the path or a sheet is QUEUED. From another state nothing moves
(DEDUCED, log entry 25). -/
def execEngineCtlCool (k : Fin 8) : State → Out := onAll (runFrame 0x0302 (fun f => f.b 1 == 2) engineForm noHold
  (fun d _ _ => if d.lacks 0 then St.notReady else if ! d.pathEmpty || d.anyQueued then St.busy else 0)
  (fun f d m =>
    let d1 := if d.laserState = LasSt.ready then d.setLas LasSt.cooling else d
    (d1.answer k.val f St.ok [], m)) k.val)

/-! ### CALIBRATE (R196, Table 23-2) -/

/-- Preconditions of CALIBRATE with CAL `c`. -/
def Dev.calPre (d : Dev) (k c : Nat) (f : Frame) : Nat :=
  if (c ≠ 3 ∧ d.lacks (if c = 2 then 1 else 0)) then St.notReady
  else if ! d.canDefer k 0x0401 then St.busy
  else if ! bit (f.b 1) 0 && ! d.calIdle c then St.busy
  else 0

/-- A CALIBRATE with CAL `c`: it is deferred, and the calibration starts as a background task (R938). -/
def calibrate (c k : Nat) (sel : Frame → Bool) (d : Dev) (m : Mem) : Dev × Mem :=
  runFrame 0x0401 sel (fun _ f => f.len == 4 && 1 ≤ f.b 0 && f.b 0 ≤ 4 && f.b 1 / 2 == 0 && f.zero 2 3) noHold
    (fun d _ f => d.calPre k c f) (fun f d m => ((d.defer k f [c, f.b 1] []).bgFall 8, m)) k d m

/-- CALIBRATE 1; a CALIBRATE frame that names none of 2, 3 and 4 is answered here. -/
def execFacetRelearn (k : Fin 8) : State → Out := onAll (calibrate 1 k.val (fun f => ! [2, 3, 4].contains (f.b 0)))

/-- CALIBRATE 2. -/
def execHeadResistance (k : Fin 8) : State → Out := onAll (calibrate 2 k.val (fun f => f.b 0 == 2))

/-- CALIBRATE 3. -/
def execHoldupCal (k : Fin 8) : State → Out := onAll (calibrate 3 k.val (fun f => f.b 0 == 3))

/-- CALIBRATE 4. -/
def execLaserPowerCurve (k : Fin 8) : State → Out := onAll (calibrate 4 k.val (fun f => f.b 0 == 4))

/-! ### Life counters and sealed reports -/

/-- Life counters from index `i`, 8 bytes each (R958). -/
def Dev.lifeEntries (d : Dev) (i n : Nat) : List Byte := (List.range n).flatMap (fun j => leBytes 8 (d.life.value.getD (i + j) 0))

/-- COUNTERS_READ. -/
def execCountersRead (k : Fin 8) : State → Out := onAll (runFrame 0x0501 anyFrame
  (fun _ f => f.len == 4 && 1 ≤ f.b 2 && f.b 2 ≤ 64 && f.b 3 == 0 && f.h 0 + f.b 2 ≤ 24) noHold noPre
  (fun f d m => (d.answer k.val f St.ok (d.lifeEntries (f.h 0) (f.b 2)), m)) k.val)

/-- The body of a sealed report (Table 20-3). -/
def Dev.sealBody (d : Dev) (k kind : Nat) : List Byte :=
  match kind with
  | 0 => d.lifeEntries 0 24
  | 1 => buildBytes ++ leBytes 1 (d.otpWord 259 % 4) ++ leBytes 4 (d.reg Reg.BT_FEATURE) ++ leBytes 4 (d.reg Reg.BT_BUNDLE) ++
      leBytes 2 (d.get Reg.BT_PATCH_LAST) ++ leBytes 1 (d.get Reg.BT_SECVER_SENSED) ++ leBytes 1 (d.get Reg.BT_SECVER_BUNDLE) ++
      leBytes 1 (d.get Reg.OTP_STAT_PASSED) ++ leBytes 1 (d.get Reg.OTP_STAT_LOCKED) ++ leBytes 1 (d.get Reg.OTP_STAT_DBG_LOCKED) ++
      leBytes 1 d.devState ++ leBytes 4 (d.reg Reg.TRIP_REC) ++ zeros 8
  | _ => (List.range 10).flatMap (fun i => leBytes 4 ((d.ten k).stats.getD i 0))

/-- A sealed report (Table 20-2, R877, R878). -/
def Dev.sealReport (d : Dev) (k kind : Nat) (nonce : List Byte) : List Byte :=
  let body := d.sealBody k kind
  let r := leBytes 4 0x534B5245 ++ [1] ++ leBytes 1 kind ++ leBytes 1 k ++ [0] ++ leBytes 2 (d.ten k).epoch ++ leBytes 2 body.length ++
    leBytes 4 (d.reportSeq + 1) ++ leBytes 4 d.now ++ d.uid ++ nonce ++ zeros 4 ++ body
  r ++ hmac256 d.sealKey r

/-- SEALED_REPORT: the report is taken when the command executes, and its response comes later (R879). -/
def execSealedReport (k : Fin 8) : State → Out := onAll (runFrame 0x0502 anyFrame
  (fun _ f => f.len == 20 && f.b 16 ≤ 2 && f.zero 17 19) noHold
  (fun d _ _ => if d.canDefer k.val 0x0502 then 0 else St.busy)
  (fun f d m =>
    (({ d with reportSeq := d.reportSeq + 1 } : Dev).defer k.val f [] (d.sealReport k.val (f.b 16) (f.payload.take 16)), m)) k.val)

/-- SEALED_REPORT_DONE (R879). -/
def execSealedReportDone (k : Fin 8) : State → Out := onDev (fun d =>
  match d.deferred? k.val 0x0502 with
  | some x => d.finish k.val 0x0502 St.ok x.bytes
  | none => d)

/-! ### Events (Table 4-16, R197 to R199, R1016) -/

/-- Records from a sequence number on, oldest first: at most `n` visible readable ones; answers them, whether an unreadable one was passed,
and the sequence number that follows the last one returned or passed. -/
def readRing (k : Nat) : Nat → Nat → List RingRec → List RingRec × Bool × Nat
  | 0, next, _ => ([], false, next)
  | _, next, [] => ([], false, next)
  | n + 1, next, r :: rs =>
    if r.bad then
      let x := readRing k (n + 1) ((r.seq + 1) % 2 ^ 32) rs
      (x.1, true, x.2.2)
    else if r.ev.visible k then
      let x := readRing k n ((r.seq + 1) % 2 ^ 32) rs
      (r :: x.1, x.2.1, x.2.2)
    else readRing k (n + 1) next rs

/-- The records of the ring from FROM_SEQ on, oldest first. -/
def Dev.ringFrom (d : Dev) (s : Nat) : List RingRec :=
  let age := fun (x : Nat) => (d.reg Reg.EVT_LAST + 2 ^ 32 - x) % 2 ^ 32
  if 2 ^ 31 ≤ age s then [] else (d.spine.ring.filter (fun r => age r.seq ≤ age s)).reverse

/-- EVENT_READ. -/
def execEventRead (k : Fin 8) : State → Out := onAll (runFrame 0x0601 anyFrame
  (fun _ f => f.len == 8 && 1 ≤ f.b 4 && f.b 4 ≤ 64 && f.zero 5 7) noHold noPre
  (fun f d m =>
    let (rs, bad, next) := readRing k.val (f.b 4) (f.w 0) (d.ringFrom (f.w 0))
    (d.answer k.val f St.ok (leBytes 4 next ++ leBytes 1 rs.length ++ leBytes 1 (b2n (bad || d.seqGone (f.w 0))) ++ zeros 2 ++
      rs.flatMap RingRec.bytes), m)) k.val)

/-- EVENT_SUBSCRIBE (R197): 7 stops the pushes. -/
def execEventSubscribe (k : Fin 8) : State → Out := onAll (runFrame 0x0602 anyFrame
  (fun _ f => f.len == 4 && f.b 0 ≤ 7 && f.zero 1 3) noHold noPre
  (fun f d m => ((d.modTen k.val (fun t => { t with minSev := f.b 0, skipped := 0 })).answer k.val f St.ok [], m)) k.val)

/-! ### Register access (R200 to R202) -/

/-- The head of a register command: ADDR aligned, COUNT 1 to 16, reserved bytes 0. -/
def regHead (f : Frame) : Bool := f.w 0 % 4 == 0 && 1 ≤ f.b 4 && f.b 4 ≤ 16 && f.zero 5 7

/-- The completed writes a read of `n` words waits for. -/
def Dev.readTarget (d : Dev) (k a n : Nat) : Nat := (readAddrs a n).foldl (fun t x => max t (d.readAfter k x)) 0

/-- REG_READ (R200, R218 to R220): words that are there are answered at once; else the command waits for them. -/
def execRegRead (k : Fin 8) : State → Out := onAll (runFrame 0x0701 anyFrame (fun _ f => f.len == 8 && regHead f) noHold
  (fun d _ f => if ! d.canDefer k.val 0x0701 then St.busy
    else if (readAddrs (f.w 0) (f.b 4)).all (d.readOk k.val) then 0 else St.notPermitted)
  (fun f d m =>
    let n := f.b 4
    if (readAddrs (f.w 0) n).all (d.readReady k.val) then
      let (ws, d1) := Dev.readRegs m (.tenant k.val) n (f.w 0) d
      (d1.answer k.val f St.ok (wordBytes ws), m)
    else (d.defer k.val f [f.w 0, n, d.readTarget k.val (f.w 0) n] [], m)) k.val)

/-- REG_READ_DONE (R219, R220): the writes the deferred read waits for are complete, and its pages answer. -/
def execRegReadDone (k : Fin 8) : State → Out := onAll (fun d m =>
  match d.deferred? k.val 0x0701 with
  | none => (d, m)
  | some x =>
    let a := x.args.getD 0 0
    let n := x.args.getD 1 0
    if x.args.getD 2 0 ≤ (d.br k.val).done ∧ (readAddrs a n).all d.answers then
      let (ws, d1) := Dev.readRegs m (.tenant k.val) n a d
      (d1.finish k.val 0x0701 St.ok (wordBytes ws), m)
    else (d, m))

/-- REG_WRITE (R201, R202, R224): the words are posted in address order; while the write queue lacks room, or earlier words of the tenant
wait in the SPI buffer, the command waits. -/
def execRegWrite (k : Fin 8) : State → Out := onAll (runFrame 0x0702 anyFrame
  (fun _ f => 8 ≤ f.len && regHead f && f.len == 8 + 4 * f.b 4)
  (fun d _ f => decide (d.brRoom k.val < f.b 4) || ((d.chan 8).bind == some k.val && ! d.ports.wbuf.isEmpty)) noPre
  (fun f d m => ((Dev.postWords k.val (f.w 0) (wordsOf (f.payload.drop 8)) d).answer k.val f St.ok [], m)) k.val)

/-- REG_FENCE (R231): the value of WRITE_FENCE once every earlier write of the tenant is complete. -/
def execRegFence (k : Fin 8) : State → Out := onAll (runFrame 0x0703 anyFrame (lenIs 0) noHold
  (fun d _ _ => if d.canDefer k.val 0x0703 then 0 else St.busy)
  (fun f d m =>
    let n := (d.outstanding k.val).length
    (if n = 0 then d.answer k.val f St.ok (leBytes 4 (d.fenceWord k.val))
     else (d.defer k.val f [] []).modBr k.val (fun b => { b with fences := b.fences ++ [⟨0, f.seq, b.done + n⟩] }), m)) k.val)

/-! ### Keys and random numbers -/

/-- Preconditions of KEY_LOAD (R203, R853). -/
def Dev.keyLoadPre (d : Dev) (k : Nat) (f : Frame) : Nat :=
  if f.b 0 = 0 ∨ d.keyOwner (f.b 0) ≠ k then St.notPermitted
  else if f.b 2 ≠ 0 ∧ d.keyOwner (f.b 2) ≠ k then St.notPermitted
  else if f.b 2 ≠ 0 ∧ (d.key (f.b 2)).typ ≠ 1 then St.keyEmpty
  else 0

/-- The AAD of a KEY_LOAD. -/
def Dev.keyAad (d : Dev) (k : Nat) (f : Frame) : List Byte := f.payload.take 4 ++ d.uid ++ leBytes 1 k ++ zeros 3

/-- The key that unwraps a KEY_LOAD (R852). -/
def Dev.wrapKey (d : Dev) (k : Nat) (f : Frame) : List Byte := if f.b 2 = 0 then d.transportKey k else (d.key (f.b 2)).key

/-- KEY_LOAD (R203, R852 to R854): the unwrapped key is written when its tag matches; a mismatch is counted and leaves SLOT. -/
def execKeyLoad (k : Fin 8) : State → Out := onAll (runFrame 0x0801 anyFrame
  (fun _ f => f.len == 64 && f.b 0 ≤ 15 && (f.b 1 == 1 || f.b 1 == 2) && f.b 2 ≤ 15 && f.b 3 == 0) noHold
  (fun d _ f => d.keyLoadPre k.val f)
  (fun f d m =>
    let key := d.wrapKey k.val f
    let iv := (f.payload.drop 4).take 12
    let ct := (f.payload.drop 16).take 32
    (if (f.payload.drop 48).take 16 = gcmTag key iv (d.keyAad k.val f) ct then
      (d.loadSlot (f.b 0) (f.b 1) (gcmCrypt key iv ct)).answer k.val f St.ok []
     else ((d.addSat Reg.CR_ERR_UNWRAP_FAIL 1).fireT 0x14 0 k.val 0).answer k.val f St.tagMismatch [], m)) k.val)

/-- KEY_ERASE (R203, R857, R860): the response is placed after the zeroisation. -/
def execKeyErase (k : Fin 8) : State → Out := onAll (runFrame 0x0802 anyFrame
  (fun _ f => f.len == 4 && f.b 0 ≤ 15 && f.zero 1 3) noHold
  (fun d _ f => if f.b 0 = 0 ∨ d.keyOwner (f.b 0) ≠ k.val ∨ ((d.ten k.val).tags ∧ (d.ten k.val).tagSlot = f.b 0) then St.notPermitted else 0)
  (fun f d m =>
    let (d1, m1) := d.eraseSlot m (f.b 0)
    (d1.answer k.val f St.ok [], m1)) k.val)

/-- A KEY_INFO entry. -/
def Dev.keyEntry (d : Dev) (k s : Nat) : List Byte :=
  leBytes 1 (d.keyOwner s) ++ leBytes 1 (if d.keyOwner s = k then (d.key s).typ else 0) ++ leBytes 1 (d.key s).count ++ [0]

/-- KEY_INFO. -/
def execKeyInfo (k : Fin 8) : State → Out := onAll (runFrame 0x0803 anyFrame (lenIs 0) noHold noPre
  (fun f d m => (d.answer k.val f St.ok ((List.range 16).flatMap (d.keyEntry k.val)), m)) k.val)

/-- RANDOM_GET (R868, R875): the request joins the DRBG's queue; with the fault latched it completes at once. -/
def execRandomGet (k : Fin 8) : State → Out := onAll (runFrame 0x0901 anyFrame
  (fun _ f => f.len == 4 && 1 ≤ f.h 0 && f.h 0 ≤ 1024 && f.zero 2 3) noHold
  (fun d _ _ => if d.canDefer k.val 0x0901 then 0 else St.busy)
  (fun f d m =>
    (if d.flag Reg.TR_STAT_LATCHED then (d.addSat Reg.TR_CNT_UNAVAIL 1).answer k.val f St.entropyUnavailable []
     else (d.defer k.val f [f.h 0] []).modTrng (fun t => { t with queue := t.queue ++ [⟨k.val, f.seq, f.h 0⟩] }), m)) k.val)

/-! ### PATCH_PUSH (R204 to R206, R836 to R838) -/

/-- The push a chunk belongs to and what it comes to: the bytes of a push that goes on, or the status that refuses it and whether the push
is abandoned. -/
def Dev.pushChunk (d : Dev) (f : Frame) : Except (Nat × Bool) (List Byte) :=
  let data := f.payload.drop 8
  match d.boot.push with
  | some p =>
    if f.w 0 ≠ p.bytes.length ∨ 98304 < p.bytes.length + data.length then .error (St.badPayload, true) else .ok (p.bytes ++ data)
  | none =>
    if f.w 0 ≠ 0 then .error (St.badPayload, false)
    else if ! d.flag Reg.BT_STAT_WINDOW || d.boot.decided || d.boot.pushed.isSome then .error (St.tooLate, false)
    else .ok data

/-- PATCH_PUSH: a chunk joins the push; LAST hands the bundle over and waits for its verification (R206). -/
def execPatchPush (k : Fin 8) : State → Out := onAll (runFrame 0x0A02 anyFrame
  (fun _ f => 9 ≤ f.len && f.len ≤ 65536 && f.b 4 / 2 == 0 && f.zero 5 7) noHold
  (fun d _ _ => if bit (d.intWord 384) 2 then St.notPermitted else 0)
  (fun f d m =>
    (match d.pushChunk f with
     | .error (st, drop) => (if drop then d.pushAbandon else d).answer k.val f st []
     | .ok bs =>
       if bit (f.b 4) 0 then
         if d.canDefer k.val 0x0A02 then
           ({ d with boot := { d.boot with push := none, pushed := some bs } } : Dev).defer k.val f [] []
         else d.answer k.val f St.busy []
       else (({ d with boot := { d.boot with push := some ⟨k.val, bs, d.now⟩ } } : Dev).set Reg.BT_STAT_PUSHING 1).answer k.val f St.ok [], m))
    k.val)

end Sys2Proof.Machine
end

