-- ==== Sys2Proof/Machine/Tenants.lean ====
section
/-! DEFINITION. Tenants (spec/02_tenants.md): bindings, tenant settings, DMA channel ownership, the ordered steps of a tenant
reset, the keepalive, the snapshots of the books, and the two schedulers. -/

set_option linter.unusedVariables false

namespace Sys2Proof.Machine

/-! ### Bindings (R58 to R64) -/

/-- The binding CHBIND_c holds. -/
def Dev.chbind (d : Dev) (c : Nat) : Option Nat :=
  if d.flag (Reg.CHBIND_BOUND c) then some (d.get (Reg.CHBIND_TENANT c)) else none

/-- The pending binding of channel `c` takes effect (R62, R114): held bytes are discarded as a resync, and the expected SEQ is unset. What
the SPI buffer of channel 8 holds can go on to the bridge. -/
def Dev.bindNow (d : Dev) (c : Nat) (b : Option Nat) : Dev :=
  if b = (d.chan c).bind then d.modChan c (fun x => { x with pend := none })
  else
    let d1 := if ! (d.chan c).rx.isEmpty && ! (d.chan c).inResync then d.addSat (resyncFld c) 1 else d
    let d2 := d1.modChan c (fun x => { x with
      bind := b, pend := none, rx := [], inResync := false, expSeq := none, lastSeq := none })
    if c = 8 then (List.range 8).foldl (fun d _ => d.spiDrain) d2 else d2

/-- A header on channel `c` has passed step 1 and its frame has not ended (R62). -/
def Dev.frameHeld (d : Dev) (c : Nat) : Bool :=
  0 < (d.chan c).skip || (16 ≤ (d.chan c).rx.length && headerOk (((d.chan c).rx.take 16).map (·.1)))

/-- The binding of channel `c` is as CHBIND_c now asks, or waits for the end of a frame. -/
def Dev.bindAsk (d : Dev) (c : Nat) : Dev :=
  if d.frameHeld c then d.modChan c (fun x => { x with pend := some (d.chbind c) }) else d.bindNow c (d.chbind c)

/-- The channel a CHBIND_c address belongs to. -/
def chbindOf (a : Nat) : Option Nat := (List.range 16).find? (fun c => a == Reg.CHBIND c)

/-- CHBIND_WRITE (R56, R62): T0 writes a channel's binding. -/
def execChbindWrite (l : Land) : State → Out := onDev (fun d =>
  d.land l (fun a _ => (chbindOf a).isSome) (fun _ a v d =>
    match chbindOf a with
    | some c => (d.store a v.toNat).bindAsk c
    | none => d))

/-- CHBIND_APPLY (R62): the channel holds no partly received frame any more. -/
def execChbindApply (c : Fin 16) : State → Out := onDev (fun d =>
  match (d.chan c.val).pend with
  | some b => if d.frameHeld c.val then d else d.bindNow c.val b
  | none => d)

/-! ### Settings (R88, R79) -/

/-- The keepalive of a tenant starts anew when KEEPALIVE has changed from `old` (spec/02, "Fault domains"). -/
def Dev.keepAsk (d : Dev) (k old : Nat) : Dev :=
  if d.get (Reg.TCFG_KEEPALIVE k) = old then d else d.modTen k (fun t => { t with keepFrom := d.now })

/-- The tenant a TCFG_k address belongs to. -/
def tcfgOf (a : Nat) : Option Nat := (List.range 8).find? (fun k => a == Reg.TCFG k)

/-- TCFG_WRITE (R56, R88): weights and limits; CREDIT_LIMIT waits for the next SESSION_OPEN. -/
def execTcfgWrite (l : Land) : State → Out := onDev (fun d =>
  d.land l (fun a _ => (tcfgOf a).isSome) (fun _ a v d =>
    match tcfgOf a with
    | some k => (d.store a v.toNat).keepAsk k (d.get (Reg.TCFG_KEEPALIVE k))
    | none => d))

/-- QUOTA_EXCEEDED on the TEN page while the minima add up to more than 96 (R79); its severity is S0 (DESIGN CHOICE, log entry 26). -/
def Dev.gqCheck (d : Dev) : Dev :=
  if 96 < d.gqMinSum then d.faultOn 1 1 St.quotaExceeded (St.sev St.quotaExceeded) 0 else d.faultOff 1 1

/-- GQ_WRITE (R56, R79 to R81). -/
def execGqWrite (l : Land) : State → Out := onDev (fun d =>
  d.land l (fun a _ => (List.range 8).any (fun k => a == Reg.GQ k)) (fun _ a v d => (d.store a v.toNat).gqCheck))

/-! ### Owners of DMA channels (R69, R70) -/

/-- The owner DMA_OWN0 or DMA_OWN1 holds for channel `c`; 8 to 14 act as 0xF. -/
def Dev.dmaWant (d : Dev) (c : Nat) : Nat :=
  let v := if c < 12 then bitsOf (d.reg Reg.DMA_OWN0) (4 * (c - 4)) 4 else bitsOf (d.reg Reg.DMA_OWN1) (4 * (c - 12)) 4
  if 7 < v then 0xF else v

/-- Channel `c` is idle: nothing active and nothing queued. -/
def Dev.dmaIdle (d : Dev) (c : Nat) : Bool := (d.dch c).active.isNone && (d.dch c).queued == 0

/-- The owner written for channel `c` takes effect when the channel is idle (R70). -/
def Dev.dmaOwnAsk (d : Dev) (c : Nat) : Dev :=
  if 4 ≤ c ∧ d.dmaIdle c then { d with dmaOwner := lmod d.dmaOwner c (fun _ => d.dmaWant c) } else d

/-- DMA_OWN_WRITE (R56, R70). -/
def execDmaOwnWrite (l : Land) : State → Out := onDev (fun d =>
  d.land l (fun a _ => a == Reg.DMA_OWN0 || a == Reg.DMA_OWN1) (fun _ a v d =>
    (List.range 16).foldl (fun d c => d.dmaOwnAsk c) (d.store a v.toNat)))

/-- DMA_OWN_APPLY (R70). -/
def execDmaOwnApply (c : Fin 16) : State → Out := onDev (fun d => d.dmaOwnAsk c.val)

/-! ### Tenant resets (R94 to R101) -/

/-- TEN_RESET_WRITE (R56, R94): each bit set starts a reset, and stays set until it completes. -/
def execTenResetWrite (l : Land) : State → Out := onDev (fun d =>
  d.land l (fun a _ => a == Reg.TEN_RESET) (fun _ a v d =>
    (List.range 8).foldl (fun d k => if bit v.toNat k then d.startReset k else d) (d.store a v.toNat)))

/-- Registers that hold a record of what has happened, or count it, and that SOFT_RST returns although they are RO (log entry 27). -/
def recordRegs : List Nat :=
  [Reg.PC_LAST, Reg.PC_SLACK, Reg.PC_SLACK_AT, Reg.BOOK_SNAP, Reg.FW_LE_ADDR, Reg.MEM_ERR_ADDR, Reg.DEC_COUNT, Reg.DEC_LAST,
   Reg.DEC_LAST_BAND, Reg.DEC_CYCLES, Reg.ENC_COUNT, Reg.IMPO_LAST, Reg.FT_STAT, Reg.VID_LINES, Reg.PSEQ_LAST, Reg.CK_LAST, Reg.CK_LAST_TIME,
   Reg.OTP_ECC, Reg.OTP_ECC_ADDR, Reg.OTP_RAW, Reg.CR_DEC, Reg.KS_LAST, Reg.TR_RESEEDS, Reg.TR_LAST_FAIL, Reg.LK_INJ, Reg.LK_INJ_TIME,
   Reg.BG_SCRUB, Reg.LF_HI] ++
  (List.range 2).flatMap (fun i => [Reg.SEQ_FAULT i, Reg.CS_ERR_ADDR i, Reg.CS_CRC i]) ++
  (List.range 16).flatMap (fun c => [Reg.DCH_LAST c, Reg.DCH_LAST_STATUS c, Reg.DCH_LAST_BYTES c])

/-- The bits of a register that SOFT_RST returns to their reset values (R16, R241; log entry 27): what software or a read changes, EVT_RAW, and the
records; not what is retained (PG_LOCK, PG_OWNER, MAP_SWAP, what the VAON domain holds), nor the RO fields that show the block. -/
def softMask (a : Nat) : Nat :=
  let o := a % 0x1000
  if o = 0x20 ∨ o = 0x24 ∨ keptRegs.contains a then 0
  else if o = 0x10 ∨ recordRegs.contains a then 0xFFFFFFFF
  else
    let m := accMask a (· != .ro)
    if (List.range 3).any (fun i => a == Reg.BL_CTL i) then m &&& (0xFFFFFFFF ^^^ 0x800) else m

/-- The fields of page `p` return to their reset values, its shadows, image and waiting commit go, and the page is in SOFT_RST (R241). -/
def Dev.softRegs (d : Dev) (p : Nat) : Dev :=
  let d1 := (pageRegs p).foldl (fun d a =>
    let m := softMask a
    if m = 0 then d else d.setReg a (merge (d.reg a) (resetWord a).toNat m)) d
  { d1 with shadows := d1.shadows.filter (fun x => ! onPage p x.1) }.modPage p (fun q => { q with
    image := none, commitWait := [], firstArmed := true, inReset := true })

/-- TQ_SOFT_RST (R109): SOFT_RST of page TQn starts a tenant reset of Tn. -/
def execTqSoftRst (l : Land) : State → Out := onDev (fun d =>
  d.land l (fun a v => (List.range 8).any (fun k => a == Reg.PG_CTL (2 + k)) && bit v.toNat 1) (fun _ a _ d =>
    let k := (a - 0x40002000) / 0x1000
    ({ d.softRegs (2 + k) with tqSnaps := lmod d.tqSnaps k (fun _ => none) } : Dev).startReset k))

/-- Steps 3 and 4: the epoch, the queues, and what waited for an answer; a frame a channel has begun to send is kept (R122). -/
def Dev.resetQueues (d : Dev) (k : Nat) : Dev :=
  let d1 := d.modTen k (fun t => { t with
    epoch := (t.epoch + 1) % 65536, cmdQ := [], respQ := [], respWait := [], deferred := [], formParts := [] })
  { d1 with
    chans := d1.chans.map (fun x => if x.bind = some k then { x with notices := [], expSeq := none, lastSeq := none } else x),
    trng := { d1.trng with queue := d1.trng.queue.filter (fun r => r.ten != k) },
    bg := { d1.bg with cal := d1.bg.cal.map (fun c => if c.2 = k then (c.1, 8) else c) },
    head := { d1.head with job := match d1.head.job with
      | .feed j => .feed (if j = k then 8 else j)
      | .feedCut j => .feedCut (if j = k then 8 else j)
      | j => j } }

/-- Steps 5 to 7: QUEUED sheets and waiting receipts go, STAGED and HELD sheets will fail check 4, a receipt in progress stops. -/
def Dev.resetWork (d : Dev) (k : Nat) : Dev :=
  let gone := fun (s : Sheet) => s.tenant == k && s.state == .queued
  let d1 := (d.sheets.filter gone).foldl (fun d s => d.dropSheetWork s) d
  let d2 := ({ d1 with sheets := d1.sheets.filter (fun s => ! gone s) } : Dev).modSheets
    (fun s => s.tenant == k && (s.state == .staged || s.state == .held)) (fun s => { s with cancelled := true })
  let d3 := d2.modTen k (fun t => { t with jobs := t.jobs.map (fun j => { j with waiting := false }) })
  (match d3.rcpt with
   | some (j, _, _) => if j = k then d3.receiptStop else d3
   | none => d3).queueChanged

/-- Steps 8 and 9: its DMA channels stop and its key slots are zeroised. -/
def Dev.resetOwned (d : Dev) (m : Mem) (k : Nat) : Dev × Mem :=
  let x := ((List.range 16).filter (fun c => d.dmaOwner.getD c 0xF == k)).foldl (fun x c => x.1.stopCh x.2 c true) (d, m)
  ((List.range 16).filter (fun s => d.keyOwner s == k)).foldl (fun x s => x.1.eraseSlot x.2 s) x

/-- Step 10: units and requests held for anything but a sheet in the path go; the spool of what is gone is free with it. -/
def Dev.resetUnits (d : Dev) (k : Nat) : Dev :=
  let has := fun (e j i : Nat) => d.sheets.any (·.is k e j i)
  let d1 := d.release (fun u => u.tenant == k && ! (u.kind ≤ 1 && has u.epoch u.job u.index))
  let mine := d.rcpt.any (fun r => r.1 == k)
  { d1 with
    galReqs := d1.galReqs.filter (fun r => r.ten != k || (r.kind == 0 && has r.epoch r.job r.index)),
    codec := { d1.codec with
      q1 := if mine then d1.codec.q1.filter (·.form) else d1.codec.q1,
      q2 := d1.codec.q2.filter (fun e => e.ten != k || (! e.form && has e.epoch e.job e.index)) } }

/-- Step 11: credits, jobs, the ingest rate, the fence and the late-error record, the subscription. -/
def Dev.resetBooks (d : Dev) (k : Nat) : Dev :=
  let limit := d.creditLimit k
  let d1 := d.modTen k (fun t => { t with
    limit := if t.everOpen then t.limit else limit, credOut := 0, jobs := [], winBytes := 0, minSev := 7, skipped := 0, errTimes := [] })
  ((d1.setReg (Reg.PC_INGEST k) 0).modBr k (fun _ => BridgeT.reset)).set (Reg.LE_STAT_OVF k) 0

/-- Step 12: the tenant is CLOSED, RESET_DONE is emitted, and T0's TENANT_RESET of it completes. -/
def Dev.resetEnd (d : Dev) (k : Nat) : Dev :=
  let d1 := (d.modTen k (fun t => { t with state := .closed, tags := false })).setBit Reg.TEN_RESET k false
  let d2 := (d1.raiseFree (2 + k) k St.resetDone 0).fireRaw (2 + k) 5
  match d2.deferred? 0 0x0B01 with
  | some x => if x.args = [k] then d2.finish 0 0x0B01 St.ok [] else d2
  | none => d2

/-- TENANT_RESET_DONE (R94 to R101): once the posted writes are complete (step 2), steps 3 to 12 run in their order. -/
def execTenantResetDone (k : Fin 8) : State → Out := onAll (fun d m =>
  let k := k.val
  if (d.ten k).state = .resetting ∧ d.outstanding k = [] then
    let (d1, m1) := ((d.resetQueues k).resetWork k).resetOwned m k
    (((d1.resetUnits k).resetBooks k).resetEnd k, m1)
  else (d, m))

/-- KEEPALIVE_EXPIRY (R90): KEEPALIVE × 100 ms without an accepted frame while OPEN. -/
def execKeepaliveExpiry (k : Fin 8) : State → Out := onDev (fun d =>
  let n := d.get (Reg.TCFG_KEEPALIVE k.val)
  when ((d.ten k.val).state == .opened && n != 0 && decide ((d.ten k.val).keepFrom + n * 100000 ≤ d.now))
    (fun d => d.tenantFault k.val) d)

/-! ### Snapshots of the books (R103 to R108) -/

/-- BOOK_SNAP_WRITE (R103, R105). -/
def execBookSnapWrite (l : Land) : State → Out := onAll (landAll l (fun a _ => a == Reg.BOOK_SNAP) (fun _ a v d m =>
  let d1 := d.store a v.toNat
  (if bit v.toNat 0 then { d1.addWrap Reg.BOOK_SNAP_SNAP_SEQ 1 with globalSnap := some (d.now, d.takeBooks m bookRegs ++ d.takeLife) }
   else { d1 with globalSnap := none }, m)))

/-- TQ_SNAP_WRITE (R104, R105): the books of page TQk. -/
def execTqSnapWrite (l : Land) : State → Out := onAll (landAll l
  (fun a _ => (List.range 8).any (fun k => a == Reg.TQ_SNAP k)) (fun _ a v d m =>
  let k := (a - 0x40002000) / 0x1000
  let d1 := d.store a v.toNat
  let s := if bit v.toNat 0 then some (d.now, d.takeBooks m [Reg.TQ_STAT k, Reg.TQ_GAL k]) else none
  ({ d1 with tqSnaps := lmod d1.tqSnaps k (fun _ => s) }, m)))

/-- SNAPSHOT_EXPIRY (R105): 10 ms after it was taken a snapshot is released: `w` 0 to 7 of page TQw, 8 the global one. -/
def execSnapshotExpiry (w : Fin 9) : State → Out := onDev (fun d =>
  if w.val = 8 then
    match d.globalSnap with
    | some g => if g.1 + 10000 ≤ d.now then { d.set Reg.BOOK_SNAP_SNAP 0 with globalSnap := none } else d
    | none => d
  else match d.tqSnaps.getD w.val none with
    | some g => if g.1 + 10000 ≤ d.now then
        { d.set (Reg.TQ_SNAP_SNAP w.val) 0 with tqSnaps := lmod d.tqSnaps w.val (fun _ => none) } else d
    | none => d)

/-! ### Scheduling across tenants (R83 to R88) -/

/-- The loop of select(engine): the first eligible tenant from `cur` on, and the scheduler after it. -/
def schedPick (eligible : Nat → Bool) (weight : Nat → Nat) (s : Sched) : Option (Nat × Sched) :=
  match ((List.range 8).map (fun i => (s.cur + i) % 8)).find? eligible with
  | none => none
  | some k =>
    let used := (if k = s.cur then s.used else 0) + 1
    some (k, if weight k ≤ used then ⟨(k + 1) % 8, 0⟩ else ⟨k, used⟩)

/-- The least of the sheets by index. -/
def leastSheet : List Sheet → Option Sheet
  | [] => none
  | s :: ss => match leastSheet ss with
    | some t => if t.index < s.index then some t else some s
    | none => some s

/-- The oldest waiting sheet of tenant `k` (R85): by the start of its job, then by its index. -/
def Dev.oldestSheet (d : Dev) (k : Nat) : Option Sheet :=
  (d.ten k).jobs.findSome? (fun j => leastSheet (d.sheets.filter (fun s =>
    s.tenant == k && s.epoch == (d.ten k).epoch && s.job == j.num && s.placed && s.state == .queued && ! s.selected)))

/-- The laser scheduler may select (R83, R544, R944; spec/18, "While a switch is PENDING"). -/
def Dev.laserMay (d : Dev) : Bool :=
  ! d.sheets.any (fun s => s.state == .staged || s.state == .held || (s.selected && s.state == .queued)) &&
  (d.laserState == LasSt.ready || d.laserState == LasSt.printing) && d.get Reg.CK_SYS_STAT_SW_STATE == 0 &&
  ! d.flag Reg.BG_STAT_HOLD_L && d.trayOcc

/-- LASER_SELECT (R83 to R88): the sheet selected is picked by PICK_ISSUE. -/
def execLaserSelect : State → Out := onDev (fun d =>
  if ! d.laserMay then d
  else
    let w := fun (k : Nat) => d.get (Reg.TCFG_WEIGHT_L k)
    match schedPick (fun k => (d.ten k).state == .opened && w k != 0 && (d.oldestSheet k).isSome) w d.laserSched with
    | none => d
    | some (k, s) => match d.oldestSheet k with
      | some x => ({ d with laserSched := s } : Dev).modSheet x (fun y => { y with selected := true })
      | none => d)

/-- The oldest waiting receipt of tenant `k` (R85). -/
def Dev.oldestReceipt (d : Dev) (k : Nat) : Option Job := (d.ten k).jobs.find? (fun j => j.thermal && j.waiting)

/-- The thermal scheduler may select (R84, R621, R944, R1013; spec/18). -/
def Dev.thermalMay (d : Dev) : Bool :=
  d.thermalState == ThmSt.idle && d.rcpt.isNone && d.get Reg.CK_SYS_STAT_SW_STATE == 0 && ! d.flag Reg.BG_STAT_HOLD_T &&
  ! d.flag Reg.FU_STAT_CORR_RUN && ! d.flag Reg.DBG_STAT_BSCAN

/-- THERMAL_SELECT (R84 to R88): the receipt selected begins; a running element sweep gives LINE up at its next element boundary, and PCH7
comes back (R679). -/
def execThermalSelect : State → Out := onAll (fun d m =>
  if ! d.thermalMay then (d, m)
  else
    let w := fun (k : Nat) => d.get (Reg.TCFG_WEIGHT_T k)
    match schedPick (fun k => (d.ten k).state == .opened && w k != 0 && (d.oldestReceipt k).isSome) w d.thermalSched with
    | none => (d, m)
    | some (k, s) => match d.oldestReceipt k with
      | some j =>
        let d1 := ({ d with thermalSched := s } : Dev).modJob k j.num (fun x => { x with waiting := false })
        let d2 := if d.seqRuns 1 && (d.seq 1).entry == 4 then d1.chEna 7 else d1
        (d2.receiptStart m k j.epoch j.num, m)
      | none => (d, m))

end Sys2Proof.Machine
end

