-- ==== Sys2Proof/Machine/Registers.lean ====
section
/-! DEFINITION. Register writes that reach their page, reads that do something, and what every page has: masks, lock, SOFT_RST, FREEZE,
shadows, event registers and the late-error FIFO (spec/05_registers_events.md, spec/00_scope.md R10 to R16). -/

set_option linter.unusedVariables false

namespace Sys2Proof.Machine

/-! ### Which row a register write belongs to -/

/-- Offset of an address in its page. -/
def offOf (a : Nat) : Nat := a % 0x1000

/-- The page of an address is `p`. -/
def isPage (a p : Nat) : Bool := pageOf a == some p

/-- A write of PG_CTL of an existing page, by page. -/
def pgCtlOf (a : Nat) : Option Nat := if offOf a = 8 then pageOf a else none

/-- PG_CTL writes with rows of their own: SOFT_RST, SHADOW_COMMIT, FREEZE, the first of these bits that is set. -/
def ctlSoftRst (a : Nat) (v : Word) : Bool := (pgCtlOf a).isSome && bit v.toNat 1
def ctlCommit (a : Nat) (v : Word) : Bool := (pgCtlOf a).isSome && ! bit v.toNat 1 && bit v.toNat 8
def ctlFreeze (a : Nat) (v : Word) : Bool := (pgCtlOf a).isSome && ! bit v.toNat 1 && ! bit v.toNat 8 && bit v.toNat 4

/-- Page registers with rows of their own: the header's and those of the tenants' pages and the event page. -/
def rowHeader (a : Nat) (v : Word) : Bool :=
  (pageOf a).isSome &&
    (offOf a == 0x20 || offOf a == 0x24 || offOf a == 0x18 || offOf a == 0x1C || ctlSoftRst a v || ctlCommit a v || ctlFreeze a v)

/-- Rows of spec/02 and spec/05 on single registers. -/
def rowTenants (a : Nat) (v : Word) : Bool :=
  (chbindOf a).isSome || (tcfgOf a).isSome || (List.range 8).any (fun k => a == Reg.GQ k || a == Reg.TQ_SNAP k) ||
  [Reg.DMA_OWN0, Reg.DMA_OWN1, Reg.TEN_RESET, Reg.BOOK_SNAP].contains a ||
  ((List.range 8).any (fun k => a == Reg.LE_POP k) && bit v.toNat 0)

/-- Rows of the ports, the memories and the sequencers. -/
def rowUnits (a : Nat) (v : Word) : Bool :=
  let b := bit v.toNat
  (a == Reg.USB_CTL && b 1) || (a == Reg.CAN_CTL && b 5) || (List.range 2).any (fun i => a == Reg.DMA_POST i) ||
  (List.range 16).any (fun c => (a == Reg.DCH_LE_POP c && b 0) || (a == Reg.DCH_CTL c && (b 1 || ! b 0))) ||
  (a == Reg.XSPI_CMD_CTL && b 16) ||
  (List.range 2).any (fun i => (a == Reg.SEQ_CTL i && (b 4 || b 5)) || (a == Reg.CS_CMD i && (b 0 || b 1)) ||
    (a == Reg.CS_CRC_CTL i && b 0) || (a == Reg.I2C_CMD i && b 24)) ||
  a == Reg.PM_FUNC0 || a == Reg.PM_FUNC1

/-- Rows of motion, loops and process. -/
def rowEngine (d : Dev) (a : Nat) (v : Word) : Bool :=
  let b := bit v.toNat
  a == Reg.SHEET_ARM0 || a == Reg.SHEET_ARM1 || (List.range 3).any (fun m => a == Reg.BL_CTL m && b 3) ||
  (a == Reg.MS_POST && b 0 && decide (d.reg (Reg.MS_SEG 0) % 8 ≤ 4)) || ((stCtlOf a).isSome && b 3) || a == Reg.ST_DC 3 ||
  (lpCtlOf a).isSome || (coefOf a).isSome || (a == Reg.FU_CORR && b 8) || (a == Reg.FU_CLR && b 0) || (a == Reg.LS_CTL && b 1) ||
  (a == Reg.HD_CTL && (b 0 || b 1)) || a == Reg.HD_DEF_ENT

/-- Rows of power, clocks, fuses, keys, the interlock and the journal. -/
def rowDevice (a : Nat) (v : Word) : Bool :=
  let b := bit v.toNat
  [Reg.PSEQ_REQ, Reg.PSEQ_CTL, Reg.CK_REFIN, Reg.KS_OWN0, Reg.KS_OWN1, Reg.KS_ERASE, Reg.LK_KICK, Reg.LK_COMMIT, Reg.LK_FULLRST,
    Reg.LK_FORCE].contains a ||
  (a == Reg.PWR_CMD && (b 0 || b 1 || b 2)) || (a == Reg.HL_CTL && b 1) || (a == Reg.OTP_PG_CTL && (b 0 || b 1)) ||
  (a == Reg.JR_CFG && b 16)

/-- A register write that another row of the table is. -/
def Dev.hasRow (d : Dev) (a : Nat) (v : Word) : Bool :=
  rowHeader a v || rowTenants a v || rowUnits a v || rowEngine d a v || rowDevice a v

/-! ### Shadows -/

/-- What follows when page `p` has taken its shadows. -/
def Dev.tookShadows (d : Dev) (p : Nat) : Dev :=
  if p = 0x0C then d.clkShadow
  else if 0x28 ≤ p ∧ p ≤ 0x2B then d.stepShadow (p - 0x28)
  else if p = 0x32 then d.geomCheck
  else if p = 0x25 ∨ p = 0x26 then d.engHold
  else d

/-- The boundary of page `p`, outside any command of the page's own. -/
def Dev.pageBoundary (d : Dev) (p : Nat) : Dev :=
  if p = 0x1F ∨ p = 0x21 then d.bdBoundary
  else if p = 0x22 ∨ p = 0x24 then d.headBoundary
  else (d.boundary p).tookShadows p

/-- Pages whose boundary is a condition and not an instant (Table 5-2); the steppers' pages count an axis without a profile as at rest. -/
def levelPages : List Nat :=
  [0x0C, 0x0E, 0x0F, 0x11, 0x18, 0x19, 0x1D, 0x1E, 0x37, 0x38, 0x39, 0x3A, 0x3B, 0x28, 0x29, 0x2A, 0x2B, 0x2C]

/-- After a write: a page at rest takes its shadows at once. -/
def Dev.levelTake (d : Dev) (p : Nat) : Dev :=
  if levelPages.contains p && ! d.pageBusy p then d.pageBoundary p else d

/-- Pages whose fields are taken channel by channel. -/
def perChan (p : Nat) : Bool := p == 0x1A || p == 0x1B || p == 0x2D

/-- Channel `c` of a per-channel page is at work: a DMA channel outside IDLE and OFF, a loop outside OFF (R246). -/
def Dev.chanAtWork (d : Dev) (p c : Nat) : Bool :=
  if p = 0x2D then d.get (Reg.LP_STAT_STATE c) == 1
  else
    let s := d.dmaState (8 * (p - 0x1A) + c)
    s != 0 && s != 6

/-- SHADOW_COMMIT of page `p` (R246, R247). -/
def Dev.commitAsk (d : Dev) (p : Nat) : Dev :=
  if noBoundary p then d.set (Reg.PG_CTL_SHADOW_COMMIT p) 0
  else if perChan p then
    let busy := (List.range 8).filter (d.chanAtWork p)
    let d1 := (d.takeShadows (fun a => (List.range 8).any (fun c => ! busy.contains c && onChan p c a))).modPage p (fun q =>
      { q with commitWait := busy })
    d1.setb (Reg.PG_CTL_SHADOW_COMMIT p) (! busy.isEmpty)
  else if ! d.pageBusy p then d.pageBoundary p
  else (d.modPage p (fun q => { q with commitWait := [0] })).set (Reg.PG_CTL_SHADOW_COMMIT p) 1

/-- SHADOW_BOUNDARY (R10, R15, R244, R245): page `p`, or channel `c` of a per-channel page, reaches its boundary; a page whose boundary is a
condition reaches it where it is not at work, LINE and HEAD only while lines are printed. -/
def execShadowBoundary (p : Fin 65) (c : Fin 8) : State → Out := onDev (fun d =>
  let p := p.val
  if noBoundary p then d
  else if perChan p then d.chanBoundary p c.val
  else if levelPages.contains p && d.pageBusy p then d
  else if (p == 0x22 || p == 0x24) && d.head.job == .none then d
  else d.pageBoundary p)

/-! ### PG_CTL -/

/-- FREEZE of page `p` as a write leaves it (R242, R243). -/
def Dev.freezeTo (d : Dev) (m : Mem) (p : Nat) (on : Bool) : Dev :=
  if ! on then d.modPage p (fun q => { q with image := none })
  else if (d.page p).image.isSome then d
  else
    let im := d.image m p
    d.modPage p (fun q => { q with image := some im, frozeAt := d.now })

/-- EN 0 of a DMA page acts on each of its channels (R309). -/
def Dev.enTo (d : Dev) (m : Mem) (p : Nat) (on : Bool) : Dev × Mem :=
  if on || ! (p == 0x1A || p == 0x1B) then (d, m)
  else (List.range 8).foldl (fun x c => x.1.stopCh x.2 (8 * (p - 0x1A) + c) false) (d, m)

/-- What a write of PG_CTL without SOFT_RST does. -/
def Dev.pgCtl (d : Dev) (m : Mem) (p v : Nat) : Dev × Mem :=
  let d1 := (d.freezeTo m p (bit v 4)).store (Reg.PG_CTL p) v
  let d2 := if bit v 8 then d1.commitAsk p else d1
  d2.enTo m p (bit v 0)

/-- FREEZE (R242, R243): a write of PG_CTL with FREEZE set. -/
def execFreeze (l : Land) : State → Out := onAll (landAll l ctlFreeze (fun _ a v d m =>
  match pgCtlOf a with
  | some p => d.pgCtl m p v.toNat
  | none => (d, m)))

/-- FREEZE_EXPIRY (R243): FREEZE clears itself 10 ms after it was set. -/
def execFreezeExpiry (p : Fin 65) : State → Out := onDev (fun d =>
  when ((d.page p.val).image.isSome && decide ((d.page p.val).frozeAt + 10000 ≤ d.now))
    (fun d => (d.modPage p.val (fun q => { q with image := none })).set (Reg.PG_CTL_FREEZE p.val) 0) d)

/-- SHADOW_COMMIT (R246, R247): a write of PG_CTL with SHADOW_COMMIT set. -/
def execShadowCommit (l : Land) : State → Out := onAll (landAll l ctlCommit (fun _ a v d m =>
  match pgCtlOf a with
  | some p => d.pgCtl m p v.toNat
  | none => (d, m)))

/-! ### SOFT_RST (R241) -/

/-- Sequencer `i` after SOFT_RST of its page (R410): halted, core registers and state reset, the control store kept. -/
def Dev.seqSoft (d : Dev) (i : Nat) : Dev :=
  let d1 := (d.seqHalt i).modSeq i (fun s => { Seq.reset with store := s.store, rom := s.rom })
  (List.range 16).foldl (fun d j =>
    let a := pageBase (seqPage i) + 0x40 + 4 * j
    if fieldsOf a = [] then d else d.setReg a (resetWord a).toNat) d1

/-- What SOFT_RST of the pages TEN, CLK0 and LOCK does beyond the fields; every keepalive starts anew. -/
def Dev.softBase (d : Dev) (p : Nat) : Dev :=
  if p = 0x01 then
    let d1 := (List.range 16).foldl (fun d c => (d.bindAsk c).dmaOwnAsk c) d
    ({ ((List.range 8).foldl (fun d k => d.keepAsk k 256) d1).gqCheck with globalSnap := none } : Dev)
  else if p = 0x0C then d.clkShadow
  else if p = 0x17 then d.applyForcing
  else d

/-- What SOFT_RST of the engine's pages does beyond the fields. -/
def Dev.softEngine (d : Dev) (p : Nat) : Dev :=
  if p = 0x1F then (d.seqSoft 0).modScan (fun s => { s with lenRevs := 0 })
  else if p = 0x22 then d.seqSoft 1
  else if 0x25 ≤ p ∧ p ≤ 0x27 then
    let d1 := if 1 ≤ d.blState (p - 0x25) ∧ d.blState (p - 0x25) ≤ 5 then d.blTo (p - 0x25) 6 else d
    d1.engHold
  else if 0x28 ≤ p ∧ p ≤ 0x2B then d.stepShadow (p - 0x28)
  else if p = 0x2D then
    (List.range 8).foldl (fun d n => if d.get (Reg.LP_STAT_STATE n) = 1 then d.loopOff n else d) d
  else if p = 0x2F then d.thresholds
  else if p = 0x31 then d.thresholds.setArm false
  else if p = 0x32 then d.geomCheck
  else d

/-- SOFT_RST of page `p` (R16, R241): its fields, and what follows from them. A change of a key slot's owner erases the slot (R851). -/
def Dev.softRst (d : Dev) (m : Mem) (p : Nat) : Dev × Mem :=
  let (d1, m1) := if p = 0x15 then
      (List.range 16).foldl (fun x s =>
        x.1.ownSlot x.2 s (bitsOf (resetWord (if s < 8 then Reg.KS_OWN0 else Reg.KS_OWN1)).toNat (4 * (s % 8)) 4)) (d, m)
    else (d, m)
  let old := d1.pmIn
  let d2 := ((d1.softRegs p).softBase p).softEngine p
  (if p = 0x3C then d2.pmFire old else d2, m1)

/-- SOFT_RST (R241): a write of PG_CTL with SOFT_RST set, on any page but TRNG and the tenants' own. -/
def execSoftRst (l : Land) : State → Out := onAll (landAll l
  (fun a v => ctlSoftRst a v && ! isPage a 0x16 && ! (List.range 8).any (fun k => isPage a (2 + k)))
  (fun _ a _ d m => match pgCtlOf a with
    | some p => d.softRst m p
    | none => (d, m)))

/-- TRNG_SOFT_RST (R866, R876): SOFT_RST of the TRNG page. -/
def execTrngSoftRst (l : Land) : State → Out := onDev (fun d =>
  d.land l (fun a v => ctlSoftRst a v && isPage a 0x16) (fun _ _ _ d => (d.softRegs 0x16).trngSoftRst))

/-! ### Masks, lock and events -/

/-- PG_OWNER_WRITE (R235, R236): T0 writes the masks and leaves FW_HOLD; the firmware writes FW_HOLD with them. -/
def execPgOwnerWrite (l : Land) : State → Out := onDev (fun d =>
  d.land l (fun a _ => (pageOf a).isSome && offOf a == 0x24) (fun ag a v d =>
    let n := if ag = .fw then 0x1FFFF else 0xFFFF
    d.setReg a (merge (d.reg a) v.toNat n)))

/-- PG_LOCK_WRITE (R235, R237, R238). -/
def execPgLockWrite (l : Land) : State → Out := onDev (fun d =>
  d.land l (fun a _ => (pageOf a).isSome && offOf a == 0x20) (fun _ a v d => d.store a v.toNat))

/-- EVT_PEND_WRITE (R249). -/
def execEvtPendWrite (l : Land) : State → Out := onDev (fun d =>
  d.land l (fun a _ => (pageOf a).isSome && offOf a == 0x18) (fun _ a v d =>
    match pageOf a with
    | some p => d.clrReg (Reg.EVT_RAW p) v.toNat
    | none => d))

/-- EVT_SET (R250): the bits of EVT_RAW, and one record with SYNTH set for each, in ascending order. -/
def execEvtSet (l : Land) : State → Out := onDev (fun d =>
  d.land l (fun a _ => (pageOf a).isSome && offOf a == 0x1C) (fun ag a v d =>
    match pageOf a with
    | some p => (List.range 32).foldl (fun d i =>
        if bit v.toNat i then d.post p ⟨p, Agent.field ag, St.ok, 0, true, BitVec.ofNat 32 i⟩ else d) (d.orReg (Reg.EVT_RAW p) v.toNat)
    | none => d))

/-- LE_POP (R229, R230): the oldest entry of the late-error FIFO goes. -/
def execLePop (l : Land) : State → Out := onDev (fun d =>
  d.land l (fun a v => (List.range 8).any (fun k => a == Reg.LE_POP k) && bit v.toNat 0) (fun _ a _ d =>
    d.modBr ((a - 0x40002000) / 0x1000) (fun b => { b with late := b.late.tail })))

/-! ### REGISTER_WRITE (R223) -/

/-- A tenant's write that the register's chapter gives no effect: the parameters and the post of MOTION (R516), the descriptor words of the
DMA pages (R283), the loop registers of L0 to L5 (R563). -/
def tenantMute (a : Nat) : Bool :=
  a == Reg.MS_POST || (List.range 4).any (fun k => a == Reg.MS_SEG k) ||
  (List.range 2).any (fun i => (List.range 6).any (fun k => a == Reg.DMA_DESC i k)) ||
  (List.range 6).any (fun n => a == Reg.LP_REF n || a == Reg.LP_REF_STEP n || a == Reg.LP_UMIN n || a == Reg.LP_UMAX n ||
    a == Reg.LP_UOFF n || a == Reg.LP_ZI n || (List.range 4).any (fun i => a == Reg.LP_XI n i))

/-- RUN of BL_CTL acts at the write (R474; Table 11-2): RUN 0 stops a running motor; RUN 1 within the same PWM period takes it back. -/
def Dev.blRun (d : Dev) (m v : Nat) : Dev :=
  let st := d.blState m
  if ! bit v 0 && 1 ≤ st && st ≤ 5 then d.blTo m 6
  else if bit v 0 && st == 6 && (d.mot m).periods == 0 && ! (d.mot m).sag && ! (d.mot m).order then
    d.blTo m (if (d.mot m).fromRun then 5 else 1)
  else d

/-- The self-clearing bits of FT_CTL (Table 10-6). -/
def Dev.ftCtl (d : Dev) (v : Nat) : Dev :=
  let d1 := if bit v 3 then d.facetRelearn else d
  let d2 := if bit v 1 then d1.set Reg.FT_STAT_VALID 1 else d1
  let d3 := if bit v 2 then d2.set Reg.FT_STAT_LEN_VALID 1 else d2
  d3.clrReg Reg.FT_CTL 0xE

/-- What a write does beyond its access codes, on pages of the ports, balls, interlock and sequencers. -/
def Dev.afterUnit (d old : Dev) (ag : Agent) (a v : Nat) : Dev :=
  if a = Reg.USB_CTL then (if old.flag Reg.USB_CTL_ATTACH && ! bit v 0 then d.usbDetach 0 else d)
  else if a = Reg.FT_CTL then d.ftCtl v
  else if [Reg.PM_OUT, Reg.PM_OE, Reg.PM_OD, Reg.PM_PULL].contains a then d.pmFire old.pmIn
  else if a = Reg.LK_CFG then d.applyForcing
  else if a = Reg.MS_POST then (if bit v 0 && ag == .fw then d.set Reg.MS_POST_POST_REFUSED 1 else d)
  else d

/-- What a write does beyond its access codes, on pages of motion and process. -/
def Dev.afterEngine (d : Dev) (ag : Agent) (a v : Nat) : Dev :=
  if isPage a 0x25 || isPage a 0x26 || isPage a 0x27 then
    let m := (a - 0x40025000) / 0x1000
    if a = Reg.BL_CTL m then d.blRun m v else d
  else if a = Reg.FU_OT ∨ a = Reg.LS_OP then d.thresholds
  else if a = Reg.LS_CTL then d.lsCtl ag v
  else d

/-- A register write without a row of its own (R223): the access codes, what the register's chapter adds, and a page at rest takes its shadows. -/
def Dev.regWrite (d : Dev) (m : Mem) (ag : Agent) (a v : Nat) : Dev × Mem :=
  match pageOf a with
  | none => (d, m)
  | some p =>
    if ag ≠ .fw ∧ tenantMute a then (d, m)
    else if offOf a = 8 then d.pgCtl m p v
    else match stCtlOf a with
      | some i => (d.stCtl i v, m)
      | none =>
        let d1 := if a = Reg.LS_CTL then d else d.store a v
        ((((d1.afterUnit d ag a v).afterEngine ag a v).levelTake p), m)

/-- REGISTER_WRITE (R10, R56, R223, R225, R226): a posted write, or one of the firmware, reaches its page. -/
def execRegisterWrite (l : Land) : State → Out := onAll (fun d m =>
  landAll l (fun a v => ! d.hasRow a v) (fun ag a v d m => d.regWrite m ag a v.toNat) d m)

/-- WRITE_TIMEOUT (R225, R226): the page does not answer a write within TIMEOUT; an earlier check that fails gives its own reason. -/
def execWriteTimeout (l : Land) : State → Out := onDev (fun d =>
  match l with
  | .fw a v =>
    let r := d.fwRefuse a
    (d.setReg Reg.FW_LE_ADDR a).set Reg.FW_LE_INFO_REASON (if r = 0 then 8 else r)
  | .tenant k ecc =>
    match (d.br k).queue with
    | [] => d
    | w :: _ =>
      let r := d.refuseReason k w.addr w.data (ecc = .uncorrectable)
      (d.popWrite k).refuseWrite k w (if r = 0 then 8 else r))

/-! ### Reads -/

/-- A read of register `a` by tenant `k`: what it returns stands in `lastRead`; a read that is refused, or has to wait, returns nothing. -/
def Dev.tenantRead (d : Dev) (m : Mem) (k a : Nat) : Dev :=
  if d.readOk k a && d.readReady k a then
    let (v, d1) := d.readReg m (.tenant k) a
    { d1 with lastRead := [BitVec.ofNat 32 v] }
  else d

/-- RC_FIELD_READ (R13, R14): a granted read, of a register with RC fields or any other. -/
def execRcFieldRead (k : Fin 8) (a : Nat) : State → Out := onAll (fun d m => (d.tenantRead m k.val a, m))

/-- EVT_RD_READ (R264, R265): a read of EVT_RDi; EVT_RD3 with RD_AUTOINC advances EVT_RD_SEQ. -/
def execEvtRdRead (k : Fin 8) (i : Fin 4) : State → Out := onAll (fun d m => (d.tenantRead m k.val (Reg.EVT_RD i.val), m))

/-- LF_LO_READ (R958): a read of LF_LO latches LF_HI. -/
def execLfLoRead (k : Fin 8) : State → Out := onAll (fun d m => (d.tenantRead m k.val Reg.LF_LO, m))

/-- READ_TIMEOUT (R220): a read of register `a` that its page has not answered within TIMEOUT completes with BUSY: the REG_READ command
that waits for it, or a read on a register path, which then returns nothing. -/
def execReadTimeout (k : Fin 8) (a : Nat) : State → Out := onDev (fun d =>
  match d.deferred? k.val 0x0701 with
  | some x =>
    if (readAddrs (x.args.getD 0 0) (x.args.getD 1 0)).contains a then d.finish k.val 0x0701 St.busy []
    else { d with lastRead := [] }
  | none => { d with lastRead := [] })

/-- WRITE_FENCE_READ (R231 to R233): tenant `k` reads WRITE_FENCE of page TQp; its own waits for every write it has posted. -/
def execWriteFenceRead (k p : Fin 8) : State → Out := onDev (fun d =>
  let k := k.val
  let a := Reg.WRITE_FENCE p.val
  if ! (d.readOk k a && d.answers a) then d
  else if p.val ≠ k ∨ d.outstanding k = [] then { d with lastRead := [BitVec.ofNat 32 (d.fenceWord p.val)] }
  else d.modBr k (fun b => { b with fences := b.fences ++ [⟨1, 0, b.done + (d.outstanding k).length⟩] }))

/-- FENCE_COMPLETE (R231, R232): the writes the oldest fence of tenant `k` waits for are complete. -/
def execFenceComplete (k : Fin 8) : State → Out := onDev (fun d =>
  let k := k.val
  match (d.br k).fences with
  | [] => d
  | f :: rest =>
    if (d.br k).done < f.target then d
    else
      let d1 := d.modBr k (fun b => { b with fences := rest })
      if f.what = 0 then d1.finish k 0x0703 St.ok (leBytes 4 (d1.fenceWord k))
      else { d1 with lastRead := [BitVec.ofNat 32 (d1.fenceWord k)] })

end Sys2Proof.Machine
end

