-- ==== Sys2Proof/Machine/Dispatch.lean ====
section
/-! DEFINITION. One arm per command of the table: a direct call of its meaning, or a refusal by name. -/

namespace Sys2Proof.Machine

open Sys2Proof

def exec (i : Instr) (s : State) : Host.Outcome State Fault Refusal :=
  match i with
  | .commitAttempt took => Sys2Proof.Machine.execCommitAttempt took s
  | .gearChangeLock => Sys2Proof.Machine.execGearChangeLock s
  | .holdMaxExpiry => Sys2Proof.Machine.execHoldMaxExpiry s
  | .blankRelease tRel => Sys2Proof.Machine.execBlankRelease tRel s
  | .sheetRelease tRel => Sys2Proof.Machine.execSheetRelease tRel s
  | .ingestRateUpdate => Sys2Proof.Machine.execIngestRateUpdate s
  | .idleCoolExpiry => Sys2Proof.Machine.execIdleCoolExpiry s
  | .warmupComplete => Sys2Proof.Machine.execWarmupComplete s
  | .warmupTimeout => Sys2Proof.Machine.execWarmupTimeout s
  | .sheetFusing n => Sys2Proof.Machine.execSheetFusing n s
  | .chbindWrite l => Sys2Proof.Machine.execChbindWrite l s
  | .chbindApply c => Sys2Proof.Machine.execChbindApply c s
  | .tcfgWrite l => Sys2Proof.Machine.execTcfgWrite l s
  | .gqWrite l => Sys2Proof.Machine.execGqWrite l s
  | .dmaOwnWrite l => Sys2Proof.Machine.execDmaOwnWrite l s
  | .dmaOwnApply c => Sys2Proof.Machine.execDmaOwnApply c s
  | .tenResetWrite l => Sys2Proof.Machine.execTenResetWrite l s
  | .tqSoftRst l => Sys2Proof.Machine.execTqSoftRst l s
  | .tenantResetDone k => Sys2Proof.Machine.execTenantResetDone k s
  | .keepaliveExpiry k => Sys2Proof.Machine.execKeepaliveExpiry k s
  | .bookSnapWrite l => Sys2Proof.Machine.execBookSnapWrite l s
  | .tqSnapWrite l => Sys2Proof.Machine.execTqSnapWrite l s
  | .snapshotExpiry w => Sys2Proof.Machine.execSnapshotExpiry w s
  | .galleyGrant thermal k epoch job index band => Sys2Proof.Machine.execGalleyGrant thermal k epoch job index band s
  | .laserSelect => Sys2Proof.Machine.execLaserSelect s
  | .thermalSelect => Sys2Proof.Machine.execThermalSelect s
  | .frameReceive c bytes fin => Sys2Proof.Machine.execFrameReceive c bytes fin s
  | .responseSend c => Sys2Proof.Machine.execResponseSend c s
  | .noticeSend c => Sys2Proof.Machine.execNoticeSend c s
  | .usbBusReset hs => Sys2Proof.Machine.execUsbBusReset hs s
  | .usbSuspend => Sys2Proof.Machine.execUsbSuspend s
  | .remoteWakeup => Sys2Proof.Machine.execRemoteWakeup s
  | .usbFsFallback => Sys2Proof.Machine.execUsbFsFallback s
  | .reattach l => Sys2Proof.Machine.execReattach l s
  | .attach hs => Sys2Proof.Machine.execAttach hs s
  | .statusReport => Sys2Proof.Machine.execStatusReport s
  | .getDeviceId => Sys2Proof.Machine.execGetDeviceId s
  | .getPortStatus => Sys2Proof.Machine.execGetPortStatus s
  | .softReset => Sys2Proof.Machine.execSoftReset s
  | .usbRegWrite a bytes => Sys2Proof.Machine.execUsbRegWrite a bytes s
  | .usbRegRead a len => Sys2Proof.Machine.execUsbRegRead a len s
  | .getLink => Sys2Proof.Machine.execGetLink s
  | .spiRegRead quad mosi words => Sys2Proof.Machine.execSpiRegRead quad mosi words s
  | .spiRegWrite quad mosi => Sys2Proof.Machine.execSpiRegWrite quad mosi s
  | .streamWrite bytes => Sys2Proof.Machine.execStreamWrite bytes s
  | .streamRead n => Sys2Proof.Machine.execStreamRead n s
  | .dmaWrite bytes => Sys2Proof.Machine.execDmaWrite bytes s
  | .spiBadCommand cmd => Sys2Proof.Machine.execSpiBadCommand cmd s
  | .csNDeassert => Sys2Proof.Machine.execCsNDeassert s
  | .uartFrameGap u => Sys2Proof.Machine.execUartFrameGap u s
  | .rs485Collision u => Sys2Proof.Machine.execRs485Collision u s
  | .canNCrTimeout st => Sys2Proof.Machine.execCanNCrTimeout st s
  | .canNBsTimeout st => Sys2Proof.Machine.execCanNBsTimeout st s
  | .busOff => Sys2Proof.Machine.execBusOff s
  | .bor l => Sys2Proof.Machine.execBor l s
  | .autoBorRecovery => Sys2Proof.Machine.execAutoBorRecovery s
  | .sessionOpen k => Sys2Proof.Machine.execSessionOpen k s
  | .sessionClose k => Sys2Proof.Machine.execSessionClose k s
  | .ping k => Sys2Proof.Machine.execPing k s
  | .getInfo k => Sys2Proof.Machine.execGetInfo k s
  | .jobStart k => Sys2Proof.Machine.execJobStart k s
  | .sheetDefine k => Sys2Proof.Machine.execSheetDefine k s
  | .data k exts => Sys2Proof.Machine.execData k exts s
  | .dataDma k exts => Sys2Proof.Machine.execDataDma k exts s
  | .dataDmaDone c => Sys2Proof.Machine.execDataDmaDone c s
  | .jobEnd k => Sys2Proof.Machine.execJobEnd k s
  | .jobCancel k => Sys2Proof.Machine.execJobCancel k s
  | .jobStatus k => Sys2Proof.Machine.execJobStatus k s
  | .formStore k => Sys2Proof.Machine.execFormStore k s
  | .formProgramDone k base => Sys2Proof.Machine.execFormProgramDone k base s
  | .formDelete k => Sys2Proof.Machine.execFormDelete k s
  | .formList k => Sys2Proof.Machine.execFormList k s
  | .feed k => Sys2Proof.Machine.execFeed k s
  | .feedDone => Sys2Proof.Machine.execFeedDone s
  | .engineCtlWarm k => Sys2Proof.Machine.execEngineCtlWarm k s
  | .engineCtlCool k => Sys2Proof.Machine.execEngineCtlCool k s
  | .facetRelearn k => Sys2Proof.Machine.execFacetRelearn k s
  | .headResistance k => Sys2Proof.Machine.execHeadResistance k s
  | .holdupCal k => Sys2Proof.Machine.execHoldupCal k s
  | .laserPowerCurve k => Sys2Proof.Machine.execLaserPowerCurve k s
  | .calibrateDone samples => Sys2Proof.Machine.execCalibrateDone samples s
  | .countersRead k => Sys2Proof.Machine.execCountersRead k s
  | .sealedReport k => Sys2Proof.Machine.execSealedReport k s
  | .sealedReportDone k => Sys2Proof.Machine.execSealedReportDone k s
  | .eventRead k => Sys2Proof.Machine.execEventRead k s
  | .eventSubscribe k => Sys2Proof.Machine.execEventSubscribe k s
  | .regRead k => Sys2Proof.Machine.execRegRead k s
  | .regReadDone k => Sys2Proof.Machine.execRegReadDone k s
  | .regWrite k => Sys2Proof.Machine.execRegWrite k s
  | .regFence k => Sys2Proof.Machine.execRegFence k s
  | .keyLoad k => Sys2Proof.Machine.execKeyLoad k s
  | .keyErase k => Sys2Proof.Machine.execKeyErase k s
  | .keyInfo k => Sys2Proof.Machine.execKeyInfo k s
  | .randomGet k => Sys2Proof.Machine.execRandomGet k s
  | .patchStatus k => Sys2Proof.Machine.execPatchStatus k s
  | .patchPush k => Sys2Proof.Machine.execPatchPush k s
  | .pushGapTimeout => Sys2Proof.Machine.execPushGapTimeout s
  | .tenantReset k => Sys2Proof.Machine.execTenantReset k s
  | .registerWrite l => Sys2Proof.Machine.execRegisterWrite l s
  | .writeTimeout l => Sys2Proof.Machine.execWriteTimeout l s
  | .readTimeout k a => Sys2Proof.Machine.execReadTimeout k a s
  | .rcFieldRead k a => Sys2Proof.Machine.execRcFieldRead k a s
  | .writeFenceRead k p => Sys2Proof.Machine.execWriteFenceRead k p s
  | .fenceComplete k => Sys2Proof.Machine.execFenceComplete k s
  | .pgOwnerWrite l => Sys2Proof.Machine.execPgOwnerWrite l s
  | .pgLockWrite l => Sys2Proof.Machine.execPgLockWrite l s
  | .softRst l => Sys2Proof.Machine.execSoftRst l s
  | .freeze l => Sys2Proof.Machine.execFreeze l s
  | .freezeExpiry p => Sys2Proof.Machine.execFreezeExpiry p s
  | .shadowCommit l => Sys2Proof.Machine.execShadowCommit l s
  | .shadowBoundary p c => Sys2Proof.Machine.execShadowBoundary p c s
  | .evtPendWrite l => Sys2Proof.Machine.execEvtPendWrite l s
  | .evtSet l => Sys2Proof.Machine.execEvtSet l s
  | .lePop l => Sys2Proof.Machine.execLePop l s
  | .evtRdRead k idx => Sys2Proof.Machine.execEvtRdRead k idx s
  | .spineAccept p => Sys2Proof.Machine.execSpineAccept p s
  | .timeWrap => Sys2Proof.Machine.execTimeWrap s
  | .dmaPost l => Sys2Proof.Machine.execDmaPost l s
  | .descriptorFetch c ecc => Sys2Proof.Machine.execDescriptorFetch c ecc s
  | .descriptorRetire c ack => Sys2Proof.Machine.execDescriptorRetire c ack s
  | .transferFail c ecc off => Sys2Proof.Machine.execTransferFail c ecc off s
  | .portInTimeout c => Sys2Proof.Machine.execPortInTimeout c s
  | .lateDmaError c addr tag reason => Sys2Proof.Machine.execLateDmaError c addr tag reason s
  | .chLePop l => Sys2Proof.Machine.execChLePop l s
  | .dmaAbort l => Sys2Proof.Machine.execDmaAbort l s
  | .channelDisable l => Sys2Proof.Machine.execChannelDisable l s
  | .priorityRaise p0wait => Sys2Proof.Machine.execPriorityRaise p0wait s
  | .xspiCmdGo l => Sys2Proof.Machine.execXspiCmdGo l s
  | .norSuspend => Sys2Proof.Machine.execNorSuspend s
  | .scrubBurst found at1 => Sys2Proof.Machine.execScrubBurst found at1 s
  | .blockDecode => Sys2Proof.Machine.execBlockDecode s
  | .decodeSuspend => Sys2Proof.Machine.execDecodeSuspend s
  | .blockEncode addr => Sys2Proof.Machine.execBlockEncode addr s
  | .unitFree u => Sys2Proof.Machine.execUnitFree u s
  | .kNop idx ecc => Sys2Proof.Machine.execKNop idx ecc s
  | .kLdi idx ecc => Sys2Proof.Machine.execKLdi idx ecc s
  | .kLdih idx ecc => Sys2Proof.Machine.execKLdih idx ecc s
  | .kAddi idx ecc => Sys2Proof.Machine.execKAddi idx ecc s
  | .kAndi idx ecc => Sys2Proof.Machine.execKAndi idx ecc s
  | .kOri idx ecc => Sys2Proof.Machine.execKOri idx ecc s
  | .kXori idx ecc => Sys2Proof.Machine.execKXori idx ecc s
  | .kCmpi idx ecc => Sys2Proof.Machine.execKCmpi idx ecc s
  | .kMov idx ecc => Sys2Proof.Machine.execKMov idx ecc s
  | .kAdd idx ecc => Sys2Proof.Machine.execKAdd idx ecc s
  | .kSub idx ecc => Sys2Proof.Machine.execKSub idx ecc s
  | .kShl idx ecc => Sys2Proof.Machine.execKShl idx ecc s
  | .kShr idx ecc => Sys2Proof.Machine.execKShr idx ecc s
  | .kLdp idx ecc => Sys2Proof.Machine.execKLdp idx ecc s
  | .kStp idx ecc => Sys2Proof.Machine.execKStp idx ecc s
  | .kLci idx ecc => Sys2Proof.Machine.execKLci idx ecc s
  | .kLcr idx ecc => Sys2Proof.Machine.execKLcr idx ecc s
  | .kTmi idx ecc => Sys2Proof.Machine.execKTmi idx ecc s
  | .kTmr idx ecc => Sys2Proof.Machine.execKTmr idx ecc s
  | .kTmstop idx ecc => Sys2Proof.Machine.execKTmstop idx ecc s
  | .kPin idx ecc => Sys2Proof.Machine.execKPin idx ecc s
  | .kPout idx ecc => Sys2Proof.Machine.execKPout idx ecc s
  | .kEvt idx ecc => Sys2Proof.Machine.execKEvt idx ecc s
  | .kSig idx ecc => Sys2Proof.Machine.execKSig idx ecc s
  | .kFclr idx ecc => Sys2Proof.Machine.execKFclr idx ecc s
  | .kNext idx ecc => Sys2Proof.Machine.execKNext idx ecc s
  | .kBr idx ecc => Sys2Proof.Machine.execKBr idx ecc s
  | .kCall idx ecc => Sys2Proof.Machine.execKCall idx ecc s
  | .kRet idx ecc => Sys2Proof.Machine.execKRet idx ecc s
  | .kLoop idx ecc => Sys2Proof.Machine.execKLoop idx ecc s
  | .kDisp idx ecc => Sys2Proof.Machine.execKDisp idx ecc s
  | .kEnt idx ecc => Sys2Proof.Machine.execKEnt idx ecc s
  | .kHalt idx ecc => Sys2Proof.Machine.execKHalt idx ecc s
  | .timerExpire idx n => Sys2Proof.Machine.execTimerExpire idx n s
  | .waitWatchdog idx => Sys2Proof.Machine.execWaitWatchdog idx s
  | .seqGo l => Sys2Proof.Machine.execSeqGo l s
  | .seqHalt l => Sys2Proof.Machine.execSeqHalt l s
  | .csCmdWrite l => Sys2Proof.Machine.execCsCmdWrite l s
  | .csCmdRead l ecc => Sys2Proof.Machine.execCsCmdRead l ecc s
  | .crcGo l => Sys2Proof.Machine.execCrcGo l s
  | .crcDone idx bad => Sys2Proof.Machine.execCrcDone idx bad s
  | .bdPulse t width late => Sys2Proof.Machine.execBdPulse t width late s
  | .bdWindowClose late => Sys2Proof.Machine.execBdWindowClose late s
  | .eosPulse t => Sys2Proof.Machine.execEosPulse t s
  | .sheetArm l => Sys2Proof.Machine.execSheetArm l s
  | .pixLockAcquire => Sys2Proof.Machine.execPixLockAcquire s
  | .pixLockLoss => Sys2Proof.Machine.execPixLockLoss s
  | .searchTimeout => Sys2Proof.Machine.execSearchTimeout s
  | .lineGo late => Sys2Proof.Machine.execLineGo late s
  | .lineAdv => Sys2Proof.Machine.execLineAdv s
  | .bldcRun m => Sys2Proof.Machine.execBldcRun m s
  | .catchDone m amp spd ang => Sys2Proof.Machine.execCatchDone m amp spd ang s
  | .brakeEnd m low => Sys2Proof.Machine.execBrakeEnd m low s
  | .alignDone m peaks => Sys2Proof.Machine.execAlignDone m peaks s
  | .handoverTimeout m => Sys2Proof.Machine.execHandoverTimeout m s
  | .stoppingDone m => Sys2Proof.Machine.execStoppingDone m s
  | .pwmPeriod m iu iv iw vu vv vw vm => Sys2Proof.Machine.execPwmPeriod m iu iv iw vu vv vw vm s
  | .motorOvercurrent m => Sys2Proof.Machine.execMotorOvercurrent m s
  | .vdsFault m high phase two => Sys2Proof.Machine.execVdsFault m high phase two s
  | .gateUv m => Sys2Proof.Machine.execGateUv m s
  | .vmBldcUv low => Sys2Proof.Machine.execVmBldcUv low s
  | .bldcClrFault l => Sys2Proof.Machine.execBldcClrFault l s
  | .quadDirection m count => Sys2Proof.Machine.execQuadDirection m count s
  | .reverseStall m => Sys2Proof.Machine.execReverseStall m s
  | .curveSample m aux => Sys2Proof.Machine.execCurveSample m aux s
  | .segCruise l => Sys2Proof.Machine.execSegCruise l s
  | .segLinear l => Sys2Proof.Machine.execSegLinear l s
  | .segSine l => Sys2Proof.Machine.execSegSine l s
  | .segQuintic l => Sys2Proof.Machine.execSegQuintic l s
  | .segStop l => Sys2Proof.Machine.execSegStop l s
  | .profileTick => Sys2Proof.Machine.execProfileTick s
  | .bridgeTrip idx cause b => Sys2Proof.Machine.execBridgeTrip idx cause b s
  | .coilOpen idx b => Sys2Proof.Machine.execCoilOpen idx b s
  | .vmStepUv => Sys2Proof.Machine.execVmStepUv s
  | .park l => Sys2Proof.Machine.execPark l s
  | .parkDone idx => Sys2Proof.Machine.execParkDone idx s
  | .energise idx => Sys2Proof.Machine.execEnergise idx s
  | .stDcWrite l => Sys2Proof.Machine.execStDcWrite l s
  | .dcStall idx => Sys2Proof.Machine.execDcStall idx s
  | .sensorSample ins ilk cov0 cov1 => Sys2Proof.Machine.execSensorSample ins ilk cov0 cov1 s
  | .pickIssue => Sys2Proof.Machine.execPickIssue s
  | .tokenReconcile => Sys2Proof.Machine.execTokenReconcile s
  | .loopSample n fb => Sys2Proof.Machine.execLoopSample n fb s
  | .loopEnable l => Sys2Proof.Machine.execLoopEnable l s
  | .loopDisable l => Sys2Proof.Machine.execLoopDisable l s
  | .loopInit l => Sys2Proof.Machine.execLoopInit l s
  | .loopSwap l => Sys2Proof.Machine.execLoopSwap l s
  | .loopClrFault l => Sys2Proof.Machine.execLoopClrFault l s
  | .coefWrite l => Sys2Proof.Machine.execCoefWrite l s
  | .heaterPeriod idx low => Sys2Proof.Machine.execHeaterPeriod idx low s
  | .fuserReading ratio => Sys2Proof.Machine.execFuserReading ratio s
  | .corrTestStart => Sys2Proof.Machine.execCorrTestStart s
  | .corrForce l => Sys2Proof.Machine.execCorrForce l s
  | .otTrip => Sys2Proof.Machine.execOtTrip s
  | .otClr l trips => Sys2Proof.Machine.execOtClr l trips s
  | .heaterOvercurrent => Sys2Proof.Machine.execHeaterOvercurrent s
  | .heaterStuck => Sys2Proof.Machine.execHeaterStuck s
  | .hvBringupStep => Sys2Proof.Machine.execHvBringupStep s
  | .ilkChange high => Sys2Proof.Machine.execIlkChange high s
  | .overpowerTrip => Sys2Proof.Machine.execOverpowerTrip s
  | .opClr l trips => Sys2Proof.Machine.execOpClr l trips s
  | .enableMismatch hv => Sys2Proof.Machine.execEnableMismatch hv s
  | .gateInput op po jam => Sys2Proof.Machine.execGateInput op po jam s
  | .blockedEntry => Sys2Proof.Machine.execBlockedEntry s
  | .blockedClear => Sys2Proof.Machine.execBlockedClear s
  | .hdClr l => Sys2Proof.Machine.execHdClr l s
  | .shiftGo => Sys2Proof.Machine.execShiftGo s
  | .latch vh => Sys2Proof.Machine.execLatch vh s
  | .strobeGo => Sys2Proof.Machine.execStrobeGo s
  | .strobeDone => Sys2Proof.Machine.execStrobeDone s
  | .preheatGo gap => Sys2Proof.Machine.execPreheatGo gap s
  | .step => Sys2Proof.Machine.execStep s
  | .lineDone => Sys2Proof.Machine.execLineDone s
  | .measGo => Sys2Proof.Machine.execMeasGo s
  | .measDone mv => Sys2Proof.Machine.execMeasDone mv s
  | .cutGo => Sys2Proof.Machine.execCutGo s
  | .cutDone => Sys2Proof.Machine.execCutDone s
  | .homing => Sys2Proof.Machine.execHoming s
  | .cutTimeout => Sys2Proof.Machine.execCutTimeout s
  | .strobeMismatch => Sys2Proof.Machine.execStrobeMismatch s
  | .headTempReading ratio => Sys2Proof.Machine.execHeadTempReading ratio s
  | .vheadWindow mv => Sys2Proof.Machine.execVheadWindow mv s
  | .defClr l => Sys2Proof.Machine.execDefClr l s
  | .hdDefEntWrite l => Sys2Proof.Machine.execHdDefEntWrite l s
  | .vmOkChange ok => Sys2Proof.Machine.execVmOkChange ok s
  | .vinOkChange ok => Sys2Proof.Machine.execVinOkChange ok s
  | .inputOv => Sys2Proof.Machine.execInputOv s
  | .inputOvClear => Sys2Proof.Machine.execInputOvClear s
  | .uvlo => Sys2Proof.Machine.execUvlo s
  | .pgChange n pg => Sys2Proof.Machine.execPgChange n pg s
  | .dischargeDone n => Sys2Proof.Machine.execDischargeDone n s
  | .pEnd errs => Sys2Proof.Machine.execPEnd errs s
  | .pEna => Sys2Proof.Machine.execPEna s
  | .pDis => Sys2Proof.Machine.execPDis s
  | .pWait => Sys2Proof.Machine.execPWait s
  | .pWaitEnd => Sys2Proof.Machine.execPWaitEnd s
  | .pWaitc => Sys2Proof.Machine.execPWaitc s
  | .pWaitcEnd => Sys2Proof.Machine.execPWaitcEnd s
  | .pWaitcTimeout => Sys2Proof.Machine.execPWaitcTimeout s
  | .pCheck => Sys2Proof.Machine.execPCheck s
  | .pJmp => Sys2Proof.Machine.execPJmp s
  | .pJmpc => Sys2Proof.Machine.execPJmpc s
  | .pEvent => Sys2Proof.Machine.execPEvent s
  | .pseqEntryStart => Sys2Proof.Machine.execPseqEntryStart s
  | .programTimeout => Sys2Proof.Machine.execProgramTimeout s
  | .pseqReq l => Sys2Proof.Machine.execPseqReq l s
  | .fwAck l => Sys2Proof.Machine.execFwAck l s
  | .powerUpStart => Sys2Proof.Machine.execPowerUpStart s
  | .powerUpRetry => Sys2Proof.Machine.execPowerUpRetry s
  | .stby l => Sys2Proof.Machine.execStby l s
  | .wake l => Sys2Proof.Machine.execWake l s
  | .wakeNFall => Sys2Proof.Machine.execWakeNFall s
  | .cycle l => Sys2Proof.Machine.execCycle l s
  | .rstN => Sys2Proof.Machine.execRstN s
  | .classATrip cause n => Sys2Proof.Machine.execClassATrip cause n s
  | .classBWarn n kind present v => Sys2Proof.Machine.execClassBWarn n kind present v s
  | .tjHot hot tj => Sys2Proof.Machine.execTjHot hot tj s
  | .pfwRaise vin => Sys2Proof.Machine.execPfwRaise vin s
  | .pfWindowExpiry => Sys2Proof.Machine.execPfWindowExpiry s
  | .vinRefTaken vin => Sys2Proof.Machine.execVinRefTaken vin s
  | .bankFull full => Sys2Proof.Machine.execBankFull full s
  | .bankMeasStart v0 v1 => Sys2Proof.Machine.execBankMeasStart v0 v1 s
  | .bankMeasDone => Sys2Proof.Machine.execBankMeasDone s
  | .measAbort l => Sys2Proof.Machine.execMeasAbort l s
  | .measTimeout => Sys2Proof.Machine.execMeasTimeout s
  | .eAvailUpdate vbank idx => Sys2Proof.Machine.execEAvailUpdate vbank idx s
  | .bankLow => Sys2Proof.Machine.execBankLow s
  | .bankFault cause present => Sys2Proof.Machine.execBankFault cause present s
  | .pfRecordWrite fail => Sys2Proof.Machine.execPfRecordWrite fail s
  | .qualWindow n edges gap => Sys2Proof.Machine.execQualWindow n edges gap s
  | .sourceGap n => Sys2Proof.Machine.execSourceGap n s
  | .sourceHeld n => Sys2Proof.Machine.execSourceHeld n s
  | .refinHzWrite l => Sys2Proof.Machine.execRefinHzWrite l s
  | .ircFail => Sys2Proof.Machine.execIrcFail s
  | .clkSwitchStart => Sys2Proof.Machine.execClkSwitchStart s
  | .rampStep k miss => Sys2Proof.Machine.execRampStep k miss s
  | .syspllLock => Sys2Proof.Machine.execSyspllLock s
  | .relockTimeout => Sys2Proof.Machine.execRelockTimeout s
  | .bootReports => Sys2Proof.Machine.execBootReports s
  | .journalMount x => Sys2Proof.Machine.execJournalMount x s
  | .bootWindowClose => Sys2Proof.Machine.execBootWindowClose s
  | .pushLimit => Sys2Proof.Machine.execPushLimit s
  | .bundleDecide => Sys2Proof.Machine.execBundleDecide s
  | .secVerRaise => Sys2Proof.Machine.execSecVerRaise s
  | .otpPgGo l => Sys2Proof.Machine.execOtpPgGo l s
  | .otpBurnDone raw => Sys2Proof.Machine.execOtpBurnDone raw s
  | .otpFinal l => Sys2Proof.Machine.execOtpFinal l s
  | .ksOwnWrite l => Sys2Proof.Machine.execKsOwnWrite l s
  | .ksErase l => Sys2Proof.Machine.execKsErase l s
  | .trngSample b => Sys2Proof.Machine.execTrngSample b s
  | .recoveryDone => Sys2Proof.Machine.execRecoveryDone s
  | .recoveryTimeout => Sys2Proof.Machine.execRecoveryTimeout s
  | .drbgReseed => Sys2Proof.Machine.execDrbgReseed s
  | .drbgGenerate => Sys2Proof.Machine.execDrbgGenerate s
  | .trngSoftRst l => Sys2Proof.Machine.execTrngSoftRst l s
  | .injectionTest o => Sys2Proof.Machine.execInjectionTest o s
  | .lockstepMismatch parity lane => Sys2Proof.Machine.execLockstepMismatch parity lane s
  | .watchdogExpiry => Sys2Proof.Machine.execWatchdogExpiry s
  | .lkKick l => Sys2Proof.Machine.execLkKick l s
  | .lkCommit l => Sys2Proof.Machine.execLkCommit l s
  | .finishGrace => Sys2Proof.Machine.execFinishGrace s
  | .finishDone => Sys2Proof.Machine.execFinishDone s
  | .finishTimeout => Sys2Proof.Machine.execFinishTimeout s
  | .lkFullrst l => Sys2Proof.Machine.execLkFullrst l s
  | .lkForce l => Sys2Proof.Machine.execLkForce l s
  | .taskSlice rb er => Sys2Proof.Machine.execTaskSlice rb er s
  | .bgLate t => Sys2Proof.Machine.execBgLate t s
  | .flush l => Sys2Proof.Machine.execFlush l s
  | .lfLoRead k => Sys2Proof.Machine.execLfLoRead k s
  | .pmFuncWrite l => Sys2Proof.Machine.execPmFuncWrite l s
  | .gpioChange k high => Sys2Proof.Machine.execGpioChange k high s
  | .adcConversion a code => Sys2Proof.Machine.execAdcConversion a code s
  | .i2cGo l => Sys2Proof.Machine.execI2cGo l s
  | .i2cDone idx e => Sys2Proof.Machine.execI2cDone idx e s
  | .i2cStretchTimeout idx n => Sys2Proof.Machine.execI2cStretchTimeout idx n s
  | .tapInstruction ir => Sys2Proof.Machine.execTapInstruction ir s
  | .vaonLoss => Sys2Proof.Machine.execVaonLoss s
  | .bdWindowOpen => Sys2Proof.Machine.execBdWindowOpen s
  | .usbResume => Sys2Proof.Machine.execUsbResume s
  | .standardRequest r => Sys2Proof.Machine.execStandardRequest r s
  | .norSequenceEnd op => Sys2Proof.Machine.execNorSequenceEnd op s
  | .xoWaitExpiry => Sys2Proof.Machine.execXoWaitExpiry s
  | .galleyWait => Sys2Proof.Machine.execGalleyWait s
  | .ctsNChange u high => Sys2Proof.Machine.execCtsNChange u high s
  | .canFlowControl st fs bs stmin => Sys2Proof.Machine.execCanFlowControl st fs bs stmin s
  | .illegalWord idx ecc => Sys2Proof.Machine.execIllegalWord idx ecc s
  | .illegalStep parity => Sys2Proof.Machine.execIllegalStep parity s
  | .lifeSeconds => Sys2Proof.Machine.execLifeSeconds s

end Sys2Proof.Machine
end

