-- ==== Sys2Proof/WellFormed.lean ====
section
/-! DEFINITION. Which command terms spell a command: operands within the widths the spec gives them. Most operand ranges are in the
types of Syntax.lean; what is left are addresses of 32 bits (R6), lengths and counts of a field, and the tenant of a write. -/

namespace Sys2Proof

/-- An address of 32 bits (R6). -/
def isAddr (a : Nat) : Bool := decide (a < 2 ^ 32)

/-- A tenant is one of T0 to T7 (R56); a firmware write goes to an address. -/
def Land.wf : Land → Bool
  | .tenant k _ => decide (k < 8)
  | .fw a _ => isAddr a

/-- A USB address has 7 bits. -/
def StdReq.wf : StdReq → Bool
  | .setAddress a => decide (a < 128)
  | .setConfiguration _ => true
  | .remoteWakeup _ => true

/-- An erase stays in the NOR window of 64 MiB (Table 6-1). -/
def NorOp.wf : NorOp → Bool
  | .program => true
  | .erase n => decide (n ≤ 0x4000000)
  | .other => true

/-- A lane is below 192, a parity group below 40 (spec/21). -/
def InjOut.wf : InjOut → Bool
  | .pass => true
  | .miss => true
  | .other parity lane => decide (lane < if parity then 40 else 192)

/-- The sizes are those of chips that fit their windows (Table 6-1), the delay a byte. -/
def XspiFound.wf (x : XspiFound) : Bool :=
  decide (x.ramSize ≤ 0x4000000) && decide (x.norSize ≤ 0x4000000) && decide (x.dly < 256)

/-- A transfer writes and reads at most 63 bytes each (Table 25-4). -/
def I2cEnd.wf : I2cEnd → Bool
  | .done bytes => decide (bytes.length < 64)
  | .nackAddr => true
  | .nackData n => decide (n < 64)
  | .arbLost n => decide (n < 64)

/-- The command's operands are within their ranges. -/
def Instr.wf : Instr → Bool
  | .commitAttempt _ => true
  | .gearChangeLock => true
  | .holdMaxExpiry => true
  | .blankRelease _ => true
  | .sheetRelease _ => true
  | .ingestRateUpdate => true
  | .idleCoolExpiry => true
  | .warmupComplete => true
  | .warmupTimeout => true
  | .sheetFusing _ => true
  | .chbindWrite l => l.wf
  | .chbindApply _ => true
  | .tcfgWrite l => l.wf
  | .gqWrite l => l.wf
  | .dmaOwnWrite l => l.wf
  | .dmaOwnApply _ => true
  | .tenResetWrite l => l.wf
  | .tqSoftRst l => l.wf
  | .tenantResetDone _ => true
  | .keepaliveExpiry _ => true
  | .bookSnapWrite l => l.wf
  | .tqSnapWrite l => l.wf
  | .snapshotExpiry _ => true
  | .galleyGrant _ _ epoch job index band => decide (epoch < 65536) && decide (job < 65536) && decide (index < 65536) && decide (band < 65536)
  | .laserSelect => true
  | .thermalSelect => true
  | .frameReceive _ _ _ => true
  | .responseSend _ => true
  | .noticeSend _ => true
  | .usbBusReset _ => true
  | .usbSuspend => true
  | .remoteWakeup => true
  | .usbFsFallback => true
  | .reattach l => l.wf
  | .attach _ => true
  | .statusReport => true
  | .getDeviceId => true
  | .getPortStatus => true
  | .softReset => true
  | .usbRegWrite a bytes => decide (a < 2 ^ 32) && decide (bytes.length < 65536)
  | .usbRegRead a len => decide (a < 2 ^ 32) && decide (len < 65536)
  | .getLink => true
  | .spiRegRead _ _ _ => true
  | .spiRegWrite _ _ => true
  | .streamWrite _ => true
  | .streamRead n => decide (n < 2 ^ 32)
  | .dmaWrite _ => true
  | .spiBadCommand _ => true
  | .csNDeassert => true
  | .uartFrameGap _ => true
  | .rs485Collision _ => true
  | .canNCrTimeout _ => true
  | .canNBsTimeout _ => true
  | .busOff => true
  | .bor l => l.wf
  | .autoBorRecovery => true
  | .sessionOpen _ => true
  | .sessionClose _ => true
  | .ping _ => true
  | .getInfo _ => true
  | .jobStart _ => true
  | .sheetDefine _ => true
  | .data _ exts => exts.all isAddr
  | .dataDma _ exts => exts.all isAddr
  | .dataDmaDone _ => true
  | .jobEnd _ => true
  | .jobCancel _ => true
  | .jobStatus _ => true
  | .formStore _ => true
  | .formProgramDone _ base => isAddr base
  | .formDelete _ => true
  | .formList _ => true
  | .feed _ => true
  | .feedDone => true
  | .engineCtlWarm _ => true
  | .engineCtlCool _ => true
  | .facetRelearn _ => true
  | .headResistance _ => true
  | .holdupCal _ => true
  | .laserPowerCurve _ => true
  | .calibrateDone _ => true
  | .countersRead _ => true
  | .sealedReport _ => true
  | .sealedReportDone _ => true
  | .eventRead _ => true
  | .eventSubscribe _ => true
  | .regRead _ => true
  | .regReadDone _ => true
  | .regWrite _ => true
  | .regFence _ => true
  | .keyLoad _ => true
  | .keyErase _ => true
  | .keyInfo _ => true
  | .randomGet _ => true
  | .patchStatus _ => true
  | .patchPush _ => true
  | .pushGapTimeout => true
  | .tenantReset _ => true
  | .registerWrite l => l.wf
  | .writeTimeout l => l.wf
  | .readTimeout _ a => isAddr a
  | .rcFieldRead _ a => isAddr a
  | .writeFenceRead _ _ => true
  | .fenceComplete _ => true
  | .pgOwnerWrite l => l.wf
  | .pgLockWrite l => l.wf
  | .softRst l => l.wf
  | .freeze l => l.wf
  | .freezeExpiry _ => true
  | .shadowCommit l => l.wf
  | .shadowBoundary _ _ => true
  | .evtPendWrite l => l.wf
  | .evtSet l => l.wf
  | .lePop l => l.wf
  | .evtRdRead _ _ => true
  | .spineAccept _ => true
  | .timeWrap => true
  | .dmaPost l => l.wf
  | .descriptorFetch _ _ => true
  | .descriptorRetire _ _ => true
  | .transferFail _ _ off => decide (off < 2 ^ 27)
  | .portInTimeout _ => true
  | .lateDmaError _ addr tag _ => isAddr addr && decide (tag < 65536)
  | .chLePop l => l.wf
  | .dmaAbort l => l.wf
  | .channelDisable l => l.wf
  | .priorityRaise _ => true
  | .xspiCmdGo l => l.wf
  | .norSuspend => true
  | .scrubBurst _ _ => true
  | .blockDecode => true
  | .decodeSuspend => true
  | .blockEncode addr => isAddr addr
  | .unitFree _ => true
  | .kNop _ _ => true
  | .kLdi _ _ => true
  | .kLdih _ _ => true
  | .kAddi _ _ => true
  | .kAndi _ _ => true
  | .kOri _ _ => true
  | .kXori _ _ => true
  | .kCmpi _ _ => true
  | .kMov _ _ => true
  | .kAdd _ _ => true
  | .kSub _ _ => true
  | .kShl _ _ => true
  | .kShr _ _ => true
  | .kLdp _ _ => true
  | .kStp _ _ => true
  | .kLci _ _ => true
  | .kLcr _ _ => true
  | .kTmi _ _ => true
  | .kTmr _ _ => true
  | .kTmstop _ _ => true
  | .kPin _ _ => true
  | .kPout _ _ => true
  | .kEvt _ _ => true
  | .kSig _ _ => true
  | .kFclr _ _ => true
  | .kNext _ _ => true
  | .kBr _ _ => true
  | .kCall _ _ => true
  | .kRet _ _ => true
  | .kLoop _ _ => true
  | .kDisp _ _ => true
  | .kEnt _ _ => true
  | .kHalt _ _ => true
  | .timerExpire _ _ => true
  | .waitWatchdog _ => true
  | .seqGo l => l.wf
  | .seqHalt l => l.wf
  | .csCmdWrite l => l.wf
  | .csCmdRead l _ => l.wf
  | .crcGo l => l.wf
  | .crcDone _ bad => bad.all (fun w => decide (w < 4096))
  | .bdPulse _ _ _ => true
  | .bdWindowClose _ => true
  | .eosPulse _ => true
  | .sheetArm l => l.wf
  | .pixLockAcquire => true
  | .pixLockLoss => true
  | .searchTimeout => true
  | .lineGo _ => true
  | .lineAdv => true
  | .bldcRun _ => true
  | .catchDone _ _ _ _ => true
  | .brakeEnd _ _ => true
  | .alignDone _ peaks => decide (peaks.length = 12)
  | .handoverTimeout _ => true
  | .stoppingDone _ => true
  | .pwmPeriod _ _ _ _ _ _ _ _ => true
  | .motorOvercurrent _ => true
  | .vdsFault _ _ _ _ => true
  | .gateUv _ => true
  | .vmBldcUv _ => true
  | .bldcClrFault l => l.wf
  | .quadDirection _ _ => true
  | .reverseStall _ => true
  | .curveSample _ _ => true
  | .segCruise l => l.wf
  | .segLinear l => l.wf
  | .segSine l => l.wf
  | .segQuintic l => l.wf
  | .segStop l => l.wf
  | .profileTick => true
  | .bridgeTrip _ _ _ => true
  | .coilOpen _ _ => true
  | .vmStepUv => true
  | .park l => l.wf
  | .parkDone _ => true
  | .energise _ => true
  | .stDcWrite l => l.wf
  | .dcStall _ => true
  | .sensorSample ins _ _ _ => decide (ins.length = 6)
  | .pickIssue => true
  | .tokenReconcile => true
  | .loopSample _ _ => true
  | .loopEnable l => l.wf
  | .loopDisable l => l.wf
  | .loopInit l => l.wf
  | .loopSwap l => l.wf
  | .loopClrFault l => l.wf
  | .coefWrite l => l.wf
  | .heaterPeriod _ _ => true
  | .fuserReading _ => true
  | .corrTestStart => true
  | .corrForce l => l.wf
  | .otTrip => true
  | .otClr l _ => l.wf
  | .heaterOvercurrent => true
  | .heaterStuck => true
  | .hvBringupStep => true
  | .ilkChange _ => true
  | .overpowerTrip => true
  | .opClr l _ => l.wf
  | .enableMismatch _ => true
  | .gateInput _ _ _ => true
  | .blockedEntry => true
  | .blockedClear => true
  | .hdClr l => l.wf
  | .shiftGo => true
  | .latch _ => true
  | .strobeGo => true
  | .strobeDone => true
  | .preheatGo _ => true
  | .step => true
  | .lineDone => true
  | .measGo => true
  | .measDone _ => true
  | .cutGo => true
  | .cutDone => true
  | .homing => true
  | .cutTimeout => true
  | .strobeMismatch => true
  | .headTempReading _ => true
  | .vheadWindow _ => true
  | .defClr l => l.wf
  | .hdDefEntWrite l => l.wf
  | .vmOkChange _ => true
  | .vinOkChange _ => true
  | .inputOv => true
  | .inputOvClear => true
  | .uvlo => true
  | .pgChange _ _ => true
  | .dischargeDone _ => true
  | .pEnd errs => errs.all (fun e => decide (e.1 < 65536))
  | .pEna => true
  | .pDis => true
  | .pWait => true
  | .pWaitEnd => true
  | .pWaitc => true
  | .pWaitcEnd => true
  | .pWaitcTimeout => true
  | .pCheck => true
  | .pJmp => true
  | .pJmpc => true
  | .pEvent => true
  | .pseqEntryStart => true
  | .programTimeout => true
  | .pseqReq l => l.wf
  | .fwAck l => l.wf
  | .powerUpStart => true
  | .powerUpRetry => true
  | .stby l => l.wf
  | .wake l => l.wf
  | .wakeNFall => true
  | .cycle l => l.wf
  | .rstN => true
  | .classATrip _ _ => true
  | .classBWarn _ _ _ _ => true
  | .tjHot _ _ => true
  | .pfwRaise _ => true
  | .pfWindowExpiry => true
  | .vinRefTaken _ => true
  | .bankFull _ => true
  | .bankMeasStart _ _ => true
  | .bankMeasDone => true
  | .measAbort l => l.wf
  | .measTimeout => true
  | .eAvailUpdate _ _ => true
  | .bankLow => true
  | .bankFault _ _ => true
  | .pfRecordWrite _ => true
  | .qualWindow _ _ _ => true
  | .sourceGap _ => true
  | .sourceHeld _ => true
  | .refinHzWrite l => l.wf
  | .ircFail => true
  | .clkSwitchStart => true
  | .rampStep _ _ => true
  | .syspllLock => true
  | .relockTimeout => true
  | .bootReports => true
  | .journalMount x => x.wf
  | .bootWindowClose => true
  | .pushLimit => true
  | .bundleDecide => true
  | .secVerRaise => true
  | .otpPgGo l => l.wf
  | .otpBurnDone _ => true
  | .otpFinal l => l.wf
  | .ksOwnWrite l => l.wf
  | .ksErase l => l.wf
  | .trngSample _ => true
  | .recoveryDone => true
  | .recoveryTimeout => true
  | .drbgReseed => true
  | .drbgGenerate => true
  | .trngSoftRst l => l.wf
  | .injectionTest o => o.wf
  | .lockstepMismatch _ _ => true
  | .watchdogExpiry => true
  | .lkKick l => l.wf
  | .lkCommit l => l.wf
  | .finishGrace => true
  | .finishDone => true
  | .finishTimeout => true
  | .lkFullrst l => l.wf
  | .lkForce l => l.wf
  | .taskSlice _ _ => true
  | .bgLate _ => true
  | .flush l => l.wf
  | .lfLoRead _ => true
  | .pmFuncWrite l => l.wf
  | .gpioChange _ _ => true
  | .adcConversion _ _ => true
  | .i2cGo l => l.wf
  | .i2cDone _ e => e.wf
  | .i2cStretchTimeout _ _ => true
  | .tapInstruction _ => true
  | .vaonLoss => true
  | .bdWindowOpen => true
  | .usbResume => true
  | .standardRequest r => r.wf
  | .norSequenceEnd op => op.wf
  | .xoWaitExpiry => true
  | .galleyWait => true
  | .ctsNChange _ _ => true
  | .canFlowControl _ _ bs stmin => decide (bs < 256) && decide (stmin < 256)
  | .illegalWord _ _ => true
  | .illegalStep _ => true
  | .lifeSeconds => true

end Sys2Proof
end

