-- ==== Sys2Proof/Safety.lean ====
section
/-! DEFINITION. The terms statements use: safe runs, the invariant of the memories, and when a register write or a frame takes effect. -/

namespace Sys2Proof.Machine

/-- `s` with another block: its memories and its queue stay. -/
def State.withDev (s : State) (d : Dev) : State := { s with dev := d }

/-- `s` with another block and other memories: its queue stays. -/
def State.withBoth (s : State) (x : Dev × Mem) : State := { s with dev := x.1, mem := x.2 }

/-- A step that is neither a fault nor a refusal. -/
def State.goesOn (s : State) : Prop := ∃ t, step s = .next t

/-- `n` steps from `s` all go on. -/
def State.safeFor : Nat → State → Prop
  | 0, _ => True
  | n + 1, s => ∃ t, step s = .next t ∧ State.safeFor n t

/-- The invariant of the addressed memories: the canonical form of all three (a cell is listed once, in rising order, and only where it
differs from what an unlisted cell reads as). -/
def State.memInv (s : State) : Prop := s.mem.wf = true

/-- Every field of a register lies within its 32 bits. -/
def Fld.ok (f : Fld) : Prop := f.lo + f.w ≤ 32

/-- How a register write lands when the bridge grants it (R223, R225, R239): who writes, the address, the data, and the block as the
effect of the write finds it. None where no write waits or a check of Table 5-1 refuses it. -/
def Dev.granted (d : Dev) : Land → Option (Agent × Nat × Word × Dev)
  | .fw a v => if d.fwRefuse a = 0 then some (.fw, a, v, d) else none
  | .tenant k ecc =>
    match (d.br k).queue with
    | [] => none
    | w :: _ =>
      if d.refuseReason k w.addr w.data (ecc = .uncorrectable) = 0 then
        some (.tenant k, w.addr, w.data, if ecc = .corrected then (d.popWrite k).addSat Reg.BR_ECC_CORR 1 else d.popWrite k)
      else none

/-- The write at the head of tenant `k`'s queue is refused, with this reason (R225). -/
def Dev.refused (d : Dev) (k : Nat) (ecc : Ecc) (w : PostedWrite) (reason : Nat) : Prop :=
  (∃ rest, (d.br k).queue = w :: rest) ∧ d.refuseReason k w.addr w.data (ecc = .uncorrectable) = reason ∧ reason ≠ 0

/-- The frame `f` at the head of tenant `k`'s queue is a command `op` that passes steps 1 to 5 of R166; `form` is step 5. -/
def Dev.accepts (d : Dev) (k op : Nat) (f : Frame) (form : Bool) : Prop :=
  d.nextFrame k = some f ∧ f.opcode = op ∧ (opRow op).any (fun r => d.stepChecks k f r form == 0) = true

/-- The block once the firmware has taken that frame: it has left the queue, and a command that wakes has woken the engine (R211). -/
def Dev.began (d : Dev) (k : Nat) (f : Frame) : Dev :=
  match opRow f.opcode with
  | some r => (d.takeFrame k).wake r
  | none => d.takeFrame k

/-- Sequencer `i` fetches, and the word at its PC is `w` (R397). -/
def Dev.fetches (d : Dev) (i w : Nat) : Prop := d.seqRuns i = true ∧ d.word i (d.get (Reg.SEQ_STAT_PC i)) = w

/-- The write that a command lets reach its page, where its row stands for a register write. -/
def cmdLand : Instr → Option Land
  | .chbindWrite l => some l
  | .tcfgWrite l => some l
  | .gqWrite l => some l
  | .dmaOwnWrite l => some l
  | .tenResetWrite l => some l
  | .tqSoftRst l => some l
  | .bookSnapWrite l => some l
  | .tqSnapWrite l => some l
  | .reattach l => some l
  | .bor l => some l
  | .registerWrite l => some l
  | .writeTimeout l => some l
  | .pgOwnerWrite l => some l
  | .pgLockWrite l => some l
  | .softRst l => some l
  | .freeze l => some l
  | .shadowCommit l => some l
  | .evtPendWrite l => some l
  | .evtSet l => some l
  | .lePop l => some l
  | .dmaPost l => some l
  | .chLePop l => some l
  | .dmaAbort l => some l
  | .channelDisable l => some l
  | .xspiCmdGo l => some l
  | .seqGo l => some l
  | .seqHalt l => some l
  | .csCmdWrite l => some l
  | .csCmdRead l _ => some l
  | .crcGo l => some l
  | .sheetArm l => some l
  | .bldcClrFault l => some l
  | .segCruise l => some l
  | .segLinear l => some l
  | .segSine l => some l
  | .segQuintic l => some l
  | .segStop l => some l
  | .park l => some l
  | .stDcWrite l => some l
  | .loopEnable l => some l
  | .loopDisable l => some l
  | .loopInit l => some l
  | .loopSwap l => some l
  | .loopClrFault l => some l
  | .coefWrite l => some l
  | .corrForce l => some l
  | .otClr l _ => some l
  | .opClr l _ => some l
  | .hdClr l => some l
  | .defClr l => some l
  | .hdDefEntWrite l => some l
  | .pseqReq l => some l
  | .fwAck l => some l
  | .stby l => some l
  | .wake l => some l
  | .cycle l => some l
  | .measAbort l => some l
  | .refinHzWrite l => some l
  | .otpPgGo l => some l
  | .otpFinal l => some l
  | .ksOwnWrite l => some l
  | .ksErase l => some l
  | .trngSoftRst l => some l
  | .lkKick l => some l
  | .lkCommit l => some l
  | .lkFullrst l => some l
  | .lkForce l => some l
  | .flush l => some l
  | .pmFuncWrite l => some l
  | .i2cGo l => some l
  | _ => none

/-- Whether a command may write an addressed memory: DMA and what stops it, the codec, the scrubber, SRAM zeroed on release, NOR
programmed or erased by the firmware. -/
def cmdMayWrite : Instr → Bool
  | .tenantResetDone _ | .data _ _ | .dataDma _ _ | .formProgramDone _ _ | .keyErase _ | .registerWrite _ | .softRst _
  | .freeze _ | .shadowCommit _ | .dmaPost _ | .descriptorFetch _ _ | .descriptorRetire _ _ | .transferFail _ _ _
  | .portInTimeout _ | .dmaAbort _ | .channelDisable _ | .scrubBurst _ _ | .blockDecode | .blockEncode _ | .unitFree _
  | .bdPulse _ _ _ | .bdWindowClose _ | .pfRecordWrite _ | .bootReports | .bundleDecide | .ksOwnWrite _ | .ksErase _
  | .taskSlice _ _ | .norSequenceEnd _ => true
  | _ => false

end Sys2Proof.Machine
end

