-- ==== Sys2Proof/Certificates/Slice0/Obligations.lean ====
section
/-! DEFINITION. The statements for the provers. -/

open Sys2Proof Sys2Proof.Machine

/-- COMMIT_ATTEMPT whose ten checks all pass commits the held sheet (LK_COMMIT, gear, COMMITTED event). GEAR_CHANGE_LOCK makes the
target gear the running gear. HOLD_MAX_EXPIRY sets the held sheet for a blank release. BLANK_RELEASE and SHEET_RELEASE launch
the sheet for its release instant. INGEST_RATE_UPDATE moves each tenant's rate a quarter of the way to the bytes of the window.
IDLE_COOL_EXPIRY enters COOLING, WARMUP_COMPLETE enters READY, WARMUP_TIMEOUT raises its record and stops the engine.
SHEET_FUSING moves an imaging sheet to FUSING. (R23; R26; R27; R30; R34; R35; R36; R42; R55; R602; R604; R549) -/
def Obligations.EngineCommandsComplete : Prop :=
  (∀ s took x, s.dev.heldSheet = some x →
    let d := (s.dev.boundary 0x32).geomCheck
    let e := d.lateRecord x (d.slackOf s.mem x)
    d.holdAge x < d.holdMax → d.earlyChecks x = none → e.lateFail x (d.slackOf s.mem x).1 took = none →
    exec (.commitAttempt took) s = .next (s.withDev (e.commit x (e.energyShort x)))) ∧
  (∀ s, s.dev.engineOn = true → s.dev.flag (Reg.BL_STAT_SPD_LOCK 1) = true →
    s.dev.geti (Reg.BL_CMD_NOW_SPEED 1) = s.dev.blSelected 1 →
    (s.dev.get Reg.PC_STAT_RUN_GEAR = 0 ∨ s.dev.flag Reg.PC_STAT_SHIFTING = true) →
    exec .gearChangeLock s = .next (s.withDev ((s.dev.set Reg.PC_STAT_RUN_GEAR s.dev.engine.target).set Reg.PC_STAT_SHIFTING 0))) ∧
  (∀ s x, s.dev.heldSheet = some x → (s.dev.laserState = LasSt.ready ∨ s.dev.laserState = LasSt.printing) →
    s.dev.holdMax ≤ s.dev.holdAge x →
    exec .holdMaxExpiry s = .next (s.withDev (s.dev.setBlank x (s.dev.gapAfter s.dev.now)))) ∧
  (∀ s tRel x i, s.dev.sheets.find? (fun y => y.state == .held && y.blank && ! y.released) = some x → s.dev.slotOf x = some i →
    (s.dev.slot i).state = 3 → x.tRel ≤ tRel → s.dev.lockMode = 0 →
    exec (.blankRelease tRel) s = .next (s.withDev (((s.dev.modSheet x (fun y => { y with released := true, tRel := tRel })).dropSheetWork x).launch x i tRel s.dev.relGear))) ∧
  (∀ s tRel x i, s.dev.sheets.find? (fun y => y.state == .committed && ! y.released) = some x → s.dev.slotOf x = some i →
    (s.dev.slot i).state = 3 → x.tRel ≤ tRel → s.dev.lockMode ≠ 2 →
    exec (.sheetRelease tRel) s = .next (s.withDev ((s.dev.modSheet x (fun y => { y with released := true, tRel := tRel })).launch x i tRel x.gear))) ∧
  (∀ s, exec .ingestRateUpdate s = .next (s.withDev ((List.range 8).foldl Dev.ingestStep s.dev))) ∧
  (∀ s, s.dev.laserState = LasSt.ready → s.dev.get Reg.PC_CTL_IDLE_COOL ≠ 0 → s.dev.pathEmpty = true → s.dev.anyQueued = false →
    s.dev.engine.since + 1000000 * s.dev.get Reg.PC_CTL_IDLE_COOL ≤ s.dev.now →
    exec .idleCoolExpiry s = .next (s.withDev (s.dev.setLas LasSt.cooling))) ∧
  (∀ s, s.dev.laserState = LasSt.warming → s.dev.geomCheck.unmet = 0 → s.dev.geomCheck.faulted 0x32 3 = false →
    exec .warmupComplete s = .next (s.withDev (s.dev.geomCheck.setLas LasSt.ready))) ∧
  (∀ s, s.dev.laserState = LasSt.warming → s.dev.unmet ≠ 0 →
    s.dev.engine.since + 1000000 * atLeast1 (s.dev.get Reg.FU_WARM_WARM_MAX) ≤ s.dev.now →
    exec .warmupTimeout s = .next (s.withDev (((s.dev.raise 0x32 0xF St.warmupTimeout 3 s.dev.unmet).faultOn 0x32 2 St.warmupTimeout 3
      s.dev.unmet).engineStopNow 0x32 2))) ∧
  (∀ s (i : Fin 4) x, s.dev.slotSheet i.val = some x → 4 ≤ (s.dev.slot i.val).state → (s.dev.slot i.val).state ≤ 5 → x.blank = false →
    x.state = .imaging → exec (.sheetFusing i) s = .next (s.withDev (s.dev.moveSheet x .fusing)))

/-- For a register write that the bridge grants (or a firmware write), CHBIND_WRITE stores the binding and asks for it, TCFG_WRITE,
GQ_WRITE and DMA_OWN_WRITE store and re-check, TEN_RESET_WRITE and TQ_SOFT_RST start a tenant reset, BOOK_SNAP_WRITE takes or
releases the global snapshot and TQ_SNAP_WRITE the one of its page. Memories and queue stay. (R56; R62; R70; R79; R88; R94;
R103; R104; R105; R109; R850) -/
def Obligations.TenantRegisterWritesTakeEffect : Prop :=
  (∀ s l ag a v d c, s.dev.granted l = some (ag, a, v, d) → chbindOf a = some c →
    exec (.chbindWrite l) s = .next (s.withDev ((d.store a v.toNat).bindAsk c))) ∧
  (∀ s l ag a v d k, s.dev.granted l = some (ag, a, v, d) → tcfgOf a = some k →
    exec (.tcfgWrite l) s = .next (s.withDev ((d.store a v.toNat).keepAsk k (d.get (Reg.TCFG_KEEPALIVE k))))) ∧
  (∀ s l ag a v d (k : Fin 8), s.dev.granted l = some (ag, a, v, d) → a = Reg.GQ k.val →
    exec (.gqWrite l) s = .next (s.withDev (d.store a v.toNat).gqCheck)) ∧
  (∀ s l ag a v d, s.dev.granted l = some (ag, a, v, d) → (a = Reg.DMA_OWN0 ∨ a = Reg.DMA_OWN1) →
    exec (.dmaOwnWrite l) s = .next (s.withDev ((List.range 16).foldl (fun d c => d.dmaOwnAsk c) (d.store a v.toNat)))) ∧
  (∀ s l ag a v d, s.dev.granted l = some (ag, a, v, d) → a = Reg.TEN_RESET →
    exec (.tenResetWrite l) s = .next (s.withDev
      ((List.range 8).foldl (fun d k => if bit v.toNat k then d.startReset k else d) (d.store a v.toNat)))) ∧
  (∀ s l ag a v d (k : Fin 8), s.dev.granted l = some (ag, a, v, d) → a = Reg.PG_CTL (2 + k.val) → bit v.toNat 1 = true →
    exec (.tqSoftRst l) s = .next (s.withDev
      (({ d.softRegs (2 + k.val) with tqSnaps := lmod d.tqSnaps k.val (fun _ => none) } : Dev).startReset k.val))) ∧
  (∀ s l ag a v d, s.dev.granted l = some (ag, a, v, d) → a = Reg.BOOK_SNAP → bit v.toNat 0 = true →
    exec (.bookSnapWrite l) s = .next (s.withDev
      { (d.store a v.toNat).addWrap Reg.BOOK_SNAP_SNAP_SEQ 1 with
        globalSnap := some (d.now, d.takeBooks s.mem bookRegs ++ d.takeLife) })) ∧
  (∀ s l ag a v d, s.dev.granted l = some (ag, a, v, d) → a = Reg.BOOK_SNAP → bit v.toNat 0 = false →
    exec (.bookSnapWrite l) s = .next (s.withDev { d.store a v.toNat with globalSnap := none })) ∧
  (∀ s l ag a v d (k : Fin 8), s.dev.granted l = some (ag, a, v, d) → a = Reg.TQ_SNAP k.val → bit v.toNat 0 = true →
    exec (.tqSnapWrite l) s = .next (s.withDev { d.store a v.toNat with
        tqSnaps := lmod (d.store a v.toNat).tqSnaps k.val
          (fun _ => some (d.now, d.takeBooks s.mem [Reg.TQ_STAT k.val, Reg.TQ_GAL k.val])) }))

/-- CHBIND_APPLY applies a waiting binding once the channel holds no partly received frame. DMA_OWN_APPLY lets a waiting owner take
effect. TENANT_RESET_DONE runs the steps of a tenant reset in their order once no posted write is outstanding. KEEPALIVE_EXPIRY
faults an OPEN tenant whose keepalive has run out. SNAPSHOT_EXPIRY releases a snapshot that is 10 ms old. (R62; R70; R90; R94;
R95; R103; R105) -/
def Obligations.TenantEventsTakeEffect : Prop :=
  (∀ s (c : Fin 16) b, (s.dev.chan c.val).pend = some b → s.dev.frameHeld c.val = false →
    exec (.chbindApply c) s = .next (s.withDev (s.dev.bindNow c.val b))) ∧
  (∀ s (c : Fin 16), exec (.dmaOwnApply c) s = .next (s.withDev (s.dev.dmaOwnAsk c.val))) ∧
  (∀ s (k : Fin 8), (s.dev.ten k.val).state = .resetting → s.dev.outstanding k.val = [] →
    exec (.tenantResetDone k) s = .next (s.withBoth
      (let x := ((s.dev.resetQueues k.val).resetWork k.val).resetOwned s.mem k.val
       (((x.1.resetUnits k.val).resetBooks k.val).resetEnd k.val, x.2)))) ∧
  (∀ s (k : Fin 8), (s.dev.ten k.val).state = .opened → s.dev.get (Reg.TCFG_KEEPALIVE k.val) ≠ 0 →
    (s.dev.ten k.val).keepFrom + s.dev.get (Reg.TCFG_KEEPALIVE k.val) * 100000 ≤ s.dev.now →
    exec (.keepaliveExpiry k) s = .next (s.withDev (s.dev.tenantFault k.val))) ∧
  (∀ s t x, s.dev.globalSnap = some (t, x) → t + 10000 ≤ s.dev.now →
    exec (.snapshotExpiry 8) s = .next (s.withDev { s.dev.set Reg.BOOK_SNAP_SNAP 0 with globalSnap := none })) ∧
  (∀ s (w : Fin 9) t x, w.val ≠ 8 → s.dev.tqSnaps.getD w.val none = some (t, x) → t + 10000 ≤ s.dev.now →
    exec (.snapshotExpiry w) s = .next (s.withDev
      { s.dev.set (Reg.TQ_SNAP_SNAP w.val) 0 with tqSnaps := lmod s.dev.tqSnaps w.val (fun _ => none) }))

/-- LASER_SELECT marks the oldest sheet of the tenant that the weighted turn gives. THERMAL_SELECT starts the receipt of the tenant
that the weighted turn gives. GALLEY_GRANT grants a new request in one grant when the quota and the free units allow it and no
other request waits. (R78; R83; R84; R86; R361; R362; R364) -/
def Obligations.SchedulersAndAllocator : Prop :=
  (∀ s k n x, s.dev.laserMay = true →
    schedPick (fun k => (s.dev.ten k).state == .opened && s.dev.get (Reg.TCFG_WEIGHT_L k) != 0 && (s.dev.oldestSheet k).isSome)
      (fun k => s.dev.get (Reg.TCFG_WEIGHT_L k)) s.dev.laserSched = some (k, n) →
    s.dev.oldestSheet k = some x →
    exec .laserSelect s = .next (s.withDev (({ s.dev with laserSched := n } : Dev).modSheet x (fun y => { y with selected := true })))) ∧
  (∀ s k n j, s.dev.thermalMay = true →
    schedPick (fun k => (s.dev.ten k).state == .opened && s.dev.get (Reg.TCFG_WEIGHT_T k) != 0 && (s.dev.oldestReceipt k).isSome)
      (fun k => s.dev.get (Reg.TCFG_WEIGHT_T k)) s.dev.thermalSched = some (k, n) →
    s.dev.oldestReceipt k = some j → s.dev.seqRuns 1 = false →
    exec .thermalSelect s = .next (s.withDev
      ((({ s.dev with thermalSched := n } : Dev).modJob k j.num (fun x => { x with waiting := false })).receiptStart s.mem k j.epoch j.num))) ∧
  (∀ s (k : Fin 8) epoch job index band,
    let r : GReq := ⟨0, k.val, epoch, job, index, band, s.dev.now, false⟩
    let d : Dev := { s.dev with galReqs := [r] }
    s.dev.galReqs = [] → s.dev.reqValid r = true → s.dev.reqHeld r = false →
    d.mayGrant k.val (d.reqUnits r) (d.unitCount .free) = true →
    exec (.galleyGrant false k epoch job index band) s = .next (s.withDev { d.fillReq r with galReqs := [] }))

/-- Each USB command, where the spec says it acts, answers a next state with exactly its effect: a bus reset enumerates anew and
picks the speed, suspend, wakeup and resume change the port's suspend state, a lost XO at High-Speed detaches for Full-Speed,
REATTACH detaches, ATTACH picks the speed, a status report goes out when a field changed, the class requests answer, SOFT_RESET
drops the partly received frame, and the vendor requests post and read registers. (R128; R129; R130; R132; R133; R134; R135;
R136; R137; R138; R787; Table 3-4) -/
def Obligations.UsbCommandsTakeEffect : Prop :=
  (∀ s, s.dev.get Reg.USB_STAT_SPEED ≠ 0 →
    let d := (s.dev.boundary 0x35).addSat Reg.USB_ERR_BUS_RESETS 1
    let e := (((d.set Reg.USB_STAT_SPEED 1).set Reg.USB_STAT_ADDR 0).set Reg.USB_STAT_CONFIGURED 0).set Reg.USB_STAT_SUSPENDED 0
    exec (.usbBusReset false) s = .next (s.withDev { e with ports := { e.ports with usbWake := false, usbWakeSig := false } })) ∧
  (∀ s, s.dev.get Reg.USB_STAT_SPEED ≠ 0 → exec .usbSuspend s = .next (s.withDev (s.dev.set Reg.USB_STAT_SUSPENDED 1))) ∧
  (∀ s, s.dev.flag Reg.USB_STAT_SUSPENDED = true → s.dev.flag Reg.USB_CTL_RWAKE_EN = true → s.dev.ports.usbWake = true →
    s.dev.statusReport ≠ s.dev.ports.usbLast →
    exec .remoteWakeup s = .next (s.withDev { s.dev with ports := { s.dev.ports with usbWakeSig := true } })) ∧
  (∀ s, s.dev.get Reg.USB_STAT_SPEED = 2 → s.dev.usbXo = false → exec .usbFsFallback s = .next (s.withDev (s.dev.usbDetach 2))) ∧
  (∀ s l ag a v d, s.dev.granted l = some (ag, a, v, d) → a = Reg.USB_CTL → bit v.toNat 1 = true →
    exec (.reattach l) s = .next (s.withDev ((d.store a v.toNat).usbDetach 1))) ∧
  (∀ s, s.dev.flag Reg.USB_CTL_ATTACH = true → s.dev.get Reg.USB_STAT_SPEED = 0 →
    (s.dev.clk.xoSeen = true ∨ s.dev.get Reg.CK_SRC_STAT_REFIN = 2) →
    let d := (s.dev.boundary 0x35).dropUsbFrames
    let e := ((d.set Reg.USB_STAT_SPEED 1).setb Reg.USB_STAT_FS_FALLBACK (s.dev.ports.reattach == 2)).setb
      Reg.USB_STAT_SOF_LOCK (s.dev.ports.reattach == 2)
    exec (.attach false) s = .next (s.withDev { e with ports := { e.ports with reattach := 0 } })) ∧
  (∀ s, s.dev.get Reg.USB_STAT_SPEED ≠ 0 → s.dev.flag Reg.USB_STAT_SUSPENDED = false → s.dev.statusReport ≠ s.dev.ports.usbLast →
    exec .statusReport s = .next (s.withDev { s.dev with ports := { s.dev.ports with usbLast := s.dev.statusReport } })) ∧
  (∀ s, s.dev.prnOn = true → exec .getDeviceId s = .next (s.withDev
    (s.dev.usbReply ([BitVec.ofNat 8 ((deviceId.length + 2) / 256), BitVec.ofNat 8 (deviceId.length + 2)] ++ deviceId)))) ∧
  (∀ s, s.dev.prnOn = true → exec .getPortStatus s = .next (s.withDev (s.dev.usbReply (leBytes 1 s.dev.portStatus)))) ∧
  (∀ s, s.dev.flag Reg.USB_CTL_PRN_EN = true → exec .softReset s = .next (s.withDev
    (s.dev.modChan (s.dev.get Reg.USB_CTL_PRN_PAIR) (fun x => { x with rx := [], skip := 0 })))) ∧
  (∀ s k a bytes, s.dev.get Reg.USB_STAT_SPEED ≠ 0 → s.dev.pathTen 15 = some k → vendorOk a bytes.length = true →
    bytes.length / 4 ≤ s.dev.brRoom k → s.dev.ports.wbuf = [] →
    exec (.usbRegWrite a bytes) s = .next (s.withDev ((Dev.postWords k a (wordsOf bytes) s.dev).usbReply []))) ∧
  (∀ s k a len, s.dev.get Reg.USB_STAT_SPEED ≠ 0 → s.dev.pathTen 15 = some k → vendorOk a len = true →
    (readAddrs a (len / 4)).all (s.dev.readOk k) = true → (readAddrs a (len / 4)).all (s.dev.readReady k) = true →
    exec (.usbRegRead a len) s = .next (s.withDev
      ((Dev.readRegs s.mem (.tenant k) (len / 4) a s.dev).2.usbReply (wordBytes (Dev.readRegs s.mem (.tenant k) (len / 4) a s.dev).1)))) ∧
  (∀ s, s.dev.get Reg.USB_STAT_SPEED ≠ 0 → s.dev.regPorts = true → exec .getLink s = .next (s.withDev
    (s.dev.fresh.2.usbReply (leBytes 2 s.dev.ports.usbRefused ++ [0, 0] ++ leBytes 4 (Config.freeWord s.dev.free).toNat))))

/-- With no transaction in progress, the register ports on and channel 8 bound to tenant k, each SPI command starts its transaction
(the block remembers the command) and applies its own effect for tenant k: a register read issues its words, a register write
posts them (a quad transaction where quad I/O is honoured), STREAM_WRITE receives frame bytes, STREAM_READ sends AVAIL and the
bytes with 0xFF beyond them, DMA_WRITE gives raw data to the channel's DMA, an unknown command sends 0xFF. CS_N_DEASSERT ends
the transaction and carries LSTAT bit 4 over. (R139; R141; R142; R143; R144; R145; R146; R187; R1019; Table 3-6) -/
def Obligations.SpiCommandsTakeEffect : Prop :=
  (∀ s k quad mosi n, s.dev.ports.spiCmd = 0 → s.dev.regPorts = true → (s.dev.chan 8).bind = some k → 4 ≤ mosi.length → s.dev.quadOk quad = true →
    exec (.spiRegRead quad mosi n) s = .next (s.withDev (Dev.spiWords s.mem k (max 1 n) (leAt mosi 0 4) (s.dev.spiStart 1)))) ∧
  (∀ s k quad mosi, s.dev.ports.spiCmd = 0 → s.dev.regPorts = true → 4 ≤ mosi.length → (s.dev.chan 8).bind = some k → s.dev.quadOk quad = true →
    exec (.spiRegWrite quad mosi) s = .next (s.withDev
      (Dev.spiWriteWords k (BitVec.ofNat 8 (2 + 128 * b2n quad)) mosi.length (leAt mosi 0 4) (mosi.drop 4) (s.dev.spiStart 2)))) ∧
  (∀ s k bytes, s.dev.ports.spiCmd = 0 → s.dev.regPorts = true → (s.dev.chan 8).bind = some k →
    exec (.streamWrite bytes) s = .next (s.withDev ((s.dev.spiStart 3).receive 8 (bytes.map (fun b => (b, RxErr.none))) false))) ∧
  (∀ s k n, s.dev.ports.spiCmd = 0 → s.dev.regPorts = true → (s.dev.chan 8).bind = some k →
    let d := s.dev.spiStart 4
    exec (.streamRead n) s = .next (s.withDev
      ((d.modChan 8 (fun x => { x with out := (takeBytes n (d.chan 8).out).2 })).spiSend
        (leBytes 2 (min 65535 d.spiAvail) ++ (takeBytes n (d.chan 8).out).1 ++
          List.replicate (n - (takeBytes n (d.chan 8).out).1.length) 0xFF)))) ∧
  (∀ s k bytes, s.dev.ports.spiCmd = 0 → s.dev.regPorts = true → (s.dev.chan 8).bind = some k →
    exec (.dmaWrite bytes) s = .next (s.withDev ((s.dev.spiStart 5).modChan 8 (fun x =>
      { x with dmaIn := x.dmaIn ++ bytes.take x.dmaLeft, dmaLeft := x.dmaLeft - bytes.length })))) ∧
  (∀ s k (c : Fin 256), s.dev.ports.spiCmd = 0 → s.dev.regPorts = true → (c.val % 128 = 0 ∨ 5 < c.val % 128) →
    (s.dev.chan 8).bind = some k →
    exec (.spiBadCommand c) s = .next (s.withDev (((s.dev.spiStart (c.val % 128)).spiSend [0xFF]).spiSpoil))) ∧
  (∀ s, s.dev.ports.spiCmd ≠ 0 → exec .csNDeassert s = .next (s.withDev { s.dev with ports := { s.dev.ports with
    spiCmd := 0, spiMiso := [], spiBad := s.dev.ports.spiMark, spiMark := false } }))

/-- FRAME_RECEIVE hands the bytes to the channel's parser. RESPONSE_SEND sends the oldest response of the channel when nothing holds
it, NOTICE_SEND the oldest notice. UART_FRAME_GAP discards the partial frame. RS485_COLLISION counts, and drops the frame at the
eighth. The CAN time-outs drop the reception or the transmission, BUS_OFF stops the streams, BOR asks for recovery and
AUTO_BOR_RECOVERY ends bus-off. (R114; R122; R150; R152; R153; R157; R158; R861; R1018) -/
def Obligations.FramePortsTakeEffect : Prop :=
  (∀ s (c : Fin 16) bytes fin, exec (.frameReceive c bytes fin) s = .next (s.withDev (s.dev.receive c.val bytes fin))) ∧
  (∀ s (c : Fin 16) k r, (s.dev.chan c.val).bind = some k → s.dev.sendOpen c.val = true → s.dev.sendIdle c.val = true →
    (s.dev.chan c.val).notices = [] → (s.dev.ten k).tags = false →
    (s.dev.ten k).respQ.find? (fun r => s.dev.respChan k r == c.val) = some r →
    let d := s.dev.modTen k (fun t => { t with respQ := t.respQ.erase r })
    exec (.responseSend c) s = .next (s.withDev
      (((d.beginSend c.val k true (s.dev.respFrame k r none)).drain k).noticeQueued s.dev))) ∧
  (∀ s (c : Fin 16) k n rest, (s.dev.chan c.val).bind = some k → (s.dev.chan c.val).notices = n :: rest → s.dev.sendOpen c.val = true →
    s.dev.sendIdle c.val = true → (s.dev.ten k).tags = false →
    exec (.noticeSend c) s = .next (s.withDev ((s.dev.modChan c.val (fun x => { x with notices := rest })).beginSend c.val k false
      (frameBytes 6 n.opcode n.seq n.status ((s.dev.ten k).retCred % 256) (leBytes 2 n.exp ++ zeros 2) none)))) ∧
  (∀ s (u : Fin 2), s.dev.flag (Reg.UART_CFG_FRAME_GAP u.val) = true →
    (0 < (s.dev.chan (9 + u.val)).skip ∨ (s.dev.chan (9 + u.val)).rx ≠ []) →
    exec (.uartFrameGap u) s = .next (s.withDev
      ((s.dev.modChan (9 + u.val) (fun x => { x with rx := [], skip := 0, inResync := false })).addSat (resyncFld (9 + u.val)) 1))) ∧
  (∀ s (u : Fin 2), s.dev.flag (Reg.UART_CFG_RS485 u.val) = true → (s.dev.chan (9 + u.val)).out ≠ [] →
    s.dev.ports.collisions.getD u.val 0 + 1 < 8 →
    let d := s.dev.addSat (Reg.UART_ERR_COLLISION u.val) 1
    exec (.rs485Collision u) s = .next (s.withDev { d with ports := { d.ports with
      collisions := lmod d.ports.collisions u.val (fun _ => s.dev.ports.collisions.getD u.val 0 + 1) } })) ∧
  (∀ s (u : Fin 2), s.dev.flag (Reg.UART_CFG_RS485 u.val) = true → (s.dev.chan (9 + u.val)).out ≠ [] →
    8 ≤ s.dev.ports.collisions.getD u.val 0 + 1 →
    let d := (s.dev.addSat (Reg.UART_ERR_COLLISION u.val) 1).modChan (9 + u.val) (fun x => { x with out := [] })
    exec (.rs485Collision u) s = .next (s.withDev { d with ports := { d.ports with
      collisions := lmod d.ports.collisions u.val (fun _ => 0) } })) ∧
  (∀ s (st : Fin 4) k, s.dev.ports.canRx.getD st.val false = true → (s.dev.chan (11 + st.val)).bind = some k →
    let d := s.dev.modChan (11 + st.val) (fun x => { x with rx := [] })
    let e : Dev := { d with ports := { d.ports with canRx := lmod d.ports.canRx st.val (fun _ => false) } }
    (e.chan (11 + st.val)).bind = some k → exec (.canNCrTimeout st) s = .next (s.withDev (e.protoErr k))) ∧
  (∀ s (st : Fin 4), s.dev.ports.canTx.getD st.val 0 ≠ 0 →
    exec (.canNBsTimeout st) s = .next (s.withDev ((s.dev.canTxEnd st.val).addSat Reg.CAN_ERR_TP_TIMEOUT 1))) ∧
  (∀ s, s.dev.ports.canBusOff = false →
    let d := (s.dev.canDrop.addSat Reg.CAN_ERR_BUS_OFF 1).set Reg.CAN_STAT_STATE 2
    exec .busOff s = .next (s.withDev { d with ports := { d.ports with canBusOff := true, canRecover := false } })) ∧
  (∀ s l ag a v d, s.dev.granted l = some (ag, a, v, d) → a = Reg.CAN_CTL → bit v.toNat 5 = true →
    (d.store a v.toNat).ports.canBusOff = true →
    exec (.bor l) s = .next (s.withDev { d.store a v.toNat with ports := { (d.store a v.toNat).ports with canRecover := true } })) ∧
  (∀ s, s.dev.ports.canBusOff = true → (s.dev.flag Reg.CAN_CTL_AUTO_BOR = true ∨ s.dev.ports.canRecover = true) →
    let d := ((s.dev.canDrop.set Reg.CAN_STAT_STATE 0).set Reg.CAN_STAT_TEC 0).set Reg.CAN_STAT_REC 0
    exec .autoBorRecovery s = .next (s.withDev { d with ports := { d.ports with canBusOff := false, canRecover := false } }))

/-- When the frame at the head of tenant k's queue is the command, passes steps 1 to 5 of R166 and meets no precondition of its own,
the command leaves the queue and has its effect: SESSION_OPEN opens, SESSION_CLOSE answers and closes at the placement, PING
returns its bytes, GET_INFO and JOB_STATUS answer, JOB_START takes a job slot, DATA stores its bytes in the layer's stream,
DATA_DMA builds and posts its chain, JOB_END and JOB_CANCEL end or cancel the job. DATA_DMA_DONE answers a chain that has ended.
SHEET_DEFINE defines the sheet. (R166; R169; R170; R176; R180; R182; R187; R188; R189; R1023; Table 4-3; Table 4-12) -/
def Obligations.SessionAndJobCommandsTakeEffect : Prop :=
  (∀ s (k : Fin 8) f, s.dev.accepts k.val 0x0001 f (sessionForm s.dev f) → s.dev.sessionPre k.val f = 0 →
    exec (.sessionOpen k) s = .next (s.withDev ((s.dev.began k.val f).openSession k.val f))) ∧
  (∀ s (k : Fin 8) f, s.dev.accepts k.val 0x0002 f (lenIs 0 s.dev f) → (s.dev.ten k.val).jobs = [] →
    exec (.sessionClose k) s = .next (s.withDev ((s.dev.began k.val f).answerAct k.val f St.ok [] 2 0))) ∧
  (∀ s (k : Fin 8) f, s.dev.accepts k.val 0x0003 f (f.len ≤ 8) →
    exec (.ping k) s = .next (s.withDev ((s.dev.began k.val f).answer k.val f St.ok f.payload))) ∧
  (∀ s (k : Fin 8) f, s.dev.accepts k.val 0x0004 f (lenIs 0 s.dev f) → ((s.dev.began k.val f).ten k.val).state = .opened →
    let d := s.dev.began k.val f
    exec (.getInfo k) s = .next (s.withDev (d.answer k.val f St.ok (leBytes 1 d.devState ++ leBytes 1 d.laserState ++
      leBytes 1 d.thermalState ++ leBytes 1 1 ++ leBytes 4 (d.reg Reg.BT_FEATURE) ++ buildBytes ++ leBytes 1 (d.get Reg.PC_STAT_RUN_GEAR) ++
      leBytes 2 d.mediaBits ++ zeros 2)))) ∧
  (∀ s (k : Fin 8) f, s.dev.accepts k.val 0x0101 f (jobForm s.dev f) → s.dev.lacks (f.b 0) = false →
    (s.dev.ten k.val).jobs.length < s.dev.jobMax k.val →
    let d := s.dev.began k.val f
    let t := d.ten k.val
    let n := freeJob (t.jobs.map (·.num)) 8 t.nextJob
    exec (.jobStart k) s = .next (s.withDev
      ((d.modTen k.val (fun t' => { t' with jobs := t'.jobs ++ [newJob f n t.epoch], nextJob := jobAfter n })).answerAct k.val f St.ok
        (leBytes 2 n ++ leBytes 2 t.epoch) (if f.b 0 = 1 then 4 else 0) n))) ∧
  (∀ s (k : Fin 8) f j, s.dev.accepts k.val 0x0102 f (sheetForm s.dev f) → s.dev.sheetPre k.val f = 0 →
    (s.dev.began k.val f).job? k.val (f.h 0) = some j →
    let d := s.dev.began k.val f
    let e := ({ d with sheets := d.sheets ++ [newSheet f k.val j] } : Dev).modJob k.val j.num (fun x => { x with defined := x.defined + 1 })
    exec (.sheetDefine k) s = .next (s.withDev
      ((e.answerAct k.val f St.ok (leBytes 2 (sheetBands f j)) 1 (j.num * 65536 + f.h 2)).noticeQueued s.dev))) ∧
  (∀ s (k : Fin 8) exts f x y, s.dev.accepts k.val 0x0103 f (8 ≤ f.len && f.len ≤ 65536 && f.b 5 / 2 == 0 && f.zero 6 7) →
    s.dev.dataStream k.val f = .ok x → s.dev.spoolCheck k.val x (f.len - 8) = 0 →
    s.dev.chainFeeds k.val (f.h 0) (f.h 2) (f.b 4) = false → s.dev.extsFit x (x.len + (f.len - 8)) exts = true →
    (s.dev.began k.val f).dataStream k.val f = .ok y →
    let bs := f.payload.drop 8
    let m := Stream.write { y with exts := y.exts ++ exts } s.mem y.len bs
    let d := ((s.dev.began k.val f).ingest k.val bs.length).modStream k.val (f.h 0) (f.h 2) (f.b 4) (fun t =>
      { t with exts := t.exts ++ exts, len := t.len + bs.length, last := bit (f.b 5) 0 })
    exec (.data k exts) s = .next (s.withBoth
      ((d.walkStream m k.val (f.h 0) (f.h 2) (f.b 4)).answer k.val f St.ok (leBytes 4 (y.len + bs.length)), m))) ∧
  (∀ s (k : Fin 8) exts f x y, s.dev.accepts k.val 0x0104 f
      (f.len == 12 && f.zero 6 7 && 4 ≤ f.b 5 && f.b 5 ≤ 15 && 1 ≤ f.w 8 && f.w 8 ≤ 2 ^ 26) →
    s.dev.dmaPre k.val f = 0 → s.dev.dataStream k.val f = .ok x → s.dev.extsFit x (x.len + f.w 8) exts = true →
    (s.dev.began k.val f).dataStream k.val f = .ok y →
    let d := s.dev.began k.val f
    let c := f.b 5
    let z : Stream := { y with exts := y.exts ++ exts }
    let h : DChain := ⟨k.val, (d.ten k.val).epoch, f.seq, f.h 0, f.h 2, f.b 4, y.len, 0, 0, 0, false, false, false,
      chainDescs z f.ch f.seq (d.flag (Reg.DCH_CTL_END_BAR c)) 1025 y.len (f.w 8), z.exts⟩
    let e := (d.defer k.val f [c] []).modStream k.val (f.h 0) (f.h 2) (f.b 4) (fun t => { t with exts := t.exts ++ exts })
    exec (.dataDma k exts) s = .next (s.withBoth (Dev.chainPost 16 c
      ((e.modDch c (fun x => { x with chain := some h })).modChan f.ch (fun x => { x with dmaLeft := f.w 8 })) s.mem))) ∧
  (∀ s (c : Fin 16) h x, (s.dev.dch c.val).chain = some h → h.ended = true → h.answered = false →
    let d := s.dev.modDch c.val (fun x => { x with chain := some { h with answered := true } })
    d.deferred? h.ten 0x0104 = some x → x.seq = h.seq → (d.ten h.ten).epoch = h.epoch →
    exec (.dataDmaDone c) s = .next (s.withDev (d.finish h.ten 0x0104 h.status (leBytes 4 h.stored)))) ∧
  (∀ s (k : Fin 8) f j, s.dev.accepts k.val 0x0105 f (jobEndForm s.dev f) → s.dev.jobPre k.val f (f.b 2) = 0 →
    (s.dev.began k.val f).job? k.val (f.h 0) = some j → j.state = 0 →
    let d := ((s.dev.began k.val f).answer k.val f St.ok []).modJob k.val (f.h 0) (fun x => { x with state := 1, cut := f.b 2 })
    (d.rcptIs k.val (f.h 0) && d.head.waiting) = false →
    exec (.jobEnd k) s = .next (s.withDev (d.jobCheck k.val (f.h 0)))) ∧
  (∀ s (k : Fin 8) f, s.dev.accepts k.val 0x0106 f (f.len == 4 && f.zero 2 3) → s.dev.jobPre k.val f 0 = 0 →
    let d := s.dev.began k.val f
    let e := (d.cancelJob k.val (f.h 0)).answer k.val f St.ok (d.cancelCounts k.val (f.h 0))
    e.rcptIs k.val (f.h 0) = false →
    exec (.jobCancel k) s = .next (s.withDev (e.jobCheck k.val (f.h 0)).queueChanged)) ∧
  (∀ s (k : Fin 8) f j, s.dev.accepts k.val 0x0107 f (lenIs 2 s.dev f) → s.dev.jobPre k.val f 0 = 0 →
    (s.dev.began k.val f).job? k.val (f.h 0) = some j →
    let d := s.dev.began k.val f
    exec (.jobStatus k) s = .next (s.withDev (d.answer k.val f St.ok (leBytes 1 (b2n j.thermal) ++ leBytes 1 j.state ++
      leBytes 2 (if j.thermal then 1 else j.defined) ++ leBytes 2 j.final ++ leBytes 2 j.printed ++ leBytes 4 (d.jobSpool k.val j)))))

/-- FORM_STORE keeps a part that continues its store, FORM_PROGRAM_DONE installs a programmed form, FORM_DELETE evicts and removes
it, FORM_LIST answers the forms seen, FEED begins its feed, FEED_DONE completes it, ENGINE_CTL warms from COLD or COOLING and
cools from READY, the four CALIBRATE commands defer and fall due as background work, and CALIBRATE_DONE ends CAL 3 with the
measured capacitance. (R192; R193; R194; R195; R196; R351; R365; R674; R675; R926; R938; Table 23-2) -/
def Obligations.FormAndEngineCommandsTakeEffect : Prop :=
  (∀ s (k : Fin 8) f p, s.dev.accepts k.val 0x0201 f (12 ≤ f.len && f.b 2 / 8 == 0 && [1, 2, 4].contains (f.b 3) && f.h 4 % 8 == 0 &&
      8 ≤ f.h 4 && f.h 4 ≤ 5120 && f.b 6 ≤ 3 && f.b 7 == 0) → (bit (f.h 0) 15 && k.val != 0) = false →
    (s.dev.began k.val f).formGoesOn k.val f = some p → (p.data ++ f.payload.drop 12).length ≤ 4194304 → bit (f.b 2) 1 = false →
    exec (.formStore k) s = .next (s.withDev
      (((s.dev.began k.val f).formKeep k.val { p with data := p.data ++ f.payload.drop 12 }).answer k.val f St.ok []))) ∧
  (∀ s (k : Fin 8) base x p, s.dev.deferred? k.val 0x0201 = some x → (s.dev.ten k.val).formParts.find? (·.last) = some p →
    (p.encode = false ∨ p.rawBands ≤ p.blocks.length) → s.dev.formQuota k.val p.id p.blocks.flatten.length = false →
    s.dev.formPlaceOk base p.blocks.flatten.length = true →
    exec (.formProgramDone k base) s = .next (s.withBoth (s.dev.formInstall s.mem k.val base p))) ∧
  (∀ s (k : Fin 8) f, s.dev.accepts k.val 0x0202 f (f.len == 4 && f.zero 2 3) → (bit (f.h 0) 15 && k.val != 0) = false →
    (s.dev.formSeen k.val (f.h 0)).isNone = false → s.dev.formInUse k.val (f.h 0) = false →
    let o := formOwner k.val (f.h 0)
    let d := (s.dev.began k.val f).formEvict o (f.h 0)
    exec (.formDelete k) s = .next (s.withDev
      (({ d with forms := d.forms.filter (fun x => ! (x.owner == o && x.id == f.h 0)) } : Dev).answer k.val f St.ok []))) ∧
  (∀ s (k : Fin 8) f, s.dev.accepts k.val 0x0203 f (lenIs 0 s.dev f) → (s.dev.began k.val f).formArea.2 ≠ 0 →
    let d := s.dev.began k.val f
    exec (.formList k) s = .next (s.withDev (d.answer k.val f St.ok
      (((d.forms.filter (fun g => g.owner == 8 || g.owner == k.val)).foldl (fun l g => insForm g l) []).flatMap
        (fun g => leBytes 2 g.id ++ leBytes 1 g.bpp ++ leBytes 1 g.bandH ++ leBytes 4 g.size))))) ∧
  (∀ s (k : Fin 8) f, s.dev.accepts k.val 0x0301 f (f.len == 4 && f.h 0 ≤ 4000 && f.b 2 ≤ 2 && f.b 3 == 0) → s.dev.feedPre k.val = 0 →
    exec (.feed k) s = .next (s.withDev (((s.dev.began k.val f).defer k.val f [f.h 0, f.b 2] []).feedBegin k.val (f.h 0) (f.b 2)))) ∧
  (∀ s k, s.dev.head.job = .feed k → s.dev.head.feedLeft = 0 → s.dev.head.cutKind = 0 → (s.dev.ax 2).vel = 0 →
    exec .feedDone s = .next (s.withDev ((s.dev.setThm ThmSt.idle 0).endFeed St.ok).lineIdle)) ∧
  (∀ s (k : Fin 8) f, s.dev.accepts k.val 0x0302 f (engineForm s.dev f) → f.b 1 = 1 → s.dev.lacks 0 = false →
    ((s.dev.began k.val f).laserState = LasSt.cold ∨ (s.dev.began k.val f).laserState = LasSt.cooling) →
    exec (.engineCtlWarm k) s = .next (s.withDev (((s.dev.began k.val f).setLas LasSt.warming).answer k.val f St.ok []))) ∧
  (∀ s (k : Fin 8) f, s.dev.accepts k.val 0x0302 f (engineForm s.dev f) → f.b 1 = 2 → s.dev.lacks 0 = false →
    s.dev.pathEmpty = true → s.dev.anyQueued = false → (s.dev.began k.val f).laserState = LasSt.ready →
    exec (.engineCtlCool k) s = .next (s.withDev (((s.dev.began k.val f).setLas LasSt.cooling).answer k.val f St.ok []))) ∧
  (∀ s (k : Fin 8) f, s.dev.accepts k.val 0x0401 f (f.len == 4 && 1 ≤ f.b 0 && f.b 0 ≤ 4 && f.b 1 / 2 == 0 && f.zero 2 3) →
    s.dev.calPre k.val (f.b 0) f = 0 →
    let t := s.withDev (((s.dev.began k.val f).defer k.val f [f.b 0, f.b 1] []).bgFall 8)
    (f.b 0 = 1 → exec (.facetRelearn k) s = .next t) ∧ (f.b 0 = 2 → exec (.headResistance k) s = .next t) ∧
    (f.b 0 = 3 → exec (.holdupCal k) s = .next t) ∧ (f.b 0 = 4 → exec (.laserPowerCurve k) s = .next t)) ∧
  (∀ s samples k, s.dev.bg.cal = some (3, k) → s.dev.get Reg.HL_STAT_STATE ≠ 2 → s.dev.hold.result = 1 →
    exec (.calibrateDone samples) s = .next (s.withDev (s.dev.calEnd 3 k true (s.dev.reg Reg.HL_C)))) ∧
  (∀ s samples k, s.dev.bg.cal = some (1, k) → s.dev.flag Reg.FT_STAT_VALID = true → s.dev.flag Reg.FT_STAT_LEN_VALID = true →
    exec (.calibrateDone samples) s = .next (s.withDev ((s.dev.queueRec 2 s.dev.facetBody).scanBack.calEnd 1 k true
      (min (s.dev.facetMax Reg.FT_A_INT_ERR) 65535 + min (s.dev.facetMax Reg.FT_B_TRIM) 65535 * 65536))))

/-- COUNTERS_READ answers the entries asked for, SEALED_REPORT takes the report and SEALED_REPORT_DONE answers it, EVENT_READ
answers records of the ring, EVENT_SUBSCRIBE sets the threshold, REG_READ answers words that are there, REG_READ_DONE the
deferred ones, REG_WRITE posts its words in address order, and REG_FENCE answers at once when no write is outstanding, else
waits for those outstanding. (R197; R200; R201; R202; R218; R219; R220; R224; R231; R879; Table 4-16) -/
def Obligations.ReadingCommandsTakeEffect : Prop :=
  (∀ s (k : Fin 8) f, s.dev.accepts k.val 0x0501 f (f.len == 4 && 1 ≤ f.b 2 && f.b 2 ≤ 64 && f.b 3 == 0 && f.h 0 + f.b 2 ≤ 24) →
    exec (.countersRead k) s = .next (s.withDev ((s.dev.began k.val f).answer k.val f St.ok
      ((s.dev.began k.val f).lifeEntries (f.h 0) (f.b 2))))) ∧
  (∀ s (k : Fin 8) f, s.dev.accepts k.val 0x0502 f (f.len == 20 && f.b 16 ≤ 2 && f.zero 17 19) → s.dev.canDefer k.val 0x0502 = true →
    let d := s.dev.began k.val f
    exec (.sealedReport k) s = .next (s.withDev
      (({ d with reportSeq := d.reportSeq + 1 } : Dev).defer k.val f [] (d.sealReport k.val (f.b 16) (f.payload.take 16))))) ∧
  (∀ s (k : Fin 8) x, s.dev.deferred? k.val 0x0502 = some x →
    exec (.sealedReportDone k) s = .next (s.withDev (s.dev.finish k.val 0x0502 St.ok x.bytes))) ∧
  (∀ s (k : Fin 8) f, s.dev.accepts k.val 0x0601 f (f.len == 8 && 1 ≤ f.b 4 && f.b 4 ≤ 64 && f.zero 5 7) →
    let d := s.dev.began k.val f
    let r := readRing k.val (f.b 4) (f.w 0) (d.ringFrom (f.w 0))
    exec (.eventRead k) s = .next (s.withDev (d.answer k.val f St.ok (leBytes 4 r.2.2 ++ leBytes 1 r.1.length ++
      leBytes 1 (b2n (r.2.1 || d.seqGone (f.w 0))) ++ zeros 2 ++ r.1.flatMap RingRec.bytes)))) ∧
  (∀ s (k : Fin 8) f, s.dev.accepts k.val 0x0602 f (f.len == 4 && f.b 0 ≤ 7 && f.zero 1 3) →
    exec (.eventSubscribe k) s = .next (s.withDev
      (((s.dev.began k.val f).modTen k.val (fun t => { t with minSev := f.b 0, skipped := 0 })).answer k.val f St.ok []))) ∧
  (∀ s (k : Fin 8) f, s.dev.accepts k.val 0x0701 f (f.len == 8 && regHead f) → s.dev.canDefer k.val 0x0701 = true →
    (readAddrs (f.w 0) (f.b 4)).all (s.dev.readOk k.val) = true →
    let d := s.dev.began k.val f
    (readAddrs (f.w 0) (f.b 4)).all (d.readReady k.val) = true →
    let r := Dev.readRegs s.mem (.tenant k.val) (f.b 4) (f.w 0) d
    exec (.regRead k) s = .next (s.withDev (r.2.answer k.val f St.ok (wordBytes r.1)))) ∧
  (∀ s (k : Fin 8) x, s.dev.deferred? k.val 0x0701 = some x → x.args.getD 2 0 ≤ (s.dev.br k.val).done →
    (readAddrs (x.args.getD 0 0) (x.args.getD 1 0)).all s.dev.answers = true →
    let r := Dev.readRegs s.mem (.tenant k.val) (x.args.getD 1 0) (x.args.getD 0 0) s.dev
    exec (.regReadDone k) s = .next (s.withDev (r.2.finish k.val 0x0701 St.ok (wordBytes r.1)))) ∧
  (∀ s (k : Fin 8) f, s.dev.accepts k.val 0x0702 f (8 ≤ f.len && regHead f && f.len == 8 + 4 * f.b 4) → f.b 4 ≤ s.dev.brRoom k.val →
    s.dev.ports.wbuf = [] →
    exec (.regWrite k) s = .next (s.withDev
      ((Dev.postWords k.val (f.w 0) (wordsOf (f.payload.drop 8)) (s.dev.began k.val f)).answer k.val f St.ok []))) ∧
  (∀ s (k : Fin 8) f, s.dev.accepts k.val 0x0703 f (lenIs 0 s.dev f) → s.dev.canDefer k.val 0x0703 = true →
    let d := s.dev.began k.val f
    d.outstanding k.val = [] →
    exec (.regFence k) s = .next (s.withDev (d.answer k.val f St.ok (leBytes 4 (d.fenceWord k.val))))) ∧
  (∀ s (k : Fin 8) f, s.dev.accepts k.val 0x0703 f (lenIs 0 s.dev f) → s.dev.canDefer k.val 0x0703 = true →
    let d := s.dev.began k.val f
    d.outstanding k.val ≠ [] →
    exec (.regFence k) s = .next (s.withDev ((d.defer k.val f [] []).modBr k.val (fun b =>
      { b with fences := b.fences ++ [⟨0, f.seq, b.done + (d.outstanding k.val).length⟩] }))))

/-- KEY_LOAD writes the unwrapped key when its tag matches and counts the mismatch when it does not, KEY_ERASE zeroises the slot,
KEY_INFO answers the slots, RANDOM_GET queues its request or ends at once when the source's fault is latched, PATCH_STATUS
answers, PATCH_PUSH takes its chunk, PUSH_GAP_TIMEOUT abandons a push whose last chunk is more than 100 ms old, and TENANT_RESET
starts the reset. (R203; R204; R205; R206; R207; R208; R852; R854; R857; R868; R875) -/
def Obligations.KeyAndPatchCommandsTakeEffect : Prop :=
  (∀ s (k : Fin 8) f, s.dev.accepts k.val 0x0801 f (f.len == 64 && f.b 0 ≤ 15 && (f.b 1 == 1 || f.b 1 == 2) && f.b 2 ≤ 15 && f.b 3 == 0) →
    s.dev.keyLoadPre k.val f = 0 →
    let d := s.dev.began k.val f
    let key := d.wrapKey k.val f
    let iv := (f.payload.drop 4).take 12
    let ct := (f.payload.drop 16).take 32
    ((f.payload.drop 48).take 16 = gcmTag key iv (d.keyAad k.val f) ct →
      exec (.keyLoad k) s = .next (s.withDev ((d.loadSlot (f.b 0) (f.b 1) (gcmCrypt key iv ct)).answer k.val f St.ok []))) ∧
    ((f.payload.drop 48).take 16 ≠ gcmTag key iv (d.keyAad k.val f) ct →
      exec (.keyLoad k) s = .next (s.withDev
        (((d.addSat Reg.CR_ERR_UNWRAP_FAIL 1).fireT 0x14 0 k.val 0).answer k.val f St.tagMismatch [])))) ∧
  (∀ s (k : Fin 8) f, s.dev.accepts k.val 0x0802 f (f.len == 4 && f.b 0 ≤ 15 && f.zero 1 3) → f.b 0 ≠ 0 → s.dev.keyOwner (f.b 0) = k.val →
    (s.dev.ten k.val).tags = false →
    let x := (s.dev.began k.val f).eraseSlot s.mem (f.b 0)
    exec (.keyErase k) s = .next (s.withBoth (x.1.answer k.val f St.ok [], x.2))) ∧
  (∀ s (k : Fin 8) f, s.dev.accepts k.val 0x0803 f (lenIs 0 s.dev f) →
    exec (.keyInfo k) s = .next (s.withDev ((s.dev.began k.val f).answer k.val f St.ok
      ((List.range 16).flatMap ((s.dev.began k.val f).keyEntry k.val))))) ∧
  (∀ s (k : Fin 8) f, s.dev.accepts k.val 0x0901 f (f.len == 4 && 1 ≤ f.h 0 && f.h 0 ≤ 1024 && f.zero 2 3) →
    s.dev.canDefer k.val 0x0901 = true →
    let d := s.dev.began k.val f
    (d.flag Reg.TR_STAT_LATCHED = true → exec (.randomGet k) s = .next (s.withDev
      ((d.addSat Reg.TR_CNT_UNAVAIL 1).answer k.val f St.entropyUnavailable []))) ∧
    (d.flag Reg.TR_STAT_LATCHED = false → exec (.randomGet k) s = .next (s.withDev
      ((d.defer k.val f [f.h 0] []).modTrng (fun t => { t with queue := t.queue ++ [⟨k.val, f.seq, f.h 0⟩] }))))) ∧
  (∀ s (k : Fin 8) f, s.dev.accepts k.val 0x0A01 f (lenIs 0 s.dev f) →
    let d := s.dev.began k.val f
    exec (.patchStatus k) s = .next (s.withDev (d.answer k.val f St.ok (leBytes 1 d.devState ++ leBytes 1 (d.get Reg.BT_STAT_SOURCE) ++
      leBytes 2 (d.get Reg.BT_PATCH_LAST) ++ leBytes 4 (d.reg Reg.BT_BUNDLE) ++ leBytes 1 (d.get Reg.OTP_SECVER_SEC_VER) ++
      leBytes 1 (d.get Reg.BT_SECVER_BUNDLE) ++ buildBytes ++ zeros 3 ++ leBytes 4 (d.reg Reg.BT_FEATURE))))) ∧
  (∀ s (k : Fin 8) f bs, s.dev.accepts k.val 0x0A02 f (9 ≤ f.len && f.len ≤ 65536 && f.b 4 / 2 == 0 && f.zero 5 7) →
    bit (s.dev.intWord 384) 2 = false → (s.dev.began k.val f).pushChunk f = .ok bs →
    let d := s.dev.began k.val f
    (bit (f.b 4) 0 = true → d.canDefer k.val 0x0A02 = true → exec (.patchPush k) s = .next (s.withDev
      (({ d with boot := { d.boot with push := none, pushed := some bs } } : Dev).defer k.val f [] []))) ∧
    (bit (f.b 4) 0 = false → exec (.patchPush k) s = .next (s.withDev
      ((({ d with boot := { d.boot with push := some ⟨k.val, bs, d.now⟩ } } : Dev).set Reg.BT_STAT_PUSHING 1).answer k.val f St.ok [])))) ∧
  (∀ s p, s.dev.boot.push = some p → p.when + 100000 < s.dev.now →
    exec .pushGapTimeout s = .next (s.withDev s.dev.pushAbandon)) ∧
  (∀ s (k : Fin 8) f, s.dev.accepts k.val 0x0B01 f (f.len == 4 && f.zero 1 3 && (f.b 0 == 0xFF || f.b 0 ≤ 7)) →
    resetTarget k.val f = k.val →
    exec (.tenantReset k) s = .next (s.withDev ((s.dev.began k.val f).startReset k.val))) ∧
  (∀ s f, s.dev.accepts 0 0x0B01 f (f.len == 4 && f.zero 1 3 && (f.b 0 == 0xFF || f.b 0 ≤ 7)) → resetTarget 0 f ≠ 0 →
    s.dev.canDefer 0 0x0B01 = true →
    exec (.tenantReset 0) s = .next (s.withDev (((s.dev.began 0 f).defer 0 f [resetTarget 0 f] []).startReset (resetTarget 0 f))))

/-- For a write that is granted: PG_OWNER takes the masks (and FW_HOLD from the firmware alone), PG_LOCK is stored, FREEZE and
SHADOW_COMMIT act through PG_CTL, SOFT_RST resets the page, EVT_PEND clears the bits written, EVT_SET sets the bits of EVT_RAW
and posts one synthetic record for each in ascending order, LE_POP removes the oldest late error of the tenant's FIFO, and a
register without a row of its own takes what its access codes and its chapter say. (R56; R223; R229; R235; R236; R241; R242;
R243; R246; R249; R250; R866) -/
def Obligations.PageHeaderWritesTakeEffect : Prop :=
  (∀ s l ag a v d, s.dev.granted l = some (ag, a, v, d) → (pageOf a).isSome = true → offOf a = 0x24 →
    exec (.pgOwnerWrite l) s = .next (s.withDev (d.setReg a (merge (d.reg a) v.toNat (if ag = .fw then 0x1FFFF else 0xFFFF))))) ∧
  (∀ s l ag a v d, s.dev.granted l = some (ag, a, v, d) → (pageOf a).isSome = true → offOf a = 0x20 →
    exec (.pgLockWrite l) s = .next (s.withDev (d.store a v.toNat))) ∧
  (∀ s l ag a v d p, s.dev.granted l = some (ag, a, v, d) → pgCtlOf a = some p → ctlSoftRst a v = true → isPage a 0x16 = false →
    (List.range 8).any (fun k => isPage a (2 + k)) = false →
    exec (.softRst l) s = .next (s.withBoth (d.softRst s.mem p))) ∧
  (∀ s l ag a v d p, s.dev.granted l = some (ag, a, v, d) → pgCtlOf a = some p → ctlFreeze a v = true →
    exec (.freeze l) s = .next (s.withBoth (d.pgCtl s.mem p v.toNat))) ∧
  (∀ s l ag a v d p, s.dev.granted l = some (ag, a, v, d) → pgCtlOf a = some p → ctlCommit a v = true →
    exec (.shadowCommit l) s = .next (s.withBoth (d.pgCtl s.mem p v.toNat))) ∧
  (∀ s l ag a v d p, s.dev.granted l = some (ag, a, v, d) → pageOf a = some p → offOf a = 0x18 →
    exec (.evtPendWrite l) s = .next (s.withDev (d.clrReg (Reg.EVT_RAW p) v.toNat))) ∧
  (∀ s l ag a v d p, s.dev.granted l = some (ag, a, v, d) → pageOf a = some p → offOf a = 0x1C →
    exec (.evtSet l) s = .next (s.withDev ((List.range 32).foldl (fun d i =>
      if bit v.toNat i then d.post p ⟨p, Agent.field ag, St.ok, 0, true, BitVec.ofNat 32 i⟩ else d)
      (d.orReg (Reg.EVT_RAW p) v.toNat)))) ∧
  (∀ s l ag a v d (k : Fin 8), s.dev.granted l = some (ag, a, v, d) → a = Reg.LE_POP k.val → bit v.toNat 0 = true →
    exec (.lePop l) s = .next (s.withDev (d.modBr k.val (fun b => { b with late := b.late.tail })))) ∧
  (∀ s l ag a v d, s.dev.granted l = some (ag, a, v, d) → s.dev.hasRow a v = false →
    exec (.registerWrite l) s = .next (s.withBoth (d.regWrite s.mem ag a v.toNat))) ∧
  (∀ s l ag a v d, s.dev.granted l = some (ag, a, v, d) → ctlSoftRst a v = true → isPage a 0x16 = true →
    exec (.trngSoftRst l) s = .next (s.withDev (d.softRegs 0x16).trngSoftRst))

/-- A read a tenant may make now returns its word in the read buffer, with the side effects of the read. A read of WRITE_FENCE
returns at once for another tenant, or with no write outstanding; FENCE_COMPLETE answers the oldest fence whose writes are
complete. WRITE_TIMEOUT refuses the head write with reason 8, READ_TIMEOUT ends a waiting REG_READ with BUSY. FREEZE_EXPIRY
clears a freeze 10 ms old. SHADOW_BOUNDARY takes the shadows. SPINE_ACCEPT numbers and stores the oldest record of the page, and
TIME_WRAP tells that the counter has wrapped. (R13; R14; R218; R220; R225; R231; R243; R244; R255; R258; R260; R264) -/
def Obligations.ReadsFencesAndSpineTakeEffect : Prop :=
  (∀ s (k : Fin 8) a, s.dev.readOk k.val a = true → s.dev.readReady k.val a = true →
    let r := s.dev.readReg s.mem (.tenant k.val) a
    let t := s.withDev { r.2 with lastRead := [BitVec.ofNat 32 r.1] }
    exec (.rcFieldRead k a) s = .next t ∧ (∀ i : Fin 4, a = Reg.EVT_RD i.val → exec (.evtRdRead k i) s = .next t) ∧
      (a = Reg.LF_LO → exec (.lfLoRead k) s = .next t)) ∧
  (∀ s (k p : Fin 8), s.dev.readOk k.val (Reg.WRITE_FENCE p.val) = true → s.dev.answers (Reg.WRITE_FENCE p.val) = true →
    (p ≠ k ∨ s.dev.outstanding k.val = []) →
    exec (.writeFenceRead k p) s = .next (s.withDev { s.dev with lastRead := [BitVec.ofNat 32 (s.dev.fenceWord p.val)] })) ∧
  (∀ s (k : Fin 8) f rest, (s.dev.br k.val).fences = f :: rest → f.target ≤ (s.dev.br k.val).done → f.what = 0 →
    let d := s.dev.modBr k.val (fun b => { b with fences := rest })
    exec (.fenceComplete k) s = .next (s.withDev (d.finish k.val 0x0703 St.ok (leBytes 4 (d.fenceWord k.val))))) ∧
  (∀ s (k : Fin 8) f rest, (s.dev.br k.val).fences = f :: rest → f.target ≤ (s.dev.br k.val).done → f.what ≠ 0 →
    let d := s.dev.modBr k.val (fun b => { b with fences := rest })
    exec (.fenceComplete k) s = .next (s.withDev { d with lastRead := [BitVec.ofNat 32 (d.fenceWord k.val)] })) ∧
  (∀ s (k : Fin 8) ecc w rest, (s.dev.br k.val).queue = w :: rest →
    s.dev.refuseReason k.val w.addr w.data (ecc = .uncorrectable) = 0 →
    exec (.writeTimeout (.tenant k.val ecc)) s = .next (s.withDev ((s.dev.popWrite k.val).refuseWrite k.val w 8))) ∧
  (∀ s (k : Fin 8) a x, s.dev.deferred? k.val 0x0701 = some x →
    (readAddrs (x.args.getD 0 0) (x.args.getD 1 0)).contains a = true →
    exec (.readTimeout k a) s = .next (s.withDev (s.dev.finish k.val 0x0701 St.busy []))) ∧
  (∀ s (p : Fin 65) im, (s.dev.page p.val).image = some im → (s.dev.page p.val).frozeAt + 10000 ≤ s.dev.now →
    exec (.freezeExpiry p) s = .next (s.withDev
      ((s.dev.modPage p.val (fun q => { q with image := none })).set (Reg.PG_CTL_FREEZE p.val) 0))) ∧
  (∀ s (p : Fin 65) (c : Fin 8), noBoundary p.val = false → perChan p.val = true →
    exec (.shadowBoundary p c) s = .next (s.withDev (s.dev.chanBoundary p.val c.val))) ∧
  (∀ s (p : Fin 65) (c : Fin 8), noBoundary p.val = false → perChan p.val = false → p.val ≠ 0x22 → p.val ≠ 0x24 →
    (levelPages.contains p.val && s.dev.pageBusy p.val) = false →
    exec (.shadowBoundary p c) s = .next (s.withDev (s.dev.pageBoundary p.val))) ∧
  (∀ s (p : Fin 65) e rest, (s.dev.page p.val).buf = e :: rest → (s.dev.page p.val).lost = 0 →
    exec (.spineAccept p) s = .next (s.withDev ((s.dev.modPage p.val (fun q => { q with buf := rest, lost := 0 })).spineTake e))) ∧
  (∀ s, s.dev.now % 2 ^ 32 = 0 → s.dev.now ≠ 0 →
    exec .timeWrap s = .next (s.withDev ((s.dev.spineTake (spineNotice 2)).fireRaw 0x0A 1)))

/-- DMA_POST puts the six words into the channel's next slot. DESCRIPTOR_FETCH makes a valid COPY, PORT_IN or FILL descriptor
active. DESCRIPTOR_RETIRE moves the data of a COPY whose range answers, writes its status and retires it OK. TRANSFER_FAIL and
PORT_IN_TIMEOUT retire it BAD. LATE_DMA_ERROR of a channel without a chain is recorded. CH_LE_POP removes the oldest late error,
DMA_ABORT and CHANNEL_DISABLE stop the channel. (R286; R288; R289; R291; R292; R293; R297; R300; R302; R307; Table 6-4; Table
6-5) -/
def Obligations.DmaCommandsTakeEffect : Prop :=
  (∀ s a v (p : Fin 2), s.dev.fwRefuse a = 0 → a = Reg.DMA_POST p.val → bit v.toNat 8 = false →
    exec (.dmaPost (.fw a v)) s = .next (s.withBoth
      (s.dev.postDesc s.mem (8 * p.val + v.toNat % 8) ((List.range 6).map (fun i => s.dev.reg (Reg.DMA_DESC p.val i)))))) ∧
  (∀ s (c : Fin 16), s.dev.dmaEn c.val = true → (s.dev.dch c.val).active = none → (s.dev.dch c.val).queued ≠ 0 →
    let ad := slotAddr c.val (s.dev.dch c.val).head
    let a : ActiveDesc := ⟨(s.dev.dch c.val).head, (List.range 6).map (fun i => s.mem.readLE (ad + 4 * i) 4), 0, none, false⟩
    let d := ((s.dev.sramRead ad 32).chanBoundary (dmaPage c.val) (c.val % 8)).modDch c.val
      (fun x => { x with head := (x.head + 1) % 16, queued := x.queued - 1 })
    a.path ≠ 2 → a.path ≠ 3 → s.dev.eccBad ad 32 = false → descValid c.val a = true →
    exec (.descriptorFetch c false) s = .next (s.withDev (d.modDch c.val (fun x => { x with active := some a })))) ∧
  (∀ s (c : Fin 16) a, (s.dev.dch c.val).active = some a → (s.dev.dch c.val).barWait = false → a.path = 0 → a.barrier = false →
    min (s.dev.reach (a.w 1) a.count) (s.dev.reach (a.w 2) a.count) = a.count → s.dev.eccMeets a = none →
    let d := (s.dev.sramRead (a.w 1) a.count).sramWritten (a.w 2) a.count
    let m := s.mem.writeBytes (a.w 2) (s.mem.readBytes (a.w 1) a.count)
    let x := d.retire m c.val { a with done := a.count } 1 0 a.count
    let y := x.1.afterRetire x.2 c.val
    exec (.descriptorRetire c true) s = .next (s.withBoth (y.1.walkChain y.2 c.val, y.2))) ∧
  (∀ s (c : Fin 16) ecc off a, (s.dev.dch c.val).active = some a → off < a.count → a.path ≠ 2 → a.path ≠ 3 →
    (ecc = true → a.sramWord off = none) →
    let x := s.dev.retire s.mem c.val a 2 (if ecc then St.eccUncorrectable else St.busError) (off / 64 * 64)
    let y := x.1.afterRetire x.2 c.val
    exec (.transferFail c ecc off) s = .next (s.withBoth (y.1.walkChain y.2 c.val, y.2))) ∧
  (∀ s (c : Fin 16) a, (s.dev.dch c.val).active = some a → a.path = 1 →
    let p := s.dev.portTake s.mem c.val a
    p.2.2.done < p.2.2.count →
    let x := p.1.retire p.2.1 c.val p.2.2 2 St.dmaTimeout p.2.2.done
    let y := x.1.afterRetire x.2 c.val
    exec (.portInTimeout c) s = .next (s.withBoth (y.1.walkChain y.2 c.val, y.2))) ∧
  (∀ s (c : Fin 16) addr tag (r : Fin 4), (s.dev.dch c.val).late.length < 4 → (s.dev.dch c.val).chain = none →
    let d := s.dev.modDch c.val (fun x => { x with late := x.late ++ [(addr, tag, r.val + 1)] })
    let e := d.raise (dmaPage c.val) (d.dmaTen c.val) St.lateWriteErr 1 addr
    exec (.lateDmaError c addr tag r) s = .next (s.withDev (e.modDch c.val (fun x => { x with leSeen := x.leSeen + 1 })))) ∧
  (∀ s l ag a v d (c : Nat), s.dev.granted l = some (ag, a, v, d) → (List.range 16).find? (fun c => a == Reg.DCH_LE_POP c) = some c →
    bit v.toNat 0 = true → exec (.chLePop l) s = .next (s.withDev (d.modDch c (fun x => { x with late := x.late.tail })))) ∧
  (∀ s a v c, s.dev.fwRefuse a = 0 → chanOfCtl a = some c → bit v.toNat 1 = true →
    exec (.dmaAbort (.fw a v)) s = .next (s.withBoth ((s.dev.store a v.toNat).stopCh s.mem c true))) ∧
  (∀ s a v c, s.dev.fwRefuse a = 0 → chanOfCtl a = some c → bit v.toNat 1 = false → bit v.toNat 0 = false →
    exec (.channelDisable (.fw a v)) s = .next (s.withBoth ((s.dev.store a v.toNat).stopCh s.mem c false))) ∧
  (∀ s n, (s.dev.addSat Reg.FAB_STAT_RAISED 1).get Reg.FAB_STAT_P0_WAIT_MAX < n →
    exec (.priorityRaise n) s = .next (s.withDev
      ((s.dev.addSat Reg.FAB_STAT_RAISED 1).set Reg.FAB_STAT_P0_WAIT_MAX (min n 65535))))

/-- XSPI_CMD_GO from the firmware starts a sequence and holds the page; NOR_SUSPEND suspends it. SCRUB_BURST over words that hold no
flipped bit advances by 64 bytes, and wraps at the end of SRAM. BLOCK_DECODE takes the oldest block of queue 0, or of queue 1
when queue 0 is empty, DECODE_SUSPEND suspends queue 1, BLOCK_ENCODE writes a form's block to the staging area, and UNIT_FREE
frees a RELEASING unit, zeroed where ZERO_REL asks for it. (R279; R280; R338; R341; R344; R345; R348; R350; R367; R928; R929;
R930) -/
def Obligations.MemoryAndCodecCommandsTakeEffect : Prop :=
  (∀ s a v, s.dev.fwRefuse a = 0 → a = Reg.XSPI_CMD_CTL → bit v.toNat 16 = true →
    exec (.xspiCmdGo (.fw a v)) s = .next (s.withDev { (s.dev.store a v.toNat).fwHold 0x18 with norBusy := 1 })) ∧
  (∀ s, s.dev.flag Reg.XSPI_STAT_SUSPEND = true → s.dev.norBusy = 1 →
    exec .norSuspend s = .next (s.withDev { s.dev with norBusy := 2 })) ∧
  (∀ s (at1 : Bank1), s.dev.devState ≠ DevSt.off → s.dev.devState ≠ DevSt.tripped → s.dev.ecc = [] →
    s.dev.reg Reg.BG_SCRUB_POS + 64 < 0x20200000 →
    exec (.scrubBurst [] at1) s = .next (s.withDev (s.dev.setReg Reg.BG_SCRUB_POS (s.dev.reg Reg.BG_SCRUB_POS + 64)))) ∧
  (∀ s (at1 : Bank1), s.dev.devState ≠ DevSt.off → s.dev.devState ≠ DevSt.tripped → s.dev.ecc = [] →
    0x20200000 ≤ s.dev.reg Reg.BG_SCRUB_POS + 64 →
    exec (.scrubBurst [] at1) s = .next (s.withDev
      (((s.dev.setReg Reg.BG_SCRUB_POS 0x20000000).addWrap Reg.BG_SCRUB_PASSES 1).fire 0x3D 0 0))) ∧
  (∀ s b rest, s.dev.codec.q0 = b :: rest →
    exec .blockDecode s = .next (s.withBoth (Dev.decodeSheet
      { s.dev.boundary 0x1C with codec := { s.dev.codec with q0 := rest, suspended := s.dev.codec.suspended && ! rest.isEmpty } } s.mem b))) ∧
  (∀ s b rest, s.dev.codec.q0 = [] → s.dev.codec.q1 = b :: rest →
    exec .blockDecode s = .next (s.withBoth (Dev.decodeReceipt
      { s.dev.boundary 0x1C with codec := { s.dev.codec with q1 := rest, suspended := false } } s.mem b))) ∧
  (∀ s, s.dev.codec.q0 ≠ [] → s.dev.codec.q1 ≠ [] →
    exec .decodeSuspend s = .next (s.withDev { s.dev with codec := { s.dev.codec with suspended := true } })) ∧
  (∀ s addr e rest, s.dev.codec.q2 = e :: rest → e.form = true →
    let d : Dev := { s.dev.boundary 0x1C with codec := { s.dev.codec with q2 := rest } }
    let r := encodeBlock d.effort e.width e.bpp e.bandH e.lines e.band e.raster
    let d1 := d.addWrap Reg.ENC_COUNT_BLOCKS 1
    let d2 := if r.2 then d1.addWrap Reg.ENC_COUNT_RAW_FALLBACK 1 else d1
    let d3 := (d2.fireT 0x1C 1 e.ten 0).sramWritten stagingBase r.1.length
    exec (.blockEncode addr) s = .next (s.withBoth (d3.modTen e.ten (fun t => { t with formParts := t.formParts.map (fun p =>
      if p.id = e.job ∧ p.last then { p with blocks := p.blocks ++ [r.1] } else p) }), s.mem.writeBytes stagingBase r.1))) ∧
  (∀ s (u : Fin 96), (s.dev.unit u.val).state = .releasing → s.dev.flag Reg.GAL_CFG_ZERO_REL = false →
    exec (.unitFree u) s = .next (s.withDev { s.dev with units := lmod s.dev.units u.val (fun _ => GUnit.reset) })) ∧
  (∀ s (u : Fin 96), (s.dev.unit u.val).state = .releasing → s.dev.flag Reg.GAL_CFG_ZERO_REL = true →
    exec (.unitFree u) s = .next (s.withBoth
      ({ s.dev with
          units := lmod s.dev.units u.val (fun _ => GUnit.reset),
          ecc := s.dev.ecc.filter (fun e => ! (unitAddr u.val ≤ e.1 && e.1 < unitAddr u.val + 0x4000)) },
       s.mem.writeBytes (unitAddr u.val) (zeros 16384))))

/-- While sequencer i fetches, the command named for the MOP (or BOP, of a sequential word) of the legal word at its PC runs that
word: a next state in which the word's micro-operation, outputs and branch have taken effect, as runWord gives them. An
uncorrectable fetch error halts it with fault kind 5 instead (R399). ILLEGAL_WORD faults an illegal word with kind 1. (R386;
R388; R389; R397; R399; R419; Table 9-4; Table 9-8) -/
def Obligations.KestrelWordsRun : Prop :=
  (∀ s (i : Fin 2) w, s.dev.fetches i.val w → kIllegal i.val w = false →
    let t := s.withDev (s.dev.runWord s.mem i.val w)
    (kMop w = 0x00 → exec (.kNop i .ok) s = .next t) ∧
    (kMop w = 0x01 → exec (.kLdi i .ok) s = .next t) ∧
    (kMop w = 0x02 → exec (.kLdih i .ok) s = .next t) ∧
    (kMop w = 0x03 → exec (.kAddi i .ok) s = .next t) ∧
    (kMop w = 0x04 → exec (.kAndi i .ok) s = .next t) ∧
    (kMop w = 0x05 → exec (.kOri i .ok) s = .next t) ∧
    (kMop w = 0x06 → exec (.kXori i .ok) s = .next t) ∧
    (kMop w = 0x07 → exec (.kCmpi i .ok) s = .next t) ∧
    (kMop w = 0x08 → exec (.kMov i .ok) s = .next t) ∧
    (kMop w = 0x09 → exec (.kAdd i .ok) s = .next t) ∧
    (kMop w = 0x0A → exec (.kSub i .ok) s = .next t) ∧
    (kMop w = 0x0B → exec (.kShl i .ok) s = .next t) ∧
    (kMop w = 0x0C → exec (.kShr i .ok) s = .next t) ∧
    (kMop w = 0x0D → exec (.kLdp i .ok) s = .next t) ∧
    (kMop w = 0x0E → exec (.kStp i .ok) s = .next t) ∧
    (kMop w = 0x10 → exec (.kLci i .ok) s = .next t) ∧
    (kMop w = 0x11 → exec (.kLcr i .ok) s = .next t) ∧
    (kMop w = 0x12 → exec (.kTmi i .ok) s = .next t) ∧
    (kMop w = 0x13 → exec (.kTmr i .ok) s = .next t) ∧
    (kMop w = 0x14 → exec (.kTmstop i .ok) s = .next t) ∧
    (kMop w = 0x18 → exec (.kPin i .ok) s = .next t) ∧
    (kMop w = 0x19 → exec (.kPout i .ok) s = .next t) ∧
    (kMop w = 0x1A → exec (.kEvt i .ok) s = .next t) ∧
    (kMop w = 0x1B → exec (.kSig i .ok) s = .next t) ∧
    (kMop w = 0x1C → exec (.kFclr i .ok) s = .next t) ∧
    (kFmt w = true → kBop w = 0 → exec (.kNext i .ok) s = .next t) ∧
    (kFmt w = true → kBop w = 1 → exec (.kBr i .ok) s = .next t) ∧
    (kFmt w = true → kBop w = 2 → exec (.kCall i .ok) s = .next t) ∧
    (kFmt w = true → kBop w = 3 → exec (.kRet i .ok) s = .next t) ∧
    (kFmt w = true → kBop w = 4 → exec (.kLoop i .ok) s = .next t) ∧
    (kFmt w = true → kBop w = 5 → exec (.kDisp i .ok) s = .next t) ∧
    (kFmt w = true → kBop w = 6 → exec (.kEnt i .ok) s = .next t) ∧
    (kFmt w = true → kBop w = 7 → exec (.kHalt i .ok) s = .next t)) ∧
  (∀ s (i : Fin 2) w, s.dev.fetches i.val w → kIllegal i.val w = false → kMop w = 0x09 →
    exec (.kAdd i .uncorrectable) s = .next (s.withDev
      ((s.dev.set (Reg.CS_ERR_ADDR_ADDR i.val) (s.dev.get (Reg.SEQ_STAT_PC i.val))).seqFault i.val 5))) ∧
  (∀ s (i : Fin 2) w, s.dev.fetches i.val w → kIllegal i.val w = true →
    exec (.illegalWord i .ok) s = .next (s.withDev (s.dev.seqFault i.val 1)))

/-- For a word w of sequencer i with source operand s = GR[IMM mod 8] and destination g = GR[MSEL mod 8]: after its micro-operation
the destination holds IMM (LDI), IMM in its top 12 bits (LDIH), g + sign-extended IMM modulo 2^32 (ADDI), g AND, OR, XOR IMM
(ANDI, ORI, XORI), s (MOV), g + s and g - s modulo 2^32 (ADD, SUB), g shifted left or right by IMM mod 32 with zeros in (SHL,
SHR), or the parameter word (LDP); STP gives the parameter word g; and every other general register of the sequencer keeps its
value. (R390; R394; R395; Table 9-8) -/
def Obligations.KestrelMicroOperations : Prop :=
  ∀ (d : Dev) m (i : Fin 2) w (j : Fin 8),
    let k := kMsel w % 8
    let g := d.gr i.val k
    let x := d.gr i.val (kImm w % 8)
    let r := (d.mop m i.val w).gr i.val
    (kMop w = 0x01 → r k = kImm w % 2 ^ 32) ∧
    (kMop w = 0x02 → r k = bitsPut g 20 12 (kImm w) % 2 ^ 32) ∧
    (kMop w = 0x03 → r k = (g + kImmS w) % 2 ^ 32) ∧
    (kMop w = 0x04 → r k = g &&& kImm w) ∧
    (kMop w = 0x05 → r k = (g ||| kImm w) % 2 ^ 32) ∧
    (kMop w = 0x06 → r k = (g ^^^ kImm w) % 2 ^ 32) ∧
    (kMop w = 0x08 → r k = x) ∧
    (kMop w = 0x09 → r k = (g + x) % 2 ^ 32) ∧
    (kMop w = 0x0A → (r k + x) % 2 ^ 32 = g) ∧
    (kMop w = 0x0B → r k = g * 2 ^ (kImm w % 32) % 2 ^ 32) ∧
    (kMop w = 0x0C → r k = g / 2 ^ (kImm w % 32)) ∧
    (kMop w = 0x0D → r k = d.reg (Reg.SEQ_P i.val (kImm w % 256))) ∧
    (kMop w = 0x0E → (d.mop m i.val w).reg (Reg.SEQ_P i.val (kImm w % 256)) = g) ∧
    (kMop w ≤ 0x0D → j.val ≠ k → r j.val = d.gr i.val j.val)

/-- After ADDI, ANDI, ORI, XORI, CMPI, ADD, SUB, SHL or SHR the zero flag says whether the 32-bit result is 0 and the negative flag
is its bit 31; the carry flag is the carry out of ADDI and ADD, no borrow for CMPI and SUB, and cleared by the logic operations.
LDI, LDIH, MOV and LDP leave the flags. (R394; Table 9-8) -/
def Obligations.KestrelFlags : Prop :=
  ∀ (d : Dev) m (i : Fin 2) w, d.seqs.length = 2 →
    let k := kMsel w % 8
    let g := d.gr i.val k
    let x := d.gr i.val (kImm w % 8)
    let q := (d.mop m i.val w).seq i.val
    let r := (d.mop m i.val w).gr i.val k
    ((3 ≤ kMop w ∧ kMop w ≤ 6 ∨ 9 ≤ kMop w ∧ kMop w ≤ 0x0C) → q.fz = (r == 0) ∧ q.fn = bit r 31) ∧
    (kMop w = 0x07 → (q.fz = true ↔ g = kImmS w) ∧ (q.fc = true ↔ kImmS w ≤ g)) ∧
    (kMop w = 0x03 → (q.fc = true ↔ 2 ^ 32 ≤ g + kImmS w)) ∧
    (kMop w = 0x09 → (q.fc = true ↔ 2 ^ 32 ≤ g + x)) ∧
    (kMop w = 0x0A → (q.fc = true ↔ x ≤ g)) ∧
    (4 ≤ kMop w ∧ kMop w ≤ 6 → q.fc = false) ∧
    ((kMop w = 0x01 ∨ kMop w = 0x02 ∨ kMop w = 0x08 ∨ kMop w = 0x0D) →
      q.fz = (d.seq i.val).fz ∧ q.fn = (d.seq i.val).fn ∧ q.fc = (d.seq i.val).fc)

/-- TIMER_EXPIRE brings a running timer to 0. WAIT_WATCHDOG faults a sequencer that waits, when WAIT_MAX is not 0. SEQ_GO starts or
asks for the entry, SEQ_HALT halts. CS_CMD_WRITE writes the word at CS_ADDR while the sequencer does not run and CRC does not,
and is refused while it runs; CS_CMD_READ gives the word to the three data registers; CRC_GO stores, and CRC_DONE with no
uncorrectable word gives the CRC-32C of the words. (R395; R404; R405; R406; R407; R408; R414; R415; R416; R418; R419; R936) -/
def Obligations.SequencerCommandsTakeEffect : Prop :=
  (∀ s (i : Fin 2) (n : Fin 4), exec (.timerExpire i n) s = .next (s.withDev
    (s.dev.modSeq i.val (fun q => { q with tm := lmod q.tm n.val (fun x => if x.2 then (0, true) else x) })))) ∧
  (∀ s (i : Fin 2), s.dev.get (Reg.SEQ_STAT_STATE i.val) = 2 → s.dev.get (Reg.SEQ_WDOG_WAIT_MAX i.val) ≠ 0 →
    exec (.waitWatchdog i) s = .next (s.withDev (s.dev.seqFault i.val 6))) ∧
  (∀ s l ag a v d (i : Fin 2), s.dev.granted l = some (ag, a, v, d) → a = Reg.SEQ_CTL i.val → bit v.toNat 4 = true → bit v.toNat 5 = false →
    exec (.seqGo l) s = .next (s.withDev (d.seqGo i.val (v.toNat % 16)))) ∧
  (∀ s l ag a v d (i : Fin 2), s.dev.granted l = some (ag, a, v, d) → a = Reg.SEQ_CTL i.val → bit v.toNat 5 = true →
    exec (.seqHalt l) s = .next (s.withDev ((d.set (Reg.SEQ_CTL_ENTRY i.val) (v.toNat % 16)).seqHalt i.val))) ∧
  (∀ s l ag a v d (i : Fin 2), s.dev.granted l = some (ag, a, v, d) → a = Reg.CS_CMD i.val → bit v.toNat 0 = true →
    d.get (Reg.CS_ADDR_ADDR i.val) < storeSize i.val →
    (d.seqRuns i.val = false → d.flag (Reg.CS_CRC_CTL_CRC_GO i.val) = false →
      exec (.csCmdWrite l) s = .next (s.withDev ((d.setWord i.val (d.get (Reg.CS_ADDR_ADDR i.val))
        (d.reg (Reg.CS_DATA0 i.val) + 2 ^ 32 * d.reg (Reg.CS_DATA1 i.val) + 2 ^ 64 * d.reg (Reg.CS_DATA2 i.val))).csInc i.val))) ∧
    (d.seqRuns i.val = true → exec (.csCmdWrite l) s = .next (s.withDev ((d.set (Reg.CS_STAT_WR_REFUSED i.val) 1).csInc i.val)))) ∧
  (∀ s l ag a v d (i : Fin 2), s.dev.granted l = some (ag, a, v, d) → a = Reg.CS_CMD i.val → bit v.toNat 1 = true → bit v.toNat 0 = false →
    d.get (Reg.CS_ADDR_ADDR i.val) < storeSize i.val →
    let w := d.word i.val (d.get (Reg.CS_ADDR_ADDR i.val))
    exec (.csCmdRead l .ok) s = .next (s.withDev ((((d.setReg (Reg.CS_DATA0 i.val) (bitsOf w 0 32)).setReg (Reg.CS_DATA1 i.val)
      (bitsOf w 32 32)).setReg (Reg.CS_DATA2 i.val) (bitsOf w 64 32)).csInc i.val))) ∧
  (∀ s l ag a v d (i : Fin 2), s.dev.granted l = some (ag, a, v, d) → a = Reg.CS_CRC_CTL i.val → bit v.toNat 0 = true →
    exec (.crcGo l) s = .next (s.withDev (d.store a v.toNat))) ∧
  (∀ s (i : Fin 2), s.dev.flag (Reg.CS_CRC_CTL_CRC_GO i.val) = true →
    let last := min (s.dev.get (Reg.CS_CRC_CTL_CRC_LAST i.val)) (storeSize i.val - 1)
    let d := s.dev.set (Reg.CS_CRC_CTL_CRC_GO i.val) 0
    exec (.crcDone i []) s = .next (s.withDev ((d.setReg (Reg.CS_CRC i.val)
      (crc32c ((List.range (last + 1)).flatMap (fun a => leBytes 12 (d.word i.val a))))).storeJudge i.val (last + 1 == storeSize i.val) false)))

/-- A qualified pulse is taken as the BD of its time and the miss run ends; another counts in REJECTS. A closing window synthesises
a BD and counts the miss. EOS_PULSE captures the facet's distance, SHEET_ARM1 with the LEAD of R447 arms the sheet of SHEET_ARM0
while fewer than two are armed, PIX_LOCK_ACQUIRE sets PIX_LOCK, PIX_LOCK_LOSS loses it, SEARCH_TIMEOUT stops the engine with
BD_LOST, LINE_GO with no armed sheet takes the pulse and latches phase and trim, and LINE_ADV exchanges the line buffers. (R429;
R432; R433; R435; R441; R447; R448; R454; R455; R456; R463; R465) -/
def Obligations.ScanAndVideoCommandsTakeEffect : Prop :=
  (∀ s t width late, s.dev.pulseOk t width = true →
    let r := (s.dev.set Reg.BD_STAT_MISS_RUN 0).bd s.mem t false late
    exec (.bdPulse t width late) s = .next (s.withBoth (r.1.bdFuse r.1.facet ((t : Int) - r.1.facetOfs r.1.facet), r.2))) ∧
  (∀ s t width late, s.dev.pulseOk t width = false →
    exec (.bdPulse t width late) s = .next (s.withDev (s.dev.addSat Reg.BD_CNT_REJECTS 1))) ∧
  (∀ s late, s.dev.scan.winArmed = true → s.dev.flag Reg.BD_STAT_QUALIFIED = true →
    let r := s.dev.bd s.mem (roundDivI s.dev.expect6 6).toNat true late
    let d := ((r.1.addSat Reg.BD_CNT_MISSES 1).addSat Reg.BD_STAT_MISS_RUN 1).fire 0x1F 5 0
    d.get Reg.BD_STAT_MISS_RUN < atLeast1 (s.dev.get Reg.BD_CFG_BD_LOSS) →
    exec (.bdWindowClose late) s = .next (s.withBoth (d, r.2))) ∧
  (∀ s t, s.dev.pmFunc 4 = 0 → s.dev.scan.eosOpen = true → s.dev.flag Reg.BD_CFG_EOS_EN = true →
    s.dev.scan.eos.any (·.1 == s.dev.facet) = false →
    exec (.eosPulse t) s = .next (s.withDev (s.dev.modScan (fun x => { x with eos := x.eos ++ [(s.dev.facet, t - x.tLast.getD t)] })))) ∧
  (∀ s v x, s.dev.fwRefuse Reg.SHEET_ARM1 = 0 → s.dev.scan.armRef = false → s.dev.scan.armed.length < 2 →
    s.dev.sheets.find? (fun y => y.token == s.dev.get Reg.SHEET_ARM0_TOKEN && y.token != 0) = some x →
    s.dev.leadOf x % 65536 = ((v.toNat % 65536 : Nat) : Int) →
    exec (.sheetArm (.fw Reg.SHEET_ARM1 v)) s = .next (s.withDev ((s.dev.store Reg.SHEET_ARM1 v.toNat).modScan (fun c =>
      { c with armed := c.armed ++ [⟨x.tenant, x.epoch, x.job, x.index, s.dev.get Reg.SHEET_ARM0_TOKEN, s.dev.get Reg.SHEET_ARM0_LINES,
        v.toNat % 65536, none, bit v.toNat 16⟩] })))) ∧
  (∀ s, s.dev.flag Reg.CK_AUX_STAT_PIX_REF = true →
    exec .pixLockAcquire s = .next (s.withDev (s.dev.set Reg.VID_STAT_PIX_LOCK 1))) ∧
  (∀ s, exec .pixLockLoss s = .next (s.withDev s.dev.pixLoss)) ∧
  (∀ s, s.dev.laserState = LasSt.warming → s.dev.flag Reg.BD_STAT_QUALIFIED = false →
    exec .searchTimeout s = .next (s.withDev (((((s.dev.seqHalt 0).raise 0x1F 0xF St.bdLost 3
      (s.dev.facet * 256 + s.dev.olderToken * 16777216)).faultOn 0x1F 2 St.bdLost 3 0).engineStopNow 0x1F 16)))) ∧
  (∀ s, bit (s.dev.seq 0).pulse 4 = true → s.dev.nextLine = none →
    let d := s.dev.modSeq 0 (fun q => { q with pulse := q.pulse &&& (0xFFFFF ^^^ 16) })
    exec (.lineGo false) s = .next (s.withDev (((d.modScan (fun x => { x with
      phase := (d.seq 0).ports.getD 3 0, trim := (d.seq 0).ports.getD 4 0, goSeen := true, fetched := [] })).set
        Reg.VID_STAT_LINE_COMPLETE 1).set Reg.VID_STAT_LINE_ACTIVE 1))) ∧
  (∀ s, bit (s.dev.seq 0).pulse 16 = true → s.dev.scan.goSeen = false →
    exec .lineAdv s = .next (s.withDev (((s.dev.modSeq 0 (fun q => { q with pulse := q.pulse &&& 0xFFFF })).modScan
      (fun x => { x with sending := x.fetched, fetched := x.sending })).set Reg.VID_STAT_LINE_COMPLETE 0)))

/-- From OFF with RUN and a nonzero command BLDC_RUN goes to CATCH (or ALIGN). CATCH_DONE after CATCH_T goes to ALIGN, BRAKE or RUN
by the back-EMF. BRAKE_END with the back-EMF low goes to ALIGN. ALIGN_DONE with an open phase faults with cause 5.
HANDOVER_TIMEOUT faults with 10, STOPPING_DONE goes to OFF, PWM_PERIOD runs one period, MOTOR_OVERCURRENT switches the duties
off and trips at the eighth period in a row, VDS_FAULT, GATE_UV and REVERSE_STALL fault with their causes, VM_BLDC_UV stops
every running motor, BLDC_CLR_FAULT returns from FAULT to OFF, QUAD_DIRECTION judges the direction, CURVE_SAMPLE records X.
(R470; R475; R477; R480; R484; R495; R502; R505; R508; R509; R511; Table 11-2) -/
def Obligations.MotorCommandsTakeEffect : Prop :=
  (∀ s (m : Fin 3), let d := (s.dev.boundary (0x25 + m.val)).engHold
    d.blState m.val = 0 → d.flag (Reg.BL_CTL_RUN m.val) = true → d.blSelected m.val ≠ 0 →
    exec (.bldcRun m) s = .next (s.withDev (d.blTo m.val (if d.flag (Reg.BL_CTL_CATCH_EN m.val) then 1 else 3)))) ∧
  (∀ s (m : Fin 3) amp spd ang, s.dev.blState m.val = 1 →
    (s.dev.mot m.val).since + 1000 * atLeast1 (s.dev.get (Reg.BL_CATCH_CATCH_T m.val)) ≤ s.dev.now →
    (amp < s.dev.get (Reg.BL_CATCH_CATCH_MIN m.val) → exec (.catchDone m amp spd ang) s = .next (s.withDev (s.dev.blTo m.val 3))) ∧
    (s.dev.get (Reg.BL_CATCH_CATCH_MIN m.val) ≤ amp → spd * s.dev.blDir m.val < 0 →
      exec (.catchDone m amp spd ang) s = .next (s.withDev (s.dev.blTo m.val 2))) ∧
    (s.dev.get (Reg.BL_CATCH_CATCH_MIN m.val) ≤ amp → spd ≠ 0 → 0 ≤ spd * s.dev.blDir m.val →
      (s.dev.hoUp m.val : Int) ≤ spd * s.dev.blDir m.val →
      exec (.catchDone m amp spd ang) s = .next (s.withDev ((s.dev.blTo m.val 5).obsSeed m.val (ang % 65536) spd)))) ∧
  (∀ s (m : Fin 3), s.dev.blState m.val = 2 → exec (.brakeEnd m true) s = .next (s.withDev (s.dev.blTo m.val 3))) ∧
  (∀ s (m : Fin 3), s.dev.blState m.val = 2 →
    (s.dev.mot m.val).since + 100000 * s.dev.get (Reg.BL_CATCH_BRAKE_MAX m.val) ≤ s.dev.now →
    exec (.brakeEnd m false) s = .next (s.withDev (s.dev.blFault m.val 6 0))) ∧
  (∀ s (m : Fin 3) peaks, s.dev.blState m.val = 3 → peaks.length = 12 →
    (∀ ph, s.dev.openPhase m.val peaks = some ph → exec (.alignDone m peaks) s = .next (s.withDev (s.dev.blFault m.val 5 ph))) ∧
    (s.dev.openPhase m.val peaks = none → alignFlat peaks = true →
      exec (.alignDone m peaks) s = .next (s.withDev (s.dev.blFault m.val 7 0))) ∧
    (s.dev.openPhase m.val peaks = none → alignFlat peaks = false →
      exec (.alignDone m peaks) s = .next (s.withDev ((s.dev.blTo m.val 4).modMot m.val (fun x => { x with
        startAng := alignAngle peaks, startSpd := 0, th := alignAngle peaks, w := 0, iA := 0, iB := 0, eA := 0, eB := 0, spdInt := 0,
        dInt := 0, qInt := 0, qRef := 0, cmdX := 0 }))))) ∧
  (∀ s (m : Fin 3) t, s.dev.blState m.val = 4 → (s.dev.mot m.val).hoAt = some t → t + 1000000 ≤ s.dev.now →
    exec (.handoverTimeout m) s = .next (s.withDev (s.dev.blFault m.val 10 0))) ∧
  (∀ s (m : Fin 3), s.dev.blState m.val = 6 →
    exec (.stoppingDone m) s = .next (s.withDev ((s.dev.blTo m.val 0).setSpeed m.val 0).evalEngine)) ∧
  (∀ s (m : Fin 3) iu iv iw vu vv vw vm,
    exec (.pwmPeriod m iu iv iw vu vv vw vm) s = .next (s.withDev (s.dev.pwmPeriod m.val iu iv iw vu vv vw vm))) ∧
  (∀ s (m : Fin 3), (s.dev.mot m.val).gates ≠ 0 → (s.dev.mot m.val).ocNow = false →
    let n := (s.dev.mot m.val).ocRun + 1
    let d := (s.dev.modMot m.val (fun x => { x with ocNow := true, ocRun := n, duty := [0, 0, 0] })).addSat (Reg.BL_ERR_OC_PERIODS m.val) 1
    exec (.motorOvercurrent m) s = .next (s.withDev (if 8 ≤ n then d.blFault m.val 1 0 else d))) ∧
  (∀ s (m : Fin 3) high (ph : Fin 3), (s.dev.mot m.val).gates ≠ 0 →
    exec (.vdsFault m high ph false) s = .next (s.withDev (s.dev.blFault m.val (if high then 2 else 3) (ph.val + 1))) ∧
    exec (.vdsFault m true ph true) s = .next (s.withDev (s.dev.blFault m.val 4 0))) ∧
  (∀ s (m : Fin 3), exec (.gateUv m) s = .next (s.withDev (s.dev.blFault m.val 8 0))) ∧
  (∀ s low, exec (.vmBldcUv low) s = .next (s.withDev ((List.range 3).foldl (fun d m => d.vmUv low m) s.dev))) ∧
  (∀ (d : Dev) m, 1 ≤ d.blState m → d.blState m ≤ 5 →
    d.vmUv true m = (d.blTo m 6).modMot m (fun x => { x with sag := true, gates := 0 })) ∧
  (∀ s v (m : Fin 3), s.dev.fwRefuse (Reg.BL_CTL m.val) = 0 → bit v.toNat 3 = true →
    let d := (s.dev.store (Reg.BL_CTL m.val) v.toNat).set (Reg.BL_CTL_CLR_FAULT m.val) 0
    d.blState m.val = 7 → d.blSelected m.val = 0 →
    exec (.bldcClrFault (.fw (Reg.BL_CTL m.val) v)) s = .next (s.withDev ((d.blTo m.val 0).faultsOff (0x25 + m.val)).evalEngine)) ∧
  (∀ s (m : Fin 3) n, m.val ≠ 0 → s.dev.get (Reg.BL_CTL_DIR_SRC m.val) = 2 → s.dev.pmFunc (2 * (m.val - 1)) = 0 →
    s.dev.pmFunc (2 * (m.val - 1) + 1) = 0 → n ≠ 0 →
    exec (.quadDirection m n) s = .next (s.withDev (s.dev.direction m.val (decide (n * s.dev.blDir m.val < 0))))) ∧
  (∀ s (m : Fin 3), s.dev.blState m.val = 5 → s.dev.blFwd m.val < 0 →
    exec (.reverseStall m) s = .next (s.withDev (s.dev.blFault m.val 6 0))) ∧
  (∀ s (m : Fin 3) aux, s.dev.get (Reg.BL_CURVE_CURVE_SRC m.val) = 0 →
    let d := s.dev.seti (Reg.BL_CURVE_X_X_NOW m.val) (s.dev.geti (Reg.BL_CURVE_X_X m.val))
    d.curveOk m.val = true → s.dev.curveX m.val 0 ≤ s.dev.geti (Reg.BL_CURVE_X_X m.val) →
    exec (.curveSample m aux) s = .next (s.withDev ((d.faultOff (0x25 + m.val) 2).set (Reg.BL_STAT_CURVE_ON m.val) 1)))

/-- A firmware write of MS_POST with GO set posts the segment of MS_SEG whose kind the row names (SEG_CRUISE 0 to SEG_STOP 4).
PROFILE_TICK moves the four axes, then judges buckling and the platen. BRIDGE_TRIP, COIL_OPEN (with a target of at least 200 mA)
and VM_STEP_UV fault their axes with their cause; PARK writes the axis's ST_CTL; PARK_DONE, 10 ms after the ramp began, retains
the position with the bridges off; ENERGISE of an OFF or PARKED axis with DRV_EN, VM_STEP up and its position known drives it in
HOLD; ST_DC_WRITE stores the duty and clears STALLED; DC_STALL brakes and reports. (R516; R517; R521; R526; R527; R528; R530;
R532; R534; R536; R537; Table 12-3) -/
def Obligations.StepperCommandsTakeEffect : Prop :=
  (∀ s v, s.dev.fwRefuse Reg.MS_POST = 0 → bit v.toNat 0 = true →
    let t := s.withDev (s.dev.store Reg.MS_POST v.toNat).postSeg
    let k := s.dev.reg (Reg.MS_SEG 0) % 8
    (k = 0 → exec (.segCruise (.fw Reg.MS_POST v)) s = .next t) ∧ (k = 1 → exec (.segLinear (.fw Reg.MS_POST v)) s = .next t) ∧
    (k = 2 → exec (.segSine (.fw Reg.MS_POST v)) s = .next t) ∧ (k = 3 → exec (.segQuintic (.fw Reg.MS_POST v)) s = .next t) ∧
    (k = 4 → exec (.segStop (.fw Reg.MS_POST v)) s = .next t)) ∧
  (∀ s, let d1 := (List.range 4).foldl (fun d i => d.axTick i) (s.dev.addWrap Reg.MS_TICKS_TICKS 1)
    exec .profileTick s = .next (s.withDev ((((List.range 4).foldl (fun d i => d.buckled s.mem i) d1).platenTick (s.dev.ax 2).vel).partReverse))) ∧
  (∀ s (i c : Fin 4) b, (s.dev.ax i.val).drive = true → exec (.bridgeTrip i c b) s = .next (s.withDev
    ((s.dev.addSat (Reg.ST_ERR_OC_EVENTS i.val) 1).axFault i.val (c.val + 1) (b2n b)))) ∧
  (∀ s (i : Fin 4) b, (s.dev.ax i.val).drive = true →
    200 ≤ (if b then (s.dev.coilTargets i.val).2 else (s.dev.coilTargets i.val).1).natAbs →
    exec (.coilOpen i b) s = .next (s.withDev (s.dev.axFault i.val 5 (b2n b)))) ∧
  (∀ s, exec .vmStepUv s = .next (s.withDev ((List.range 4).foldl (fun d i => d.axFault i 6 0) s.dev))) ∧
  (∀ s l ag v d (i : Fin 4), s.dev.granted l = some (ag, Reg.ST_CTL i.val, v, d) → bit v.toNat 3 = true →
    exec (.park l) s = .next (s.withDev (d.stCtl i.val v.toNat))) ∧
  (∀ s (i : Fin 4), (s.dev.ax i.val).ramp = 1 → s.dev.past (s.dev.ax i.val).rampAt 10000 = true →
    let d := (s.dev.stabilise i.val).modAx i.val (fun a => { a with ramp := 0, drive := false, cur := none, vel := 0, queue := [] })
    exec (.parkDone i) s = .next (s.withDev ((((d.set (Reg.ST_STAT_POS_STATE i.val) 1).set (Reg.ST_CTL_PARK i.val) 0).axSync i.val).axTo i.val 3))) ∧
  (∀ s (i : Fin 4), let d := s.dev.stepShadow i.val
    (d.axState i.val = 0 ∨ d.axState i.val = 3) → d.flag (Reg.ST_CTL_DRV_EN i.val) = true → d.get (Reg.CH_STAT_PG 5) = 1 →
    (d.ax i.val).drive = false → d.get (Reg.ST_STAT_POS_STATE i.val) ≠ 2 →
    exec (.energise i) s = .next (s.withDev (((d.modAx i.val (fun a => { a with
      drive := true, ramp := 0, vel := 0, cur := none, stillAt := some s.dev.now })).set (Reg.ST_STAT_POS_STATE i.val) 0).axTo i.val 1))) ∧
  (∀ s l ag v d, s.dev.granted l = some (ag, Reg.ST_DC 3, v, d) →
    exec (.stDcWrite l) s = .next (s.withDev (((d.store (Reg.ST_DC 3) v.toNat).stepShadow 3).set (Reg.ST_DC_STAT_STALLED 3) 0))) ∧
  (∀ s i, s.dev.s4Dc = true → s.dev.get (Reg.ST_DC_DUTY 3) ≠ 0 → s.dev.flag (Reg.ST_DC_BRAKE 3) = false →
    let d := ((s.dev.set (Reg.ST_DC_STAT_I 3) (min i 65535)).set (Reg.ST_DC_STAT_STALLED 3) 1).set (Reg.ST_DC_BRAKE 3) 1
    exec (.dcStall i) s = .next (s.withDev ((d.raise 0x2B 0xF St.stepperFault 0 7).fireRaw 0x2B 3)))

/-- SENSOR_SAMPLE takes the six levels, and where no sensor changes its verdict, no edge is missed and no cover opens, that is all;
a condition met in the sample decides a jam with its token, cause and sensor, the first in the order of issue. PICK_ISSUE gives
the next sheet that is ready the first free token slot. TOKEN_RECONCILE, after a cover cycle with the path clear and the covers
closed, removes the jammed tokens from IN_PATH and frees their slots, reports how many, clears the jam, and the engine is judged
again. (R539; R546; R554; R556; R557; R560; R561; Table 12-7) -/
def Obligations.PathCommandsTakeEffect : Prop :=
  (∀ s ins ilk c0 c1,
    let inp := fun i : Nat => ins.getD i ⟨false, 512, 0, 1023, false, false⟩
    let r1 := Dev.gather (fun d i => d.debounce i (inp i)) (List.range 6) ((List.range 6).foldl (fun d i => d.snsLevel i (inp i)) s.dev)
    let r2 := Dev.gather (fun d i => d.snsFaultStep i (inp i)) (List.range 6) r1.1
    let r3 := r2.1.warmStray
    let r4 := Dev.gather (fun d j => d.coverSample j (if j = 0 then ilk else if j = 1 then c0 else c1)) [0, 1, 2] r3.1
    let met := r1.2 ++ r2.2 ++ r3.2 ++ (if r3.1.flag Reg.PT_JAM_ACTIVE then [] else r3.1.missed) ++ r4.2
    (met = [] → exec (.sensorSample ins ilk c0 c1) s = .next (s.withDev r4.1)) ∧
    (∀ n t c x, decideCond met = some (n, t, c, x) → exec (.sensorSample ins ilk c0 c1) s = .next (s.withDev (r4.1.jamNow t c x)))) ∧
  (∀ s sh i, s.dev.picked = some sh → (List.range 4).find? (fun i => (s.dev.slot i).state == 0) = some i → s.dev.pickReady = true →
    exec .pickIssue s = .next (s.withDev (s.dev.pickSheet sh i))) ∧
  (∀ s, s.dev.flag Reg.PT_JAM_ACTIVE = true → s.dev.flag Reg.PT_JAM_COVER_CYCLED = true → s.dev.coversClosed = true →
    s.dev.pathMask = 0 → s.dev.path.told = false →
    let jammed := (List.range 4).filter (fun i => (s.dev.slot i).state == 6)
    let n := jammed.length
    let d := jammed.foldl (fun d i => d.freeSlot i false)
      ((s.dev.addWrap Reg.TOK_CLEARED_COUNT n).set Reg.TOK_PATH_IN_PATH (s.dev.get Reg.TOK_PATH_IN_PATH - n))
    exec .tokenReconcile s = .next (s.withDev ((((((d.set Reg.PT_JAM_ACTIVE 0).set Reg.PT_JAM_COVER_CYCLED 0).raise 0x32 0xF
      St.tokensCleared 0 n).fireRaw 0x32 2).faultOff 0x32 1).evalEngine)))

/-- A granted write of LP_CTL of channel n is read by the row that its highest command bit names (CLR_FAULT, else SWAP, else INIT,
else EN) and acts as lpCtl says. A coefficient write to the inactive bank of a channel with no swap pending is stored; any other
counts in COEF_REFUSED and stores nothing. LOOP_SAMPLE of a channel in RUN computes a sample, and a channel that is then FAULTED
tells its owner; one that is not in RUN takes its shadows. (R570; R583; R584; R585; R589; R590; R592; R601; Table 13-2; Table
13-4) -/
def Obligations.LoopCommandsTakeEffect : Prop :=
  (∀ s l ag v d (n : Fin 8), s.dev.granted l = some (ag, Reg.LP_CTL n.val, v, d) →
    let t := s.withDev (d.lpCtl n.val ag v.toNat)
    (bit v.toNat 4 = true → exec (.loopClrFault l) s = .next t) ∧
    (bit v.toNat 4 = false → bit v.toNat 2 = true → exec (.loopSwap l) s = .next t) ∧
    (bit v.toNat 4 = false → bit v.toNat 2 = false → bit v.toNat 1 = true → exec (.loopInit l) s = .next t) ∧
    (bit v.toNat 4 = false → bit v.toNat 2 = false → bit v.toNat 1 = false → bit v.toNat 0 = true →
      exec (.loopEnable l) s = .next t) ∧
    (bit v.toNat 4 = false → bit v.toNat 2 = false → bit v.toNat 1 = false → bit v.toNat 0 = false →
      exec (.loopDisable l) s = .next t)) ∧
  (∀ s l ag a v d n b, s.dev.granted l = some (ag, a, v, d) → coefOf a = some (n, b) →
    (b ≠ d.get (Reg.LP_STAT_BANK n) → d.flag (Reg.LP_STAT_SWAP_PEND n) = false →
      exec (.coefWrite l) s = .next (s.withDev (d.store a v.toNat))) ∧
    (b = d.get (Reg.LP_STAT_BANK n) ∨ d.flag (Reg.LP_STAT_SWAP_PEND n) = true →
      exec (.coefWrite l) s = .next (s.withDev (d.addSat Reg.LC_STAT_COEF_REFUSED 1)))) ∧
  (∀ s (n : Fin 8) fb,
    let d0 := match fb with
      | some c => s.dev.loopFeed n.val c
      | none => s.dev
    let d := (d0.ownerBoundary n.val).ownerSet n.val
    let x := d.loopTick n.val
    (d.get (Reg.LP_STAT_STATE n.val) ≠ 1 → exec (.loopSample n fb) s = .next (s.withDev (d.chanBoundary 0x2D n.val))) ∧
    (d.get (Reg.LP_STAT_STATE n.val) = 1 → x.get (Reg.LP_STAT_STATE n.val) ≠ 2 → exec (.loopSample n fb) s = .next (s.withDev x)) ∧
    (d.get (Reg.LP_STAT_STATE n.val) = 1 → x.get (Reg.LP_STAT_STATE n.val) = 2 →
      exec (.loopSample n fb) s = .next (s.withDev (x.ownerStale n.val))))

/-- HEATER_PERIOD with no on-time before it and the heater blocked leaves the heater off. Its third period in a row with an open
heater faults with cause 6. FUSER_READING stores the ratio; a ratio from 17 to 4079 gives the temperature, and the third of at
least 4080 in a row faults open. CORR_TEST_START, CORR_FORCE, OT_TRIP, OT_CLR in an allowed state with the comparator released,
HEATER_OVERCURRENT, HEATER_STUCK, HV_BRINGUP_STEP at rest, ILK_CHANGE, OVERPOWER_TRIP, OP_CLR and ENABLE_MISMATCH take the
effects the rules name: the latch, the fault with its cause, the channel locked off, the permit and the outputs worked out
again. (R608; R616; R617; R618; R619; R620; R622; R626; R627; R631; R639; R642) -/
def Obligations.ProcessCommandsTakeEffect : Prop :=
  (∀ s i, s.dev.proc.onTime = 0 →
    let d := { s.dev with proc := { s.dev.proc with openRun := 0 } }
    s.dev.heaterBlocked = true → exec (.heaterPeriod i false) s = .next (s.withDev
      { (d.set Reg.FU_STAT_HTR_ON 0) with proc := { d.proc with onTime := 0, perAt := d.now } })) ∧
  (∀ s (r : Fin 4096), 4080 ≤ r.val → 2 ≤ s.dev.proc.opens → s.dev.get Reg.FU_STAT_TH_STATE = 0 →
    exec (.fuserReading r) s = .next (s.withDev ((({ (s.dev.set Reg.FU_TEMP_RATIO r.val) with proc := { s.dev.proc with
      opens := 3, shorts := 0 } } : Dev).set Reg.FU_STAT_TH_STATE 1).fuserFault 1))) ∧
  (∀ s (r : Fin 4096), 16 < r.val → r.val < 4080 → exec (.fuserReading r) s = .next (s.withDev
    (({ (s.dev.set Reg.FU_TEMP_RATIO r.val) with proc := { s.dev.proc with opens := 0, shorts := 0 } } : Dev).fuserTemp r.val))) ∧
  (∀ s i, 100 ≤ s.dev.proc.onTime → s.dev.proc.openRun = 2 →
    let d := s.dev.set Reg.FU_HTR_I_I (min i 65535)
    let e := ({ d with proc := { d.proc with openRun := 3 } } : Dev).fuserFault 6
    e.heaterBlocked = true → exec (.heaterPeriod i true) s = .next (s.withDev
      { (e.set Reg.FU_STAT_HTR_ON 0) with proc := { e.proc with onTime := 0, perAt := e.now } })) ∧
  (∀ s, s.dev.proc.corrDue = true → s.dev.flag Reg.FU_STAT_CORR_RUN = false → s.dev.laserState = LasSt.warming →
    s.dev.get (Reg.CH_STAT_PG 10) = 1 → s.dev.procHeld 0 = false → s.dev.rcpt = none → s.dev.get Reg.FU_STAT_TH_STATE = 0 →
    let d := (((s.dev.set Reg.FU_STAT_CORR_RUN 1).set Reg.FU_STAT_CORR_RESULT 0).set Reg.FU_CORR_CORR_FORCE 0).set (Reg.PG_OWNER_FW_HOLD 0x2F) 1
    exec .corrTestStart s = .next (s.withDev (({ d with proc := { d.proc with
      corr := some (d.now, d.geti Reg.FU_TEMP_TEMP, d.geti Reg.HD_TEMP_TEMP) } } : Dev).ownerSet 0 |>.loopInit 0))) ∧
  (∀ s l ag v d, s.dev.granted l = some (ag, Reg.FU_CORR, v, d) → bit v.toNat 8 = true →
    exec (.corrForce l) s = .next (s.withDev (d.store Reg.FU_CORR v.toNat))) ∧
  (∀ s, s.dev.flag Reg.FU_STAT_OT_LATCH = false → exec .otTrip s = .next (s.withDev
    ((((s.dev.set Reg.FU_STAT_OT_LATCH 1).fireRaw 0x2F 3).heaterForceOff).fuserFault 3))) ∧
  (∀ s l ag v d, s.dev.granted l = some (ag, Reg.FU_CLR, v, d) → bit v.toNat 0 = true → d.flag Reg.FU_STAT_OT_LATCH = true →
    (d.laserState = LasSt.stopped ∨ d.laserState = LasSt.cold ∨ d.laserState = LasSt.safe →
      exec (.otClr l false) s = .next (s.withDev ((d.set Reg.FU_STAT_OT_LATCH 0).procClear 0 3))) ∧
    exec (.otClr l true) s = .next (s.withDev d)) ∧
  (∀ s, s.dev.heaterOn = true → s.dev.faulted 0x2F 7 = false →
    exec .heaterOvercurrent s = .next (s.withDev (s.dev.heaterForceOff.fuserFault 7))) ∧
  (∀ s, s.dev.heaterOn = false → s.dev.faulted 0x2F 8 = false →
    exec .heaterStuck s = .next (s.withDev ((s.dev.fuserFault 8).lockOff 10))) ∧
  (∀ s, s.dev.hvAllowed = true → s.dev.get (Reg.CH_STAT_PG 9) = 1 → s.dev.proc.hvUp = 0 → s.dev.proc.hvCh = none →
    exec .hvBringupStep s = .next (s.withDev (s.dev.hvStart 0))) ∧
  (∀ s high, exec (.ilkChange high) s = .next (s.withDev (((s.dev.setb Reg.LS_STAT_ILK (! high)).permitUpdate).hvUpdate))) ∧
  (∀ s, s.dev.flag Reg.LS_STAT_OP_LATCH = false → exec .overpowerTrip s = .next (s.withDev
    ((((s.dev.set Reg.LS_STAT_OP_LATCH 1).addSat Reg.LS_CNT_OP_TRIPS 1).permitUpdate).laserFault 1))) ∧
  (∀ s l ag v d, s.dev.granted l = some (ag, Reg.LS_CTL, v, d) → bit v.toNat 1 = true →
    (d.flag Reg.LS_STAT_OP_LATCH = true → d.flag Reg.LS_CTL_ARM = false →
      exec (.opClr l false) s = .next (s.withDev ((((d.set Reg.LS_STAT_OP_LATCH 0).permitUpdate).procClear 2 1).lsCtl ag v.toNat))) ∧
    exec (.opClr l true) s = .next (s.withDev (d.lsCtl ag v.toNat))) ∧
  (∀ s, s.dev.flag Reg.HV_STAT_HV_EN = false → s.dev.faulted 0x30 4 = false →
    exec (.enableMismatch true) s = .next (s.withDev ((s.dev.procFault 1 St.hvFault 4 4).lockOff 9))) ∧
  (∀ s, s.dev.flag Reg.LS_STAT_PERMIT = false → s.dev.faulted 0x31 3 = false →
    exec (.enableMismatch false) s = .next (s.withDev ((s.dev.laserFault 3).lockOff 8)))

/-- Each command takes its pulse of the LINE sequencer. SHIFT_GO with no receipt, or with no line READY, shifts 0 bits. LATCH
latches the shifted line with the class widths of its instant, and stops the platen STARVED where nothing is ahead and lines are
to come; 0 bits shifted leave a line that fires nothing; under PFW it latches no line. STROBE_GO fires every pass of the latched
line and counts the line and its fired dots, none of them under a gate; a line without a pass has its preheat pattern built at
once. STROBE_DONE ends the train and builds the preheat pattern once. A fifth PREHEAT_GO of a line is refused and counted. STEP
has no effect on a platen that moves, has a segment queued, or under PFW; else it starts toward the target rate. LINE_DONE with
no line latched only takes the boundary; a latched line's schedule is stored. MEAS_GO in IDLE measures the element of MEAS_ELEM.
CUT_GO makes the cut asked for. (R649; R650; R653; R654; R657; R659; R660; R669; R672; R677; R686; Table 15-2) -/
def Obligations.ThermalLineCommandsTakeEffect : Prop :=
  (∀ s, s.dev.linePulse 0 = true → let d := s.dev.takePulse 0
    let t := s.withDev (d.modHead (fun h => { h with shifted := none, shiftDots := [], shiftDone := true }))
    (d.rcptJob = none → exec .shiftGo s = .next t) ∧
    (∀ j, d.rcptJob = some j → d.lineReady s.mem j d.head.next = false → exec .shiftGo s = .next t) ∧
    (∀ j, d.rcptJob = some j → d.lineReady s.mem j d.head.next = true → d.rcptEcc j d.head.next = none →
      let x := d.lineDots s.mem j d.head.next
      exec .shiftGo s = .next (s.withDev (((((d.rcptRead j d.head.next).addSat Reg.HD_CNT1_SUBST x.2.1).addSat
        Reg.HD_CNT1_LOST_DOTS x.2.2).shiftUnits s.mem j d.head.next).modHead (fun h => { h with
          shifted := some d.head.next, next := d.head.next + 1, shiftDots := x.1, shiftDone := true, stepDone := false }))))) ∧
  (∀ s vh, s.dev.linePulse 1 = true → let d := s.dev.takePulse 1
    (d.head.shifted = none ∨ d.rcptJob = none → exec (.latch vh) s = .next (s.withDev d.latchBlank)) ∧
    (∀ n j, d.head.shifted = some n → d.rcptJob = some j → d.flag Reg.PF_STAT_PFW = true → exec (.latch vh) s = .next (s.withDev d)) ∧
    (∀ n j, d.head.shifted = some n → d.rcptJob = some j → d.flag Reg.PF_STAT_PFW = false → let e := d.latchLine vh n j
      (e.readyFrom s.mem j (n + 1) ≠ 0 → exec (.latch vh) s = .next (s.withDev e)) ∧
      (e.readyFrom s.mem j (n + 1) = 0 → j.lastLine s.mem n = false → e.head.stopping = 0 →
        exec (.latch vh) s = .next (s.withDev (((e.platenStop.historyOff.modHead (fun h =>
          { h with stopping := 1, stops := h.stops + 1 })).addSat Reg.HD_CNT0_STARVE_STOPS 1).setThm ThmSt.starved 0))))) ∧
  (∀ s, s.dev.linePulse 2 = true → let d := (s.dev.takePulse 2).strobeLine
    let len := d.passes d.head.lineW (widthSteps d.head.lineW) 0 none
    exec .strobeGo s = .next (s.withDev (d.modHead (fun h => { h with
      train := len, sched := len, strobeDone := len == 0, pre := if len = 0 then d.prePattern s.mem else h.pre })))) ∧
  (∀ s, s.dev.head.train ≠ 0 → let pre := if s.dev.head.preN = 0 then s.dev.prePattern s.mem else s.dev.head.pre
    exec .strobeDone s = .next (s.withDev (s.dev.modHead (fun h => { h with train := 0, strobeDone := true, pre := pre })))) ∧
  (∀ s gap, s.dev.linePulse 3 = true → let d := s.dev.takePulse 3
    (4 ≤ d.head.preN → exec (.preheatGo gap) s = .next (s.withDev (d.addSat Reg.HD_CNT1_PRE_REFUSED 1))) ∧
    (d.head.preN < 4 →
      let w := min (d.linePort 4) (min 50 (d.get Reg.HD_ENERGY_PRE_PCT) *
        (sortNat (d.head.widths.filter (· != 0))).headD 0 / 100 - d.head.preUsed)
      w ≠ 0 → d.trainLen (fun k => d.head.pre.getD k false) w ≠ 0 → exec (.preheatGo gap) s = .next (s.withDev (d.modHead (fun h =>
        { h with preN := h.preN + 1, preUsed := h.preUsed + w, train := d.trainLen (fun k => d.head.pre.getD k false) w,
                 sched := h.sched + gap + d.trainLen (fun k => d.head.pre.getD k false) w, strobeDone := false }))))) ∧
  (∀ s, s.dev.linePulse 4 = true → let d := (s.dev.takePulse 4).modHead (fun h => { h with stepDone := true })
    ((d.ax 2).vel ≠ 0 ∨ (d.ax 2).queue ≠ [] ∨ d.flag Reg.PF_STAT_PFW = true → exec .step s = .next (s.withDev d)) ∧
    (∀ j, (d.ax 2).vel = 0 → (d.ax 2).queue = [] → d.flag Reg.PF_STAT_PFW = false → d.head.job = .lines → d.rcptJob = some j →
      exec .step s = .next (s.withDev ((((d.set Reg.HD_RATE_STAT_TARGET (d.target s.mem j)).platenStart (d.target s.mem j)).modHead
        (fun h => { h with stopping := if h.stopping = 1 then 0 else h.stopping })).setThm ThmSt.printing 0)))) ∧
  (∀ s, s.dev.linePulse 7 = true → let d := (s.dev.takePulse 7).headBoundary
    (d.head.lineOn = false → exec .lineDone s = .next (s.withDev d)) ∧
    (d.head.lineOn = true → d.head.overran = false →
      let e := (d.set Reg.HD_FIT_SCHED (min 65535 (d.head.sched / 100))).modHead (fun h =>
        { h with lineOn := false, overran := false, printed := h.printed + 1 })
      ∀ j, e.rcptJob = some j → j.lastLine s.mem (e.head.latched - 1) = true → e.head.stopping ≠ 2 →
        exec .lineDone s = .next (s.withDev ((e.set Reg.HD_RATE_STAT_TARGET (e.target s.mem j)).receiptTail j)))) ∧
  (∀ s, s.dev.linePulse 5 = true → let d := s.dev.takePulse 5
    d.thermalState = ThmSt.idle → exec .measGo s = .next (s.withDev (d.modHead (fun h => { h with
      elem := d.linePort 5 % 2048, measDone := false })))) ∧
  (∀ s, s.dev.linePulse 6 = true → let d := s.dev.takePulse 6
    d.head.cutting = true → d.head.job ≠ .homing → d.flag Reg.PF_STAT_PFW = false →
    let e := d.modHead (fun h => { h with cutAt := d.now, cutDone := false, cutOn := 1 })
    (e.s4Dc = true → exec .cutGo s = .next (s.withDev ((e.set (Reg.ST_DC_DIR 3) 0).set (Reg.ST_DC_BRAKE 3) 0))) ∧
    (e.s4Dc = false → let n := if e.head.cutKind = 1 then e.get Reg.HD_CUT1_CUT_PART else e.get Reg.HD_CUT1_CUT_FULL
      exec .cutGo s = .next (s.withDev ((e.cutMove n false).cutMove n true))))

/-- GATE_INPUT stores the three inputs. BLOCKED_ENTRY from IDLE stays with nothing but the state changed where no axis, cut or
receipt is active; BLOCKED_CLEAR returns to IDLE. HD_CLR clears every cause that is gone, and leaves FAULT when none is left.
MEAS_DONE at 4500 mV or more enters the element as open. CUT_DONE counts the cut and ends the receipt OK. HOMING starts where a
receipt needs it. CUT_TIMEOUT brakes and faults with cause 10; STROBE_MISMATCH faults with cause 5 and locks channel 7 off. A
head reading from 17 to 4079 gives the temperature, and the third of at least 4080 in a row faults with cause 1. VHEAD_WINDOW
within its window clears cause 4. DEF_CLR clears the map's entries but those of its own kind 0; HD_DEF_ENT enters or removes a
HOST entry of the map. (R652; R663; R664; R665; R666; R677; R678; R682; R685; R686; R687; R690) -/
def Obligations.HeadCommandsTakeEffect : Prop :=
  (∀ s o p j, let g := b2n o + 2 * b2n p + 4 * b2n j
    g ≠ 0 → g &&& (7 ^^^ s.dev.get Reg.HD_STAT_GATE) = 0 → exec (.gateInput o p j) s = .next (s.withDev ((s.dev.set Reg.HD_STAT_GATE g).modHead
      (fun h => { h with condAt := some (h.condAt.getD s.dev.now), clearAt := none })))) ∧
  (∀ s, s.dev.get Reg.HD_STAT_GATE ≠ 0 → s.dev.thermalState = ThmSt.idle → bit (s.dev.get Reg.HD_STAT_GATE) 0 = true →
    let d := (((s.dev.setThm ThmSt.blocked 0).endReceipt St.coverOpen).endFeed St.coverOpen).strobesOff.historyOff
    (d.ax 2).vel = 0 → d.head.cutting = false → exec .blockedEntry s = .next (s.withDev d.lineIdle)) ∧
  (∀ s, s.dev.thermalState = ThmSt.blocked → s.dev.get Reg.HD_STAT_GATE = 0 → let d := s.dev.setThm ThmSt.idle 0
    exec .blockedClear s = .next (s.withDev (if d.head.homeLost then d.homingStart else d))) ∧
  (∀ s l ag v d, s.dev.granted l = some (ag, Reg.HD_CTL, v, d) → bit v.toNat 0 = true → bit v.toNat 1 = false →
    let e := (List.range 16).foldl (fun d c => if d.headCauseGone c then d.headClear c else d) d
    (e.thermalState = ThmSt.fault → e.get Reg.HD_STAT_CAUSES = 0 → e.get Reg.HD_STAT_GATE = 0 →
      exec (.hdClr l) s = .next (s.withDev (e.setThm ThmSt.idle 0))) ∧
    (e.thermalState ≠ ThmSt.fault ∨ e.get Reg.HD_STAT_CAUSES ≠ 0 → exec (.hdClr l) s = .next (s.withDev e))) ∧
  (∀ s mv, 4500 ≤ mv → let e := s.dev.head.elem
    let elems := if s.dev.head.elems.contains e then s.dev.head.elems else s.dev.head.elems ++ [e]
    let d := s.dev.modHead (fun h => { h with measDone := true, elems := elems, res := (h.res.filter (fun x => x.1 != e)) ++ [(e, 0xFFF)] })
    let x := (d.set Reg.HD_MEAS_DONE_ELEMS elems.length).enterDefect e (d.defectKind 0xFFF)
    (x.flag Reg.HD_MEAS_SWEEP_DONE = true → exec (.measDone mv) s = .next (s.withDev x))) ∧
  (∀ s, s.dev.head.cutting = true → s.dev.head.job ≠ .homing → s.dev.flag Reg.HD_STAT_HOMED = true → s.dev.cutOver = true →
    let k := s.dev.head.cutKind
    let d := (((s.dev.modHead (fun h => { h with cutDone := true, cutMade := k, cutOn := 0 })).fire 0x24 4 0).lifeAdd
      (if k = 2 then 15 else 16) 1).set (Reg.ST_STAT_POS_STATE 3) 0
    d.head.job = .cut → exec .cutDone s = .next (s.withDev (d.receiptDone St.ok))) ∧
  (∀ s j, s.dev.rcptJob = some j → s.dev.head.job = .lines → s.dev.homeNeeded j = true → s.dev.flag Reg.PF_STAT_PFW = false →
    exec .homing s = .next (s.withDev s.dev.homingStart)) ∧
  (∀ s, s.dev.head.cutting = true → s.dev.past s.dev.head.cutAt (10000 * s.dev.get Reg.HD_CUT0_CUT_TMAX) = true →
    exec .cutTimeout s = .next (s.withDev (((s.dev.cutBrake.modHead (fun h => { h with cutMade := 0, homeLost := true })).headFaultSt
      10 St.cutFault St.ok).modHead (fun h => { h with job := .none })))) ∧
  (∀ s, bit (s.dev.get Reg.HD_STAT_CAUSES) 5 = false →
    exec .strobeMismatch s = .next (s.withDev ((s.dev.headFault 5 St.headFault).lockOff 7))) ∧
  (∀ s (r : Fin 4096), 4080 ≤ r.val → 2 ≤ s.dev.head.opens →
    exec (.headTempReading r) s = .next (s.withDev ((((s.dev.set Reg.HD_TEMP_RATIO r.val).modHead (fun h => { h with
      opens := 3, shorts := 0 })).headClear 2).headFault 1 St.headFault))) ∧
  (∀ s (r : Fin 4096), 16 < r.val → r.val < 4080 → exec (.headTempReading r) s = .next (s.withDev
    (((s.dev.set Reg.HD_TEMP_RATIO r.val).modHead (fun h => { h with opens := 0, shorts := 0 })).headTemp r.val))) ∧
  (∀ s mv, s.dev.get Reg.HD_VH_VH_MIN ≤ mv → mv ≤ s.dev.get Reg.HD_VH_VH_MAX →
    exec (.vheadWindow mv) s = .next (s.withDev ((s.dev.modHead (fun h => { h with vhOk := true, vhAt := none })).headClear 4))) ∧
  (∀ s l ag v d, s.dev.granted l = some (ag, Reg.HD_CTL, v, d) → bit v.toNat 0 = false → bit v.toNat 1 = true →
    exec (.defClr l) s = .next (s.withDev d.defClr)) ∧
  (∀ s l ag v d, s.dev.granted l = some (ag, Reg.HD_DEF_ENT, v, d) → exec (.hdDefEntWrite l) s = .next (s.withDev
    (d.modHead (fun h => { h with
      defects := lmod h.defects (d.get Reg.HD_DEF_SEL_ENTRY) (fun o => hostEntry o (bit v.toNat 15) (v.toNat % 2048)) }))))

/-- While a program runs and the word of its step is legal, the row of its OP acts: END ends OK; ENA and DIS switch the channels of
the mask and go on; WAIT of COUNT 0 and a WAITC whose condition holds go on, others wait; CHECK goes on or ends FAIL with its
CODE; JMP, and JMPC when its condition holds, go to the step given, JMPC else goes on; EVENT reports its code with the step and
goes on. A wait's end and a WAITC's condition go on, its time-out runs the FAIL step, and an illegal word or a parity failure
ends FAIL with CODE 0xFF. (R698; R700; R705; R706; R707; R708; R709; R710; Table 16-2) -/
def Obligations.PowerSequencerStepsTakeEffect : Prop :=
  (∀ s errs, let d := s.dev
    let w := d.pseqWord
    d.pw.phase = 1 → d.pw.past = false → stepLegal w = true →
    (w / 2 ^ 28 = 0 → exec (.pEnd errs) s = .next (s.withDev (d.pseqEnd 1 0 errs))) ∧
    (w / 2 ^ 28 = 1 → exec .pEna s = .next (s.withDev
      ((List.range 16).foldl (fun d n => if bit w n then d.chEna n else d) d).holdUpdate.pseqNext)) ∧
    (w / 2 ^ 28 = 2 → exec .pDis s = .next (s.withDev (d.chOffMask (w % 65536) (bit w 16)).holdUpdate.pseqNext)) ∧
    (w / 2 ^ 28 = 3 → w % 2 ^ 20 = 0 → exec .pWait s = .next (s.withDev d.pseqNext)) ∧
    (w / 2 ^ 28 = 3 → w % 2 ^ 20 ≠ 0 → exec .pWait s = .next (s.withDev { d with pw := { d.pw with phase := 2 } })) ∧
    (w / 2 ^ 28 = 4 → d.stepCond w = true → exec .pWaitc s = .next (s.withDev d.pseqNext)) ∧
    (w / 2 ^ 28 = 4 → d.stepCond w = false → exec .pWaitc s = .next (s.withDev { d with pw := { d.pw with phase := 3 } })) ∧
    (w / 2 ^ 28 = 5 → d.stepCond w = true → exec .pCheck s = .next (s.withDev d.pseqNext)) ∧
    (w / 2 ^ 28 = 5 → d.stepCond w = false → exec .pCheck s = .next (s.withDev (d.pseqEnd 2 (bitsOf w 8 8) []))) ∧
    (w / 2 ^ 28 = 6 → exec .pJmp s = .next (s.withDev (d.pseqGoto (bitsOf w 20 6)))) ∧
    (w / 2 ^ 28 = 7 → d.stepCond w = true → exec .pJmpc s = .next (s.withDev (d.pseqGoto (bitsOf w 20 6)))) ∧
    (w / 2 ^ 28 = 7 → d.stepCond w = false → exec .pJmpc s = .next (s.withDev d.pseqNext)) ∧
    (w / 2 ^ 28 = 8 → exec .pEvent s = .next (s.withDev ((d.raise 0x0F 0xF 0 (min 2 (bitsOf w 16 3))
      (w % 65536 + d.get Reg.PSEQ_STAT_STEP * 65536)).pseqNext)))) ∧
  (∀ s, s.dev.pw.phase = 2 → exec .pWaitEnd s = .next (s.withDev s.dev.pseqNext)) ∧
  (∀ s, s.dev.pw.phase = 3 → s.dev.stepCond s.dev.pseqWord = true → exec .pWaitcEnd s = .next (s.withDev s.dev.pseqNext)) ∧
  (∀ s, s.dev.pw.phase = 3 → s.dev.stepCond s.dev.pseqWord = false →
    exec .pWaitcTimeout s = .next (s.withDev (s.dev.pseqGoto (bitsOf s.dev.pseqWord 20 6)))) ∧
  (∀ s p, s.dev.pw.phase = 1 → (p = true ∨ s.dev.pw.past = true ∨ stepLegal s.dev.pseqWord = false) →
    exec (.illegalStep p) s = .next (s.withDev (s.dev.pseqEnd 2 0xFF [])))

/-- With no program running PSEQ_ENTRY_START starts the first pending vector. PROGRAM_TIMEOUT records a POWER_DOWN or TRIP that does
not end. A granted PSEQ_REQ requests its vectors. FW_ACK stores PSEQ_CTL when the engines are at rest and every axis is parked,
else a write with FW_ACK set has no effect. POWER_UP_START and POWER_UP_RETRY leave OFF for POWER_UP after a device reset. STBY
in NOMINAL with both engines at rest requests its vector; WAKE and WAKE_N_FALL are wake sources; CYCLE requests POWER_DOWN.
RST_N leaves TRIPPED for OFF, and any other state but OFF for a shutdown. VAON_LOSS keeps only the OTP array, the forms in NOR
and the balls' levels. (R712; R716; R717; R720; R723; R726; R727; R729; R730; Table 16-4; Table 16-6; Table 16-10) -/
def Obligations.PowerEntriesTakeEffect : Prop :=
  (∀ s v, s.dev.pw.phase = 0 → [1, 2, 3, 7, 6].find? (fun v => bit (s.dev.get Reg.PSEQ_REQ_REQ) v) = some v → v ≠ 3 →
    exec .pseqEntryStart s = .next (s.withDev ((s.dev.set Reg.PSEQ_REQ_REQ
      (s.dev.get Reg.PSEQ_REQ_REQ &&& (255 ^^^ 2 ^ v))).pseqStart v))) ∧
  (∀ s, let v := s.dev.get Reg.PSEQ_STAT_VEC
    s.dev.pw.phase ≠ 0 → v = 1 ∨ v = 5 → exec .programTimeout s = .next (s.withDev ((s.dev.pseqRecord 3 0).pseqAfter v 3 []))) ∧
  (∀ s l ag v d, s.dev.granted l = some (ag, Reg.PSEQ_REQ, v, d) → exec (.pseqReq l) s = .next (s.withDev
    ((List.range 8).foldl (fun d i => if bit v.toNat i then d.pseqRequest i else d) d))) ∧
  (∀ s l ag v d, s.dev.granted l = some (ag, Reg.PSEQ_CTL, v, d) →
    let ready := d.axesParked && d.laserState == LasSt.cold && d.thermalState == ThmSt.idle && d.rcpt.isNone
    (ready = true ∨ bit v.toNat 0 = false → exec (.fwAck l) s = .next (s.withDev (d.store Reg.PSEQ_CTL v.toNat))) ∧
    (ready = false → bit v.toNat 0 = true → exec (.fwAck l) s = .next (s.withDev d))) ∧
  (∀ s, s.dev.devState = DevSt.off → s.dev.flag Reg.PF_STAT_VIN_OK = true → s.dev.flag Reg.PSEQ_CTL_PU_HALT = false →
    exec .powerUpStart s = .next (s.withDev (((s.dev.resetDevice.lifeAdd 1 1).setDev DevSt.powerUp).pseqStart 0)) ∧
    (0 < s.dev.get Reg.PSEQ_CTL_PU_FAILS →
      exec .powerUpRetry s = .next (s.withDev (((s.dev.resetDevice.lifeAdd 1 1).setDev DevSt.powerUp).pseqStart 0)))) ∧
  (∀ s l ag v d, s.dev.granted l = some (ag, Reg.PWR_CMD, v, d) →
    (bit v.toNat 0 = true → bit v.toNat 1 = false → bit v.toNat 2 = false → let e := d.set Reg.PWR_CMD_STBY 1
      exec (.stby l) s = .next (s.withDev e.stbyCheck)) ∧
    (bit v.toNat 1 = true → bit v.toNat 2 = false → exec (.wake l) s = .next (s.withDev (d.set Reg.PWR_CMD_WAKE 1).wakeSource)) ∧
    (bit v.toNat 2 = true → (d.set Reg.PWR_CMD_CYCLE 1).fwRuns = true →
      exec (.cycle l) s = .next (s.withDev ((d.set Reg.PWR_CMD_CYCLE 1).pseqRequest 1)))) ∧
  (∀ s, s.dev.fwRuns = true → exec .wakeNFall s = .next (s.withDev s.dev.wakeSource)) ∧
  (∀ s, (s.dev.devState = DevSt.off → exec .rstN s = .next s) ∧
    (s.dev.devState = DevSt.tripped → exec .rstN s = .next (s.withDev s.dev.enterOff)) ∧
    (s.dev.devState ≠ DevSt.off → s.dev.devState ≠ DevSt.tripped → exec .rstN s = .next (s.withDev s.dev.shutdown.enterOff))) ∧
  (∀ s, exec .vaonLoss s = .next (s.withDev { Dev.reset with
    free := s.dev.free, forms := s.dev.forms, balls := s.dev.balls, otp := { Otp.reset with array := s.dev.otp.array } }))

/-- VM_OK_CHANGE and VIN_OK_CHANGE store their condition. INPUT_OV switches the channels off by the forcing, tells it and marks it;
INPUT_OV_CLEAR takes the mark away and requests STANDBY_EXIT while the firmware runs. UVLO shuts the device down to OFF. A fall
of PG is stored and told; DISCHARGE_DONE marks the channel down. A class A condition of a channel it watches records its cause
and channel and runs TRIP. A class B condition of a channel that only warns is counted and told once. TJ_HOT at TJ_WARN or more
is told once; below it the reading is stored. PFW_RAISE below the threshold raises PFW, and its window's end forces POWER_DOWN.
VIN_REF_TAKEN stores the reference. (R692; R694; R695; R696; R699; R700; R731; R737; R741; R742; R743; R746) -/
def Obligations.PowerConditionsTakeEffect : Prop :=
  (∀ s ok, let d := (s.dev.setb Reg.PF_STAT_VM_OK ok).rbUpdate
    d.devState ≠ DevSt.standby → exec (.vmOkChange ok) s = .next (s.withDev d)) ∧
  (∀ s ok, exec (.vinOkChange ok) s = .next (s.withDev (s.dev.setb Reg.PF_STAT_VIN_OK ok))) ∧
  (∀ s, s.dev.flag Reg.PF_STAT_INPUT_OV = false → s.dev.devState ≠ DevSt.off →
    let d := (s.dev.set Reg.PF_STAT_INPUT_OV 1).applyForcing.rbUpdate.holdUpdate
    exec .inputOv s = .next (s.withDev (((d.raiseFree 0x10 0xF St.inputOv 3).fireRaw 0x10 1).faultOn 0x10 2 St.inputOv 3 0))) ∧
  (∀ s, s.dev.flag Reg.PF_STAT_INPUT_OV = true →
    let d := ((s.dev.set Reg.PF_STAT_INPUT_OV 0).faultOff 0x10 2).applyForcing.rbUpdate
    exec .inputOvClear s = .next (s.withDev (if d.fwRuns then d.pseqRequest 3 else d))) ∧
  (∀ s, s.dev.devState ≠ DevSt.off → s.dev.devState ≠ DevSt.tripped → exec .uvlo s = .next (s.withDev s.dev.shutdown.enterOff)) ∧
  (∀ s (n : Fin 16), s.dev.get (Reg.CH_STAT_PG n.val) = 1 → exec (.pgChange n false) s = .next (s.withDev
    (((s.dev.setb (Reg.CH_STAT_PG n.val) false).fire 0x0E 1 0).permitUpdate))) ∧
  (∀ s (n : Fin 16), bit s.dev.pw.dchg n.val = true → s.dev.chOn n.val = false → exec (.dischargeDone n) s = .next (s.withDev
    { (s.dev.set (Reg.CH_STAT_DOWN n.val) 1) with pw := { s.dev.pw with dchg := s.dev.pw.dchg &&& (65535 ^^^ 2 ^ n.val) } })) ∧
  (∀ s (c : Fin 7) (n : Fin 16), c.val ≠ 0 → s.dev.tripHolds c.val n.val = true → s.dev.pw.tripped = false →
    s.dev.devState ≠ DevSt.off → s.dev.devState ≠ DevSt.tripped →
    let d := ((({ s.dev with pw := { s.dev.pw with tripped := true } } : Dev).outputsOff.applyForcing.cutFirmware).set Reg.PF_STAT_RB_ON 0).measAbandon
    exec (.classATrip c n) s = .next (s.withDev (((((((d.set Reg.TRIP_REC_CAUSE c.val).set Reg.TRIP_REC_CHANNEL n.val).set
      Reg.TRIP_REC_VALID 1).addSat Reg.TRIP_REC_COUNT 1).setReg Reg.TRIP_TIME s.dev.now).pseqAbort).pseqStart 5))) ∧
  (∀ s (n : Fin 16) v, warnChannel 3 n.val = true → bit (s.dev.get (Reg.CH_STAT_WARN n.val)) 2 = false → s.dev.chOn n.val = true →
    s.dev.get (Reg.CH_CFG_B_ACT n.val) = 0 →
    let d := (s.dev.set (Reg.CH_STAT_WARN n.val) (s.dev.get (Reg.CH_STAT_WARN n.val) ||| 4)).addSat Reg.PF_CNT_WARN 1
    exec (.classBWarn n 3 true v) s = .next (s.withDev (((d.raise 0x0E 0xF St.railWarn 0 (n.val + 48 + (v % 65536) * 65536)).fireRaw
      0x0E 0).faultOn 0x0E (n.val * 8 + 3) St.railWarn 0 (n.val + 48)))) ∧
  (∀ s tj, let d := s.dev.seti Reg.PWR_TJ_TJ tj
    d.flag Reg.PF_STAT_TJ_HOT = false → exec (.tjHot false tj) s = .next (s.withDev d)) ∧
  (∀ s tj, let d := s.dev.seti Reg.PWR_TJ_TJ tj
    d.flag Reg.PF_STAT_TJ_HOT = false → (d.get Reg.PF_CFG_TJ_WARN * 10 : Int) ≤ tj → exec (.tjHot true tj) s = .next (s.withDev
      ((((d.set Reg.PF_STAT_TJ_HOT 1).raiseFree 0x10 0xF St.tjHot 0).fireRaw 0x10 2).faultOn 0x10 3 St.tjHot 0 0))) ∧
  (∀ s vin, s.dev.pw.vinRef = true → s.dev.flag Reg.PF_STAT_PFW = false → vin < s.dev.pfwThreshold → s.dev.devState = DevSt.nominal →
    s.dev.pw.tripped = false → exec (.pfwRaise vin) s = .next (s.withDev (s.dev.raisePfw vin))) ∧
  (∀ s, s.dev.flag Reg.PF_STAT_PFW = true → s.dev.past s.dev.pw.pfwAt s.dev.pw.pfwWin = true →
    exec .pfWindowExpiry s = .next (s.withDev s.dev.forcePowerDown)) ∧
  (∀ s vin, s.dev.pw.vinRef = false → s.dev.devState = DevSt.boot → exec (.vinRefTaken vin) s = .next (s.withDev
    { ((s.dev.set Reg.PF_VREF_VIN_REF vin).set Reg.PWR_IN_VIN vin) with pw := { s.dev.pw with vinRef := true } }))

/-- BANK_FULL stores the mark and fires it; the first of a run asks for a measurement. BANK_MEAS_START with everything ready begins
one; BANK_MEAS_DONE with too short a time finds NO_BANK (cause 1, result 2); MEAS_ABORT abandons one; MEAS_TIMEOUT ends one with
cause 5 and result 3. E_AVAIL_UPDATE stores the two samples and the energy they give. BANK_LOW under PFW faults with cause 8.
BANK_FAULT sets a cause that has held. PF_RECORD_WRITE writes the record once, under PFW, when the journal is mounted and NOR is
free. (R758; R760; R761; R762; R764; R770; R771; R952; Table 17-4; Table 17-5) -/
def Obligations.HoldupCommandsTakeEffect : Prop :=
  (∀ s full, (full = s.dev.flag Reg.HL_STAT_FULL → exec (.bankFull full) s = .next s) ∧
    (full ≠ s.dev.flag Reg.HL_STAT_FULL → let d := (s.dev.setb Reg.HL_STAT_FULL full).fire 0x11 0 0
      d.hold.sawFull = true → exec (.bankFull full) s = .next (s.withDev d))) ∧
  (∀ s v0 v1, s.dev.fwRuns = true → s.dev.measReady = true → s.dev.get Reg.HL_STAT_STATE ≠ 1 →
    exec (.bankMeasStart v0 v1) s = .next (s.withDev { (((s.dev.set Reg.HL_STAT_STATE 2).set Reg.HL_STAT_BLD_ON 1).set
      Reg.HL_CTL_MEAS_GO 0) with hold := { s.dev.hold with due := false, v0 := v0, v1 := v1, t1 := s.dev.now, result := 0 } })) ∧
  (∀ s, s.dev.get Reg.HL_STAT_STATE = 2 → s.dev.now - s.dev.hold.t1 < 1000 →
    exec .bankMeasDone s = .next (s.withDev ((((s.dev.setReg Reg.HL_MEAS_T (s.dev.now - s.dev.hold.t1)).set
      Reg.HL_STAT_C_VALID 0).bankFault 1).measEnd 2))) ∧
  (∀ s l ag v d, s.dev.granted l = some (ag, Reg.HL_CTL, v, d) → bit v.toNat 1 = true → bit v.toNat 0 = false →
    exec (.measAbort l) s = .next (s.withDev d.measAbandon)) ∧
  (∀ s, s.dev.get Reg.HL_STAT_STATE = 2 → exec .measTimeout s = .next (s.withDev ((s.dev.bankFault 5).measEnd 3))) ∧
  (∀ s vb i, let d := (s.dev.set Reg.HL_VBANK_VBANK (min vb 65535)).set Reg.HL_VBANK_I_NOW (min i 65535)
    exec (.eAvailUpdate vb i) s = .next (s.withDev (d.setReg Reg.HL_E_AVAIL d.eAvail))) ∧
  (∀ s, s.dev.flag Reg.PF_STAT_PFW = true → bit (s.dev.get Reg.HL_STAT_CAUSES) 7 = false →
    let d := s.dev.bankFault 8
    exec .bankLow s = .next (s.withDev { d with pw := { d.pw with pfwWin := min d.pw.pfwWin (d.now + d.recLead * 1000 - d.pw.pfwAt) } })) ∧
  (∀ s (c : Fin 5), c.val ≠ 0 → bit (s.dev.get Reg.HL_STAT_CAUSES) (c.val - 1) = false →
    exec (.bankFault c true) s = .next (s.withDev (s.dev.bankFault c.val)) ∧
    (c.val ≠ 1 → exec (.bankFault c false) s = .next (s.withDev (s.dev.bankClear c.val)))) ∧
  (∀ s fail, s.dev.flag Reg.PF_STAT_PFW = true → s.dev.hold.written = false → s.dev.fwRuns = true → s.dev.mounted = true →
    s.dev.norBusy = 0 → s.dev.pw.tripped = false → s.dev.recDue = true →
    let x := s.dev.writeRec s.mem 5 s.dev.pfBody fail
    exec (.pfRecordWrite fail) s = .next (s.withBoth ({ x.1 with hold := { x.1.hold with written := x.2.2 } }, x.2.1)))

/-- A bad QUAL_WINDOW, or a gap, of a QUALIFIED source loses it; a good one of a source that is not QUALIFIED qualifies it.
SOURCE_HELD marks the source held. A REFIN_HZ write that changes nothing only stores. IRC_FAIL fails the clocks.
CLK_SWITCH_START with the engines and the sequencer idle starts the ramp of every domain. RAMP_STEP of a domain that is not
ramping does nothing, and of one that slows takes it a step nearer. SYSPLL_LOCK in a relock locks to the target and the domains
return; RELOCK_TIMEOUT on the IRC fails, on another target takes the next source. XO_WAIT_EXPIRY at BOOT gives the XO up. (R777;
R778; R779; R780; R781; R796; R797; R799; R801; R803; Table 18-1) -/
def Obligations.ClockCommandsTakeEffect : Prop :=
  (∀ s (k : Fin 2) e gap, s.dev.clkOn = true → s.dev.srcEn k.val = true →
    let nom := if k.val = 0 then 24000000 else s.dev.refinHz
    let good := (! gap && (k.val == 0 || s.dev.pmFunc 17 == 0) && decide (((1000 * e : Nat) - (2 * nom : Nat) : Int).natAbs * 100 ≤ 8 * nom))
    (s.dev.get (srcFld k.val) = 2 → good = false → exec (.qualWindow k e gap) s = .next (s.withDev (s.dev.srcLost k.val 3))) ∧
    (s.dev.get (srcFld k.val) ≠ 2 → good = true →
      exec (.qualWindow k e gap) s = .next (s.withDev (((s.dev.set (srcFld k.val) 2).fire 0x0C 0 0).auxRefs).clkEval)) ∧
    (s.dev.get (srcFld k.val) = 2 → good = true → exec (.qualWindow k e gap) s = .next s)) ∧
  (∀ s (k : Fin 2), s.dev.clkOn = true → s.dev.get (srcFld k.val) = 2 →
    exec (.sourceGap k) s = .next (s.withDev (s.dev.srcLost k.val 3)) ∧
    exec (.sourceHeld k) s = .next (s.withDev (s.dev.set (heldFld k.val) 1).clkEval)) ∧
  (∀ s l ag v d, s.dev.granted l = some (ag, Reg.CK_REFIN, v, d) → v.toNat % 2 ^ 26 = d.shGet Reg.CK_REFIN_REFIN_HZ →
    exec (.refinHzWrite l) s = .next (s.withDev (d.store Reg.CK_REFIN v.toNat).clkShadow)) ∧
  (∀ s, s.dev.clkOn = true → s.dev.flag Reg.CK_SRC_STAT_IRC_OK = true →
    exec .ircFail s = .next (s.withDev ((s.dev.set Reg.CK_SRC_STAT_IRC_OK 0).clkFail 3))) ∧
  (∀ s, s.dev.get Reg.CK_SYS_STAT_SW_STATE = 1 → s.dev.rcpt = none → s.dev.head.job = .none → s.dev.get Reg.TOK_PATH_IN_PATH = 0 →
    s.dev.get Reg.TOK_PATH_EXPECTED = 0 → s.dev.pw.phase = 0 → s.dev.flag Reg.PF_STAT_PFW = false →
    exec .clkSwitchStart s = .next (s.withDev ((s.dev.set Reg.CK_SYS_STAT_SW_STATE 2).modClk (fun c => { c with
      startAt := s.dev.now, oldRef := s.dev.get Reg.CK_SYS_STAT_REF, doms := c.doms.map (fun x => (x.1, 1)) })))) ∧
  (∀ s (k : Fin 42) miss, ((s.dev.dom k.val).2 = 0 ∨ (s.dev.dom k.val).2 = 3 → exec (.rampStep k miss) s = .next s) ∧
    ((s.dev.dom k.val).2 = 1 → (s.dev.dom k.val).1 ≠ s.dev.slowRatio k.val →
      let x := (stepTo (s.dev.slowRatio k.val) (s.dev.dom k.val).1, 1)
      exec (.rampStep k miss) s = .next (s.withDev (((s.dev.boundary 0x0C).modClk (fun c => { c with
        doms := lmod c.doms k.val (fun _ => x) })).clkSettle (miss.map (·.val)))))) ∧
  (∀ s, s.dev.get Reg.CK_SYS_STAT_REF ≠ 0 → s.dev.get Reg.CK_SYS_STAT_SW_STATE = 4 → s.dev.flag Reg.CK_SYS_STAT_LOCKED = false →
    exec .syspllLock s = .next (s.withDev (((s.dev.set Reg.CK_SYS_STAT_REF (s.dev.get Reg.CK_SYS_STAT_TARGET)).set
      Reg.CK_SYS_STAT_LOCKED 1).set Reg.CK_SYS_STAT_HOLDOVER 0).clkReturn)) ∧
  (∀ s, let t := s.dev.get Reg.CK_SYS_STAT_TARGET
    t ≠ 0 → s.dev.flag Reg.CK_SYS_STAT_LOCKED = false → s.dev.get Reg.CK_SYS_STAT_SW_STATE = 4 →
    exec .relockTimeout s = .next (s.withDev (if t = 3 then s.dev.clkFail 1 else s.dev.set Reg.CK_SYS_STAT_TARGET (s.dev.nextRef t)))) ∧
  (∀ s, s.dev.devState = DevSt.boot → s.dev.get Reg.CK_SYS_STAT_REF = 0 → exec .xoWaitExpiry s = .next (s.withDev
    ((s.dev.modClk (fun c => { c with xoOver := true })).auxRefs).clkEval))

/-- At step 4 of the boot JOURNAL_MOUNT sets up xSPI, loads both baseline programs, mounts the journal and moves to step 5; at step
5 BOOT_REPORTS with nothing of a previous run to tell opens the window. BOOT_WINDOW_CLOSE after 200 ms moves to step 8;
PUSH_LIMIT after 2 s abandons a push. BUNDLE_DECIDE with no bundle anywhere decides 1 and ends the boot with OK responses to the
waiting chunks. SEC_VER_RAISE starts the next burn of the raise, and a refused one ends it. OTP_PG_GO and OTP_FINAL start what
Table 19-4 does not refuse; OTP_BURN_DONE whose margin read finds the bits burned ends with result 1. (R826; R827; R829; R836;
R838; R839; R843; R844; R923; R951; Table 19-4; Table 19-9) -/
def Obligations.BootAndOtpCommandsTakeEffect : Prop :=
  (∀ s x, s.dev.bootAt 4 = true → exec (.journalMount x) s = .next (s.withDev
    ((((((s.dev.xspiSetup x).norLayout).loadBaseline 0).loadBaseline 1).mount s.mem).set Reg.BT_STAT_STEP 5))) ∧
  (∀ s, s.dev.bootAt 5 = true → let d := s.dev.set Reg.BT_STAT_STEP 6
    d.flag Reg.TRIP_REC_VALID = false → d.flag Reg.LK_REC_VALID = false →
    let x := d.pfReport s.mem
    exec .bootReports s = .next (s.withBoth
      ((({ x.1 with boot := { x.1.boot with windowAt := x.1.now } } : Dev).set Reg.BT_STAT_WINDOW 1).set Reg.BT_STAT_STEP 7, x.2))) ∧
  (∀ s, s.dev.flag Reg.BT_STAT_WINDOW = true → s.dev.past s.dev.boot.windowAt 200000 = true →
    exec .bootWindowClose s = .next (s.withDev ((s.dev.set Reg.BT_STAT_WINDOW 0).set Reg.BT_STAT_STEP 8))) ∧
  (∀ s, s.dev.devState = DevSt.boot → s.dev.boot.push.isSome = true → s.dev.past s.dev.boot.windowAt 2000000 = true →
    exec .pushLimit s = .next (s.withDev s.dev.pushAbandon)) ∧
  (∀ s, s.dev.devState = DevSt.boot → s.dev.boot.decided = false → s.dev.flag Reg.PF_STAT_PFW = false →
    7 ≤ s.dev.get Reg.BT_STAT_STEP → s.dev.boot.pushed = none → s.dev.flag Reg.BT_STAT_WINDOW = false → s.dev.boot.push = none →
    let d0 := ((s.dev.set Reg.BT_STAT_WINDOW 0).set Reg.BT_STAT_STEP 8).set Reg.BT_STAT_PUSHING 0
    let d1 : Dev := { (d0.set Reg.BT_TIME_MS (min 65535 ((s.dev.now - s.dev.boot.enteredAt) / 1000))) with boot := { d0.boot with decided := true } }
    let d2 := d1.set Reg.BT_STAT_DECISION 1
    let d3 := ({ d2 with boot := { d2.boot with pushed := none } } : Dev).fire 0x13 0 0
    (bit (s.dev.intWord 384) 3 = true → exec .bundleDecide s = .next (s.withDev
      ((List.range 8).foldl (fun d k => d.finish k 0x0A02 St.ok []) d3).bootEnd))) ∧
  (∀ s i, let lo := s.dev.get Reg.BT_SECVER_SENSED
    s.dev.devState = DevSt.nominal → lo < s.dev.boot.raiseTo → s.dev.otp.busy = none →
    (List.range 4).find? (fun i => raiseBits lo s.dev.boot.raiseTo i != 0 && ! s.dev.otp.burned.contains (896 + i)) = some i →
    let d := s.dev.otpStart .fw false 0x0E7A (896 + i) (raiseBits lo s.dev.boot.raiseTo i)
    (d.otp.busy.isSome = true → exec .secVerRaise s = .next (s.withDev (d.set Reg.BT_SECVER_RAISED 1))) ∧
    (d.otp.busy = none → exec .secVerRaise s = .next (s.withDev { d with boot := { d.boot with raiseTo := 0 } }))) ∧
  (∀ s l ag v d, s.dev.granted l = some (ag, Reg.OTP_PG_CTL, v, d) →
    (bit v.toNat 0 = true → bit v.toNat 1 = false → exec (.otpPgGo l) s = .next (s.withDev
      (d.otpStart ag false (v.toNat / 65536) (d.get Reg.OTP_PG_ADDR_ADDR) (d.reg Reg.OTP_PG_DATA)))) ∧
    (bit v.toNat 1 = true → exec (.otpFinal l) s = .next (s.withDev (d.otpStart ag true (v.toNat / 65536) 0 0)))) ∧
  (∀ s b, s.dev.otp.busy = some b → b.final = false → b.data < 2 ^ 32 →
    let d1 := s.dev.otpBurn b.word b.data
    let d2 : Dev := { d1 with otp := { d1.otp with
      busy := none, array := sset otpBlank d1.otp.array b.word (sget otpBlank s.dev.otp.array b.word ||| BitVec.ofNat 32 b.data) } }
    exec (.otpBurnDone (some (BitVec.ofNat 32 b.data))) s = .next (s.withDev ((((d2.setReg Reg.OTP_RAW b.data).set
      Reg.OTP_PG_STAT_BUSY 0).set Reg.OTP_PG_STAT_RESULT 1).fireT 0x12 0 b.ten 0)))

/-- KS_OWN_WRITE assigns its eight slots, erasing each whose owner changes; KS_ERASE erases each slot its bits name. While the
source settles TRNG_SAMPLE only counts down; after that a sample is tested. RECOVERY_DONE of a recovery within 100 ms reseeds
the DRBG and opens the queue; RECOVERY_TIMEOUT fails the waiting requests and starts again. DRBG_RESEED reseeds when the
requests or the time since the last seed reach their limit. DRBG_GENERATE serves the first request whole and places its
response. TRNG_SOFT_RST resets the page and restarts the source. (R850; R851; R857; R863; R866; R867; R868; R872; R873; R876;
Table 20-5) -/
def Obligations.KeysAndTrngCommandsTakeEffect : Prop :=
  (∀ s l ag v d, s.dev.granted l = some (ag, Reg.KS_OWN0, v, d) → exec (.ksOwnWrite l) s = .next (s.withBoth
    ((List.range 8).foldl (fun x i => x.1.ownSlot x.2 (0 + i) (bitsOf v.toNat (4 * i) 4)) (d, s.mem)))) ∧
  (∀ s l ag v d, s.dev.granted l = some (ag, Reg.KS_OWN1, v, d) → exec (.ksOwnWrite l) s = .next (s.withBoth
    ((List.range 8).foldl (fun x i => x.1.ownSlot x.2 (8 + i) (bitsOf v.toNat (4 * i) 4)) (d, s.mem)))) ∧
  (∀ s l ag v d, s.dev.granted l = some (ag, Reg.KS_ERASE, v, d) → exec (.ksErase l) s = .next (s.withBoth
    ((List.range 16).foldl (fun x i => if bit v.toNat i then x.1.eraseSlot x.2 i else x) (d, s.mem)))) ∧
  (∀ s b, (s.dev.trng.phase = 1 → exec (.trngSample b) s = .next (s.withDev (s.dev.modTrng (fun t =>
      { t with settle := t.settle - 1, phase := if t.settle ≤ 1 then 2 else 1 })))) ∧
    (2 ≤ s.dev.trng.phase → exec (.trngSample b) s = .next (s.withDev (s.dev.trngTest b)))) ∧
  (∀ s st, s.dev.trng.phase = 4 → s.dev.trng.recover = true → s.dev.now < s.dev.trng.startAt + 100000 → s.dev.trng.drbg = some st →
    let d := (s.dev.seeded (drbgReseed s.dev.goodBytes st)).fire 0x16 3 0
    exec .recoveryDone s = .next (s.withDev ((((d.modTrng (fun t => { t with phase := 5, recover := false })).trngState 2).set
      Reg.TR_STAT_SEEDED 1).fire 0x16 1 0))) ∧
  (∀ s, s.dev.trng.recover = true → s.dev.trng.phase = 4 → s.dev.past s.dev.trng.startAt 100000 = true →
    exec .recoveryTimeout s = .next (s.withDev (s.dev.trngFailAll.trngStart true))) ∧
  (∀ s st, s.dev.trng.drbg = some st → s.dev.trng.phase = 5 →
    s.dev.trng.reqLim ≤ s.dev.trng.reqs ∨ s.dev.trng.seedAt + s.dev.trng.msLim * 1000 ≤ s.dev.now →
    exec .drbgReseed s = .next (s.withDev ((s.dev.seeded (drbgReseed s.dev.goodBytes st)).fire 0x16 3 0))) ∧
  (∀ s st r rest, s.dev.trng.drbg = some st → s.dev.trng.queue = r :: rest → s.dev.trng.phase = 5 →
    s.dev.trng.reqs < s.dev.trng.reqLim → s.dev.now < s.dev.trng.seedAt + s.dev.trng.msLim * 1000 → let x := drbgGen r.len st
    exec .drbgGenerate s = .next (s.withDev (((s.dev.boundary 0x14).modTrng (fun t =>
      { t with queue := rest, drbg := some x.2, reqs := t.reqs + 1 })).finish r.ten 0x0901 St.ok x.1))) ∧
  (∀ s l ag a v d, s.dev.granted l = some (ag, a, v, d) → ctlSoftRst a v = true → isPage a 0x16 = true →
    exec (.trngSoftRst l) s = .next (s.withDev ((d.softRegs 0x16).trngSoftRst)))

/-- While the self-tests run a mismatch is safe-state cause 1 and a parity error cause 2, an injection test that passes counts and
takes its time, a missed one is cause 7 or 8. The watchdog 10 ms after the last kick is cause 3. LK_KICK with 0xC3 kicks;
another value does not. LK_COMMIT stores in normal operation and is refused after. FINISH_GRACE with no committed slot turns the
process outputs off; FINISH_DONE is cause 10 and FINISH_TIMEOUT cause 11. LK_FULLRST by tenant 0 with the key shuts down to OFF.
LK_FORCE by tenant 0 with its key and debug unlocked performs its ACTION. (R882; R883; R886; R888; R889; R895; R896; R900; R901;
R905; R909; Table 21-2) -/
def Obligations.LockstepCommandsTakeEffect : Prop :=
  (∀ s lane, s.dev.testsRun = true →
    exec (.lockstepMismatch false lane) s = .next (s.withDev (s.dev.safeCause 1 lane)) ∧
    exec (.lockstepMismatch true lane) s = .next (s.withDev (s.dev.safeCause 2 lane))) ∧
  (∀ s, s.dev.testsRun = true → s.dev.lock.force ≠ 2 → let n := s.dev.reg Reg.LK_INJ
    let d : Dev := s.dev.setReg Reg.LK_INJ (n + 1)
    exec (.injectionTest .pass) s = .next (s.withDev (d.setReg Reg.LK_INJ_TIME d.now)) ∧
    (∀ l, exec (.injectionTest (.other false l)) s = .next (s.withDev (d.safeCause 1 l))) ∧
    (n % 2 = 0 → exec (.injectionTest .miss) s = .next (s.withDev
      ((if d.lockMode = 0 then d.fire 0x17 2 0 else d).safeCause 7 ((n / 2) % 192))))) ∧
  (∀ s, s.dev.flag Reg.LK_STAT_WD_ARMED = true → s.dev.lockMode = 0 → s.dev.past s.dev.lock.kickAt 10000 = true →
    exec .watchdogExpiry s = .next (s.withDev (s.dev.safeCause 3 0))) ∧
  (∀ s l ag v d, s.dev.granted l = some (ag, Reg.LK_KICK, v, d) →
    (v.toNat = 0xC3 → exec (.lkKick l) s = .next (s.withDev { d with lock := { d.lock with kickAt := d.now } })) ∧
    (v.toNat ≠ 0xC3 → exec (.lkKick l) s = .next (s.withDev d))) ∧
  (∀ s l ag v d, s.dev.granted l = some (ag, Reg.LK_COMMIT, v, d) →
    exec (.lkCommit l) s = .next (s.withDev (if d.lockMode = 0 then d.store Reg.LK_COMMIT v.toNat else d))) ∧
  (∀ s, s.dev.lockMode = 1 →
    (s.dev.flag Reg.LK_STAT_GRACE = false → s.dev.get Reg.LK_COMMIT_SLOT = 0 →
      exec .finishGrace s = .next (s.withDev ((s.dev.processOff.set Reg.LK_STAT_GRACE 1).setLas LasSt.safe))) ∧
    (s.dev.flag Reg.LK_STAT_GRACE = true → exec .finishDone s = .next (s.withDev (s.dev.safeCause 10 0))) ∧
    (s.dev.past s.dev.lock.enteredAt (s.dev.lock.finishMs * 1000) = true →
      exec .finishTimeout s = .next (s.withDev (s.dev.safeCause 11 0)))) ∧
  (∀ s l v d, s.dev.granted l = some (.tenant 0, Reg.LK_FULLRST, v, d) →
    (v.toNat % 65536 = 0x5AFE → exec (.lkFullrst l) s = .next (s.withDev d.shutdown.enterOff)) ∧
    (v.toNat % 65536 ≠ 0x5AFE → exec (.lkFullrst l) s = .next (s.withDev d))) ∧
  (∀ s l v d, s.dev.granted l = some (.tenant 0, Reg.LK_FORCE, v, d) → v.toNat % 65536 = 0x7E57 →
    d.flag Reg.OTP_STAT_DBG_LOCKED = false →
    (bitsOf v.toNat 16 2 = 1 → exec (.lkForce l) s = .next (s.withDev (d.safeCause 1 0))) ∧
    (bitsOf v.toNat 16 2 = 2 → exec (.lkForce l) s = .next (s.withDev { d with lock := { d.lock with force := 2 } })) ∧
    (bitsOf v.toNat 16 2 = 3 → exec (.lkForce l) s = .next (s.withDev (d.safeCause 2 0))))

/-- TASK_SLICE with no store to rebuild runs the ready due task of the lowest number and marks it done; with none ready only the due
list is brought up to date. BG_LATE of a task that is not due does nothing. FLUSH queues a LIFE record. LF_LO_READ reads LF_LO
for its tenant. PM_FUNC_WRITE and GPIO_CHANGE fire the edges of the balls. ADC_CONVERSION stores the code of the next input of
its round and hands it on. I2C_GO starts a transfer when the controller is idle; its end stores the bytes read or the error; a
held clock ends it with TIMEOUT. TAP_INSTRUCTION follows the TAP. LIFE_SECONDS counts the seconds of each condition that holds.
(R931; R934; R955; R956; R958; R967; R973; R997; R1006; R1007; R1008; Table 26-3) -/
def Obligations.BackgroundAndPinCommandsTakeEffect : Prop :=
  (∀ s rb er, let d := (s.dev.boundary 0x3D).bgTick
    (List.range 2).find? (fun i => d.bg.rebuild.getD i false && d.storeIdle i && d.sliceOk 1) = none →
    let pick := [1, 2, 3, 5, 6, 7, 8].find? (fun t => d.bg.due.any (fun x => x.1 == t) && d.sliceOk t && d.taskReady s.mem t)
    (pick = none → exec (.taskSlice rb er) s = .next (s.withDev d)) ∧
    (∀ t, pick = some t → exec (.taskSlice rb er) s = .next (s.withBoth
      ((d.runTask s.mem t rb er).1.taskDone t, (d.runTask s.mem t rb er).2)))) ∧
  (∀ s (t : Fin 9), s.dev.bg.due.find? (fun x => x.1 == t.val) = none → exec (.bgLate t) s = .next s) ∧
  (∀ s (t : Fin 9) a, s.dev.bg.due.find? (fun x => x.1 == t.val) = some (t.val, a, false) → bgDeadline t.val ≠ 0 →
    a + bgDeadline t.val ≤ s.dev.now →
    let d := (((s.dev.raise 0x3D 8 St.bgLate 0 (t.val + min 65535 ((s.dev.now - a) / 10000) * 65536)).fireRaw 0x3D 2).addSat
      Reg.BG_LATE_COUNT 1).set Reg.BG_LATE_TASK t.val
    exec (.bgLate t) s = .next (s.withDev { d with bg := { d.bg with
      due := d.bg.due.map (fun y => if y.1 = t.val then (y.1, y.2.1, true) else y) } })) ∧
  (∀ s l ag v d, s.dev.granted l = some (ag, Reg.JR_CFG, v, d) → bit v.toNat 16 = true → let e := d.store Reg.JR_CFG v.toNat
    (e.mounted = true → exec (.flush l) s = .next (s.withDev (e.queueRec 1 e.lifeBody))) ∧
    (e.mounted = false → exec (.flush l) s = .next (s.withDev e))) ∧
  (∀ s (k : Fin 8), exec (.lfLoRead k) s = .next (s.withDev (s.dev.tenantRead s.mem k.val Reg.LF_LO))) ∧
  (∀ s l ag v d, s.dev.granted l = some (ag, Reg.PM_FUNC0, v, d) →
    exec (.pmFuncWrite l) s = .next (s.withDev ((d.store Reg.PM_FUNC0 v.toNat).pmFire d.pmIn))) ∧
  (∀ s (k : Fin 28) high, exec (.gpioChange k high) s = .next (s.withDev
    (({ s.dev with balls := bitsPut s.dev.balls k.val 1 (b2n high) } : Dev).pmFire s.dev.pmIn))) ∧
  (∀ s (a : Fin 2) (code : Fin 4096) i, (s.dev.adcRound a.val).find? (fun i => s.dev.adcNext.getD a.val 0 ≤ i) = some i →
    let d := ((s.dev.set (Reg.AD_DATA_CODE a.val i) code.val).addWrap (Reg.AD_DATA_SEQ a.val i) 1).addWrap (Reg.AD_CNT_COUNT a.val) 1
    let e := (({ d with adcNext := lmod d.adcNext a.val (fun _ => i + 1) } : Dev).adcDeliver a.val i code.val).adcPower a.val i code.val
    exec (.adcConversion a code) s = .next (s.withDev
      (if ((e.adcRound a.val).find? (fun i => e.adcNext.getD a.val 0 ≤ i)).isNone then e.adcNewRound a.val else e))) ∧
  (∀ s l ag v d (i : Fin 2), s.dev.granted l = some (ag, Reg.I2C_CMD i.val, v, d) → bit v.toNat 24 = true →
    let e := d.store (Reg.I2C_CMD i.val) v.toNat
    (e.flag (Reg.I2C_STAT_BUSY i.val) = true → exec (.i2cGo l) s = .next (s.withDev e)) ∧
    (e.flag (Reg.I2C_STAT_BUSY i.val) = false → let x := (e.boundary (0x3A + i.val)).setReg (Reg.I2C_STAT i.val) 1
      exec (.i2cGo l) s = .next (s.withDev { x with i2cRun := lmod x.i2cRun i.val (fun _ => x.i2cLens i.val) }))) ∧
  (∀ s, s.dev.flag (Reg.I2C_STAT_BUSY 0) = true → let x := s.dev.i2cRun.getD 0 (0, 0)
    (∀ bytes, exec (.i2cDone 0 (.done bytes)) s = .next (s.withDev
      ((s.dev.i2cBuf 0 (padTo x.2 bytes)).i2cEnd 0 (min 63 (x.1 + x.2))))) ∧
    exec (.i2cDone 0 .nackAddr) s = .next (s.withDev ((s.dev.set (Reg.I2C_STAT_NACK_ADDR 0) 1).i2cEnd 0 0)) ∧
    (∀ n, exec (.i2cDone 0 (.nackData n)) s = .next (s.withDev ((s.dev.set (Reg.I2C_STAT_NACK_DATA 0) 1).i2cEnd 0 n)) ∧
      exec (.i2cDone 0 (.arbLost n)) s = .next (s.withDev ((s.dev.set (Reg.I2C_STAT_ARB_LOST 0) 1).i2cEnd 0 n)))) ∧
  (∀ s (i : Fin 2) n, s.dev.flag (Reg.I2C_STAT_BUSY i.val) = true →
    exec (.i2cStretchTimeout i n) s = .next (s.withDev ((s.dev.set (Reg.I2C_STAT_TIMEOUT i.val) 1).i2cEnd i.val n))) ∧
  (∀ s ir, exec (.tapInstruction ir) s = .next (s.withDev
    ((s.dev.setb Reg.DBG_STAT_TAP_RESET (ir == .reset)).setb Reg.DBG_STAT_BSCAN (ir == .scan)))) ∧
  (∀ s, s.dev.devState ≠ DevSt.off → s.dev.blState 0 ≠ 5 → s.dev.blState 1 ≠ 5 →
    s.dev.get (Reg.LP_STAT_STATE 0) ≠ 1 → s.dev.flag Reg.LS_STAT_PERMIT = false →
    exec .lifeSeconds s = .next (s.withDev (s.dev.lifeAdd 0 1)))

/-- USB_RESUME ends suspend. A STANDARD_REQUEST on an attached port sets the address, the configuration or the permission of remote
wakeup. CTS_N_CHANGE holds or releases a UART's sending. A CAN flow control CTS of a transmission sends a block of BS frames and
stores BS and STmin; the WAIT beyond WFT_MAX and OVFLW end it. NOR_SEQUENCE_END clears GO, with the bytes programmed or erased
where the sequence does so. GALLEY_WAIT fires WAIT once for a grant that has waited 10 ms. BD_WINDOW_OPEN opens an armed window
WIN_PRE before the expected instant. (R129; R130; R149; R154; R251; R280; R428; Table 3-8) -/
def Obligations.PortAndMemoryEventsTakeEffect : Prop :=
  (∀ s, let d := s.dev.set Reg.USB_STAT_SUSPENDED 0
    exec .usbResume s = .next (s.withDev { d with ports := { d.ports with usbWakeSig := false } })) ∧
  (∀ s, s.dev.get Reg.USB_STAT_SPEED ≠ 0 →
    (∀ a, exec (.standardRequest (.setAddress a)) s = .next (s.withDev (s.dev.set Reg.USB_STAT_ADDR a))) ∧
    (∀ on, exec (.standardRequest (.setConfiguration on)) s = .next (s.withDev (s.dev.setb Reg.USB_STAT_CONFIGURED on)) ∧
      exec (.standardRequest (.remoteWakeup on)) s = .next (s.withDev { s.dev with ports := { s.dev.ports with usbWake := on } }))) ∧
  (∀ s (u : Fin 2) high, exec (.ctsNChange u high) s = .next (s.withDev { s.dev with ports := { s.dev.ports with
    ctsHeld := lmod s.dev.ports.ctsHeld u.val (fun _ => high) } })) ∧
  (∀ s (i : Fin 4) bs st, let left := s.dev.ports.canTx.getD i.val 0
    left ≠ 0 →
    let sent := if bs % 256 = 0 then left else min left (bs % 256 * (s.dev.canCaps left).2.2)
    let p := s.dev.ports
    let q := { p with canTx := lmod p.canTx i.val (fun _ => left - sent), canWaits := lmod p.canWaits i.val (fun _ => 0), canBs := lmod p.canBs i.val (fun _ => bs % 256), canSt := lmod p.canSt i.val (fun _ => st % 256) }
    exec (.canFlowControl i .cts bs st) s = .next (s.withDev { s.dev with ports := q }) ∧
    (s.dev.get Reg.CAN_TP_WFT_MAX < p.canWaits.getD i.val 0 + 1 →
      exec (.canFlowControl i .wait bs st) s = .next (s.withDev (s.dev.canTxEnd i.val))) ∧
    exec (.canFlowControl i .ovflw bs st) s = .next (s.withDev (s.dev.canTxEnd i.val))) ∧
  (∀ s, s.dev.norBusy ≠ 0 →
    let a := 0x70000000 + s.dev.reg Reg.XSPI_CMD_ADDR % 0x4000000
    let data := ((List.range 64).flatMap (fun i => leBytes 4 (s.dev.reg (Reg.XSPI_CMD_DATA i)))).take
      (min (s.dev.get Reg.XSPI_CMD_CTL_LEN) 256)
    let d : Dev := { (s.dev.clrReg Reg.XSPI_CMD_CTL 0x10000).fwFree 0x18 with norBusy := 0 }
    exec (.norSequenceEnd .program) s = .next (s.withBoth (d, s.mem.program a data)) ∧
    (∀ n, exec (.norSequenceEnd (.erase n)) s = .next (s.withBoth (d, s.mem.erase a n))) ∧
    exec (.norSequenceEnd .other) s = .next (s.withBoth (d, s.mem))) ∧
  (∀ s q, s.dev.galReqs.find? (fun q => ! q.told && s.dev.past q.since 10000) = some q →
    exec .galleyWait s = .next (s.withDev { s.dev.fireT 0x1D 0 q.ten 0 with
      galReqs := s.dev.galReqs.map (fun x => if x = q then { x with told := true } else x) })) ∧
  (∀ s, s.dev.scan.winArmed = true → s.dev.flag Reg.BD_STAT_QUALIFIED = true → s.dev.scan.openAt = none →
    exec .bdWindowOpen s = .next (s.withDev (s.dev.modScan (fun x => { x with
      openAt := some (-(96 * (s.dev.get Reg.BD_WINCFG_WIN_PRE : Int) - s.dev.expect6).fdiv 6).toNat }))))

/-- For every command and state, step of the state whose queue has that command at its front is exec of the command on the state
with the queue's rest. On an empty queue the block idles: one tick of the always-on counter passes (the model's own choice, log
entry 5) and memories and queue stay. No row of the table has a spelling in bits, so withFetchWord changes nothing. (R1; Table
26-1) -/
def Obligations.AStepRunsTheFrontCommand : Prop :=
  (∀ c (s : State) q, step { s with pending := c :: q } = exec c { s with pending := q }) ∧
  (∀ s, s.pending = [] → step s = .next (s.withDev s.dev.idle)) ∧
  (∀ (s : State) n w, decodeTableWord n w = none ∧ s.withFetchWord n w = s)

/-- For every command and every state, exec answers a next state whose queue is the queue it was given. (R225; R1015) -/
def Obligations.EveryCommandGoesOnAndKeepsTheQueue : Prop :=
  ∀ c s, ∃ t, exec c s = .next t ∧ t.pending = s.pending

/-- From every state the block goes on for any number of steps, and after n steps the queue is the queue it had without its first n
commands; so a run of as many steps as commands wait empties it. (R222; R255) -/
def Obligations.ARunTakesTheQueueInOrder : Prop :=
  ∀ n s, s.safeFor n ∧ ∃ t, Host.Core.run Sys2Proof.core n s = .next t ∧ t.pending = s.pending.drop n

/-- From every state whose SRAM, PSRAM and NOR lists have the canonical form (addresses rising, no cell listed that reads as an
unlisted one does), whatever command is at the front of the queue, the state a step answers has it too: equal memories stay
equal data. (R270; R276; R279; spec/06_memory_dma.md) -/
def Obligations.EveryStepKeepsTheMemoriesInForm : Prop :=
  ∀ s t, s.memInv → step s = .next t → t.memInv

/-- At reset the three memories list nothing and so have the canonical form, the queue is empty, the ring holds no record and the
next sequence number is 1. (R258; R264; spec/06_memory_dma.md) -/
def Obligations.ResetHasTheMemoriesInForm : Prop :=
  State.reset.memInv ∧ State.reset.pending = [] ∧ State.reset.dev.spine.ring = [] ∧ State.reset.dev.spine.nextSeq = 1 ∧
  State.reset.mem.sram = [] ∧ State.reset.mem.psram = [] ∧ State.reset.mem.nor = []

/-- For every command that is not one of the memory writers (DMA, its posts and stops, data of a job, forms, the codec, the
scrubber, units zeroed on release, key slots whose stops reach DMA, PG_CTL and register writes whose stops do, NOR sequences and
the journal), every byte of SRAM, PSRAM and NOR reads after it as before. A memory writer's own statement says what it stores.
(R216; R239; R272; R279; R286; R293; R348; R367) -/
def Obligations.OtherCommandsLeaveEveryByte : Prop :=
  ∀ c s t, cmdMayWrite c = false → exec c s = .next t → t.mem = s.mem ∧ ∀ a, t.mem.byte a = s.mem.byte a

/-- Fetching, retiring, failing or stopping a descriptor, posting one, decoding and encoding blocks, freeing a unit and storing a
job's data leave every byte of NOR: only the firmware programs and erases it. (R279; R286; R291; R293; R308) -/
def Obligations.DmaNeverWritesNor : Prop :=
  ∀ s t,
    ((∃ c e, exec (.descriptorFetch c e) s = .next t) ∨ (∃ c b, exec (.descriptorRetire c b) s = .next t) ∨
     (∃ c, exec (.portInTimeout c) s = .next t) ∨ (∃ l, exec (.dmaPost l) s = .next t) ∨ (∃ l, exec (.dmaAbort l) s = .next t) ∨
     (∃ l, exec (.channelDisable l) s = .next t) ∨ (∃ u, exec (.unitFree u) s = .next t)) →
    t.mem.nor = s.mem.nor

/-- For each of the seventy rows that stand for a register write: when a check of Table 5-1 refuses the write at the head of tenant
k's queue with a reason, the row either does not concern that write and leaves the machine, or completes the write with nothing
but the four effects of a refusal with that reason. No tenant gets past masks, lock, hold or reset by the register it addresses.
(R56; R66; R225; R226; R227; R234; R235; R237; Table 5-1; Table 5-3) -/
def Obligations.RefusedWritesHaveNoEffect : Prop :=
  ∀ c k ecc s w r, cmdLand c = some (.tenant k ecc) → s.dev.refused k ecc w r →
    exec c s = .next s ∨ exec c s = .next (s.withDev ((s.dev.popWrite k).refuseWrite k w r))

/-- For a write of tenant k: an uncorrectable queue entry gives reason 1 whatever else holds; else an address of no page 2; else a
misaligned one 3; else PERMISSION 4 for PG_OWNER and PG_LOCK of any tenant but T0, and for any other register outside the write
mask, T0-only for another tenant, the firmware's alone or of a DMA channel the tenant does not own; else LOCK and a register
that is not lock-exempt 5; else FW_HOLD 6; else SOFT_RST in progress 7. A granted write met none of them. That T0's writes of
PG_OWNER and PG_LOCK skip the mask is the model's reading (log entry 29). (R56; R66; R225; R235; R237; R284; Table 5-1) -/
def Obligations.ReasonsInTheOrderOfTheTable : Prop :=
  ∀ (d : Dev) k a v,
    d.refuseReason k a v true = 1 ∧
    (pageOf a = none → d.refuseReason k a v false = 2) ∧
    (∀ p, pageOf a = some p →
      let mask := bit (d.reg (Reg.PG_OWNER p)) (8 + k)
      (a % 4 ≠ 0 → d.refuseReason k a v false = 3) ∧
      (a % 4 = 0 → ownerOrLock a = true → k ≠ 0 → d.refuseReason k a v false = 4) ∧
      (a % 4 = 0 → ownerOrLock a = false →
        mask = false ∨ (t0Only a v = true ∧ k ≠ 0) ∨ fwOnly a = true ∨ d.dmaDenied k a = true → d.refuseReason k a v false = 4) ∧
      (a % 4 = 0 → (ownerOrLock a = true ∧ k = 0) ∨ (ownerOrLock a = false ∧ mask = true ∧ (t0Only a v = false ∨ k = 0) ∧
          fwOnly a = false ∧ d.dmaDenied k a = false) →
        (d.flag (Reg.PG_LOCK_LOCK p) = true → lockExempt a = false → d.refuseReason k a v false = 5) ∧
        (d.flag (Reg.PG_LOCK_LOCK p) = false ∨ lockExempt a = true →
          (d.flag (Reg.PG_OWNER_FW_HOLD p) = true → d.refuseReason k a v false = 6) ∧
          (d.flag (Reg.PG_OWNER_FW_HOLD p) = false → (d.page p).inReset = true → d.refuseReason k a v false = 7) ∧
          (d.flag (Reg.PG_OWNER_FW_HOLD p) = false → (d.page p).inReset = false → d.refuseReason k a v false = 0))) ∧
      (d.refuseReason k a v false = 0 → a % 4 = 0 ∧ (mask = true ∨ (k = 0 ∧ ownerOrLock a = true)) ∧
        (d.flag (Reg.PG_LOCK_LOCK p) = true → lockExempt a = true) ∧ d.flag (Reg.PG_OWNER_FW_HOLD p) = false))

/-- A write of PG_OWNER or PG_LOCK of any page by a tenant other than T0 is refused with PERMISSION whatever the write mask holds;
one by T0 is granted whatever the write mask holds, unless the page's LOCK is 1 (LOCKED), else its FW_HOLD is 1 (FW_HOLD), else
its SOFT_RST is in progress. (R235) -/
def Obligations.OwnersAndLocksAreT0s : Prop :=
  ∀ (d : Dev) k (p : Fin 65) v a, a = Reg.PG_OWNER p.val ∨ a = Reg.PG_LOCK p.val →
    (k ≠ 0 → d.refuseReason k a v false = 4) ∧
    (d.flag (Reg.PG_LOCK_LOCK p.val) = true → d.refuseReason 0 a v false = 5) ∧
    (d.flag (Reg.PG_LOCK_LOCK p.val) = false → d.flag (Reg.PG_OWNER_FW_HOLD p.val) = true → d.refuseReason 0 a v false = 6) ∧
    (d.flag (Reg.PG_LOCK_LOCK p.val) = false → d.flag (Reg.PG_OWNER_FW_HOLD p.val) = false → (d.page p.val).inReset = false →
      d.refuseReason 0 a v false = 0)

/-- A refusal of tenant k's write w with reason r stores the entry (address, data, tag, reason) when the FIFO holds fewer than 4,
else stores nothing and sets OVF; either way ERR counts one more, the LATE_ERR bit of page TQk is set, and the LATE_WRITE_ERR
record of page 0x0B with tenant k, severity 1 and the address as payload is posted when its buffer has room. A granted write of
1 to POP of LE_POP of tenant j takes away the oldest entry, and leaves an empty FIFO empty. (R228; R229) -/
def Obligations.LateErrorsAreStoredAndPopped : Prop :=
  (∀ (d : Dev) k w r, d.bridges.length = 8 → d.pages.length = 65 → k < 8 →
    let t := d.refuseWrite k w r
    ((d.br k).late.length < 4 → (t.br k).late = (d.br k).late ++ [⟨w.addr, w.data, w.tag, r⟩]) ∧
    (4 ≤ (d.br k).late.length → (t.br k).late = (d.br k).late ∧ t.flag (Reg.LE_STAT_OVF k) = true) ∧
    (t.br k).err = (d.br k).err + 1 ∧ bit (t.reg (Reg.EVT_RAW (2 + k))) 2 = true ∧
    ((d.page 0x0B).buf.length < 4 →
      (t.page 0x0B).buf = (d.page 0x0B).buf ++ [⟨0x0B, k, St.lateWriteErr, 1, false, BitVec.ofNat 32 w.addr⟩])) ∧
  (∀ s l ag v d (j : Fin 8), s.dev.granted l = some (ag, Reg.LE_POP j.val, v, d) → bit v.toNat 0 = true → d.bridges.length = 8 →
    ∃ t, exec (.lePop l) s = .next (s.withDev t) ∧ (t.br j.val).late = (d.br j.val).late.tail ∧
      (∀ i, i ≠ j.val → t.br i = d.br i) ∧ t.regs = d.regs)

/-- From a bridge as a tenant reset leaves it, the writes a tenant posts stand in its queue in the order they were posted, the i-th
(from 1) with the tag i modulo 2^16, so the first has tag 1; the number of writes posted is their number, and no other tenant's
queue changes. (R221) -/
def Obligations.TagsCountTheTenantsWrites : Prop :=
  (∀ (d : Dev) k (ws : List (Nat × Word)), d.bridges.length = 8 → k < 8 → d.br k = BridgeT.reset →
    let t := ws.foldl (fun d w => d.enqWrite k w.1 w.2) d
    (t.br k).queue = ws.mapIdx (fun i w => ⟨w.1, w.2, (i + 1) % 65536⟩) ∧ (t.br k).posted = ws.length ∧
    ∀ j, j ≠ k → t.br j = d.br j)

/-- A record the spine accepts stands first in the ring with the next sequence number, the value of the always-on counter modulo
2^32 and no other change to it; the number after it is one more modulo 2^32, the ring never grows past 1024 records and keeps
the older ones behind it. The first record after reset has number 1. A record is visible to tenant k exactly when k is 0, or its
tenant field is k or 0xF. (R255; R258; R259; R264; R265) -/
def Obligations.TheSpineNumbersAndStamps : Prop :=
  (∀ (d : Dev) e, let t := d.spineTake e
    t.spine.ring = (⟨d.spine.nextSeq, d.now % 2 ^ 32, e, false⟩ :: d.spine.ring).take 1024 ∧
    t.spine.nextSeq = (d.spine.nextSeq + 1) % 2 ^ 32 ∧ t.spine.ring.length ≤ 1024 ∧ t.now = d.now) ∧
  (∀ e, ((Dev.reset.spineTake e).spine.ring.map (·.seq)) = [1]) ∧
  (∀ (e : EvRec) k, (e.visible k = true ↔ k = 0 ∨ e.ten = k ∨ e.ten = 0xF))

/-- After a page's fault registers are brought in line with its active conditions, CODE is 0 when none is active; else it is the
code of an active condition than which none is more severe and than which every earlier one is less severe. Raising or ending a
condition brings them in line. (R252) -/
def Obligations.FaultCodeHoldsTheWorstCondition : Prop :=
  (∀ (d : Dev) p, (d.page p).faults = [] → (d.refault p).get (Reg.FAULT_CODE_CODE p) = 0) ∧
  (∀ (d : Dev) p c, worst (d.page p).faults = some c → c.code < 65536 → (d.refault p).get (Reg.FAULT_CODE_CODE p) = c.code) ∧
  (∀ l : List FaultCond, l ≠ [] → ∃ pre c post, l = pre ++ c :: post ∧ worst l = some c ∧
    (∀ x ∈ pre, x.sev < c.sev) ∧ (∀ x ∈ post, x.sev ≤ c.sev)) ∧
  (∀ (d : Dev) p key code sev det, d.faulted p key = false → p < d.pages.length →
    ∃ e : Dev, d.faultOn p key code sev det = e.refault p ∧ (e.page p).faults = (d.page p).faults ++ [⟨key, code, sev, det⟩])

/-- When the shadows of a page are taken, every register of the page that has a shadow holds the shadow's bits in its RWS fields and
its old bits elsewhere, no shadow of the page is left, the shadows of other pages stay, and every register without a shadow on
the page keeps its word; the same for a channel of a per-channel page. One step does all of it. (R245) -/
def Obligations.ABoundaryTakesEveryShadow : Prop :=
  (∀ (d : Dev) (p : Nat → Bool), (d.shadows.map (·.1)).Nodup →
    let t := d.takeShadows p
    (∀ x ∈ d.shadows, p x.1 = true → t.reg x.1 = merge (d.reg x.1) x.2.toNat (accMask x.1 (· == .rws)) % 2 ^ 32) ∧
    (∀ a, (∀ x ∈ d.shadows, p x.1 = true → x.1 ≠ a) → t.reg a = d.reg a) ∧
    t.shadows = d.shadows.filter (fun x => ! p x.1)) ∧
  (∀ (d : Dev) p, (d.boundary p).shadows = d.shadows.filter (fun x => ! onPage p x.1)) ∧
  (∀ (d : Dev) p c, (d.chanBoundary p c).shadows = d.shadows.filter (fun x => ! onChan p c x.1))

/-- After source i of page p fires, bit i of EVT_RAW is 1 and the other bits and EVT_EN are as before; what EVT_PEND of the page
shows is EVT_RAW AND EVT_EN. (R248) -/
def Obligations.FiringsSetRawWhateverIsEnabled : Prop :=
  (∀ (d : Dev) (p : Fin 65) (i : Fin 32), bit ((d.fireRaw p.val i.val).reg (Reg.EVT_RAW p.val)) i.val = true ∧
    (∀ j : Fin 32, j ≠ i → bit ((d.fireRaw p.val i.val).reg (Reg.EVT_RAW p.val)) j.val = bit (d.reg (Reg.EVT_RAW p.val)) j.val) ∧
    (d.fireRaw p.val i.val).reg (Reg.EVT_EN p.val) = d.reg (Reg.EVT_EN p.val)) ∧
  (∀ (d : Dev) m who (p : Fin 65), d.live m who p.val (Reg.EVT_PEND p.val) = d.reg (Reg.EVT_RAW p.val) &&& d.reg (Reg.EVT_EN p.val))

/-- After a write of v to register a by its access codes, a bit of an RW field is v's bit; a bit of a W1C field is cleared where v
has a 1; a bit of a W1S field is set where v has a 1; every other bit of the register keeps its value (the four kinds of field
taken as disjoint); every other register keeps its word; and nothing of the block but registers and shadows changes. (R10; R216;
R217; Table 0-2) -/
def Obligations.ARegisterWriteActsByAccessCode : Prop :=
  (∀ (d : Dev) a v (i : Fin 32),
    let rw := bit (accMask a (· == .rw)) i.val
    let c := bit (accMask a (· == .w1c)) i.val
    let s := bit (accMask a (· == .w1s)) i.val
    let x := bit ((d.store a v).reg a) i.val
    (rw = true → c = false → s = false → x = bit v i.val) ∧
    (rw = false → c = true → s = false → x = (bit (d.reg a) i.val && ! bit v i.val)) ∧
    (rw = false → c = false → s = true → x = (bit (d.reg a) i.val || bit v i.val)) ∧
    (rw = false → c = false → s = false → x = bit (d.reg a) i.val)) ∧
  (∀ (d : Dev) a v b, b ≠ a → (d.store a v).reg b = d.reg b) ∧
  (∀ (d : Dev) a v, d.store a v = { d with regs := (d.store a v).regs, shadows := (d.store a v).shadows })

/-- The scheduler picks none exactly when no tenant is eligible; the tenant it picks is eligible, and one picked keeps the turn
until it has been picked weight times. With weights of 1 to W, an eligible tenant is picked within 8 W selections, whoever has
the turn. (R83; R84; R86; spec/02_tenants.md) -/
def Obligations.TheTurnComesToEveryTenant : Prop :=
  (∀ elig wt s, (schedPick elig wt s = none ↔ ∀ k, k < 8 → elig k = false) ∧
    (∀ k t, schedPick elig wt s = some (k, t) → k < 8 ∧ elig k = true ∧ t.cur < 8 ∧
      (t.cur = k → t.used < wt k) ∧ (t.cur ≠ k → t = ⟨(k + 1) % 8, 0⟩))) ∧
  (∀ (elig : Nat → Bool) (wt : Nat → Nat) (s : Sched) (W k : Nat) (picks : Nat → Nat × Sched), s.cur < 8 → s.used ≤ W → k < 8 → elig k = true →
    (∀ i, i < 8 → 1 ≤ wt i ∧ wt i ≤ W) → schedPick elig wt s = some (picks 0) →
    (∀ n, schedPick elig wt (picks n).2 = some (picks (n + 1))) → ∃ n, n < 8 * W ∧ (picks n).1 = k)

/-- After a sample of channel n, the output U lies between UMIN and the greater of UMIN and UMAX as they stood at the sample; and
where no swap is pending and no initialisation due, a sample whose output was limited keeps Z. (R567; R575; R578; R579) -/
def Obligations.LoopOutputStaysInItsLimits : Prop :=
  ∀ (d : Dev) (n : Fin 8) y,
    let t := d.loopLaw n.val y
    d.geti (Reg.LP_UMIN_UMIN n.val) ≤ t.geti (Reg.LP_U_U n.val) ∧
    t.geti (Reg.LP_U_U n.val) ≤ max (d.geti (Reg.LP_UMIN_UMIN n.val)) (d.geti (Reg.LP_UMAX_UMAX n.val)) ∧
    (d.flag (Reg.LP_STAT_SWAP_PEND n.val) = false → (d.lch n.val).init = false → d.flag (Reg.LP_CTL_INIT n.val) = false →
      t.flag (Reg.LP_STAT_SAT n.val) = true → t.geti (Reg.LP_Z_Z n.val) = d.geti (Reg.LP_Z_Z n.val))

/-- For every key, every 12-byte IV and every text, encrypting the encrypted text in counter mode gives the text, and the lengths
agree. (R310; R852; Table 20-1) -/
def Obligations.CounterModeUndoesItself : Prop :=
  ∀ key iv bs, iv.length = 12 → (gcmCrypt key iv bs).length = bs.length ∧ gcmCrypt key iv (gcmCrypt key iv bs) = bs

/-- For 1, 2 or 4 bits per pixel and every width, line count, band number and raster that fit their header fields and the decoder's
limits, the block the encoder writes at effort 0 passes every check of Table 7-6 and decodes, with status OK, to the raster's
pixels in the given number of cycles. (R318; R319; R321; R322; R338; R348; Table 7-1; Table 7-6) -/
def Obligations.ARawBlockDecodesToItsRaster : Prop :=
  ∀ (bpp bh width lines band : Nat) (raster : List Byte) (c : DecCtx), bpp = 1 ∨ bpp = 2 ∨ bpp = 4 → bh < 4 → width < 65536 → lines < 65536 →
    band < 65536 → raster.length = width * bpp / 8 * lines → raster.length < 2 ^ 32 →
    c.band = band → c.width = width → c.bpp = bpp → c.bandH = bh → c.lines = lines → c.anyLines = false →
    raster.length ≤ c.room → raster.length ≤ c.outMax → c.given = 32 + raster.length →
    decodeBlock c (encodeBlock 0 width bpp bh lines band raster).1 =
      ⟨St.ok, 0, 32 + (raster.length + 3) / 4, (unpackPixels bpp raster).toArray⟩

/-- At reset PG_OWNER of page TQn has the read mask (1 shifted left by n) OR 1 and the write mask 1 shifted left by n; on TQ3 the
word is 0x0809. (R68) -/
def Obligations.ResetMasksOfTheTenantPages : Prop :=
  (∀ n : Fin 8, State.reset.dev.get (Reg.PG_OWNER_RD_MASK (2 + n.val)) = (1 <<< n.val ||| 1) ∧
    State.reset.dev.get (Reg.PG_OWNER_WR_MASK (2 + n.val)) = 1 <<< n.val) ∧
  State.reset.dev.reg (Reg.PG_OWNER 5) = 0x809

/-- When a burn or a finalisation of the OTP array ends, whatever the margin read finds, no bit of any of its words that was 1 has
become 0. (R827; R828; R829) -/
def Obligations.BurnedBitsStay : Prop :=
  ∀ s t raw w, exec (.otpBurnDone raw) s = .next t →
    sget otpBlank t.dev.otp.array w &&& sget otpBlank s.dev.otp.array w = sget otpBlank s.dev.otp.array w
end

