-- ==== Sys2Proof/Laws/Operands.lean ====
section
/-! SUPPORT. Laws of sparse maps, bit fields, little-endian byte strings and table updates. -/

namespace Sys2Proof.Machine

/-! ### Sparse maps -/

theorem sget_sdel {α : Type} (dflt : Nat → α) (m : List (Nat × α)) (k j : Nat) :
    sget dflt (sdel m k) j = if j = k then dflt j else sget dflt m j := by
  induction m with
  | nil => by_cases h : j = k <;> simp [sdel, sget]
  | cons x m ih =>
    obtain ⟨a, w⟩ := x
    by_cases h1 : a = k
    · subst h1
      simp only [sdel, sget, if_true, ih]
      by_cases h : j = a <;> simp [h]
    · simp only [sdel, sget, if_neg h1, ih]
      by_cases h : j = a
      · subst h; simp [h1]
      · simp [h]

theorem sget_sins_same {α : Type} (dflt : Nat → α) (m : List (Nat × α)) (k : Nat) (v : α)
    (h : sdel m k = m) : sget dflt (sins m k v) k = v := by
  induction m with
  | nil => simp [sins, sget]
  | cons x m ih =>
    obtain ⟨a, w⟩ := x
    by_cases h1 : a = k
    · exfalso
      subst h1
      have hl : ∀ l : List (Nat × α), (sdel l a).length ≤ l.length := by
        intro l
        induction l with
        | nil => simp [sdel]
        | cons y l ihl => obtain ⟨b, u⟩ := y; simp only [sdel]; split <;> simp <;> omega
      have := congrArg List.length h
      simp [sdel] at this
      have := hl m
      omega
    · simp only [sdel, if_neg h1, List.cons.injEq, true_and] at h
      simp only [sins]
      split
      · simp [sget]
      · simp only [sget, ih h]; split
        · omega
        · rfl

theorem sget_sins_other {α : Type} (dflt : Nat → α) (m : List (Nat × α)) (k j : Nat) (v : α) (h : j ≠ k) :
    sget dflt (sins m k v) j = sget dflt m j := by
  induction m with
  | nil => simp [sins, sget, h]
  | cons x m ih =>
    obtain ⟨a, w⟩ := x
    simp only [sins]
    split
    · simp [sget, h]
    · simp [sget, ih]

theorem sdel_sdel {α : Type} (m : List (Nat × α)) (k : Nat) : sdel (sdel m k) k = sdel m k := by
  induction m with
  | nil => rfl
  | cons x m ih =>
    obtain ⟨a, w⟩ := x
    by_cases h : a = k <;> simp [sdel, h, ih]

/-- A read after a write at the same key gives what was written. -/
@[simp] theorem sget_sset_same {α : Type} [DecidableEq α] (dflt : Nat → α) (m : List (Nat × α)) (k : Nat) (v : α) :
    sget dflt (sset dflt m k v) k = v := by
  unfold sset
  split
  · rename_i h; simp [sget_sdel, h]
  · exact sget_sins_same _ _ _ _ (sdel_sdel m k)

/-- A write leaves every other key alone. -/
theorem sget_sset_other {α : Type} [DecidableEq α] (dflt : Nat → α) (m : List (Nat × α)) (k j : Nat) (v : α) (h : j ≠ k) :
    sget dflt (sset dflt m k v) j = sget dflt m j := by
  unfold sset
  split
  · simp [sget_sdel, h]
  · rw [sget_sins_other _ _ _ _ _ h]; simp [sget_sdel, h]

theorem swfFrom_mono {α : Type} [DecidableEq α] (dflt : Nat → α) (m : List (Nat × α)) (b c : Nat) (h : c ≤ b)
    (hm : swfFrom dflt b m = true) : swfFrom dflt c m = true := by
  cases m with
  | nil => rfl
  | cons x m =>
    obtain ⟨a, v⟩ := x
    simp only [swfFrom, Bool.and_eq_true, decide_eq_true_eq] at hm ⊢
    exact ⟨⟨by omega, hm.1.2⟩, hm.2⟩

theorem swfFrom_sdel {α : Type} [DecidableEq α] (dflt : Nat → α) (m : List (Nat × α)) (b k : Nat)
    (hm : swfFrom dflt b m = true) : swfFrom dflt b (sdel m k) = true := by
  induction m generalizing b with
  | nil => rfl
  | cons x m ih =>
    obtain ⟨a, v⟩ := x
    simp only [swfFrom, Bool.and_eq_true, decide_eq_true_eq] at hm
    simp only [sdel]
    split
    · exact ih b (swfFrom_mono _ _ _ _ (by omega) hm.2)
    · simp only [swfFrom, Bool.and_eq_true, decide_eq_true_eq]
      exact ⟨hm.1, ih _ hm.2⟩

theorem sdel_above {α : Type} [DecidableEq α] (dflt : Nat → α) (m : List (Nat × α)) (b k : Nat) (hk : k < b)
    (hm : swfFrom dflt b m = true) : swfFrom dflt (k + 1) m = true :=
  swfFrom_mono _ _ _ _ (by omega) hm

theorem swfFrom_sins {α : Type} [DecidableEq α] (dflt : Nat → α) (m : List (Nat × α)) (b k : Nat) (v : α)
    (hb : b ≤ k) (hv : v ≠ dflt k) (hk : sdel m k = m) (hm : swfFrom dflt b m = true) :
    swfFrom dflt b (sins m k v) = true := by
  induction m generalizing b with
  | nil => simp [sins, swfFrom, hb, hv]
  | cons x m ih =>
    obtain ⟨a, w⟩ := x
    simp only [swfFrom, Bool.and_eq_true, decide_eq_true_eq] at hm
    have hak : a ≠ k := by
      intro h
      have := sget_sdel (fun _ => (none : Option Nat)) (((a, w) :: m).map (fun y => (y.1, some 0))) k k
      have hmap : ∀ l : List (Nat × α), sdel (l.map (fun y => (y.1, some (0 : Nat)))) k = (sdel l k).map (fun y => (y.1, some 0)) := by
        intro l
        induction l with
        | nil => rfl
        | cons y l ihl => obtain ⟨c, u⟩ := y; simp only [List.map, sdel, ihl]; split <;> rfl
      rw [hmap, hk] at this
      simp [sget, h] at this
    simp only [sdel, if_neg hak, List.cons.injEq, true_and] at hk
    simp only [sins]
    split
    · simp only [swfFrom, Bool.and_eq_true, decide_eq_true_eq]
      exact ⟨⟨hb, hv⟩, ⟨by omega, hm.1.2⟩, hm.2⟩
    · simp only [swfFrom, Bool.and_eq_true, decide_eq_true_eq]
      exact ⟨hm.1, ih _ (by omega) hk hm.2⟩

/-- A write keeps the canonical form. -/
theorem swf_sset {α : Type} [DecidableEq α] (dflt : Nat → α) (m : List (Nat × α)) (k : Nat) (v : α)
    (hm : swf dflt m = true) : swf dflt (sset dflt m k v) = true := by
  unfold sset swf at *
  split
  · exact swfFrom_sdel _ _ _ _ hm
  · rename_i h
    exact swfFrom_sins _ _ _ _ _ (by omega) h (sdel_sdel m k) (swfFrom_sdel _ _ _ _ hm)

/-! ### Tables -/

@[simp] theorem lmod_length {α : Type} (l : List α) (i : Nat) (f : α → α) : (lmod l i f).length = l.length := by
  simp [lmod]

theorem lmod_getD_same {α : Type} (l : List α) (i : Nat) (f : α → α) (d : α) (h : i < l.length) :
    (lmod l i f).getD i d = f (l.getD i d) := by
  simp [lmod, List.getD_eq_getElem?_getD, h]

theorem lmod_getD_other {α : Type} (l : List α) (i j : Nat) (f : α → α) (d : α) (h : i ≠ j) :
    (lmod l i f).getD j d = l.getD j d := by
  simp [lmod, List.getD_eq_getElem?_getD, List.getElem?_modify, h]

/-! ### Bit fields -/

theorem bitsOf_lt (x lo w : Nat) : bitsOf x lo w < 2 ^ w := Nat.mod_lt _ (by positivity)

/-- A word is its bits above a field, the field and the bits below it. -/
theorem word_split (x lo w : Nat) :
    x = (x / 2 ^ (lo + w)) * 2 ^ (lo + w) + bitsOf x lo w * 2 ^ lo + x % 2 ^ lo := by
  unfold bitsOf
  rw [Nat.shiftRight_eq_div_pow, pow_add, ← Nat.div_div_eq_div_mul]
  have h1 := Nat.div_add_mod x (2 ^ lo)
  have h2 := Nat.div_add_mod (x / 2 ^ lo) (2 ^ w)
  have hz : x / 2 ^ lo / 2 ^ w * (2 ^ lo * 2 ^ w) = 2 ^ lo * (2 ^ w * (x / 2 ^ lo / 2 ^ w)) := by ring
  have hy : 2 ^ lo * (2 ^ w * (x / 2 ^ lo / 2 ^ w)) + x / 2 ^ lo % 2 ^ w * 2 ^ lo = 2 ^ lo * (x / 2 ^ lo) := by
    conv_rhs => rw [← h2]
    ring
  rw [hz, hy]
  omega

theorem bitsPut_eq (x lo w v : Nat) :
    bitsPut x lo w v = (x / 2 ^ (lo + w)) * 2 ^ (lo + w) + (v % 2 ^ w) * 2 ^ lo + x % 2 ^ lo := by
  have h := word_split x lo w
  unfold bitsPut
  simp only
  omega

/-- A field read after it is written gives the value modulo its width. -/
@[simp] theorem bitsOf_bitsPut_same (x lo w v : Nat) : bitsOf (bitsPut x lo w v) lo w = v % 2 ^ w := by
  rw [bitsPut_eq]
  unfold bitsOf
  rw [Nat.shiftRight_eq_div_pow]
  have h1 : x / 2 ^ (lo + w) * 2 ^ (lo + w) + v % 2 ^ w * 2 ^ lo + x % 2 ^ lo
      = 2 ^ lo * (2 ^ w * (x / 2 ^ (lo + w)) + v % 2 ^ w) + x % 2 ^ lo := by rw [pow_add]; ring
  have h2 : x % 2 ^ lo < 2 ^ lo := Nat.mod_lt _ (by positivity)
  rw [h1, Nat.mul_add_div (by positivity), Nat.div_eq_of_lt h2, add_zero, Nat.mul_add_mod, Nat.mod_mod]

/-- Writing a field leaves the fields below it alone. -/
theorem bitsOf_bitsPut_below (x lo w v lo' w' : Nat) (h : lo' + w' ≤ lo) :
    bitsOf (bitsPut x lo w v) lo' w' = bitsOf x lo' w' := by
  have key : ∀ y z : Nat, y % 2 ^ lo = z % 2 ^ lo → bitsOf y lo' w' = bitsOf z lo' w' := by
    intro y z hyz
    have hm : y % 2 ^ (lo' + w') = z % 2 ^ (lo' + w') := by
      have hd : 2 ^ (lo' + w') ∣ 2 ^ lo := Nat.pow_dvd_pow 2 h
      rw [← Nat.mod_mod_of_dvd y hd, ← Nat.mod_mod_of_dvd z hd, hyz]
    unfold bitsOf
    rw [Nat.shiftRight_eq_div_pow, Nat.shiftRight_eq_div_pow, ← Nat.mod_mul_right_div_self, ← Nat.mod_mul_right_div_self,
      ← pow_add, hm]
  apply key
  rw [bitsPut_eq]
  have h1 : x / 2 ^ (lo + w) * 2 ^ (lo + w) + v % 2 ^ w * 2 ^ lo + x % 2 ^ lo
      = 2 ^ lo * (2 ^ w * (x / 2 ^ (lo + w)) + v % 2 ^ w) + x % 2 ^ lo := by rw [pow_add]; ring
  rw [h1, Nat.mul_add_mod, Nat.mod_mod]

/-- Writing a field leaves the fields above it alone. -/
theorem bitsOf_bitsPut_above (x lo w v lo' w' : Nat) (h : lo + w ≤ lo') :
    bitsOf (bitsPut x lo w v) lo' w' = bitsOf x lo' w' := by
  have key : ∀ y z : Nat, y / 2 ^ (lo + w) = z / 2 ^ (lo + w) → bitsOf y lo' w' = bitsOf z lo' w' := by
    intro y z hyz
    obtain ⟨e, rfl⟩ := Nat.exists_eq_add_of_le h
    unfold bitsOf
    rw [Nat.shiftRight_eq_div_pow, Nat.shiftRight_eq_div_pow, pow_add 2 (lo + w) e, ← Nat.div_div_eq_div_mul,
      ← Nat.div_div_eq_div_mul, hyz]
  apply key
  rw [bitsPut_eq]
  have h2 : v % 2 ^ w * 2 ^ lo + x % 2 ^ lo < 2 ^ (lo + w) := by
    have a1 : v % 2 ^ w < 2 ^ w := Nat.mod_lt _ (by positivity)
    have a2 : x % 2 ^ lo < 2 ^ lo := Nat.mod_lt _ (by positivity)
    calc v % 2 ^ w * 2 ^ lo + x % 2 ^ lo < v % 2 ^ w * 2 ^ lo + 1 * 2 ^ lo := by omega
      _ = (v % 2 ^ w + 1) * 2 ^ lo := by ring
      _ ≤ 2 ^ w * 2 ^ lo := Nat.mul_le_mul_right _ (by omega)
      _ = 2 ^ (lo + w) := by rw [pow_add]; ring
  rw [add_assoc, mul_comm, Nat.mul_add_div (by positivity), Nat.div_eq_of_lt h2, add_zero]

/-- A field within 32 bits leaves a word within 32 bits. -/
theorem bitsPut_lt (x lo w v : Nat) (hx : x < 2 ^ 32) (h : lo + w ≤ 32) : bitsPut x lo w v < 2 ^ 32 := by
  have h0 := bitsOf_bitsPut_above x lo w v 32 1 h
  have hq : bitsPut x lo w v / 2 ^ (lo + w) = x / 2 ^ (lo + w) := by
    rw [bitsPut_eq]
    have h2 : v % 2 ^ w * 2 ^ lo + x % 2 ^ lo < 2 ^ (lo + w) := by
      have a1 : v % 2 ^ w < 2 ^ w := Nat.mod_lt _ (by positivity)
      have a2 : x % 2 ^ lo < 2 ^ lo := Nat.mod_lt _ (by positivity)
      calc v % 2 ^ w * 2 ^ lo + x % 2 ^ lo < v % 2 ^ w * 2 ^ lo + 1 * 2 ^ lo := by omega
        _ = (v % 2 ^ w + 1) * 2 ^ lo := by ring
        _ ≤ 2 ^ w * 2 ^ lo := Nat.mul_le_mul_right _ (by omega)
        _ = 2 ^ (lo + w) := by rw [pow_add]; ring
    rw [add_assoc, mul_comm, Nat.mul_add_div (by positivity), Nat.div_eq_of_lt h2, add_zero]
  obtain ⟨e, he⟩ := Nat.exists_eq_add_of_le h
  have hx2 : x / 2 ^ (lo + w) < 2 ^ e := by
    rw [Nat.div_lt_iff_lt_mul (by positivity), ← pow_add]
    rw [show e + (lo + w) = 32 by omega]; exact hx
  rw [← hq, Nat.div_lt_iff_lt_mul (by positivity), ← pow_add, show e + (lo + w) = 32 by omega] at hx2
  exact hx2

/-! ### Little-endian byte strings -/

@[simp] theorem leBytes_length (n x : Nat) : (leBytes n x).length = n := by
  induction n generalizing x with
  | zero => rfl
  | succ n ih => simp [leBytes, ih]

end Sys2Proof.Machine
end

