-- ==== Sys2Proof/Laws/Memory.lean ====
section
/-! SUPPORT. Reads after writes of the addressed memories, and that every memory operation keeps their canonical form. -/

namespace Sys2Proof.Machine

/-- Memories with nothing listed have the canonical form. -/
theorem Mem.wf_reset : Mem.reset.wf = true := by decide

@[simp] theorem Mem.wf_setByte (m : Mem) (a : Nat) (v : Byte) (h : m.wf = true) : (m.setByte a v).wf = true := by
  simp only [Mem.wf, Bool.and_eq_true] at h ⊢
  unfold Mem.setByte
  split
  · exact ⟨⟨swf_sset _ _ _ _ h.1.1, h.1.2⟩, h.2⟩
  · split
    · exact ⟨⟨h.1.1, swf_sset _ _ _ _ h.1.2⟩, h.2⟩
    · exact h

@[simp] theorem Mem.wf_setNor (m : Mem) (a : Nat) (v : Byte) (h : m.wf = true) : (m.setNor a v).wf = true := by
  simp only [Mem.wf, Bool.and_eq_true] at h ⊢
  unfold Mem.setNor
  split
  · exact ⟨h.1, swf_sset _ _ _ _ h.2⟩
  · exact h

@[simp] theorem Mem.wf_writeBytes (m : Mem) (a : Nat) (bs : List Byte) (h : m.wf = true) : (m.writeBytes a bs).wf = true := by
  induction bs generalizing m a with
  | nil => exact h
  | cons b bs ih => exact ih _ _ (Mem.wf_setByte _ _ _ h)

@[simp] theorem Mem.wf_program (m : Mem) (a : Nat) (bs : List Byte) (h : m.wf = true) : (m.program a bs).wf = true := by
  induction bs generalizing m a with
  | nil => exact h
  | cons b bs ih => exact ih _ _ (Mem.wf_setNor _ _ _ h)

@[simp] theorem Mem.wf_erase (m : Mem) (a n : Nat) (h : m.wf = true) : (m.erase a n).wf = true := by
  induction n generalizing m a with
  | zero => exact h
  | succ n ih => exact ih _ _ (Mem.wf_setNor _ _ _ h)

@[simp] theorem Mem.wf_norFill (m : Mem) (a : Nat) (bs : List Byte) (h : m.wf = true) : (m.norFill a bs).wf = true := by
  induction bs generalizing m a with
  | nil => exact h
  | cons b bs ih => exact ih _ _ (Mem.wf_setNor _ _ _ h)

@[simp] theorem Stream.wf_write (s : Stream) (m : Mem) (o : Nat) (bs : List Byte) (h : m.wf = true) : (s.write m o bs).wf = true := by
  induction bs generalizing m o with
  | nil => exact h
  | cons b bs ih => exact ih _ _ (Mem.wf_setByte _ _ _ h)

/-- A RAM address: one that `setByte` writes. -/
def isRam (a : Nat) : Prop := (0x20000000 ≤ a ∧ a < 0x20200000) ∨ (0x60000000 ≤ a ∧ a < 0x64000000)

/-- A byte of RAM reads, after it is written, as what was written. -/
theorem Mem.byte_setByte_same (m : Mem) (a : Nat) (v : Byte) (h : isRam a) : (m.setByte a v).byte a = v := by
  unfold Mem.byte Mem.byte? Mem.setByte
  rcases h with h | h
  · simp [h]
  · have h1 : ¬ (0x20000000 ≤ a ∧ a < 0x20200000) := by omega
    simp [h1, h]

/-- A write of one byte leaves every other byte alone. -/
theorem Mem.byte_setByte_other (m : Mem) (a b : Nat) (v : Byte) (h : b ≠ a) : (m.setByte a v).byte b = m.byte b := by
  have hs : sget ramDefault (m.setByte a v).sram b = sget ramDefault m.sram b := by
    unfold Mem.setByte; repeat' split
    all_goals simp [sget_sset_other ramDefault m.sram a b v h]
  have hp : sget ramDefault (m.setByte a v).psram b = sget ramDefault m.psram b := by
    unfold Mem.setByte; repeat' split
    all_goals simp [sget_sset_other ramDefault m.psram a b v h]
  have hn : (m.setByte a v).nor = m.nor := by unfold Mem.setByte; repeat' split
                                              all_goals rfl
  simp only [Mem.byte, Mem.byte?, hs, hp, hn]

theorem Mem.byte_setNor_other (m : Mem) (a b : Nat) (v : Byte) (h : b ≠ a) : (m.setNor a v).byte b = m.byte b := by
  have hs : (m.setNor a v).sram = m.sram := by unfold Mem.setNor; split <;> rfl
  have hp : (m.setNor a v).psram = m.psram := by unfold Mem.setNor; split <;> rfl
  have hn : sget norDefault (m.setNor a v).nor b = sget norDefault m.nor b := by
    unfold Mem.setNor; split
    · simp [sget_sset_other norDefault m.nor a b v h]
    · rfl
  simp only [Mem.byte, Mem.byte?, hs, hp, hn]

/-- A byte string leaves the bytes outside its addresses alone. -/
theorem Mem.byte_writeBytes_other (m : Mem) (a b : Nat) (bs : List Byte) (h : b < a ∨ a + bs.length ≤ b) :
    (m.writeBytes a bs).byte b = m.byte b := by
  induction bs generalizing m a with
  | nil => rfl
  | cons x bs ih =>
    simp only [List.length_cons] at h
    simp only [Mem.writeBytes]
    rw [ih _ _ (by omega), Mem.byte_setByte_other _ _ _ _ (by omega)]

end Sys2Proof.Machine
end

