-- ==== Sys2Proof/Laws/State.lean ====
section
/-! SUPPORT. What each plain update leaves alone, one lemma per field and update, all true by rfl or by one case split. -/

namespace Sys2Proof.Machine


/-! ### setReg -/

@[simp] theorem Dev.setReg_shadows (d : Dev) (a v : Nat) : (d.setReg a v).shadows = d.shadows := rfl
@[simp] theorem Dev.setReg_now (d : Dev) (a v : Nat) : (d.setReg a v).now = d.now := rfl
@[simp] theorem Dev.setReg_free (d : Dev) (a v : Nat) : (d.setReg a v).free = d.free := rfl
@[simp] theorem Dev.setReg_pages (d : Dev) (a v : Nat) : (d.setReg a v).pages = d.pages := rfl
@[simp] theorem Dev.setReg_spine (d : Dev) (a v : Nat) : (d.setReg a v).spine = d.spine := rfl
@[simp] theorem Dev.setReg_bridges (d : Dev) (a v : Nat) : (d.setReg a v).bridges = d.bridges := rfl
@[simp] theorem Dev.setReg_lastRead (d : Dev) (a v : Nat) : (d.setReg a v).lastRead = d.lastRead := rfl
@[simp] theorem Dev.setReg_tenants (d : Dev) (a v : Nat) : (d.setReg a v).tenants = d.tenants := rfl
@[simp] theorem Dev.setReg_chans (d : Dev) (a v : Nat) : (d.setReg a v).chans = d.chans := rfl
@[simp] theorem Dev.setReg_ports (d : Dev) (a v : Nat) : (d.setReg a v).ports = d.ports := rfl
@[simp] theorem Dev.setReg_sheets (d : Dev) (a v : Nat) : (d.setReg a v).sheets = d.sheets := rfl
@[simp] theorem Dev.setReg_forms (d : Dev) (a v : Nat) : (d.setReg a v).forms = d.forms := rfl
@[simp] theorem Dev.setReg_laserSched (d : Dev) (a v : Nat) : (d.setReg a v).laserSched = d.laserSched := rfl
@[simp] theorem Dev.setReg_thermalSched (d : Dev) (a v : Nat) : (d.setReg a v).thermalSched = d.thermalSched := rfl
@[simp] theorem Dev.setReg_globalSnap (d : Dev) (a v : Nat) : (d.setReg a v).globalSnap = d.globalSnap := rfl
@[simp] theorem Dev.setReg_tqSnaps (d : Dev) (a v : Nat) : (d.setReg a v).tqSnaps = d.tqSnaps := rfl
@[simp] theorem Dev.setReg_dmaOwner (d : Dev) (a v : Nat) : (d.setReg a v).dmaOwner = d.dmaOwner := rfl
@[simp] theorem Dev.setReg_dma (d : Dev) (a v : Nat) : (d.setReg a v).dma = d.dma := rfl
@[simp] theorem Dev.setReg_ecc (d : Dev) (a v : Nat) : (d.setReg a v).ecc = d.ecc := rfl
@[simp] theorem Dev.setReg_norBusy (d : Dev) (a v : Nat) : (d.setReg a v).norBusy = d.norBusy := rfl
@[simp] theorem Dev.setReg_codec (d : Dev) (a v : Nat) : (d.setReg a v).codec = d.codec := rfl
@[simp] theorem Dev.setReg_units (d : Dev) (a v : Nat) : (d.setReg a v).units = d.units := rfl
@[simp] theorem Dev.setReg_galReqs (d : Dev) (a v : Nat) : (d.setReg a v).galReqs = d.galReqs := rfl
@[simp] theorem Dev.setReg_rcpt (d : Dev) (a v : Nat) : (d.setReg a v).rcpt = d.rcpt := rfl
@[simp] theorem Dev.setReg_rcptBad (d : Dev) (a v : Nat) : (d.setReg a v).rcptBad = d.rcptBad := rfl
@[simp] theorem Dev.setReg_seqs (d : Dev) (a v : Nat) : (d.setReg a v).seqs = d.seqs := rfl
@[simp] theorem Dev.setReg_scan (d : Dev) (a v : Nat) : (d.setReg a v).scan = d.scan := rfl
@[simp] theorem Dev.setReg_motors (d : Dev) (a v : Nat) : (d.setReg a v).motors = d.motors := rfl
@[simp] theorem Dev.setReg_axes (d : Dev) (a v : Nat) : (d.setReg a v).axes = d.axes := rfl
@[simp] theorem Dev.setReg_path (d : Dev) (a v : Nat) : (d.setReg a v).path = d.path := rfl
@[simp] theorem Dev.setReg_engine (d : Dev) (a v : Nat) : (d.setReg a v).engine = d.engine := rfl
@[simp] theorem Dev.setReg_loops (d : Dev) (a v : Nat) : (d.setReg a v).loops = d.loops := rfl
@[simp] theorem Dev.setReg_resetAt (d : Dev) (a v : Nat) : (d.setReg a v).resetAt = d.resetAt := rfl
@[simp] theorem Dev.setReg_proc (d : Dev) (a v : Nat) : (d.setReg a v).proc = d.proc := rfl
@[simp] theorem Dev.setReg_head (d : Dev) (a v : Nat) : (d.setReg a v).head = d.head := rfl
@[simp] theorem Dev.setReg_pw (d : Dev) (a v : Nat) : (d.setReg a v).pw = d.pw := rfl
@[simp] theorem Dev.setReg_hold (d : Dev) (a v : Nat) : (d.setReg a v).hold = d.hold := rfl
@[simp] theorem Dev.setReg_clk (d : Dev) (a v : Nat) : (d.setReg a v).clk = d.clk := rfl
@[simp] theorem Dev.setReg_otp (d : Dev) (a v : Nat) : (d.setReg a v).otp = d.otp := rfl
@[simp] theorem Dev.setReg_boot (d : Dev) (a v : Nat) : (d.setReg a v).boot = d.boot := rfl
@[simp] theorem Dev.setReg_keys (d : Dev) (a v : Nat) : (d.setReg a v).keys = d.keys := rfl
@[simp] theorem Dev.setReg_trng (d : Dev) (a v : Nat) : (d.setReg a v).trng = d.trng := rfl
@[simp] theorem Dev.setReg_reportSeq (d : Dev) (a v : Nat) : (d.setReg a v).reportSeq = d.reportSeq := rfl
@[simp] theorem Dev.setReg_lock (d : Dev) (a v : Nat) : (d.setReg a v).lock = d.lock := rfl
@[simp] theorem Dev.setReg_life (d : Dev) (a v : Nat) : (d.setReg a v).life = d.life := rfl
@[simp] theorem Dev.setReg_journal (d : Dev) (a v : Nat) : (d.setReg a v).journal = d.journal := rfl
@[simp] theorem Dev.setReg_bg (d : Dev) (a v : Nat) : (d.setReg a v).bg = d.bg := rfl
@[simp] theorem Dev.setReg_balls (d : Dev) (a v : Nat) : (d.setReg a v).balls = d.balls := rfl
@[simp] theorem Dev.setReg_adcNext (d : Dev) (a v : Nat) : (d.setReg a v).adcNext = d.adcNext := rfl
@[simp] theorem Dev.setReg_i2cRun (d : Dev) (a v : Nat) : (d.setReg a v).i2cRun = d.i2cRun := rfl


/-! ### set -/

@[simp] theorem Dev.set_shadows (d : Dev) (f : Fld) (v : Nat) : (d.set f v).shadows = d.shadows := rfl
@[simp] theorem Dev.set_now (d : Dev) (f : Fld) (v : Nat) : (d.set f v).now = d.now := rfl
@[simp] theorem Dev.set_free (d : Dev) (f : Fld) (v : Nat) : (d.set f v).free = d.free := rfl
@[simp] theorem Dev.set_pages (d : Dev) (f : Fld) (v : Nat) : (d.set f v).pages = d.pages := rfl
@[simp] theorem Dev.set_spine (d : Dev) (f : Fld) (v : Nat) : (d.set f v).spine = d.spine := rfl
@[simp] theorem Dev.set_bridges (d : Dev) (f : Fld) (v : Nat) : (d.set f v).bridges = d.bridges := rfl
@[simp] theorem Dev.set_lastRead (d : Dev) (f : Fld) (v : Nat) : (d.set f v).lastRead = d.lastRead := rfl
@[simp] theorem Dev.set_tenants (d : Dev) (f : Fld) (v : Nat) : (d.set f v).tenants = d.tenants := rfl
@[simp] theorem Dev.set_chans (d : Dev) (f : Fld) (v : Nat) : (d.set f v).chans = d.chans := rfl
@[simp] theorem Dev.set_ports (d : Dev) (f : Fld) (v : Nat) : (d.set f v).ports = d.ports := rfl
@[simp] theorem Dev.set_sheets (d : Dev) (f : Fld) (v : Nat) : (d.set f v).sheets = d.sheets := rfl
@[simp] theorem Dev.set_forms (d : Dev) (f : Fld) (v : Nat) : (d.set f v).forms = d.forms := rfl
@[simp] theorem Dev.set_laserSched (d : Dev) (f : Fld) (v : Nat) : (d.set f v).laserSched = d.laserSched := rfl
@[simp] theorem Dev.set_thermalSched (d : Dev) (f : Fld) (v : Nat) : (d.set f v).thermalSched = d.thermalSched := rfl
@[simp] theorem Dev.set_globalSnap (d : Dev) (f : Fld) (v : Nat) : (d.set f v).globalSnap = d.globalSnap := rfl
@[simp] theorem Dev.set_tqSnaps (d : Dev) (f : Fld) (v : Nat) : (d.set f v).tqSnaps = d.tqSnaps := rfl
@[simp] theorem Dev.set_dmaOwner (d : Dev) (f : Fld) (v : Nat) : (d.set f v).dmaOwner = d.dmaOwner := rfl
@[simp] theorem Dev.set_dma (d : Dev) (f : Fld) (v : Nat) : (d.set f v).dma = d.dma := rfl
@[simp] theorem Dev.set_ecc (d : Dev) (f : Fld) (v : Nat) : (d.set f v).ecc = d.ecc := rfl
@[simp] theorem Dev.set_norBusy (d : Dev) (f : Fld) (v : Nat) : (d.set f v).norBusy = d.norBusy := rfl
@[simp] theorem Dev.set_codec (d : Dev) (f : Fld) (v : Nat) : (d.set f v).codec = d.codec := rfl
@[simp] theorem Dev.set_units (d : Dev) (f : Fld) (v : Nat) : (d.set f v).units = d.units := rfl
@[simp] theorem Dev.set_galReqs (d : Dev) (f : Fld) (v : Nat) : (d.set f v).galReqs = d.galReqs := rfl
@[simp] theorem Dev.set_rcpt (d : Dev) (f : Fld) (v : Nat) : (d.set f v).rcpt = d.rcpt := rfl
@[simp] theorem Dev.set_rcptBad (d : Dev) (f : Fld) (v : Nat) : (d.set f v).rcptBad = d.rcptBad := rfl
@[simp] theorem Dev.set_seqs (d : Dev) (f : Fld) (v : Nat) : (d.set f v).seqs = d.seqs := rfl
@[simp] theorem Dev.set_scan (d : Dev) (f : Fld) (v : Nat) : (d.set f v).scan = d.scan := rfl
@[simp] theorem Dev.set_motors (d : Dev) (f : Fld) (v : Nat) : (d.set f v).motors = d.motors := rfl
@[simp] theorem Dev.set_axes (d : Dev) (f : Fld) (v : Nat) : (d.set f v).axes = d.axes := rfl
@[simp] theorem Dev.set_path (d : Dev) (f : Fld) (v : Nat) : (d.set f v).path = d.path := rfl
@[simp] theorem Dev.set_engine (d : Dev) (f : Fld) (v : Nat) : (d.set f v).engine = d.engine := rfl
@[simp] theorem Dev.set_loops (d : Dev) (f : Fld) (v : Nat) : (d.set f v).loops = d.loops := rfl
@[simp] theorem Dev.set_resetAt (d : Dev) (f : Fld) (v : Nat) : (d.set f v).resetAt = d.resetAt := rfl
@[simp] theorem Dev.set_proc (d : Dev) (f : Fld) (v : Nat) : (d.set f v).proc = d.proc := rfl
@[simp] theorem Dev.set_head (d : Dev) (f : Fld) (v : Nat) : (d.set f v).head = d.head := rfl
@[simp] theorem Dev.set_pw (d : Dev) (f : Fld) (v : Nat) : (d.set f v).pw = d.pw := rfl
@[simp] theorem Dev.set_hold (d : Dev) (f : Fld) (v : Nat) : (d.set f v).hold = d.hold := rfl
@[simp] theorem Dev.set_clk (d : Dev) (f : Fld) (v : Nat) : (d.set f v).clk = d.clk := rfl
@[simp] theorem Dev.set_otp (d : Dev) (f : Fld) (v : Nat) : (d.set f v).otp = d.otp := rfl
@[simp] theorem Dev.set_boot (d : Dev) (f : Fld) (v : Nat) : (d.set f v).boot = d.boot := rfl
@[simp] theorem Dev.set_keys (d : Dev) (f : Fld) (v : Nat) : (d.set f v).keys = d.keys := rfl
@[simp] theorem Dev.set_trng (d : Dev) (f : Fld) (v : Nat) : (d.set f v).trng = d.trng := rfl
@[simp] theorem Dev.set_reportSeq (d : Dev) (f : Fld) (v : Nat) : (d.set f v).reportSeq = d.reportSeq := rfl
@[simp] theorem Dev.set_lock (d : Dev) (f : Fld) (v : Nat) : (d.set f v).lock = d.lock := rfl
@[simp] theorem Dev.set_life (d : Dev) (f : Fld) (v : Nat) : (d.set f v).life = d.life := rfl
@[simp] theorem Dev.set_journal (d : Dev) (f : Fld) (v : Nat) : (d.set f v).journal = d.journal := rfl
@[simp] theorem Dev.set_bg (d : Dev) (f : Fld) (v : Nat) : (d.set f v).bg = d.bg := rfl
@[simp] theorem Dev.set_balls (d : Dev) (f : Fld) (v : Nat) : (d.set f v).balls = d.balls := rfl
@[simp] theorem Dev.set_adcNext (d : Dev) (f : Fld) (v : Nat) : (d.set f v).adcNext = d.adcNext := rfl
@[simp] theorem Dev.set_i2cRun (d : Dev) (f : Fld) (v : Nat) : (d.set f v).i2cRun = d.i2cRun := rfl


/-! ### setShadow -/

@[simp] theorem Dev.setShadow_regs (d : Dev) (a v : Nat) : (d.setShadow a v).regs = d.regs := rfl
@[simp] theorem Dev.setShadow_now (d : Dev) (a v : Nat) : (d.setShadow a v).now = d.now := rfl
@[simp] theorem Dev.setShadow_free (d : Dev) (a v : Nat) : (d.setShadow a v).free = d.free := rfl
@[simp] theorem Dev.setShadow_pages (d : Dev) (a v : Nat) : (d.setShadow a v).pages = d.pages := rfl
@[simp] theorem Dev.setShadow_spine (d : Dev) (a v : Nat) : (d.setShadow a v).spine = d.spine := rfl
@[simp] theorem Dev.setShadow_bridges (d : Dev) (a v : Nat) : (d.setShadow a v).bridges = d.bridges := rfl
@[simp] theorem Dev.setShadow_lastRead (d : Dev) (a v : Nat) : (d.setShadow a v).lastRead = d.lastRead := rfl
@[simp] theorem Dev.setShadow_tenants (d : Dev) (a v : Nat) : (d.setShadow a v).tenants = d.tenants := rfl
@[simp] theorem Dev.setShadow_chans (d : Dev) (a v : Nat) : (d.setShadow a v).chans = d.chans := rfl
@[simp] theorem Dev.setShadow_ports (d : Dev) (a v : Nat) : (d.setShadow a v).ports = d.ports := rfl
@[simp] theorem Dev.setShadow_sheets (d : Dev) (a v : Nat) : (d.setShadow a v).sheets = d.sheets := rfl
@[simp] theorem Dev.setShadow_forms (d : Dev) (a v : Nat) : (d.setShadow a v).forms = d.forms := rfl
@[simp] theorem Dev.setShadow_laserSched (d : Dev) (a v : Nat) : (d.setShadow a v).laserSched = d.laserSched := rfl
@[simp] theorem Dev.setShadow_thermalSched (d : Dev) (a v : Nat) : (d.setShadow a v).thermalSched = d.thermalSched := rfl
@[simp] theorem Dev.setShadow_globalSnap (d : Dev) (a v : Nat) : (d.setShadow a v).globalSnap = d.globalSnap := rfl
@[simp] theorem Dev.setShadow_tqSnaps (d : Dev) (a v : Nat) : (d.setShadow a v).tqSnaps = d.tqSnaps := rfl
@[simp] theorem Dev.setShadow_dmaOwner (d : Dev) (a v : Nat) : (d.setShadow a v).dmaOwner = d.dmaOwner := rfl
@[simp] theorem Dev.setShadow_dma (d : Dev) (a v : Nat) : (d.setShadow a v).dma = d.dma := rfl
@[simp] theorem Dev.setShadow_ecc (d : Dev) (a v : Nat) : (d.setShadow a v).ecc = d.ecc := rfl
@[simp] theorem Dev.setShadow_norBusy (d : Dev) (a v : Nat) : (d.setShadow a v).norBusy = d.norBusy := rfl
@[simp] theorem Dev.setShadow_codec (d : Dev) (a v : Nat) : (d.setShadow a v).codec = d.codec := rfl
@[simp] theorem Dev.setShadow_units (d : Dev) (a v : Nat) : (d.setShadow a v).units = d.units := rfl
@[simp] theorem Dev.setShadow_galReqs (d : Dev) (a v : Nat) : (d.setShadow a v).galReqs = d.galReqs := rfl
@[simp] theorem Dev.setShadow_rcpt (d : Dev) (a v : Nat) : (d.setShadow a v).rcpt = d.rcpt := rfl
@[simp] theorem Dev.setShadow_rcptBad (d : Dev) (a v : Nat) : (d.setShadow a v).rcptBad = d.rcptBad := rfl
@[simp] theorem Dev.setShadow_seqs (d : Dev) (a v : Nat) : (d.setShadow a v).seqs = d.seqs := rfl
@[simp] theorem Dev.setShadow_scan (d : Dev) (a v : Nat) : (d.setShadow a v).scan = d.scan := rfl
@[simp] theorem Dev.setShadow_motors (d : Dev) (a v : Nat) : (d.setShadow a v).motors = d.motors := rfl
@[simp] theorem Dev.setShadow_axes (d : Dev) (a v : Nat) : (d.setShadow a v).axes = d.axes := rfl
@[simp] theorem Dev.setShadow_path (d : Dev) (a v : Nat) : (d.setShadow a v).path = d.path := rfl
@[simp] theorem Dev.setShadow_engine (d : Dev) (a v : Nat) : (d.setShadow a v).engine = d.engine := rfl
@[simp] theorem Dev.setShadow_loops (d : Dev) (a v : Nat) : (d.setShadow a v).loops = d.loops := rfl
@[simp] theorem Dev.setShadow_resetAt (d : Dev) (a v : Nat) : (d.setShadow a v).resetAt = d.resetAt := rfl
@[simp] theorem Dev.setShadow_proc (d : Dev) (a v : Nat) : (d.setShadow a v).proc = d.proc := rfl
@[simp] theorem Dev.setShadow_head (d : Dev) (a v : Nat) : (d.setShadow a v).head = d.head := rfl
@[simp] theorem Dev.setShadow_pw (d : Dev) (a v : Nat) : (d.setShadow a v).pw = d.pw := rfl
@[simp] theorem Dev.setShadow_hold (d : Dev) (a v : Nat) : (d.setShadow a v).hold = d.hold := rfl
@[simp] theorem Dev.setShadow_clk (d : Dev) (a v : Nat) : (d.setShadow a v).clk = d.clk := rfl
@[simp] theorem Dev.setShadow_otp (d : Dev) (a v : Nat) : (d.setShadow a v).otp = d.otp := rfl
@[simp] theorem Dev.setShadow_boot (d : Dev) (a v : Nat) : (d.setShadow a v).boot = d.boot := rfl
@[simp] theorem Dev.setShadow_keys (d : Dev) (a v : Nat) : (d.setShadow a v).keys = d.keys := rfl
@[simp] theorem Dev.setShadow_trng (d : Dev) (a v : Nat) : (d.setShadow a v).trng = d.trng := rfl
@[simp] theorem Dev.setShadow_reportSeq (d : Dev) (a v : Nat) : (d.setShadow a v).reportSeq = d.reportSeq := rfl
@[simp] theorem Dev.setShadow_lock (d : Dev) (a v : Nat) : (d.setShadow a v).lock = d.lock := rfl
@[simp] theorem Dev.setShadow_life (d : Dev) (a v : Nat) : (d.setShadow a v).life = d.life := rfl
@[simp] theorem Dev.setShadow_journal (d : Dev) (a v : Nat) : (d.setShadow a v).journal = d.journal := rfl
@[simp] theorem Dev.setShadow_bg (d : Dev) (a v : Nat) : (d.setShadow a v).bg = d.bg := rfl
@[simp] theorem Dev.setShadow_balls (d : Dev) (a v : Nat) : (d.setShadow a v).balls = d.balls := rfl
@[simp] theorem Dev.setShadow_adcNext (d : Dev) (a v : Nat) : (d.setShadow a v).adcNext = d.adcNext := rfl
@[simp] theorem Dev.setShadow_i2cRun (d : Dev) (a v : Nat) : (d.setShadow a v).i2cRun = d.i2cRun := rfl


/-! ### modPage -/

@[simp] theorem Dev.modPage_regs (d : Dev) (p : Nat) (f : Page → Page) : (d.modPage p f).regs = d.regs := rfl
@[simp] theorem Dev.modPage_shadows (d : Dev) (p : Nat) (f : Page → Page) : (d.modPage p f).shadows = d.shadows := rfl
@[simp] theorem Dev.modPage_now (d : Dev) (p : Nat) (f : Page → Page) : (d.modPage p f).now = d.now := rfl
@[simp] theorem Dev.modPage_free (d : Dev) (p : Nat) (f : Page → Page) : (d.modPage p f).free = d.free := rfl
@[simp] theorem Dev.modPage_spine (d : Dev) (p : Nat) (f : Page → Page) : (d.modPage p f).spine = d.spine := rfl
@[simp] theorem Dev.modPage_bridges (d : Dev) (p : Nat) (f : Page → Page) : (d.modPage p f).bridges = d.bridges := rfl
@[simp] theorem Dev.modPage_lastRead (d : Dev) (p : Nat) (f : Page → Page) : (d.modPage p f).lastRead = d.lastRead := rfl
@[simp] theorem Dev.modPage_tenants (d : Dev) (p : Nat) (f : Page → Page) : (d.modPage p f).tenants = d.tenants := rfl
@[simp] theorem Dev.modPage_chans (d : Dev) (p : Nat) (f : Page → Page) : (d.modPage p f).chans = d.chans := rfl
@[simp] theorem Dev.modPage_ports (d : Dev) (p : Nat) (f : Page → Page) : (d.modPage p f).ports = d.ports := rfl
@[simp] theorem Dev.modPage_sheets (d : Dev) (p : Nat) (f : Page → Page) : (d.modPage p f).sheets = d.sheets := rfl
@[simp] theorem Dev.modPage_forms (d : Dev) (p : Nat) (f : Page → Page) : (d.modPage p f).forms = d.forms := rfl
@[simp] theorem Dev.modPage_laserSched (d : Dev) (p : Nat) (f : Page → Page) : (d.modPage p f).laserSched = d.laserSched := rfl
@[simp] theorem Dev.modPage_thermalSched (d : Dev) (p : Nat) (f : Page → Page) : (d.modPage p f).thermalSched = d.thermalSched := rfl
@[simp] theorem Dev.modPage_globalSnap (d : Dev) (p : Nat) (f : Page → Page) : (d.modPage p f).globalSnap = d.globalSnap := rfl
@[simp] theorem Dev.modPage_tqSnaps (d : Dev) (p : Nat) (f : Page → Page) : (d.modPage p f).tqSnaps = d.tqSnaps := rfl
@[simp] theorem Dev.modPage_dmaOwner (d : Dev) (p : Nat) (f : Page → Page) : (d.modPage p f).dmaOwner = d.dmaOwner := rfl
@[simp] theorem Dev.modPage_dma (d : Dev) (p : Nat) (f : Page → Page) : (d.modPage p f).dma = d.dma := rfl
@[simp] theorem Dev.modPage_ecc (d : Dev) (p : Nat) (f : Page → Page) : (d.modPage p f).ecc = d.ecc := rfl
@[simp] theorem Dev.modPage_norBusy (d : Dev) (p : Nat) (f : Page → Page) : (d.modPage p f).norBusy = d.norBusy := rfl
@[simp] theorem Dev.modPage_codec (d : Dev) (p : Nat) (f : Page → Page) : (d.modPage p f).codec = d.codec := rfl
@[simp] theorem Dev.modPage_units (d : Dev) (p : Nat) (f : Page → Page) : (d.modPage p f).units = d.units := rfl
@[simp] theorem Dev.modPage_galReqs (d : Dev) (p : Nat) (f : Page → Page) : (d.modPage p f).galReqs = d.galReqs := rfl
@[simp] theorem Dev.modPage_rcpt (d : Dev) (p : Nat) (f : Page → Page) : (d.modPage p f).rcpt = d.rcpt := rfl
@[simp] theorem Dev.modPage_rcptBad (d : Dev) (p : Nat) (f : Page → Page) : (d.modPage p f).rcptBad = d.rcptBad := rfl
@[simp] theorem Dev.modPage_seqs (d : Dev) (p : Nat) (f : Page → Page) : (d.modPage p f).seqs = d.seqs := rfl
@[simp] theorem Dev.modPage_scan (d : Dev) (p : Nat) (f : Page → Page) : (d.modPage p f).scan = d.scan := rfl
@[simp] theorem Dev.modPage_motors (d : Dev) (p : Nat) (f : Page → Page) : (d.modPage p f).motors = d.motors := rfl
@[simp] theorem Dev.modPage_axes (d : Dev) (p : Nat) (f : Page → Page) : (d.modPage p f).axes = d.axes := rfl
@[simp] theorem Dev.modPage_path (d : Dev) (p : Nat) (f : Page → Page) : (d.modPage p f).path = d.path := rfl
@[simp] theorem Dev.modPage_engine (d : Dev) (p : Nat) (f : Page → Page) : (d.modPage p f).engine = d.engine := rfl
@[simp] theorem Dev.modPage_loops (d : Dev) (p : Nat) (f : Page → Page) : (d.modPage p f).loops = d.loops := rfl
@[simp] theorem Dev.modPage_resetAt (d : Dev) (p : Nat) (f : Page → Page) : (d.modPage p f).resetAt = d.resetAt := rfl
@[simp] theorem Dev.modPage_proc (d : Dev) (p : Nat) (f : Page → Page) : (d.modPage p f).proc = d.proc := rfl
@[simp] theorem Dev.modPage_head (d : Dev) (p : Nat) (f : Page → Page) : (d.modPage p f).head = d.head := rfl
@[simp] theorem Dev.modPage_pw (d : Dev) (p : Nat) (f : Page → Page) : (d.modPage p f).pw = d.pw := rfl
@[simp] theorem Dev.modPage_hold (d : Dev) (p : Nat) (f : Page → Page) : (d.modPage p f).hold = d.hold := rfl
@[simp] theorem Dev.modPage_clk (d : Dev) (p : Nat) (f : Page → Page) : (d.modPage p f).clk = d.clk := rfl
@[simp] theorem Dev.modPage_otp (d : Dev) (p : Nat) (f : Page → Page) : (d.modPage p f).otp = d.otp := rfl
@[simp] theorem Dev.modPage_boot (d : Dev) (p : Nat) (f : Page → Page) : (d.modPage p f).boot = d.boot := rfl
@[simp] theorem Dev.modPage_keys (d : Dev) (p : Nat) (f : Page → Page) : (d.modPage p f).keys = d.keys := rfl
@[simp] theorem Dev.modPage_trng (d : Dev) (p : Nat) (f : Page → Page) : (d.modPage p f).trng = d.trng := rfl
@[simp] theorem Dev.modPage_reportSeq (d : Dev) (p : Nat) (f : Page → Page) : (d.modPage p f).reportSeq = d.reportSeq := rfl
@[simp] theorem Dev.modPage_lock (d : Dev) (p : Nat) (f : Page → Page) : (d.modPage p f).lock = d.lock := rfl
@[simp] theorem Dev.modPage_life (d : Dev) (p : Nat) (f : Page → Page) : (d.modPage p f).life = d.life := rfl
@[simp] theorem Dev.modPage_journal (d : Dev) (p : Nat) (f : Page → Page) : (d.modPage p f).journal = d.journal := rfl
@[simp] theorem Dev.modPage_bg (d : Dev) (p : Nat) (f : Page → Page) : (d.modPage p f).bg = d.bg := rfl
@[simp] theorem Dev.modPage_balls (d : Dev) (p : Nat) (f : Page → Page) : (d.modPage p f).balls = d.balls := rfl
@[simp] theorem Dev.modPage_adcNext (d : Dev) (p : Nat) (f : Page → Page) : (d.modPage p f).adcNext = d.adcNext := rfl
@[simp] theorem Dev.modPage_i2cRun (d : Dev) (p : Nat) (f : Page → Page) : (d.modPage p f).i2cRun = d.i2cRun := rfl


/-! ### modTen -/

@[simp] theorem Dev.modTen_regs (d : Dev) (k : Nat) (f : Tenant → Tenant) : (d.modTen k f).regs = d.regs := rfl
@[simp] theorem Dev.modTen_shadows (d : Dev) (k : Nat) (f : Tenant → Tenant) : (d.modTen k f).shadows = d.shadows := rfl
@[simp] theorem Dev.modTen_now (d : Dev) (k : Nat) (f : Tenant → Tenant) : (d.modTen k f).now = d.now := rfl
@[simp] theorem Dev.modTen_free (d : Dev) (k : Nat) (f : Tenant → Tenant) : (d.modTen k f).free = d.free := rfl
@[simp] theorem Dev.modTen_pages (d : Dev) (k : Nat) (f : Tenant → Tenant) : (d.modTen k f).pages = d.pages := rfl
@[simp] theorem Dev.modTen_spine (d : Dev) (k : Nat) (f : Tenant → Tenant) : (d.modTen k f).spine = d.spine := rfl
@[simp] theorem Dev.modTen_bridges (d : Dev) (k : Nat) (f : Tenant → Tenant) : (d.modTen k f).bridges = d.bridges := rfl
@[simp] theorem Dev.modTen_lastRead (d : Dev) (k : Nat) (f : Tenant → Tenant) : (d.modTen k f).lastRead = d.lastRead := rfl
@[simp] theorem Dev.modTen_chans (d : Dev) (k : Nat) (f : Tenant → Tenant) : (d.modTen k f).chans = d.chans := rfl
@[simp] theorem Dev.modTen_ports (d : Dev) (k : Nat) (f : Tenant → Tenant) : (d.modTen k f).ports = d.ports := rfl
@[simp] theorem Dev.modTen_sheets (d : Dev) (k : Nat) (f : Tenant → Tenant) : (d.modTen k f).sheets = d.sheets := rfl
@[simp] theorem Dev.modTen_forms (d : Dev) (k : Nat) (f : Tenant → Tenant) : (d.modTen k f).forms = d.forms := rfl
@[simp] theorem Dev.modTen_laserSched (d : Dev) (k : Nat) (f : Tenant → Tenant) : (d.modTen k f).laserSched = d.laserSched := rfl
@[simp] theorem Dev.modTen_thermalSched (d : Dev) (k : Nat) (f : Tenant → Tenant) : (d.modTen k f).thermalSched = d.thermalSched := rfl
@[simp] theorem Dev.modTen_globalSnap (d : Dev) (k : Nat) (f : Tenant → Tenant) : (d.modTen k f).globalSnap = d.globalSnap := rfl
@[simp] theorem Dev.modTen_tqSnaps (d : Dev) (k : Nat) (f : Tenant → Tenant) : (d.modTen k f).tqSnaps = d.tqSnaps := rfl
@[simp] theorem Dev.modTen_dmaOwner (d : Dev) (k : Nat) (f : Tenant → Tenant) : (d.modTen k f).dmaOwner = d.dmaOwner := rfl
@[simp] theorem Dev.modTen_dma (d : Dev) (k : Nat) (f : Tenant → Tenant) : (d.modTen k f).dma = d.dma := rfl
@[simp] theorem Dev.modTen_ecc (d : Dev) (k : Nat) (f : Tenant → Tenant) : (d.modTen k f).ecc = d.ecc := rfl
@[simp] theorem Dev.modTen_norBusy (d : Dev) (k : Nat) (f : Tenant → Tenant) : (d.modTen k f).norBusy = d.norBusy := rfl
@[simp] theorem Dev.modTen_codec (d : Dev) (k : Nat) (f : Tenant → Tenant) : (d.modTen k f).codec = d.codec := rfl
@[simp] theorem Dev.modTen_units (d : Dev) (k : Nat) (f : Tenant → Tenant) : (d.modTen k f).units = d.units := rfl
@[simp] theorem Dev.modTen_galReqs (d : Dev) (k : Nat) (f : Tenant → Tenant) : (d.modTen k f).galReqs = d.galReqs := rfl
@[simp] theorem Dev.modTen_rcpt (d : Dev) (k : Nat) (f : Tenant → Tenant) : (d.modTen k f).rcpt = d.rcpt := rfl
@[simp] theorem Dev.modTen_rcptBad (d : Dev) (k : Nat) (f : Tenant → Tenant) : (d.modTen k f).rcptBad = d.rcptBad := rfl
@[simp] theorem Dev.modTen_seqs (d : Dev) (k : Nat) (f : Tenant → Tenant) : (d.modTen k f).seqs = d.seqs := rfl
@[simp] theorem Dev.modTen_scan (d : Dev) (k : Nat) (f : Tenant → Tenant) : (d.modTen k f).scan = d.scan := rfl
@[simp] theorem Dev.modTen_motors (d : Dev) (k : Nat) (f : Tenant → Tenant) : (d.modTen k f).motors = d.motors := rfl
@[simp] theorem Dev.modTen_axes (d : Dev) (k : Nat) (f : Tenant → Tenant) : (d.modTen k f).axes = d.axes := rfl
@[simp] theorem Dev.modTen_path (d : Dev) (k : Nat) (f : Tenant → Tenant) : (d.modTen k f).path = d.path := rfl
@[simp] theorem Dev.modTen_engine (d : Dev) (k : Nat) (f : Tenant → Tenant) : (d.modTen k f).engine = d.engine := rfl
@[simp] theorem Dev.modTen_loops (d : Dev) (k : Nat) (f : Tenant → Tenant) : (d.modTen k f).loops = d.loops := rfl
@[simp] theorem Dev.modTen_resetAt (d : Dev) (k : Nat) (f : Tenant → Tenant) : (d.modTen k f).resetAt = d.resetAt := rfl
@[simp] theorem Dev.modTen_proc (d : Dev) (k : Nat) (f : Tenant → Tenant) : (d.modTen k f).proc = d.proc := rfl
@[simp] theorem Dev.modTen_head (d : Dev) (k : Nat) (f : Tenant → Tenant) : (d.modTen k f).head = d.head := rfl
@[simp] theorem Dev.modTen_pw (d : Dev) (k : Nat) (f : Tenant → Tenant) : (d.modTen k f).pw = d.pw := rfl
@[simp] theorem Dev.modTen_hold (d : Dev) (k : Nat) (f : Tenant → Tenant) : (d.modTen k f).hold = d.hold := rfl
@[simp] theorem Dev.modTen_clk (d : Dev) (k : Nat) (f : Tenant → Tenant) : (d.modTen k f).clk = d.clk := rfl
@[simp] theorem Dev.modTen_otp (d : Dev) (k : Nat) (f : Tenant → Tenant) : (d.modTen k f).otp = d.otp := rfl
@[simp] theorem Dev.modTen_boot (d : Dev) (k : Nat) (f : Tenant → Tenant) : (d.modTen k f).boot = d.boot := rfl
@[simp] theorem Dev.modTen_keys (d : Dev) (k : Nat) (f : Tenant → Tenant) : (d.modTen k f).keys = d.keys := rfl
@[simp] theorem Dev.modTen_trng (d : Dev) (k : Nat) (f : Tenant → Tenant) : (d.modTen k f).trng = d.trng := rfl
@[simp] theorem Dev.modTen_reportSeq (d : Dev) (k : Nat) (f : Tenant → Tenant) : (d.modTen k f).reportSeq = d.reportSeq := rfl
@[simp] theorem Dev.modTen_lock (d : Dev) (k : Nat) (f : Tenant → Tenant) : (d.modTen k f).lock = d.lock := rfl
@[simp] theorem Dev.modTen_life (d : Dev) (k : Nat) (f : Tenant → Tenant) : (d.modTen k f).life = d.life := rfl
@[simp] theorem Dev.modTen_journal (d : Dev) (k : Nat) (f : Tenant → Tenant) : (d.modTen k f).journal = d.journal := rfl
@[simp] theorem Dev.modTen_bg (d : Dev) (k : Nat) (f : Tenant → Tenant) : (d.modTen k f).bg = d.bg := rfl
@[simp] theorem Dev.modTen_balls (d : Dev) (k : Nat) (f : Tenant → Tenant) : (d.modTen k f).balls = d.balls := rfl
@[simp] theorem Dev.modTen_adcNext (d : Dev) (k : Nat) (f : Tenant → Tenant) : (d.modTen k f).adcNext = d.adcNext := rfl
@[simp] theorem Dev.modTen_i2cRun (d : Dev) (k : Nat) (f : Tenant → Tenant) : (d.modTen k f).i2cRun = d.i2cRun := rfl


/-! ### modBr -/

@[simp] theorem Dev.modBr_regs (d : Dev) (k : Nat) (f : BridgeT → BridgeT) : (d.modBr k f).regs = d.regs := rfl
@[simp] theorem Dev.modBr_shadows (d : Dev) (k : Nat) (f : BridgeT → BridgeT) : (d.modBr k f).shadows = d.shadows := rfl
@[simp] theorem Dev.modBr_now (d : Dev) (k : Nat) (f : BridgeT → BridgeT) : (d.modBr k f).now = d.now := rfl
@[simp] theorem Dev.modBr_free (d : Dev) (k : Nat) (f : BridgeT → BridgeT) : (d.modBr k f).free = d.free := rfl
@[simp] theorem Dev.modBr_pages (d : Dev) (k : Nat) (f : BridgeT → BridgeT) : (d.modBr k f).pages = d.pages := rfl
@[simp] theorem Dev.modBr_spine (d : Dev) (k : Nat) (f : BridgeT → BridgeT) : (d.modBr k f).spine = d.spine := rfl
@[simp] theorem Dev.modBr_lastRead (d : Dev) (k : Nat) (f : BridgeT → BridgeT) : (d.modBr k f).lastRead = d.lastRead := rfl
@[simp] theorem Dev.modBr_tenants (d : Dev) (k : Nat) (f : BridgeT → BridgeT) : (d.modBr k f).tenants = d.tenants := rfl
@[simp] theorem Dev.modBr_chans (d : Dev) (k : Nat) (f : BridgeT → BridgeT) : (d.modBr k f).chans = d.chans := rfl
@[simp] theorem Dev.modBr_ports (d : Dev) (k : Nat) (f : BridgeT → BridgeT) : (d.modBr k f).ports = d.ports := rfl
@[simp] theorem Dev.modBr_sheets (d : Dev) (k : Nat) (f : BridgeT → BridgeT) : (d.modBr k f).sheets = d.sheets := rfl
@[simp] theorem Dev.modBr_forms (d : Dev) (k : Nat) (f : BridgeT → BridgeT) : (d.modBr k f).forms = d.forms := rfl
@[simp] theorem Dev.modBr_laserSched (d : Dev) (k : Nat) (f : BridgeT → BridgeT) : (d.modBr k f).laserSched = d.laserSched := rfl
@[simp] theorem Dev.modBr_thermalSched (d : Dev) (k : Nat) (f : BridgeT → BridgeT) : (d.modBr k f).thermalSched = d.thermalSched := rfl
@[simp] theorem Dev.modBr_globalSnap (d : Dev) (k : Nat) (f : BridgeT → BridgeT) : (d.modBr k f).globalSnap = d.globalSnap := rfl
@[simp] theorem Dev.modBr_tqSnaps (d : Dev) (k : Nat) (f : BridgeT → BridgeT) : (d.modBr k f).tqSnaps = d.tqSnaps := rfl
@[simp] theorem Dev.modBr_dmaOwner (d : Dev) (k : Nat) (f : BridgeT → BridgeT) : (d.modBr k f).dmaOwner = d.dmaOwner := rfl
@[simp] theorem Dev.modBr_dma (d : Dev) (k : Nat) (f : BridgeT → BridgeT) : (d.modBr k f).dma = d.dma := rfl
@[simp] theorem Dev.modBr_ecc (d : Dev) (k : Nat) (f : BridgeT → BridgeT) : (d.modBr k f).ecc = d.ecc := rfl
@[simp] theorem Dev.modBr_norBusy (d : Dev) (k : Nat) (f : BridgeT → BridgeT) : (d.modBr k f).norBusy = d.norBusy := rfl
@[simp] theorem Dev.modBr_codec (d : Dev) (k : Nat) (f : BridgeT → BridgeT) : (d.modBr k f).codec = d.codec := rfl
@[simp] theorem Dev.modBr_units (d : Dev) (k : Nat) (f : BridgeT → BridgeT) : (d.modBr k f).units = d.units := rfl
@[simp] theorem Dev.modBr_galReqs (d : Dev) (k : Nat) (f : BridgeT → BridgeT) : (d.modBr k f).galReqs = d.galReqs := rfl
@[simp] theorem Dev.modBr_rcpt (d : Dev) (k : Nat) (f : BridgeT → BridgeT) : (d.modBr k f).rcpt = d.rcpt := rfl
@[simp] theorem Dev.modBr_rcptBad (d : Dev) (k : Nat) (f : BridgeT → BridgeT) : (d.modBr k f).rcptBad = d.rcptBad := rfl
@[simp] theorem Dev.modBr_seqs (d : Dev) (k : Nat) (f : BridgeT → BridgeT) : (d.modBr k f).seqs = d.seqs := rfl
@[simp] theorem Dev.modBr_scan (d : Dev) (k : Nat) (f : BridgeT → BridgeT) : (d.modBr k f).scan = d.scan := rfl
@[simp] theorem Dev.modBr_motors (d : Dev) (k : Nat) (f : BridgeT → BridgeT) : (d.modBr k f).motors = d.motors := rfl
@[simp] theorem Dev.modBr_axes (d : Dev) (k : Nat) (f : BridgeT → BridgeT) : (d.modBr k f).axes = d.axes := rfl
@[simp] theorem Dev.modBr_path (d : Dev) (k : Nat) (f : BridgeT → BridgeT) : (d.modBr k f).path = d.path := rfl
@[simp] theorem Dev.modBr_engine (d : Dev) (k : Nat) (f : BridgeT → BridgeT) : (d.modBr k f).engine = d.engine := rfl
@[simp] theorem Dev.modBr_loops (d : Dev) (k : Nat) (f : BridgeT → BridgeT) : (d.modBr k f).loops = d.loops := rfl
@[simp] theorem Dev.modBr_resetAt (d : Dev) (k : Nat) (f : BridgeT → BridgeT) : (d.modBr k f).resetAt = d.resetAt := rfl
@[simp] theorem Dev.modBr_proc (d : Dev) (k : Nat) (f : BridgeT → BridgeT) : (d.modBr k f).proc = d.proc := rfl
@[simp] theorem Dev.modBr_head (d : Dev) (k : Nat) (f : BridgeT → BridgeT) : (d.modBr k f).head = d.head := rfl
@[simp] theorem Dev.modBr_pw (d : Dev) (k : Nat) (f : BridgeT → BridgeT) : (d.modBr k f).pw = d.pw := rfl
@[simp] theorem Dev.modBr_hold (d : Dev) (k : Nat) (f : BridgeT → BridgeT) : (d.modBr k f).hold = d.hold := rfl
@[simp] theorem Dev.modBr_clk (d : Dev) (k : Nat) (f : BridgeT → BridgeT) : (d.modBr k f).clk = d.clk := rfl
@[simp] theorem Dev.modBr_otp (d : Dev) (k : Nat) (f : BridgeT → BridgeT) : (d.modBr k f).otp = d.otp := rfl
@[simp] theorem Dev.modBr_boot (d : Dev) (k : Nat) (f : BridgeT → BridgeT) : (d.modBr k f).boot = d.boot := rfl
@[simp] theorem Dev.modBr_keys (d : Dev) (k : Nat) (f : BridgeT → BridgeT) : (d.modBr k f).keys = d.keys := rfl
@[simp] theorem Dev.modBr_trng (d : Dev) (k : Nat) (f : BridgeT → BridgeT) : (d.modBr k f).trng = d.trng := rfl
@[simp] theorem Dev.modBr_reportSeq (d : Dev) (k : Nat) (f : BridgeT → BridgeT) : (d.modBr k f).reportSeq = d.reportSeq := rfl
@[simp] theorem Dev.modBr_lock (d : Dev) (k : Nat) (f : BridgeT → BridgeT) : (d.modBr k f).lock = d.lock := rfl
@[simp] theorem Dev.modBr_life (d : Dev) (k : Nat) (f : BridgeT → BridgeT) : (d.modBr k f).life = d.life := rfl
@[simp] theorem Dev.modBr_journal (d : Dev) (k : Nat) (f : BridgeT → BridgeT) : (d.modBr k f).journal = d.journal := rfl
@[simp] theorem Dev.modBr_bg (d : Dev) (k : Nat) (f : BridgeT → BridgeT) : (d.modBr k f).bg = d.bg := rfl
@[simp] theorem Dev.modBr_balls (d : Dev) (k : Nat) (f : BridgeT → BridgeT) : (d.modBr k f).balls = d.balls := rfl
@[simp] theorem Dev.modBr_adcNext (d : Dev) (k : Nat) (f : BridgeT → BridgeT) : (d.modBr k f).adcNext = d.adcNext := rfl
@[simp] theorem Dev.modBr_i2cRun (d : Dev) (k : Nat) (f : BridgeT → BridgeT) : (d.modBr k f).i2cRun = d.i2cRun := rfl


/-! ### modChan -/

@[simp] theorem Dev.modChan_regs (d : Dev) (c : Nat) (f : Chan → Chan) : (d.modChan c f).regs = d.regs := rfl
@[simp] theorem Dev.modChan_shadows (d : Dev) (c : Nat) (f : Chan → Chan) : (d.modChan c f).shadows = d.shadows := rfl
@[simp] theorem Dev.modChan_now (d : Dev) (c : Nat) (f : Chan → Chan) : (d.modChan c f).now = d.now := rfl
@[simp] theorem Dev.modChan_free (d : Dev) (c : Nat) (f : Chan → Chan) : (d.modChan c f).free = d.free := rfl
@[simp] theorem Dev.modChan_pages (d : Dev) (c : Nat) (f : Chan → Chan) : (d.modChan c f).pages = d.pages := rfl
@[simp] theorem Dev.modChan_spine (d : Dev) (c : Nat) (f : Chan → Chan) : (d.modChan c f).spine = d.spine := rfl
@[simp] theorem Dev.modChan_bridges (d : Dev) (c : Nat) (f : Chan → Chan) : (d.modChan c f).bridges = d.bridges := rfl
@[simp] theorem Dev.modChan_lastRead (d : Dev) (c : Nat) (f : Chan → Chan) : (d.modChan c f).lastRead = d.lastRead := rfl
@[simp] theorem Dev.modChan_tenants (d : Dev) (c : Nat) (f : Chan → Chan) : (d.modChan c f).tenants = d.tenants := rfl
@[simp] theorem Dev.modChan_ports (d : Dev) (c : Nat) (f : Chan → Chan) : (d.modChan c f).ports = d.ports := rfl
@[simp] theorem Dev.modChan_sheets (d : Dev) (c : Nat) (f : Chan → Chan) : (d.modChan c f).sheets = d.sheets := rfl
@[simp] theorem Dev.modChan_forms (d : Dev) (c : Nat) (f : Chan → Chan) : (d.modChan c f).forms = d.forms := rfl
@[simp] theorem Dev.modChan_laserSched (d : Dev) (c : Nat) (f : Chan → Chan) : (d.modChan c f).laserSched = d.laserSched := rfl
@[simp] theorem Dev.modChan_thermalSched (d : Dev) (c : Nat) (f : Chan → Chan) : (d.modChan c f).thermalSched = d.thermalSched := rfl
@[simp] theorem Dev.modChan_globalSnap (d : Dev) (c : Nat) (f : Chan → Chan) : (d.modChan c f).globalSnap = d.globalSnap := rfl
@[simp] theorem Dev.modChan_tqSnaps (d : Dev) (c : Nat) (f : Chan → Chan) : (d.modChan c f).tqSnaps = d.tqSnaps := rfl
@[simp] theorem Dev.modChan_dmaOwner (d : Dev) (c : Nat) (f : Chan → Chan) : (d.modChan c f).dmaOwner = d.dmaOwner := rfl
@[simp] theorem Dev.modChan_dma (d : Dev) (c : Nat) (f : Chan → Chan) : (d.modChan c f).dma = d.dma := rfl
@[simp] theorem Dev.modChan_ecc (d : Dev) (c : Nat) (f : Chan → Chan) : (d.modChan c f).ecc = d.ecc := rfl
@[simp] theorem Dev.modChan_norBusy (d : Dev) (c : Nat) (f : Chan → Chan) : (d.modChan c f).norBusy = d.norBusy := rfl
@[simp] theorem Dev.modChan_codec (d : Dev) (c : Nat) (f : Chan → Chan) : (d.modChan c f).codec = d.codec := rfl
@[simp] theorem Dev.modChan_units (d : Dev) (c : Nat) (f : Chan → Chan) : (d.modChan c f).units = d.units := rfl
@[simp] theorem Dev.modChan_galReqs (d : Dev) (c : Nat) (f : Chan → Chan) : (d.modChan c f).galReqs = d.galReqs := rfl
@[simp] theorem Dev.modChan_rcpt (d : Dev) (c : Nat) (f : Chan → Chan) : (d.modChan c f).rcpt = d.rcpt := rfl
@[simp] theorem Dev.modChan_rcptBad (d : Dev) (c : Nat) (f : Chan → Chan) : (d.modChan c f).rcptBad = d.rcptBad := rfl
@[simp] theorem Dev.modChan_seqs (d : Dev) (c : Nat) (f : Chan → Chan) : (d.modChan c f).seqs = d.seqs := rfl
@[simp] theorem Dev.modChan_scan (d : Dev) (c : Nat) (f : Chan → Chan) : (d.modChan c f).scan = d.scan := rfl
@[simp] theorem Dev.modChan_motors (d : Dev) (c : Nat) (f : Chan → Chan) : (d.modChan c f).motors = d.motors := rfl
@[simp] theorem Dev.modChan_axes (d : Dev) (c : Nat) (f : Chan → Chan) : (d.modChan c f).axes = d.axes := rfl
@[simp] theorem Dev.modChan_path (d : Dev) (c : Nat) (f : Chan → Chan) : (d.modChan c f).path = d.path := rfl
@[simp] theorem Dev.modChan_engine (d : Dev) (c : Nat) (f : Chan → Chan) : (d.modChan c f).engine = d.engine := rfl
@[simp] theorem Dev.modChan_loops (d : Dev) (c : Nat) (f : Chan → Chan) : (d.modChan c f).loops = d.loops := rfl
@[simp] theorem Dev.modChan_resetAt (d : Dev) (c : Nat) (f : Chan → Chan) : (d.modChan c f).resetAt = d.resetAt := rfl
@[simp] theorem Dev.modChan_proc (d : Dev) (c : Nat) (f : Chan → Chan) : (d.modChan c f).proc = d.proc := rfl
@[simp] theorem Dev.modChan_head (d : Dev) (c : Nat) (f : Chan → Chan) : (d.modChan c f).head = d.head := rfl
@[simp] theorem Dev.modChan_pw (d : Dev) (c : Nat) (f : Chan → Chan) : (d.modChan c f).pw = d.pw := rfl
@[simp] theorem Dev.modChan_hold (d : Dev) (c : Nat) (f : Chan → Chan) : (d.modChan c f).hold = d.hold := rfl
@[simp] theorem Dev.modChan_clk (d : Dev) (c : Nat) (f : Chan → Chan) : (d.modChan c f).clk = d.clk := rfl
@[simp] theorem Dev.modChan_otp (d : Dev) (c : Nat) (f : Chan → Chan) : (d.modChan c f).otp = d.otp := rfl
@[simp] theorem Dev.modChan_boot (d : Dev) (c : Nat) (f : Chan → Chan) : (d.modChan c f).boot = d.boot := rfl
@[simp] theorem Dev.modChan_keys (d : Dev) (c : Nat) (f : Chan → Chan) : (d.modChan c f).keys = d.keys := rfl
@[simp] theorem Dev.modChan_trng (d : Dev) (c : Nat) (f : Chan → Chan) : (d.modChan c f).trng = d.trng := rfl
@[simp] theorem Dev.modChan_reportSeq (d : Dev) (c : Nat) (f : Chan → Chan) : (d.modChan c f).reportSeq = d.reportSeq := rfl
@[simp] theorem Dev.modChan_lock (d : Dev) (c : Nat) (f : Chan → Chan) : (d.modChan c f).lock = d.lock := rfl
@[simp] theorem Dev.modChan_life (d : Dev) (c : Nat) (f : Chan → Chan) : (d.modChan c f).life = d.life := rfl
@[simp] theorem Dev.modChan_journal (d : Dev) (c : Nat) (f : Chan → Chan) : (d.modChan c f).journal = d.journal := rfl
@[simp] theorem Dev.modChan_bg (d : Dev) (c : Nat) (f : Chan → Chan) : (d.modChan c f).bg = d.bg := rfl
@[simp] theorem Dev.modChan_balls (d : Dev) (c : Nat) (f : Chan → Chan) : (d.modChan c f).balls = d.balls := rfl
@[simp] theorem Dev.modChan_adcNext (d : Dev) (c : Nat) (f : Chan → Chan) : (d.modChan c f).adcNext = d.adcNext := rfl
@[simp] theorem Dev.modChan_i2cRun (d : Dev) (c : Nat) (f : Chan → Chan) : (d.modChan c f).i2cRun = d.i2cRun := rfl


/-! ### The other register updates are field or register writes -/

@[simp] theorem Dev.setb_eq (d : Dev) (f : Fld) (b : Bool) : d.setb f b = d.set f (b2n b) := rfl
@[simp] theorem Dev.seti_eq (d : Dev) (f : Fld) (v : Int) : d.seti f v = d.set f (unsext v f.w) := rfl
@[simp] theorem Dev.setBit_eq (d : Dev) (a i : Nat) (b : Bool) : d.setBit a i b = d.set ⟨a, i, 1⟩ (b2n b) := rfl
@[simp] theorem Dev.addSat_eq (d : Dev) (f : Fld) (n : Nat) : d.addSat f n = d.set f (satN f.w (d.get f + n)) := rfl
@[simp] theorem Dev.addWrap_eq (d : Dev) (f : Fld) (n : Nat) : d.addWrap f n = d.set f (d.get f + n) := rfl
@[simp] theorem Dev.orReg_eq (d : Dev) (a m : Nat) : d.orReg a m = d.setReg a (d.reg a ||| m) := rfl
@[simp] theorem Dev.clrReg_eq (d : Dev) (a m : Nat) : d.clrReg a m = d.setReg a (d.reg a &&& (0xFFFFFFFF ^^^ m)) := rfl
@[simp] theorem Dev.fireRaw_eq (d : Dev) (p b : Nat) : d.fireRaw p b = d.set ⟨Reg.EVT_RAW p, b, 1⟩ (b2n true) := rfl


/-! ### Records -/

@[simp] theorem Dev.post_shadows (d : Dev) (p : Nat) (r : EvRec) : (d.post p r).shadows = d.shadows := by
  unfold Dev.post; split <;> rfl
@[simp] theorem Dev.raise_shadows (d : Dev) (p t c s x : Nat) : (d.raise p t c s x).shadows = d.shadows := Dev.post_shadows ..
@[simp] theorem Dev.fireT_shadows (d : Dev) (p b t x : Nat) : (d.fireT p b t x).shadows = d.shadows := Dev.raise_shadows ..
@[simp] theorem Dev.fire_shadows (d : Dev) (p b x : Nat) : (d.fire p b x).shadows = d.shadows := Dev.fireT_shadows ..
@[simp] theorem Dev.post_now (d : Dev) (p : Nat) (r : EvRec) : (d.post p r).now = d.now := by
  unfold Dev.post; split <;> rfl
@[simp] theorem Dev.raise_now (d : Dev) (p t c s x : Nat) : (d.raise p t c s x).now = d.now := Dev.post_now ..
@[simp] theorem Dev.fireT_now (d : Dev) (p b t x : Nat) : (d.fireT p b t x).now = d.now := Dev.raise_now ..
@[simp] theorem Dev.fire_now (d : Dev) (p b x : Nat) : (d.fire p b x).now = d.now := Dev.fireT_now ..
@[simp] theorem Dev.post_free (d : Dev) (p : Nat) (r : EvRec) : (d.post p r).free = d.free := by
  unfold Dev.post; split <;> rfl
@[simp] theorem Dev.raise_free (d : Dev) (p t c s x : Nat) : (d.raise p t c s x).free = d.free := Dev.post_free ..
@[simp] theorem Dev.fireT_free (d : Dev) (p b t x : Nat) : (d.fireT p b t x).free = d.free := Dev.raise_free ..
@[simp] theorem Dev.fire_free (d : Dev) (p b x : Nat) : (d.fire p b x).free = d.free := Dev.fireT_free ..
@[simp] theorem Dev.post_spine (d : Dev) (p : Nat) (r : EvRec) : (d.post p r).spine = d.spine := by
  unfold Dev.post; split <;> rfl
@[simp] theorem Dev.raise_spine (d : Dev) (p t c s x : Nat) : (d.raise p t c s x).spine = d.spine := Dev.post_spine ..
@[simp] theorem Dev.fireT_spine (d : Dev) (p b t x : Nat) : (d.fireT p b t x).spine = d.spine := Dev.raise_spine ..
@[simp] theorem Dev.fire_spine (d : Dev) (p b x : Nat) : (d.fire p b x).spine = d.spine := Dev.fireT_spine ..
@[simp] theorem Dev.post_bridges (d : Dev) (p : Nat) (r : EvRec) : (d.post p r).bridges = d.bridges := by
  unfold Dev.post; split <;> rfl
@[simp] theorem Dev.raise_bridges (d : Dev) (p t c s x : Nat) : (d.raise p t c s x).bridges = d.bridges := Dev.post_bridges ..
@[simp] theorem Dev.fireT_bridges (d : Dev) (p b t x : Nat) : (d.fireT p b t x).bridges = d.bridges := Dev.raise_bridges ..
@[simp] theorem Dev.fire_bridges (d : Dev) (p b x : Nat) : (d.fire p b x).bridges = d.bridges := Dev.fireT_bridges ..
@[simp] theorem Dev.post_lastRead (d : Dev) (p : Nat) (r : EvRec) : (d.post p r).lastRead = d.lastRead := by
  unfold Dev.post; split <;> rfl
@[simp] theorem Dev.raise_lastRead (d : Dev) (p t c s x : Nat) : (d.raise p t c s x).lastRead = d.lastRead := Dev.post_lastRead ..
@[simp] theorem Dev.fireT_lastRead (d : Dev) (p b t x : Nat) : (d.fireT p b t x).lastRead = d.lastRead := Dev.raise_lastRead ..
@[simp] theorem Dev.fire_lastRead (d : Dev) (p b x : Nat) : (d.fire p b x).lastRead = d.lastRead := Dev.fireT_lastRead ..
@[simp] theorem Dev.post_tenants (d : Dev) (p : Nat) (r : EvRec) : (d.post p r).tenants = d.tenants := by
  unfold Dev.post; split <;> rfl
@[simp] theorem Dev.raise_tenants (d : Dev) (p t c s x : Nat) : (d.raise p t c s x).tenants = d.tenants := Dev.post_tenants ..
@[simp] theorem Dev.fireT_tenants (d : Dev) (p b t x : Nat) : (d.fireT p b t x).tenants = d.tenants := Dev.raise_tenants ..
@[simp] theorem Dev.fire_tenants (d : Dev) (p b x : Nat) : (d.fire p b x).tenants = d.tenants := Dev.fireT_tenants ..
@[simp] theorem Dev.post_chans (d : Dev) (p : Nat) (r : EvRec) : (d.post p r).chans = d.chans := by
  unfold Dev.post; split <;> rfl
@[simp] theorem Dev.raise_chans (d : Dev) (p t c s x : Nat) : (d.raise p t c s x).chans = d.chans := Dev.post_chans ..
@[simp] theorem Dev.fireT_chans (d : Dev) (p b t x : Nat) : (d.fireT p b t x).chans = d.chans := Dev.raise_chans ..
@[simp] theorem Dev.fire_chans (d : Dev) (p b x : Nat) : (d.fire p b x).chans = d.chans := Dev.fireT_chans ..
@[simp] theorem Dev.post_ports (d : Dev) (p : Nat) (r : EvRec) : (d.post p r).ports = d.ports := by
  unfold Dev.post; split <;> rfl
@[simp] theorem Dev.raise_ports (d : Dev) (p t c s x : Nat) : (d.raise p t c s x).ports = d.ports := Dev.post_ports ..
@[simp] theorem Dev.fireT_ports (d : Dev) (p b t x : Nat) : (d.fireT p b t x).ports = d.ports := Dev.raise_ports ..
@[simp] theorem Dev.fire_ports (d : Dev) (p b x : Nat) : (d.fire p b x).ports = d.ports := Dev.fireT_ports ..
@[simp] theorem Dev.post_sheets (d : Dev) (p : Nat) (r : EvRec) : (d.post p r).sheets = d.sheets := by
  unfold Dev.post; split <;> rfl
@[simp] theorem Dev.raise_sheets (d : Dev) (p t c s x : Nat) : (d.raise p t c s x).sheets = d.sheets := Dev.post_sheets ..
@[simp] theorem Dev.fireT_sheets (d : Dev) (p b t x : Nat) : (d.fireT p b t x).sheets = d.sheets := Dev.raise_sheets ..
@[simp] theorem Dev.fire_sheets (d : Dev) (p b x : Nat) : (d.fire p b x).sheets = d.sheets := Dev.fireT_sheets ..
@[simp] theorem Dev.post_forms (d : Dev) (p : Nat) (r : EvRec) : (d.post p r).forms = d.forms := by
  unfold Dev.post; split <;> rfl
@[simp] theorem Dev.raise_forms (d : Dev) (p t c s x : Nat) : (d.raise p t c s x).forms = d.forms := Dev.post_forms ..
@[simp] theorem Dev.fireT_forms (d : Dev) (p b t x : Nat) : (d.fireT p b t x).forms = d.forms := Dev.raise_forms ..
@[simp] theorem Dev.fire_forms (d : Dev) (p b x : Nat) : (d.fire p b x).forms = d.forms := Dev.fireT_forms ..
@[simp] theorem Dev.post_laserSched (d : Dev) (p : Nat) (r : EvRec) : (d.post p r).laserSched = d.laserSched := by
  unfold Dev.post; split <;> rfl
@[simp] theorem Dev.raise_laserSched (d : Dev) (p t c s x : Nat) : (d.raise p t c s x).laserSched = d.laserSched := Dev.post_laserSched ..
@[simp] theorem Dev.fireT_laserSched (d : Dev) (p b t x : Nat) : (d.fireT p b t x).laserSched = d.laserSched := Dev.raise_laserSched ..
@[simp] theorem Dev.fire_laserSched (d : Dev) (p b x : Nat) : (d.fire p b x).laserSched = d.laserSched := Dev.fireT_laserSched ..
@[simp] theorem Dev.post_thermalSched (d : Dev) (p : Nat) (r : EvRec) : (d.post p r).thermalSched = d.thermalSched := by
  unfold Dev.post; split <;> rfl
@[simp] theorem Dev.raise_thermalSched (d : Dev) (p t c s x : Nat) : (d.raise p t c s x).thermalSched = d.thermalSched := Dev.post_thermalSched ..
@[simp] theorem Dev.fireT_thermalSched (d : Dev) (p b t x : Nat) : (d.fireT p b t x).thermalSched = d.thermalSched := Dev.raise_thermalSched ..
@[simp] theorem Dev.fire_thermalSched (d : Dev) (p b x : Nat) : (d.fire p b x).thermalSched = d.thermalSched := Dev.fireT_thermalSched ..
@[simp] theorem Dev.post_globalSnap (d : Dev) (p : Nat) (r : EvRec) : (d.post p r).globalSnap = d.globalSnap := by
  unfold Dev.post; split <;> rfl
@[simp] theorem Dev.raise_globalSnap (d : Dev) (p t c s x : Nat) : (d.raise p t c s x).globalSnap = d.globalSnap := Dev.post_globalSnap ..
@[simp] theorem Dev.fireT_globalSnap (d : Dev) (p b t x : Nat) : (d.fireT p b t x).globalSnap = d.globalSnap := Dev.raise_globalSnap ..
@[simp] theorem Dev.fire_globalSnap (d : Dev) (p b x : Nat) : (d.fire p b x).globalSnap = d.globalSnap := Dev.fireT_globalSnap ..
@[simp] theorem Dev.post_tqSnaps (d : Dev) (p : Nat) (r : EvRec) : (d.post p r).tqSnaps = d.tqSnaps := by
  unfold Dev.post; split <;> rfl
@[simp] theorem Dev.raise_tqSnaps (d : Dev) (p t c s x : Nat) : (d.raise p t c s x).tqSnaps = d.tqSnaps := Dev.post_tqSnaps ..
@[simp] theorem Dev.fireT_tqSnaps (d : Dev) (p b t x : Nat) : (d.fireT p b t x).tqSnaps = d.tqSnaps := Dev.raise_tqSnaps ..
@[simp] theorem Dev.fire_tqSnaps (d : Dev) (p b x : Nat) : (d.fire p b x).tqSnaps = d.tqSnaps := Dev.fireT_tqSnaps ..
@[simp] theorem Dev.post_dmaOwner (d : Dev) (p : Nat) (r : EvRec) : (d.post p r).dmaOwner = d.dmaOwner := by
  unfold Dev.post; split <;> rfl
@[simp] theorem Dev.raise_dmaOwner (d : Dev) (p t c s x : Nat) : (d.raise p t c s x).dmaOwner = d.dmaOwner := Dev.post_dmaOwner ..
@[simp] theorem Dev.fireT_dmaOwner (d : Dev) (p b t x : Nat) : (d.fireT p b t x).dmaOwner = d.dmaOwner := Dev.raise_dmaOwner ..
@[simp] theorem Dev.fire_dmaOwner (d : Dev) (p b x : Nat) : (d.fire p b x).dmaOwner = d.dmaOwner := Dev.fireT_dmaOwner ..
@[simp] theorem Dev.post_dma (d : Dev) (p : Nat) (r : EvRec) : (d.post p r).dma = d.dma := by
  unfold Dev.post; split <;> rfl
@[simp] theorem Dev.raise_dma (d : Dev) (p t c s x : Nat) : (d.raise p t c s x).dma = d.dma := Dev.post_dma ..
@[simp] theorem Dev.fireT_dma (d : Dev) (p b t x : Nat) : (d.fireT p b t x).dma = d.dma := Dev.raise_dma ..
@[simp] theorem Dev.fire_dma (d : Dev) (p b x : Nat) : (d.fire p b x).dma = d.dma := Dev.fireT_dma ..
@[simp] theorem Dev.post_ecc (d : Dev) (p : Nat) (r : EvRec) : (d.post p r).ecc = d.ecc := by
  unfold Dev.post; split <;> rfl
@[simp] theorem Dev.raise_ecc (d : Dev) (p t c s x : Nat) : (d.raise p t c s x).ecc = d.ecc := Dev.post_ecc ..
@[simp] theorem Dev.fireT_ecc (d : Dev) (p b t x : Nat) : (d.fireT p b t x).ecc = d.ecc := Dev.raise_ecc ..
@[simp] theorem Dev.fire_ecc (d : Dev) (p b x : Nat) : (d.fire p b x).ecc = d.ecc := Dev.fireT_ecc ..
@[simp] theorem Dev.post_norBusy (d : Dev) (p : Nat) (r : EvRec) : (d.post p r).norBusy = d.norBusy := by
  unfold Dev.post; split <;> rfl
@[simp] theorem Dev.raise_norBusy (d : Dev) (p t c s x : Nat) : (d.raise p t c s x).norBusy = d.norBusy := Dev.post_norBusy ..
@[simp] theorem Dev.fireT_norBusy (d : Dev) (p b t x : Nat) : (d.fireT p b t x).norBusy = d.norBusy := Dev.raise_norBusy ..
@[simp] theorem Dev.fire_norBusy (d : Dev) (p b x : Nat) : (d.fire p b x).norBusy = d.norBusy := Dev.fireT_norBusy ..
@[simp] theorem Dev.post_codec (d : Dev) (p : Nat) (r : EvRec) : (d.post p r).codec = d.codec := by
  unfold Dev.post; split <;> rfl
@[simp] theorem Dev.raise_codec (d : Dev) (p t c s x : Nat) : (d.raise p t c s x).codec = d.codec := Dev.post_codec ..
@[simp] theorem Dev.fireT_codec (d : Dev) (p b t x : Nat) : (d.fireT p b t x).codec = d.codec := Dev.raise_codec ..
@[simp] theorem Dev.fire_codec (d : Dev) (p b x : Nat) : (d.fire p b x).codec = d.codec := Dev.fireT_codec ..
@[simp] theorem Dev.post_units (d : Dev) (p : Nat) (r : EvRec) : (d.post p r).units = d.units := by
  unfold Dev.post; split <;> rfl
@[simp] theorem Dev.raise_units (d : Dev) (p t c s x : Nat) : (d.raise p t c s x).units = d.units := Dev.post_units ..
@[simp] theorem Dev.fireT_units (d : Dev) (p b t x : Nat) : (d.fireT p b t x).units = d.units := Dev.raise_units ..
@[simp] theorem Dev.fire_units (d : Dev) (p b x : Nat) : (d.fire p b x).units = d.units := Dev.fireT_units ..
@[simp] theorem Dev.post_galReqs (d : Dev) (p : Nat) (r : EvRec) : (d.post p r).galReqs = d.galReqs := by
  unfold Dev.post; split <;> rfl
@[simp] theorem Dev.raise_galReqs (d : Dev) (p t c s x : Nat) : (d.raise p t c s x).galReqs = d.galReqs := Dev.post_galReqs ..
@[simp] theorem Dev.fireT_galReqs (d : Dev) (p b t x : Nat) : (d.fireT p b t x).galReqs = d.galReqs := Dev.raise_galReqs ..
@[simp] theorem Dev.fire_galReqs (d : Dev) (p b x : Nat) : (d.fire p b x).galReqs = d.galReqs := Dev.fireT_galReqs ..
@[simp] theorem Dev.post_rcpt (d : Dev) (p : Nat) (r : EvRec) : (d.post p r).rcpt = d.rcpt := by
  unfold Dev.post; split <;> rfl
@[simp] theorem Dev.raise_rcpt (d : Dev) (p t c s x : Nat) : (d.raise p t c s x).rcpt = d.rcpt := Dev.post_rcpt ..
@[simp] theorem Dev.fireT_rcpt (d : Dev) (p b t x : Nat) : (d.fireT p b t x).rcpt = d.rcpt := Dev.raise_rcpt ..
@[simp] theorem Dev.fire_rcpt (d : Dev) (p b x : Nat) : (d.fire p b x).rcpt = d.rcpt := Dev.fireT_rcpt ..
@[simp] theorem Dev.post_rcptBad (d : Dev) (p : Nat) (r : EvRec) : (d.post p r).rcptBad = d.rcptBad := by
  unfold Dev.post; split <;> rfl
@[simp] theorem Dev.raise_rcptBad (d : Dev) (p t c s x : Nat) : (d.raise p t c s x).rcptBad = d.rcptBad := Dev.post_rcptBad ..
@[simp] theorem Dev.fireT_rcptBad (d : Dev) (p b t x : Nat) : (d.fireT p b t x).rcptBad = d.rcptBad := Dev.raise_rcptBad ..
@[simp] theorem Dev.fire_rcptBad (d : Dev) (p b x : Nat) : (d.fire p b x).rcptBad = d.rcptBad := Dev.fireT_rcptBad ..
@[simp] theorem Dev.post_seqs (d : Dev) (p : Nat) (r : EvRec) : (d.post p r).seqs = d.seqs := by
  unfold Dev.post; split <;> rfl
@[simp] theorem Dev.raise_seqs (d : Dev) (p t c s x : Nat) : (d.raise p t c s x).seqs = d.seqs := Dev.post_seqs ..
@[simp] theorem Dev.fireT_seqs (d : Dev) (p b t x : Nat) : (d.fireT p b t x).seqs = d.seqs := Dev.raise_seqs ..
@[simp] theorem Dev.fire_seqs (d : Dev) (p b x : Nat) : (d.fire p b x).seqs = d.seqs := Dev.fireT_seqs ..
@[simp] theorem Dev.post_scan (d : Dev) (p : Nat) (r : EvRec) : (d.post p r).scan = d.scan := by
  unfold Dev.post; split <;> rfl
@[simp] theorem Dev.raise_scan (d : Dev) (p t c s x : Nat) : (d.raise p t c s x).scan = d.scan := Dev.post_scan ..
@[simp] theorem Dev.fireT_scan (d : Dev) (p b t x : Nat) : (d.fireT p b t x).scan = d.scan := Dev.raise_scan ..
@[simp] theorem Dev.fire_scan (d : Dev) (p b x : Nat) : (d.fire p b x).scan = d.scan := Dev.fireT_scan ..
@[simp] theorem Dev.post_motors (d : Dev) (p : Nat) (r : EvRec) : (d.post p r).motors = d.motors := by
  unfold Dev.post; split <;> rfl
@[simp] theorem Dev.raise_motors (d : Dev) (p t c s x : Nat) : (d.raise p t c s x).motors = d.motors := Dev.post_motors ..
@[simp] theorem Dev.fireT_motors (d : Dev) (p b t x : Nat) : (d.fireT p b t x).motors = d.motors := Dev.raise_motors ..
@[simp] theorem Dev.fire_motors (d : Dev) (p b x : Nat) : (d.fire p b x).motors = d.motors := Dev.fireT_motors ..
@[simp] theorem Dev.post_axes (d : Dev) (p : Nat) (r : EvRec) : (d.post p r).axes = d.axes := by
  unfold Dev.post; split <;> rfl
@[simp] theorem Dev.raise_axes (d : Dev) (p t c s x : Nat) : (d.raise p t c s x).axes = d.axes := Dev.post_axes ..
@[simp] theorem Dev.fireT_axes (d : Dev) (p b t x : Nat) : (d.fireT p b t x).axes = d.axes := Dev.raise_axes ..
@[simp] theorem Dev.fire_axes (d : Dev) (p b x : Nat) : (d.fire p b x).axes = d.axes := Dev.fireT_axes ..
@[simp] theorem Dev.post_path (d : Dev) (p : Nat) (r : EvRec) : (d.post p r).path = d.path := by
  unfold Dev.post; split <;> rfl
@[simp] theorem Dev.raise_path (d : Dev) (p t c s x : Nat) : (d.raise p t c s x).path = d.path := Dev.post_path ..
@[simp] theorem Dev.fireT_path (d : Dev) (p b t x : Nat) : (d.fireT p b t x).path = d.path := Dev.raise_path ..
@[simp] theorem Dev.fire_path (d : Dev) (p b x : Nat) : (d.fire p b x).path = d.path := Dev.fireT_path ..
@[simp] theorem Dev.post_engine (d : Dev) (p : Nat) (r : EvRec) : (d.post p r).engine = d.engine := by
  unfold Dev.post; split <;> rfl
@[simp] theorem Dev.raise_engine (d : Dev) (p t c s x : Nat) : (d.raise p t c s x).engine = d.engine := Dev.post_engine ..
@[simp] theorem Dev.fireT_engine (d : Dev) (p b t x : Nat) : (d.fireT p b t x).engine = d.engine := Dev.raise_engine ..
@[simp] theorem Dev.fire_engine (d : Dev) (p b x : Nat) : (d.fire p b x).engine = d.engine := Dev.fireT_engine ..
@[simp] theorem Dev.post_loops (d : Dev) (p : Nat) (r : EvRec) : (d.post p r).loops = d.loops := by
  unfold Dev.post; split <;> rfl
@[simp] theorem Dev.raise_loops (d : Dev) (p t c s x : Nat) : (d.raise p t c s x).loops = d.loops := Dev.post_loops ..
@[simp] theorem Dev.fireT_loops (d : Dev) (p b t x : Nat) : (d.fireT p b t x).loops = d.loops := Dev.raise_loops ..
@[simp] theorem Dev.fire_loops (d : Dev) (p b x : Nat) : (d.fire p b x).loops = d.loops := Dev.fireT_loops ..
@[simp] theorem Dev.post_resetAt (d : Dev) (p : Nat) (r : EvRec) : (d.post p r).resetAt = d.resetAt := by
  unfold Dev.post; split <;> rfl
@[simp] theorem Dev.raise_resetAt (d : Dev) (p t c s x : Nat) : (d.raise p t c s x).resetAt = d.resetAt := Dev.post_resetAt ..
@[simp] theorem Dev.fireT_resetAt (d : Dev) (p b t x : Nat) : (d.fireT p b t x).resetAt = d.resetAt := Dev.raise_resetAt ..
@[simp] theorem Dev.fire_resetAt (d : Dev) (p b x : Nat) : (d.fire p b x).resetAt = d.resetAt := Dev.fireT_resetAt ..
@[simp] theorem Dev.post_proc (d : Dev) (p : Nat) (r : EvRec) : (d.post p r).proc = d.proc := by
  unfold Dev.post; split <;> rfl
@[simp] theorem Dev.raise_proc (d : Dev) (p t c s x : Nat) : (d.raise p t c s x).proc = d.proc := Dev.post_proc ..
@[simp] theorem Dev.fireT_proc (d : Dev) (p b t x : Nat) : (d.fireT p b t x).proc = d.proc := Dev.raise_proc ..
@[simp] theorem Dev.fire_proc (d : Dev) (p b x : Nat) : (d.fire p b x).proc = d.proc := Dev.fireT_proc ..
@[simp] theorem Dev.post_head (d : Dev) (p : Nat) (r : EvRec) : (d.post p r).head = d.head := by
  unfold Dev.post; split <;> rfl
@[simp] theorem Dev.raise_head (d : Dev) (p t c s x : Nat) : (d.raise p t c s x).head = d.head := Dev.post_head ..
@[simp] theorem Dev.fireT_head (d : Dev) (p b t x : Nat) : (d.fireT p b t x).head = d.head := Dev.raise_head ..
@[simp] theorem Dev.fire_head (d : Dev) (p b x : Nat) : (d.fire p b x).head = d.head := Dev.fireT_head ..
@[simp] theorem Dev.post_pw (d : Dev) (p : Nat) (r : EvRec) : (d.post p r).pw = d.pw := by
  unfold Dev.post; split <;> rfl
@[simp] theorem Dev.raise_pw (d : Dev) (p t c s x : Nat) : (d.raise p t c s x).pw = d.pw := Dev.post_pw ..
@[simp] theorem Dev.fireT_pw (d : Dev) (p b t x : Nat) : (d.fireT p b t x).pw = d.pw := Dev.raise_pw ..
@[simp] theorem Dev.fire_pw (d : Dev) (p b x : Nat) : (d.fire p b x).pw = d.pw := Dev.fireT_pw ..
@[simp] theorem Dev.post_hold (d : Dev) (p : Nat) (r : EvRec) : (d.post p r).hold = d.hold := by
  unfold Dev.post; split <;> rfl
@[simp] theorem Dev.raise_hold (d : Dev) (p t c s x : Nat) : (d.raise p t c s x).hold = d.hold := Dev.post_hold ..
@[simp] theorem Dev.fireT_hold (d : Dev) (p b t x : Nat) : (d.fireT p b t x).hold = d.hold := Dev.raise_hold ..
@[simp] theorem Dev.fire_hold (d : Dev) (p b x : Nat) : (d.fire p b x).hold = d.hold := Dev.fireT_hold ..
@[simp] theorem Dev.post_clk (d : Dev) (p : Nat) (r : EvRec) : (d.post p r).clk = d.clk := by
  unfold Dev.post; split <;> rfl
@[simp] theorem Dev.raise_clk (d : Dev) (p t c s x : Nat) : (d.raise p t c s x).clk = d.clk := Dev.post_clk ..
@[simp] theorem Dev.fireT_clk (d : Dev) (p b t x : Nat) : (d.fireT p b t x).clk = d.clk := Dev.raise_clk ..
@[simp] theorem Dev.fire_clk (d : Dev) (p b x : Nat) : (d.fire p b x).clk = d.clk := Dev.fireT_clk ..
@[simp] theorem Dev.post_otp (d : Dev) (p : Nat) (r : EvRec) : (d.post p r).otp = d.otp := by
  unfold Dev.post; split <;> rfl
@[simp] theorem Dev.raise_otp (d : Dev) (p t c s x : Nat) : (d.raise p t c s x).otp = d.otp := Dev.post_otp ..
@[simp] theorem Dev.fireT_otp (d : Dev) (p b t x : Nat) : (d.fireT p b t x).otp = d.otp := Dev.raise_otp ..
@[simp] theorem Dev.fire_otp (d : Dev) (p b x : Nat) : (d.fire p b x).otp = d.otp := Dev.fireT_otp ..
@[simp] theorem Dev.post_boot (d : Dev) (p : Nat) (r : EvRec) : (d.post p r).boot = d.boot := by
  unfold Dev.post; split <;> rfl
@[simp] theorem Dev.raise_boot (d : Dev) (p t c s x : Nat) : (d.raise p t c s x).boot = d.boot := Dev.post_boot ..
@[simp] theorem Dev.fireT_boot (d : Dev) (p b t x : Nat) : (d.fireT p b t x).boot = d.boot := Dev.raise_boot ..
@[simp] theorem Dev.fire_boot (d : Dev) (p b x : Nat) : (d.fire p b x).boot = d.boot := Dev.fireT_boot ..
@[simp] theorem Dev.post_keys (d : Dev) (p : Nat) (r : EvRec) : (d.post p r).keys = d.keys := by
  unfold Dev.post; split <;> rfl
@[simp] theorem Dev.raise_keys (d : Dev) (p t c s x : Nat) : (d.raise p t c s x).keys = d.keys := Dev.post_keys ..
@[simp] theorem Dev.fireT_keys (d : Dev) (p b t x : Nat) : (d.fireT p b t x).keys = d.keys := Dev.raise_keys ..
@[simp] theorem Dev.fire_keys (d : Dev) (p b x : Nat) : (d.fire p b x).keys = d.keys := Dev.fireT_keys ..
@[simp] theorem Dev.post_trng (d : Dev) (p : Nat) (r : EvRec) : (d.post p r).trng = d.trng := by
  unfold Dev.post; split <;> rfl
@[simp] theorem Dev.raise_trng (d : Dev) (p t c s x : Nat) : (d.raise p t c s x).trng = d.trng := Dev.post_trng ..
@[simp] theorem Dev.fireT_trng (d : Dev) (p b t x : Nat) : (d.fireT p b t x).trng = d.trng := Dev.raise_trng ..
@[simp] theorem Dev.fire_trng (d : Dev) (p b x : Nat) : (d.fire p b x).trng = d.trng := Dev.fireT_trng ..
@[simp] theorem Dev.post_reportSeq (d : Dev) (p : Nat) (r : EvRec) : (d.post p r).reportSeq = d.reportSeq := by
  unfold Dev.post; split <;> rfl
@[simp] theorem Dev.raise_reportSeq (d : Dev) (p t c s x : Nat) : (d.raise p t c s x).reportSeq = d.reportSeq := Dev.post_reportSeq ..
@[simp] theorem Dev.fireT_reportSeq (d : Dev) (p b t x : Nat) : (d.fireT p b t x).reportSeq = d.reportSeq := Dev.raise_reportSeq ..
@[simp] theorem Dev.fire_reportSeq (d : Dev) (p b x : Nat) : (d.fire p b x).reportSeq = d.reportSeq := Dev.fireT_reportSeq ..
@[simp] theorem Dev.post_lock (d : Dev) (p : Nat) (r : EvRec) : (d.post p r).lock = d.lock := by
  unfold Dev.post; split <;> rfl
@[simp] theorem Dev.raise_lock (d : Dev) (p t c s x : Nat) : (d.raise p t c s x).lock = d.lock := Dev.post_lock ..
@[simp] theorem Dev.fireT_lock (d : Dev) (p b t x : Nat) : (d.fireT p b t x).lock = d.lock := Dev.raise_lock ..
@[simp] theorem Dev.fire_lock (d : Dev) (p b x : Nat) : (d.fire p b x).lock = d.lock := Dev.fireT_lock ..
@[simp] theorem Dev.post_life (d : Dev) (p : Nat) (r : EvRec) : (d.post p r).life = d.life := by
  unfold Dev.post; split <;> rfl
@[simp] theorem Dev.raise_life (d : Dev) (p t c s x : Nat) : (d.raise p t c s x).life = d.life := Dev.post_life ..
@[simp] theorem Dev.fireT_life (d : Dev) (p b t x : Nat) : (d.fireT p b t x).life = d.life := Dev.raise_life ..
@[simp] theorem Dev.fire_life (d : Dev) (p b x : Nat) : (d.fire p b x).life = d.life := Dev.fireT_life ..
@[simp] theorem Dev.post_journal (d : Dev) (p : Nat) (r : EvRec) : (d.post p r).journal = d.journal := by
  unfold Dev.post; split <;> rfl
@[simp] theorem Dev.raise_journal (d : Dev) (p t c s x : Nat) : (d.raise p t c s x).journal = d.journal := Dev.post_journal ..
@[simp] theorem Dev.fireT_journal (d : Dev) (p b t x : Nat) : (d.fireT p b t x).journal = d.journal := Dev.raise_journal ..
@[simp] theorem Dev.fire_journal (d : Dev) (p b x : Nat) : (d.fire p b x).journal = d.journal := Dev.fireT_journal ..
@[simp] theorem Dev.post_bg (d : Dev) (p : Nat) (r : EvRec) : (d.post p r).bg = d.bg := by
  unfold Dev.post; split <;> rfl
@[simp] theorem Dev.raise_bg (d : Dev) (p t c s x : Nat) : (d.raise p t c s x).bg = d.bg := Dev.post_bg ..
@[simp] theorem Dev.fireT_bg (d : Dev) (p b t x : Nat) : (d.fireT p b t x).bg = d.bg := Dev.raise_bg ..
@[simp] theorem Dev.fire_bg (d : Dev) (p b x : Nat) : (d.fire p b x).bg = d.bg := Dev.fireT_bg ..
@[simp] theorem Dev.post_balls (d : Dev) (p : Nat) (r : EvRec) : (d.post p r).balls = d.balls := by
  unfold Dev.post; split <;> rfl
@[simp] theorem Dev.raise_balls (d : Dev) (p t c s x : Nat) : (d.raise p t c s x).balls = d.balls := Dev.post_balls ..
@[simp] theorem Dev.fireT_balls (d : Dev) (p b t x : Nat) : (d.fireT p b t x).balls = d.balls := Dev.raise_balls ..
@[simp] theorem Dev.fire_balls (d : Dev) (p b x : Nat) : (d.fire p b x).balls = d.balls := Dev.fireT_balls ..
@[simp] theorem Dev.post_adcNext (d : Dev) (p : Nat) (r : EvRec) : (d.post p r).adcNext = d.adcNext := by
  unfold Dev.post; split <;> rfl
@[simp] theorem Dev.raise_adcNext (d : Dev) (p t c s x : Nat) : (d.raise p t c s x).adcNext = d.adcNext := Dev.post_adcNext ..
@[simp] theorem Dev.fireT_adcNext (d : Dev) (p b t x : Nat) : (d.fireT p b t x).adcNext = d.adcNext := Dev.raise_adcNext ..
@[simp] theorem Dev.fire_adcNext (d : Dev) (p b x : Nat) : (d.fire p b x).adcNext = d.adcNext := Dev.fireT_adcNext ..
@[simp] theorem Dev.post_i2cRun (d : Dev) (p : Nat) (r : EvRec) : (d.post p r).i2cRun = d.i2cRun := by
  unfold Dev.post; split <;> rfl
@[simp] theorem Dev.raise_i2cRun (d : Dev) (p t c s x : Nat) : (d.raise p t c s x).i2cRun = d.i2cRun := Dev.post_i2cRun ..
@[simp] theorem Dev.fireT_i2cRun (d : Dev) (p b t x : Nat) : (d.fireT p b t x).i2cRun = d.i2cRun := Dev.raise_i2cRun ..
@[simp] theorem Dev.fire_i2cRun (d : Dev) (p b x : Nat) : (d.fire p b x).i2cRun = d.i2cRun := Dev.fireT_i2cRun ..

end Sys2Proof.Machine
end

