-- ==== Sys2Proof/Laws/Registers.lean ====
section
/-! SUPPORT. Reading registers, fields and table entries after they are written; what a write that lands does. -/

namespace Sys2Proof.Machine

@[simp] theorem Dev.reg_setReg_same (d : Dev) (a v : Nat) : (d.setReg a v).reg a = v % 2 ^ 32 := by
  simp [Dev.reg, Dev.setReg]

theorem Dev.reg_setReg_other (d : Dev) (a b v : Nat) (h : b ≠ a) : (d.setReg a v).reg b = d.reg b := by
  simp [Dev.reg, Dev.setReg, sget_sset_other _ _ _ _ _ h]

theorem Dev.reg_lt (d : Dev) (a : Nat) : d.reg a < 2 ^ 32 := (sget resetWord d.regs a).isLt

/-- A field that lies within its word reads, after it is written, as the value modulo its width. -/
theorem Dev.get_set_same (d : Dev) (f : Fld) (v : Nat) (h : f.ok) : (d.set f v).get f = v % 2 ^ f.w := by
  have hl := bitsPut_lt (d.reg f.addr) f.lo f.w v (d.reg_lt _) h
  simp only [Dev.get, Dev.set, Dev.reg_setReg_same, Nat.mod_eq_of_lt hl, bitsOf_bitsPut_same]

/-- A field of another register keeps its value. -/
theorem Dev.get_set_other (d : Dev) (f g : Fld) (v : Nat) (h : g.addr ≠ f.addr) : (d.set f v).get g = d.get g := by
  simp [Dev.get, Dev.set, Dev.reg_setReg_other _ _ _ _ h]

theorem Dev.get_setReg_other (d : Dev) (a v : Nat) (g : Fld) (h : g.addr ≠ a) : (d.setReg a v).get g = d.get g := by
  simp [Dev.get, Dev.reg_setReg_other _ _ _ _ h]

/-- A field of the same register that does not overlap keeps its value. -/
theorem Dev.get_set_apart (d : Dev) (f g : Fld) (v : Nat) (hf : f.ok) (h : g.lo + g.w ≤ f.lo ∨ f.lo + f.w ≤ g.lo) :
    (d.set f v).get g = d.get g := by
  by_cases ha : g.addr = f.addr
  · have hl := bitsPut_lt (d.reg f.addr) f.lo f.w v (d.reg_lt _) hf
    simp only [Dev.get, Dev.set, ha, Dev.reg_setReg_same, Nat.mod_eq_of_lt hl]
    rcases h with h | h
    · exact bitsOf_bitsPut_below _ _ _ _ _ _ h
    · exact bitsOf_bitsPut_above _ _ _ _ _ _ h
  · exact Dev.get_set_other _ _ _ _ ha

/-! ### Entries of the tables -/

@[simp] theorem Dev.modPage_length (d : Dev) (p : Nat) (f : Page → Page) : (d.modPage p f).pages.length = d.pages.length := by
  simp [Dev.modPage]

theorem Dev.page_modPage_same (d : Dev) (p : Nat) (f : Page → Page) (h : p < d.pages.length) : (d.modPage p f).page p = f (d.page p) :=
  lmod_getD_same _ _ _ _ h

theorem Dev.page_modPage_other (d : Dev) (p q : Nat) (f : Page → Page) (h : p ≠ q) : (d.modPage p f).page q = d.page q :=
  lmod_getD_other _ _ _ _ _ h

theorem Dev.ten_modTen_same (d : Dev) (k : Nat) (f : Tenant → Tenant) (h : k < d.tenants.length) : (d.modTen k f).ten k = f (d.ten k) :=
  lmod_getD_same _ _ _ _ h

theorem Dev.ten_modTen_other (d : Dev) (k j : Nat) (f : Tenant → Tenant) (h : k ≠ j) : (d.modTen k f).ten j = d.ten j :=
  lmod_getD_other _ _ _ _ _ h

theorem Dev.br_modBr_same (d : Dev) (k : Nat) (f : BridgeT → BridgeT) (h : k < d.bridges.length) : (d.modBr k f).br k = f (d.br k) :=
  lmod_getD_same _ _ _ _ h

theorem Dev.br_modBr_other (d : Dev) (k j : Nat) (f : BridgeT → BridgeT) (h : k ≠ j) : (d.modBr k f).br j = d.br j :=
  lmod_getD_other _ _ _ _ _ h

/-! ### Writes that land -/

/-- A granted write that the command selects takes the command's effect. -/
theorem Dev.land_granted {d d' : Dev} {l : Land} {ag : Agent} {a : Nat} {v : Word} {sel : Nat → Word → Bool}
    {eff : Agent → Nat → Word → Dev → Dev} (hg : d.granted l = some (ag, a, v, d')) (hs : sel a v = true) :
    d.land l sel eff = eff ag a v d' := by
  cases l with
  | fw b w =>
    simp only [Dev.granted] at hg
    split at hg
    · rename_i h
      simp only [Option.some.injEq, Prod.mk.injEq] at hg
      obtain ⟨rfl, rfl, rfl, rfl⟩ := hg
      simp [Dev.land, hs, h]
    · exact absurd hg (by simp)
  | tenant k ecc =>
    simp only [Dev.granted] at hg
    split at hg
    · exact absurd hg (by simp)
    · rename_i w rest hq
      split at hg
      · rename_i h
        simp only [Option.some.injEq, Prod.mk.injEq] at hg
        obtain ⟨rfl, rfl, rfl, rfl⟩ := hg
        simp [Dev.land, hq, hs, h]
      · exact absurd hg (by simp)

/-- The same with an effect on the memories. -/
theorem landAll_granted {d d' : Dev} {m : Mem} {l : Land} {ag : Agent} {a : Nat} {v : Word} {sel : Nat → Word → Bool}
    {eff : Agent → Nat → Word → Dev → Mem → Dev × Mem} (hg : d.granted l = some (ag, a, v, d')) (hs : sel a v = true) :
    landAll l sel eff d m = eff ag a v d' m := by
  cases l with
  | fw b w =>
    simp only [Dev.granted] at hg
    split at hg
    · rename_i h
      simp only [Option.some.injEq, Prod.mk.injEq] at hg
      obtain ⟨rfl, rfl, rfl, rfl⟩ := hg
      simp [landAll, hs, h]
    · exact absurd hg (by simp)
  | tenant k ecc =>
    simp only [Dev.granted] at hg
    split at hg
    · exact absurd hg (by simp)
    · rename_i w rest hq
      split at hg
      · rename_i h
        simp only [Option.some.injEq, Prod.mk.injEq] at hg
        obtain ⟨rfl, rfl, rfl, rfl⟩ := hg
        simp [landAll, hq, hs, h]
      · exact absurd hg (by simp)

/-- A write that the command does not select is left alone. -/
theorem Dev.land_unselected (d : Dev) (l : Land) (eff : Agent → Nat → Word → Dev → Dev) : d.land l (fun _ _ => false) eff = d := by
  cases l with
  | fw a v => simp [Dev.land]
  | tenant k e => simp only [Dev.land]; split <;> simp

/-- A tenant write that the command selects and the bridge refuses leaves the queue and is reported (R227). -/
theorem Dev.land_refused {d : Dev} {k : Nat} {ecc : Ecc} {w : PostedWrite} {r : Nat} {sel : Nat → Word → Bool}
    {eff : Agent → Nat → Word → Dev → Dev} (h : d.refused k ecc w r) (hs : sel w.addr w.data = true) :
    d.land (.tenant k ecc) sel eff = (d.popWrite k).refuseWrite k w r := by
  obtain ⟨⟨rest, hq⟩, hr, h0⟩ := h
  simp only [Dev.land, hq, hs, if_true, hr]

/-! ### Frames -/

/-- A frame that is accepted and meets no hold and no precondition of its own takes the command's effect. -/
theorem runFrame_accepted {op k : Nat} {sel : Frame → Bool} {form : Dev → Frame → Bool} {hold : Dev → Mem → Frame → Bool}
    {pre : Dev → Mem → Frame → Nat} {act : Frame → Dev → Mem → Dev × Mem} {d : Dev} {m : Mem} {f : Frame}
    (h : d.accepts k op f (form d f)) (hs : sel f = true) (hp : pre d m f = 0) (hh : hold d m f = false) :
    runFrame op sel form hold pre act k d m = act f (d.began k f) m := by
  obtain ⟨hn, ho, hc⟩ := h
  subst ho
  simp only [runFrame, hn, Dev.began]
  cases hr : opRow f.opcode with
  | none => rw [hr] at hc; simp at hc
  | some r =>
    rw [hr] at hc
    simp only [Option.any_some, beq_iff_eq] at hc
    simp [hs, hc, hp, hh]

/-! ### Commands and the queue -/

theorem onDev_next (f : Dev → Dev) (s : State) : onDev f s = .next { s with dev := f s.dev } := rfl

theorem onAll_next (f : Dev → Mem → Dev × Mem) (s : State) :
    onAll f s = .next { s with dev := (f s.dev s.mem).1, mem := (f s.dev s.mem).2 } := rfl

theorem when_true {p : Bool} (h : p = true) (f : Dev → Dev) (d : Dev) : when p f d = f d := by simp [when, h]

end Sys2Proof.Machine
end

