-- ==== Sys2Proof/Tests/Slice0.lean ====
section
/-! SUPPORT. The model's own tests: an ill-formed term for each check of WellFormed, small single-step tests, and for every
statement with hypotheses a theorem that shows states and operands that meet them. -/

set_option maxRecDepth 10000

namespace Sys2Proof.Tests

open Sys2Proof.Machine

/-! ### Ill-formed terms are refused -/

/-- A tenant is one of T0 to T7 (R56), an address has 32 bits (R6). -/
theorem test_illformed_land :
    Instr.wf (.registerWrite (.tenant 8 .ok)) = false ∧
    Instr.wf (.registerWrite (.fw 0x100000000 0)) = false ∧
    Instr.wf (.seqGo (.tenant 8 .ok)) = false ∧
    Instr.wf (.lkKick (.fw 0x100000000 0)) = false := by decide

/-- Epochs, job numbers, sheet indexes and bands have 16 bits. -/
theorem test_illformed_galley :
    Instr.wf (.galleyGrant false 1 65536 1 0 0) = false ∧
    Instr.wf (.galleyGrant false 1 1 65536 0 0) = false ∧
    Instr.wf (.galleyGrant false 1 1 1 65536 0) = false ∧
    Instr.wf (.galleyGrant false 1 1 1 0 65536) = false := by decide

/-- Addresses have 32 bits (R6). -/
theorem test_illformed_addresses :
    Instr.wf (.usbRegWrite 0x100000000 []) = false ∧
    Instr.wf (.usbRegRead 0x100000000 4) = false ∧
    Instr.wf (.data 1 [0, 0x100000000]) = false ∧
    Instr.wf (.dataDma 1 [0x100000000]) = false ∧
    Instr.wf (.formProgramDone 1 0x100000000) = false ∧
    Instr.wf (.readTimeout 1 0x100000000) = false ∧
    Instr.wf (.rcFieldRead 1 0x100000000) = false ∧
    Instr.wf (.blockEncode 0x100000000) = false ∧
    Instr.wf (.lateDmaError 0 0x100000000 0 0) = false ∧
    Instr.wf (.lateDmaError 0 0 65536 0) = false := by decide

/-- Lengths have the width of their field. -/
theorem test_illformed_lengths :
    Instr.wf (.usbRegWrite 0 (List.replicate 65536 0)) = false ∧
    Instr.wf (.usbRegRead 0 65536) = false ∧
    Instr.wf (.streamRead 0x100000000) = false ∧
    Instr.wf (.transferFail 0 false 0x8000000) = false := by decide +kernel

/-- Counts that the spec fixes: words of a control store, Hall peaks, sensor inputs, error positions. -/
theorem test_illformed_counts :
    Instr.wf (.crcDone 0 [4096]) = false ∧
    Instr.wf (.alignDone 0 []) = false ∧
    Instr.wf (.sensorSample [] true true true) = false ∧
    Instr.wf (.pEnd [(65536, true)]) = false := by decide

/-- Chips fit their windows, a delay is a byte (Table 6-1). -/
theorem test_illformed_chips :
    Instr.wf (.journalMount ⟨true, true, 0x4000001, true, 0x100000, true, 0⟩) = false ∧
    Instr.wf (.journalMount ⟨true, true, 0x100000, true, 0x4000001, true, 0⟩) = false ∧
    Instr.wf (.journalMount ⟨true, true, 0x100000, true, 0x100000, true, 256⟩) = false ∧
    Instr.wf (.norSequenceEnd (.erase 0x4000001)) = false := by decide

/-- There are 192 lanes and 40 parity groups. -/
theorem test_illformed_lanes :
    Instr.wf (.injectionTest (.other true 40)) = false ∧
    Instr.wf (.injectionTest (.other false 192)) = false := by decide

/-- An I2C transfer moves at most 63 bytes, a USB address has 7 bits, flow control carries bytes. -/
theorem test_illformed_serial :
    Instr.wf (.i2cDone 0 (.done (List.replicate 64 0))) = false ∧
    Instr.wf (.i2cDone 0 (.nackData 64)) = false ∧
    Instr.wf (.i2cDone 0 (.arbLost 64)) = false ∧
    Instr.wf (.standardRequest (.setAddress 128)) = false ∧
    Instr.wf (.canFlowControl 0 .cts 256 0) = false ∧
    Instr.wf (.canFlowControl 0 .cts 0 256) = false := by decide

/-- Well-formed terms are not refused. -/
theorem test_wellformed :
    Instr.wf (.registerWrite (.tenant 7 .ok)) = true ∧ Instr.wf (.registerWrite (.fw 0xFFFFFFFF 0)) = true ∧
    Instr.wf (.injectionTest (.other false 191)) = true ∧ Instr.wf (.gearChangeLock) = true := by decide

/-! ### The block has no words -/

/-- No row of the table gives bits. -/
theorem test_no_words : decodeTableWord 32 0xFFFFFFFF = none := rfl

/-! ### Checks of the arithmetic by published values -/

/-- CRC-32C of "123456789" is 0xE3069283 (the published check value). -/
theorem test_crc32c : crc32c [49, 50, 51, 52, 53, 54, 55, 56, 57] = 0xE3069283 := by decide +kernel
/-- CRC-8 with polynomial 0x07 of "123456789" is 0xF4 (the published check value). -/
theorem test_crc8 : crc8 [49, 50, 51, 52, 53, 54, 55, 56, 57] = 0xF4 := by decide +kernel
/-- SHA-256 of "abc" (FIPS 180-4): its first four bytes. -/
theorem test_sha256 : (sha256 [97, 98, 99]).take 4 = [0xBA, 0x78, 0x16, 0xBF] := by decide +kernel
/-- AES-256 of FIPS 197, appendix C.3: the first four bytes. -/
theorem test_aes256 :
    (aesEncrypt (aesKeys ((List.range 32).map (BitVec.ofNat 8))) ((List.range 16).map (fun i => BitVec.ofNat 8 (17 * i)))).take 4 =
      [0x8E, 0xA2, 0xB7, 0xCA] := by decide +kernel
/-- AES-256-GCM test case 13 (empty plaintext, zero key and vector): the tag's first four bytes. -/
theorem test_gcm : (gcmTag (zeros 32) (zeros 12) [] []).take 4 = [0x53, 0x0F, 0x8A, 0xFB] := by decide +kernel

/-! ### The spec's worked examples -/

/-- Loop L0 of spec/13: coefficients of a bank. -/
def exBank (d : Dev) (b ki : Nat) : Dev :=
  [(0, 1), (4, 0x00FEB852), (0x44, 0x00051EB8), (0x54, 0x0031EB85), (0x64, 0x01000000), (0x74, 0x09C00000), (0x84, 0x09C00000), (0x88, ki)].foldl
    (fun d x => d.setReg (coefAddr 0 b x.1) x.2) d

/-- Loop L0 of spec/13 before sample 0. -/
def exLoop : Dev :=
  (((((((exBank Dev.reset 1 0x800000).set (Reg.LP_STAT_BANK 0) 1).set (Reg.LP_STAT_STATE 0) 1).set (Reg.LP_CTL_EN 0) 1).seti (Reg.LP_REF_REF
    0) 0xB40000).seti (Reg.LP_UMAX_UMAX 0) 0x640000).seti (Reg.LP_XI_XI 0 0) 0x190000).modLch 0 (fun c => { c with init := true })

/-- What Table 13-10 shows of loop L0: LP_U, LP_Z, LP_XH0 and LP_STAT. -/
def exShow (d : Dev) : List Nat := [0x4002D13C, 0x4002D144, 0x4002D148, 0x4002D130].map d.reg

/-- Table 13-10, sample 0. -/
theorem test_loop_sample0 : exShow (exLoop.loopLaw 0 0x190000) = [0x640000, 0, 0x1AE000, 0x1001D] := by decide +kernel

/-- Table 13-10, sample 91. -/
theorem test_loop_sample91 :
    exShow ((exLoop.loopLaw 0 0x190000).seti (Reg.LP_XH_XH 0 0) 0xAA8000 |>.loopLaw 0 0xAA4000) = [0x5CA000, 0x9C000, 0xAB7385, 0x11] := by
  decide +kernel

/-- The bank of spec/17 at 44.0 V: E_AVAIL 39,066 mJ, and E_REQ of an A4 sheet at G1 and at G3. -/
theorem test_energy :
    let d := (((Dev.reset.setReg Reg.HL_CFG 0x2328ABE0).set Reg.HL_STAT_C_VALID 1).setReg Reg.HL_C 46800).set Reg.HL_VBANK_VBANK 44000
    (d.eAvail, d.eReq 2970 1, d.eReq 2970 3) = (39066, 36000, 25200) := by decide +kernel

/-- The payload of the block of spec/07. -/
theorem test_block :
    let line : List Byte := [0x3C, 0x3C, 0, 0, 0, 0, 0, 0]
    (encodeBlock 1 64 1 0 2 8 (line ++ line)).1.drop 32 = [0x30, 0x02, 0x40, 0x16, 0xA8, 0x42, 0x2C, 0x80] := by decide +kernel

/-- The class widths of spec/15. -/
theorem test_class_widths :
    let d := ((((Dev.reset.set Reg.HD_STAT_TEMP_BIN 8).setReg 0x40024140 0xC800E6).setReg 0x40024144 0x820096).set Reg.HD_ENERGY_R_AVG
      650).modSeq 1 (fun q => { q with ports := [0, 0, 0xF, 40000] })
    [0, 1, 2, 3].map (fun c => d.classWidth c 24000 100) = [12977, 11285, 8464, 7335] := by decide +kernel

/-- The targets and the stop of spec/15. -/
theorem test_starvation :
    [targetRate 2000 62 39 false 2400, targetRate 2000 29 19 false 2400, targetRate 2000 15 10 false 2400, targetRate 2000 7 5 false 2400] =
      [2000, 1370, 950, 200] ∧ Dev.reset.pitchTicks (Dev.reset.platenV 200) = 500 ∧ Dev.reset.pitchTicks (Dev.reset.platenV 1250) = 80 := by
  decide +kernel

/-- The pixel times of spec/10, in sixteenths of a pixel. -/
theorem test_pixel_times : startOf 7169 200 1320 = 28293 ∧ startOf 7169 200 3800 = 67980 ∧ startOf 7169 200 5120 = 89104 := by decide +kernel

/-- The launch of spec/12 ends at 427 microsteps. -/
theorem test_launch : segTravel ⟨2, true, false, 0x32, 106667, 400, 0⟩ 0 400 = 427 := by decide +kernel

/-- Page identities of spec/26. -/
theorem test_page_ids :
    [0x40000000, 0x40000040, 0x40005000, 0x40005024, 0x4002B000, 0x4002B004].map (Dev.reset.view State.reset.mem .fw) =
      [0xE5000001, 0x00A10137, 0xE5020301, 0x809, 0xE5280301, 0x105] := by decide +kernel

/-- The ingest rate of R42 truncates toward zero. -/
theorem test_ingest : ingestRate 0 1001 = 25025 ∧ ingestRate 7 0 = 6 := by decide +kernel

/-- The sheet of spec/01 at its first attempt: 108 bands of 6144 bytes, 40 received, 8 decoded in 24 units. -/
def exForecast (got : Nat) : Dev :=
  let s : Sheet :=
    { tenant := 2, epoch := 0, job := 1, index := 0, bpp := 1, bandH := 2, width := 5120, length := 2970, top := 40, lines := 6912,
      sizes := List.replicate 108 6144, layers := [⟨2, 1, true, true, 4, 0⟩],
      streams := [⟨[], got * 6144, false, none, [], []⟩], placed := true, state := .held, token := 8, spoil := false,
      atRisk := false, integrity := false, revoked := false, cancelled := false, gear := 0, blank := false,
      released := false, order := 0, heldAt := 0, selected := false, tRel := 0, failCheck := 0, decided := 0,
      voided := [], voidFrom := [], omitted := [], failed := [] }
  let us := (List.range 24).map (fun i => { GUnit.reset with state := .ready, tenant := 2, band := i / 3, epoch := 0, job := 1 })
  (({ Dev.reset with sheets := [s], units := us ++ Dev.reset.units.drop 24 }.set Reg.PC_STAT_RUN_GEAR 1).setReg (Reg.PC_INGEST 2)
    0x3C000).set (Reg.GQ_GQ_MAX 2) 24

/-- The forecasts of spec/01 at G1 and G2, and the gear they propose. -/
theorem test_forecast :
    let d := exForecast 40
    (d.sheets.map fun s =>
      let bm := d.bandModel State.reset.mem s
      (slackWord (d.forecast s bm 1).1, (d.forecast s bm 1).2, slackWord (d.forecast s bm 2).1, d.chooseGear s bm true)) =
      [(-204010, 107, 99764, 2)] := by decide +kernel

/-! ### States the witnesses start from -/

/-- The state after reset, its device changed by `f`. -/
def stD (f : Dev → Dev) : State := State.reset.withDev (f Dev.reset)
/-- A firmware write that no check refuses reaches its page. -/
theorem granted_fw {d : Dev} {a : Nat} {v : Word} (h : d.fwRefuse a = 0) :
    d.granted (.fw a v) = some (.fw, a, v, d) := by simp [Dev.granted, h]
/-- A placed raw sheet of tenant 1, in its job 1. -/
def wSheet : Sheet :=
  { tenant := 1, epoch := 0, job := 1, index := 0, bpp := 1, bandH := 1, width := 64, length := 0, top := 0, lines := 32,
    sizes := [0], layers := [⟨0, 0, true, false, 0, 0⟩], streams := [Stream.empty], placed := true,
    state := .queued, token := 1, spoil := false, atRisk := false, integrity := false, revoked := false,
    cancelled := false, gear := 0, blank := false, released := false, order := 0,
    heldAt := 0, selected := false, tRel := 0, failCheck := 0, decided := 0, voided := [],
    voidFrom := [], omitted := [], failed := [] }
/-- A raw job of tenant 1. -/
def wJob : Job :=
  { num := 1, thermal := false, bpp := 1, bandH := 1, width := 64, rate := 0, energy := 0, state := 0, cut := 0,
    defined := 1, final := 0, printed := 0, epoch := 1, stream := Stream.empty, waiting := true, told := false }
/-- A tracker slot that follows `wSheet`. -/
def wSlot : Slot := { Slot.reset with token := 1, ten := 1, epoch := 0, job := 1, index := 0 }
/-- The one sheet of the device is `wSheet`, changed by `f`. -/
def wSh (f : Sheet → Sheet) (d : Dev) : Dev := { d with sheets := [f wSheet] }
/-- Tracker slot 0 follows `wSheet`, changed by `f`. -/
def wSl (f : Slot → Slot) (d : Dev) : Dev := { d with path := { d.path with slots := f wSlot :: d.path.slots.tail } }
/-- Tenant `k` has an open session and is changed by `f`. -/
def wTen (k : Nat) (f : Tenant → Tenant) (d : Dev) : Dev := d.modTen k fun t => f { t with state := .opened, epoch := 1, everOpen := true }
/-- Channel `c` is bound to tenant `k`. -/
def wBind (c k : Nat) (d : Dev) : Dev := d.modChan c fun x => { x with bind := some k }
/-- Every item of the READY and commit conditions is met. -/
def wReady (d : Dev) : Dev :=
  ((((((((d.set (Reg.BL_STAT_PH_LOCK 0) 1).set (Reg.BL_STAT_SPD_LOCK 1) 1).set Reg.PC_STAT_RUN_GEAR 1).set
    Reg.FU_STAT_SETTLED 1).set Reg.FU_STAT_IN_WIN 1).set Reg.FU_STAT_CORR_RESULT 1).set Reg.HV_STAT_READY 7).set Reg.LS_STAT_APC_SETTLED 1)
/-- A frame of session version 1, request 5. -/
def wF (op : Nat) (p : List Byte) : Frame := ⟨1, op, 5, zeros 16, p, []⟩
/-- The frame `f` is at the front of tenant `k`’s command queue, in NOMINAL. -/
def wCmd (k : Nat) (f : Frame) (d : Dev) : Dev := (d.modTen k fun t => { t with cmdQ := [f], lastCh := 1 }).setDev DevSt.nominal
/-- A frame at the front that every step check passes is accepted. -/
theorem acc {d : Dev} {k op : Nat} {f : Frame} {form : Bool}
    (h : (decide (d.nextFrame k = some f) && f.opcode == op && (opRow op).any (fun r => d.stepChecks k f r form == 0)) = true) :
    d.accepts k op f form := by
  simp only [Bool.and_eq_true, decide_eq_true_eq, beq_iff_eq] at h; exact ⟨h.1.1, h.1.2, h.2⟩
/-- The first part of a KEY_LOAD payload. -/
def wKeyHead : List Byte := [1, 1, 0, 0] ++ zeros 44
/-- A KEY_LOAD frame with a right tag. -/
def wKey : Frame :=
  wF 0x801 (wKeyHead ++ gcmTag (Dev.reset.transportKey 1) (zeros 12) (Dev.reset.keyAad 1 (wF 0x801 wKeyHead)) (zeros 32))
/-- Sequencer `i` holds the word `w` at 0 and runs. -/
def wK (i w : Nat) (d : Dev) : Dev := (d.modSeq i fun q => { q with store := [(0, BitVec.ofNat 96 w)] }).set (Reg.SEQ_STAT_STATE i) 1
/-- A receipt of tenant 1 is being printed. -/
def wRc (f : Job → Job) (d : Dev) : Dev :=
  { (wTen 1 (fun t => { t with jobs := [f { wJob with thermal := true, waiting := false, rate := 100, energy := 100 }] }) d) with rcpt := some (1, 1, 1) }
/-- One galley unit holds a decoded line. -/
def wRu (d : Dev) : Dev := { d with units := [{ GUnit.reset with state := .ready, tenant := 1, kind := 2, epoch := 1, job := 1, dec := true }] }
/-- Tenant `k`’s queue holds the write `w`. -/
def wQ (k : Nat) (w : PostedWrite) (d : Dev) : Dev := d.modBr k fun b => { b with queue := [w] }
/-- Loop 7 with a UMIN and a UMAX that its output meets. -/
def wSat : Dev := (Dev.reset.seti (Reg.LP_UMIN_UMIN 7) 5).seti (Reg.LP_UMAX_UMAX 7) 9

/-! ### Witnesses -/

/-- A state and operands for every clause of `Obligations.EngineCommandsComplete`. -/
theorem wit_EngineCommandsComplete :
  (∃ (s : State) (took : Nat) (x : _), s.dev.heldSheet = some x ∧
    let d := (s.dev.boundary 0x32).geomCheck
    let e := d.lateRecord x (d.slackOf s.mem x)
    d.holdAge x < d.holdMax ∧ d.earlyChecks x = none ∧ e.lateFail x (d.slackOf s.mem x).1 took = none) ∧
  (∃ (s : State), s.dev.engineOn = true ∧ s.dev.flag (Reg.BL_STAT_SPD_LOCK 1) = true ∧
      s.dev.geti (Reg.BL_CMD_NOW_SPEED 1) = s.dev.blSelected 1 ∧ (s.dev.get Reg.PC_STAT_RUN_GEAR = 0 ∨
      s.dev.flag Reg.PC_STAT_SHIFTING = true)) ∧
  (∃ (s : State) (x : _), s.dev.heldSheet = some x ∧ (s.dev.laserState = LasSt.ready ∨ s.dev.laserState = LasSt.printing) ∧
      s.dev.holdMax ≤ s.dev.holdAge x) ∧
  (∃ (s : State) (tRel : Nat) (x : _) (i : _), s.dev.sheets.find? (fun y => y.state == .held && y.blank && ! y.released) = some x ∧
      s.dev.slotOf x = some i ∧ (s.dev.slot i).state = 3 ∧ x.tRel ≤ tRel ∧ s.dev.lockMode = 0) ∧
  (∃ (s : State) (tRel : Nat) (x : _) (i : _), s.dev.sheets.find? (fun y => y.state == .committed && ! y.released) = some x ∧
      s.dev.slotOf x = some i ∧ (s.dev.slot i).state = 3 ∧ x.tRel ≤ tRel ∧ s.dev.lockMode ≠ 2) ∧
  (∃ (s : State), s.dev.laserState = LasSt.ready ∧ s.dev.get Reg.PC_CTL_IDLE_COOL ≠ 0 ∧ s.dev.pathEmpty = true ∧
      s.dev.anyQueued = false ∧ s.dev.engine.since + 1000000 * s.dev.get Reg.PC_CTL_IDLE_COOL ≤ s.dev.now) ∧
  (∃ (s : State), s.dev.laserState = LasSt.warming ∧ s.dev.geomCheck.unmet = 0 ∧ s.dev.geomCheck.faulted 0x32 3 = false) ∧
  (∃ (s : State), s.dev.laserState = LasSt.warming ∧ s.dev.unmet ≠ 0 ∧
      s.dev.engine.since + 1000000 * atLeast1 (s.dev.get Reg.FU_WARM_WARM_MAX) ≤ s.dev.now) ∧
  (∃ (s : State) (i : Fin 4) (x : _), s.dev.slotSheet i.val = some x ∧ 4 ≤ (s.dev.slot i.val).state ∧ (s.dev.slot i.val).state ≤ 5 ∧
      x.blank = false ∧ x.state = .imaging) :=
  ⟨⟨stD (fun d =>
      (((((((((((((let d : Dev := wSl (fun t => { t with state := 3 }) (wSh (fun x => { x with state := .held, tRel := 1000000000, epoch := 0 }) d); d : Dev).setDev
      DevSt.nominal).set Reg.PT_SNS_STAT_OCC 4).set Reg.PC_CTL_POLICY 1).setReg (Reg.GQ 1) 0x60).set (Reg.BL_STAT_PH_LOCK 0) 1).set
      (Reg.BL_STAT_SPD_LOCK 1) 1).set Reg.PC_STAT_RUN_GEAR 1).set Reg.FU_STAT_SETTLED 1).set Reg.FU_STAT_IN_WIN 1).set
      Reg.FU_STAT_CORR_RESULT 1).set Reg.HV_STAT_READY 7).set Reg.LS_STAT_APC_SETTLED 1)), 0, _, rfl, by decide, by decide,
      by decide +kernel⟩,
   ⟨stD (fun d => let e := (d.setLas LasSt.ready).set (Reg.BL_STAT_SPD_LOCK 1) 1; e.seti (Reg.BL_CMD_NOW_SPEED 1) (e.blSelected 1)),
      by decide, by decide, by decide, by decide⟩,
   ⟨stD (fun d => (wSh (fun x => { x with state := .held }) { (d.setLas LasSt.ready) with now := 1000000000 })), _, rfl, by decide,
      by decide⟩,
   ⟨stD (fun d => let d : Dev := wSl (fun t => { t with state := 3 }) (wSh (fun x => { x with state := .held, blank := true }) d); d),
      0, _, 0, rfl, by decide, by decide, by decide, by decide⟩,
   ⟨stD (fun d => let d : Dev := wSl (fun t => { t with state := 3 }) (wSh (fun x => { x with state := .committed }) d); d), 0, _, 0,
      rfl, by decide, by decide, by decide, by decide⟩,
   ⟨stD (fun d => { ((d.setLas LasSt.ready).set Reg.PC_CTL_IDLE_COOL 1) with now := 1000000000 }), by decide, by decide, by decide,
      by decide, by decide⟩,
   ⟨stD (fun d => (wReady ({ d with proc := { d.proc with corrDue := false } }.setLas LasSt.warming)).set Reg.PC_GEOM_REG_TO_NIP
      0xFFF), by decide, by decide, by decide⟩,
   ⟨stD (fun d => { (d.setLas LasSt.warming) with now := 1000000000 }), by decide, by decide, by decide⟩,
   ⟨stD (fun d => let d : Dev := wSl (fun t => { t with state := 4 }) (wSh (fun x => { x with state := .imaging }) d); d), 0, _, rfl,
      by decide, by decide, by decide, by decide⟩⟩

/-- A state and operands for every clause of `Obligations.TenantRegisterWritesTakeEffect`. -/
theorem wit_TenantRegisterWritesTakeEffect :
  (∃ (s : State) (l : Land) (ag : _) (a : _) (v : Word) (d : Dev) (c : _), s.dev.granted l = some (ag, a, v, d) ∧ chbindOf a = some c) ∧
  (∃ (s : State) (l : Land) (ag : _) (a : _) (v : Word) (d : Dev) (k : _), s.dev.granted l = some (ag, a, v, d) ∧ tcfgOf a = some k) ∧
  (∃ (s : State) (l : Land) (ag : _) (a : _) (v : Word) (d : Dev) (k : Fin 8), s.dev.granted l = some (ag, a, v, d) ∧
      a = Reg.GQ k.val) ∧
  (∃ (s : State) (l : Land) (ag : _) (a : _) (v : Word) (d : Dev), s.dev.granted l = some (ag, a, v, d) ∧ (a = Reg.DMA_OWN0 ∨
      a = Reg.DMA_OWN1)) ∧
  (∃ (s : State) (l : Land) (ag : _) (a : _) (v : Word) (d : Dev), s.dev.granted l = some (ag, a, v, d) ∧ a = Reg.TEN_RESET) ∧
  (∃ (s : State) (l : Land) (ag : _) (a : _) (v : Word) (d : Dev) (k : Fin 8), s.dev.granted l = some (ag, a, v, d) ∧
      a = Reg.PG_CTL (2 + k.val) ∧ bit v.toNat 1 = true) ∧
  (∃ (s : State) (l : Land) (ag : _) (a : _) (v : Word) (d : Dev), s.dev.granted l = some (ag, a, v, d) ∧ a = Reg.BOOK_SNAP ∧
      bit v.toNat 0 = true) ∧
  (∃ (s : State) (l : Land) (ag : _) (a : _) (v : Word) (d : Dev), s.dev.granted l = some (ag, a, v, d) ∧ a = Reg.BOOK_SNAP ∧
      bit v.toNat 0 = false) ∧
  (∃ (s : State) (l : Land) (ag : _) (a : _) (v : Word) (d : Dev) (k : Fin 8), s.dev.granted l = some (ag, a, v, d) ∧
      a = Reg.TQ_SNAP k.val ∧ bit v.toNat 0 = true) :=
  ⟨⟨stD id, _, _, (Reg.CHBIND 0), 0, _, 0, granted_fw (by decide), by decide⟩,
   ⟨stD id, _, _, (Reg.TCFG 0), 0, _, 0, granted_fw (by decide), by decide⟩,
   ⟨stD id, _, _, (Reg.GQ 0), 0, _, 0, granted_fw (by decide), by decide⟩,
   ⟨stD id, _, _, Reg.DMA_OWN0, 0, _, granted_fw (by decide), by decide⟩,
   ⟨stD id, _, _, Reg.TEN_RESET, 0, _, granted_fw (by decide), by decide⟩,
   ⟨stD id, _, _, (Reg.PG_CTL (2 + 0)), 2, _, 0, granted_fw (by decide), by decide, by decide⟩,
   ⟨stD id, _, _, Reg.BOOK_SNAP, 1, _, granted_fw (by decide), by decide, by decide⟩,
   ⟨stD id, _, _, Reg.BOOK_SNAP, 0, _, granted_fw (by decide), by decide, by decide⟩,
   ⟨stD id, _, _, (Reg.TQ_SNAP 0), 1, _, 0, granted_fw (by decide), by decide, by decide⟩⟩

/-- A state and operands for every clause of `Obligations.TenantEventsTakeEffect`. -/
theorem wit_TenantEventsTakeEffect :
  (∃ (s : State) (c : Fin 16) (b : _), (s.dev.chan c.val).pend = some b ∧ s.dev.frameHeld c.val = false) ∧
  (∃ (s : State) (k : Fin 8), (s.dev.ten k.val).state = .resetting ∧ s.dev.outstanding k.val = []) ∧
  (∃ (s : State) (k : Fin 8), (s.dev.ten k.val).state = .opened ∧ s.dev.get (Reg.TCFG_KEEPALIVE k.val) ≠ 0 ∧
      (s.dev.ten k.val).keepFrom + s.dev.get (Reg.TCFG_KEEPALIVE k.val) * 100000 ≤ s.dev.now) ∧
  (∃ (s : State) (t : _) (x : _), s.dev.globalSnap = some (t, x) ∧ t + 10000 ≤ s.dev.now) ∧
  (∃ (s : State) (w : Fin 9) (t : _) (x : _), w.val ≠ 8 ∧ s.dev.tqSnaps.getD w.val none = some (t, x) ∧ t + 10000 ≤ s.dev.now) :=
  ⟨⟨stD (fun d => let d : Dev := d.modChan 0 (fun x => { x with pend := some (some 3) }); d), 0, _, rfl, by decide⟩,
   ⟨stD (fun d => let d : Dev := d.modTen 0 (fun t => { t with state := .resetting }); d), 0, by decide, by decide⟩,
   ⟨stD (fun d => { ((wTen 0 id d).set (Reg.TCFG_KEEPALIVE 0) 1) with now := 1000000000 }), 0, by decide, by decide, by decide⟩,
   ⟨stD (fun d => let d : Dev := { d with globalSnap := some (0, []) }; { d with now := 1000000000 }), _, _, rfl, by decide⟩,
   ⟨stD (fun d => let d : Dev := { d with tqSnaps := [some (0, [])] }; { d with now := 1000000000 }), 0, _, _, by decide, rfl,
      by decide⟩⟩

/-- A state and operands for every clause of `Obligations.SchedulersAndAllocator`. -/
theorem wit_SchedulersAndAllocator :
  (∃ (s : State) (k : _) (n : _) (x : _), s.dev.laserMay = true ∧
      schedPick (fun k => (s.dev.ten k).state == .opened && s.dev.get (Reg.TCFG_WEIGHT_L k) != 0 && (s.dev.oldestSheet k).isSome) (fun k
      => s.dev.get (Reg.TCFG_WEIGHT_L k)) s.dev.laserSched = some (k, n) ∧ s.dev.oldestSheet k = some x) ∧
  (∃ (s : State) (k : _) (n : _) (j : _), s.dev.thermalMay = true ∧
      schedPick (fun k => (s.dev.ten k).state == .opened && s.dev.get (Reg.TCFG_WEIGHT_T k) != 0 && (s.dev.oldestReceipt k).isSome) (fun k
      => s.dev.get (Reg.TCFG_WEIGHT_T k)) s.dev.thermalSched = some (k, n) ∧ s.dev.oldestReceipt k = some j ∧ s.dev.seqRuns 1 = false) ∧
  (∃ (s : State) (k : Fin 8) (epoch : _) (job : _) (index : _) (band : _),
    let r : GReq := ⟨0, k.val, epoch, job, index, band, s.dev.now, false⟩
    let d : Dev := { s.dev with galReqs := [r] }
    s.dev.galReqs = [] ∧ s.dev.reqValid r = true ∧ s.dev.reqHeld r = false ∧ d.mayGrant k.val (d.reqUnits r) (d.unitCount .free) = true) :=
  ⟨⟨stD (fun d =>
      ((((((let d : Dev := wTen 1 (fun t => { t with jobs := [wJob] }) (wSh (fun x => { x with epoch := 1 }) d); d : Dev).setLas
      LasSt.ready).set (Reg.TCFG_WEIGHT_L 1) 1).set Reg.CK_SYS_STAT_SW_STATE 0).set Reg.BG_STAT_HOLD_L 0).set Reg.PT_SNS_STAT_OCC 1)), 1,
      _, _, by decide, rfl, rfl⟩,
   ⟨stD (fun d => (((let d : Dev := wTen 1 (fun t => { t with jobs := [{ wJob with thermal := true }] }) d; d : Dev).setThm ThmSt.idle
      0).set (Reg.TCFG_WEIGHT_T 1) 1)), 1, _, _, by decide, rfl, rfl, by decide⟩,
   ⟨stD (fun d => ((let d : Dev := wSh (fun x => { x with state := .held }) d; d : Dev).setReg (Reg.GQ 1) 0x60)), 1, 0, 1, 0, 0,
      by decide, by decide, by decide, by decide⟩⟩

/-- A state and operands for every clause of `Obligations.UsbCommandsTakeEffect`. -/
theorem wit_UsbCommandsTakeEffect :
  (∃ (s : State), s.dev.get Reg.USB_STAT_SPEED ≠ 0) ∧
  (∃ (s : State), s.dev.flag Reg.USB_STAT_SUSPENDED = true ∧ s.dev.flag Reg.USB_CTL_RWAKE_EN = true ∧ s.dev.ports.usbWake = true ∧
      s.dev.statusReport ≠ s.dev.ports.usbLast) ∧
  (∃ (s : State), s.dev.get Reg.USB_STAT_SPEED = 2 ∧ s.dev.usbXo = false) ∧
  (∃ (s : State) (l : Land) (ag : _) (a : _) (v : Word) (d : Dev), s.dev.granted l = some (ag, a, v, d) ∧ a = Reg.USB_CTL ∧
      bit v.toNat 1 = true) ∧
  (∃ (s : State), s.dev.flag Reg.USB_CTL_ATTACH = true ∧ s.dev.get Reg.USB_STAT_SPEED = 0 ∧ (s.dev.clk.xoSeen = true ∨
      s.dev.get Reg.CK_SRC_STAT_REFIN = 2)) ∧
  (∃ (s : State), s.dev.get Reg.USB_STAT_SPEED ≠ 0 ∧ s.dev.flag Reg.USB_STAT_SUSPENDED = false ∧
      s.dev.statusReport ≠ s.dev.ports.usbLast) ∧
  (∃ (s : State), s.dev.prnOn = true) ∧
  (∃ (s : State), s.dev.flag Reg.USB_CTL_PRN_EN = true) ∧
  (∃ (s : State) (k : _) (a : _) (bytes : List Byte), s.dev.get Reg.USB_STAT_SPEED ≠ 0 ∧ s.dev.pathTen 15 = some k ∧
      vendorOk a bytes.length = true ∧ bytes.length / 4 ≤ s.dev.brRoom k ∧ s.dev.ports.wbuf = []) ∧
  (∃ (s : State) (k : _) (a : _) (len : Nat), s.dev.get Reg.USB_STAT_SPEED ≠ 0 ∧ s.dev.pathTen 15 = some k ∧ vendorOk a len = true ∧
      (readAddrs a (len / 4)).all (s.dev.readOk k) = true ∧ (readAddrs a (len / 4)).all (s.dev.readReady k) = true) ∧
  (∃ (s : State), s.dev.get Reg.USB_STAT_SPEED ≠ 0 ∧ s.dev.regPorts = true) :=
  ⟨⟨stD (fun d => (d.set Reg.USB_STAT_SPEED 1)), by decide⟩,
   ⟨stD (fun d =>
      let d : Dev := { d with ports := { d.ports with usbLast := [1] } }; ((({ d with ports := { d.ports with usbWake := true } } : Dev).set Reg.USB_STAT_SUSPENDED 1).set Reg.USB_CTL_RWAKE_EN 1)),
      by decide, by decide, by decide, by decide⟩,
   ⟨stD (fun d => (d.set Reg.USB_STAT_SPEED 2)), by decide, by decide⟩,
   ⟨stD id, _, _, Reg.USB_CTL, 2, _, granted_fw (by decide), by decide, by decide⟩,
   ⟨stD (fun d => ((((d.set Reg.USB_CTL_ATTACH 1).set Reg.USB_STAT_SPEED 0) : Dev).set Reg.CK_SRC_STAT_REFIN 2)), by decide, by decide,
      by decide⟩,
   ⟨stD (fun d =>
      let d : Dev := { d with ports := { d.ports with usbLast := [1] } }; ((d.set Reg.USB_STAT_SPEED 1).set Reg.USB_STAT_SUSPENDED 0)),
      by decide, by decide, by decide⟩,
   ⟨stD (fun d => (((d : Dev).set Reg.USB_CTL_PRN_EN 1).set Reg.USB_STAT_SPEED 1)), by decide⟩,
   ⟨stD (fun d => (d.set Reg.USB_CTL_PRN_EN 1)), by decide⟩,
   ⟨stD (fun d => (((d.set Reg.USB_STAT_SPEED 1) : Dev).setDev DevSt.nominal)), 0, 0, [1, 2, 3, 4], by decide, by decide, by decide,
      by decide, by decide⟩,
   ⟨stD (fun d => (((d.set Reg.USB_STAT_SPEED 1) : Dev).setDev DevSt.nominal)), 0, 0x40000000, 4, by decide, by decide, by decide,
      by decide, by decide⟩,
   ⟨stD (fun d => (((d.set Reg.USB_STAT_SPEED 1) : Dev).setDev DevSt.nominal)), by decide, by decide⟩⟩

/-- A state and operands for every clause of `Obligations.SpiCommandsTakeEffect`. -/
theorem wit_SpiCommandsTakeEffect :
  (∃ (s : State) (k : _) (quad : Bool) (mosi : List Byte), s.dev.ports.spiCmd = 0 ∧ s.dev.regPorts = true ∧
      (s.dev.chan 8).bind = some k ∧ 4 ≤ mosi.length ∧ s.dev.quadOk quad = true) ∧
  (∃ (s : State) (k : _) (quad : Bool) (mosi : List Byte), s.dev.ports.spiCmd = 0 ∧ s.dev.regPorts = true ∧ 4 ≤ mosi.length ∧
      (s.dev.chan 8).bind = some k ∧ s.dev.quadOk quad = true) ∧
  (∃ (s : State) (k : _), s.dev.ports.spiCmd = 0 ∧ s.dev.regPorts = true ∧ (s.dev.chan 8).bind = some k) ∧
  (∃ (s : State) (k : _) (c : Fin 256), s.dev.ports.spiCmd = 0 ∧ s.dev.regPorts = true ∧ (c.val % 128 = 0 ∨ 5 < c.val % 128) ∧
      (s.dev.chan 8).bind = some k) ∧
  (∃ (s : State), s.dev.ports.spiCmd ≠ 0) :=
  ⟨⟨stD (fun d => let d : Dev := (d.setDev DevSt.nominal); { d with ports := { d.ports with spiCmd := 0 } }), 0, false, [0, 0, 0, 0],
      by decide, by decide, by decide, by decide, by decide⟩,
   ⟨stD (fun d => let d : Dev := (d.setDev DevSt.nominal); { d with ports := { d.ports with spiCmd := 0 } }), 0, false, [0, 0, 0, 0],
      by decide, by decide, by decide, by decide, by decide⟩,
   ⟨stD (fun d => let d : Dev := (d.setDev DevSt.nominal); { d with ports := { d.ports with spiCmd := 0 } }), 0, by decide, by decide,
      by decide⟩,
   ⟨stD (fun d => let d : Dev := (d.setDev DevSt.nominal); { d with ports := { d.ports with spiCmd := 0 } }), 0, 0, by decide,
      by decide, by decide, by decide⟩,
   ⟨stD (fun d => let d : Dev := { d with ports := { d.ports with spiCmd := 5 } }; d), by decide⟩⟩

/-- A state and operands for every clause of `Obligations.FramePortsTakeEffect`. -/
theorem wit_FramePortsTakeEffect :
  (∃ (s : State) (c : Fin 16) (k : _) (r : _), (s.dev.chan c.val).bind = some k ∧ s.dev.sendOpen c.val = true ∧
      s.dev.sendIdle c.val = true ∧ (s.dev.chan c.val).notices = [] ∧ (s.dev.ten k).tags = false ∧
      (s.dev.ten k).respQ.find? (fun r => s.dev.respChan k r == c.val) = some r) ∧
  (∃ (s : State) (c : Fin 16) (k : _) (n : _) (rest : _), (s.dev.chan c.val).bind = some k ∧ (s.dev.chan c.val).notices = n :: rest ∧
      s.dev.sendOpen c.val = true ∧ s.dev.sendIdle c.val = true ∧ (s.dev.ten k).tags = false) ∧
  (∃ (s : State) (u : Fin 2), s.dev.flag (Reg.UART_CFG_FRAME_GAP u.val) = true ∧ (0 < (s.dev.chan (9 + u.val)).skip ∨
      (s.dev.chan (9 + u.val)).rx ≠ [])) ∧
  (∃ (s : State) (u : Fin 2), s.dev.flag (Reg.UART_CFG_RS485 u.val) = true ∧ (s.dev.chan (9 + u.val)).out ≠ [] ∧
      s.dev.ports.collisions.getD u.val 0 + 1 < 8) ∧
  (∃ (s : State) (u : Fin 2), s.dev.flag (Reg.UART_CFG_RS485 u.val) = true ∧ (s.dev.chan (9 + u.val)).out ≠ [] ∧
      8 ≤ s.dev.ports.collisions.getD u.val 0 + 1) ∧
  (∃ (s : State) (st : Fin 4) (k : _), s.dev.ports.canRx.getD st.val false = true ∧ (s.dev.chan (11 + st.val)).bind = some k ∧
    let d := s.dev.modChan (11 + st.val) (fun x => { x with rx := [] })
    let e : Dev := { d with ports := { d.ports with canRx := lmod d.ports.canRx st.val (fun _ => false) } }
    (e.chan (11 + st.val)).bind = some k) ∧
  (∃ (s : State) (st : Fin 4), s.dev.ports.canTx.getD st.val 0 ≠ 0) ∧
  (∃ (s : State), s.dev.ports.canBusOff = false) ∧
  (∃ (s : State) (l : Land) (ag : _) (a : _) (v : Word) (d : Dev), s.dev.granted l = some (ag, a, v, d) ∧ a = Reg.CAN_CTL ∧
      bit v.toNat 5 = true ∧ (d.store a v.toNat).ports.canBusOff = true) ∧
  (∃ (s : State), s.dev.ports.canBusOff = true ∧ (s.dev.flag Reg.CAN_CTL_AUTO_BOR = true ∨ s.dev.ports.canRecover = true)) :=
  ⟨⟨stD (fun d =>
      ((((let d : Dev := wBind 1 1 (wTen 1 (fun t => { t with lastCh := 1, respQ := [⟨1, 2, 3, 4, false, [], 0, 0⟩] }) d); d : Dev).setDev
      DevSt.nominal).set Reg.USB_STAT_SPEED 2).set Reg.USB_CTL_PAIRS 2)), 1, 1, _, by decide, by decide, by decide, by decide, by decide,
      rfl⟩,
   ⟨stD (fun d =>
      ((((let d : Dev := (wBind 1 1 (wTen 1 id d)).modChan 1 (fun x => { x with notices := [⟨1, 2, 3, 4⟩] }); d : Dev).setDev
      DevSt.nominal).set Reg.USB_STAT_SPEED 2).set Reg.USB_CTL_PAIRS 2)), 1, 1, _, _, by decide, rfl, by decide, by decide, by decide⟩,
   ⟨stD (fun d => (((d.set (Reg.UART_CFG_FRAME_GAP 0) 1) : Dev).modChan 9 (fun x => { x with rx := [(1, false)] }))), 0, by decide,
      by decide⟩,
   ⟨stD (fun d => (((d.set (Reg.UART_CFG_RS485 0) 1) : Dev).modChan 9 (fun x => { x with out := [(true, [1])] }))), 0, by decide,
      by decide, by decide⟩,
   ⟨stD (fun d =>
      ((let d : Dev := { d with ports := { d.ports with collisions := [7] } }; (d.set (Reg.UART_CFG_RS485 0) 1) : Dev).modChan 9 (fun x =>
      { x with out := [(true, [1])] }))), 0, by decide, by decide, by decide⟩,
   ⟨stD (fun d => let d : Dev := wBind 11 1 { d with ports := { d.ports with canRx := [true] } }; d), 0, 1, by decide, by decide,
      by decide⟩,
   ⟨stD (fun d => let d : Dev := { d with ports := { d.ports with canTx := [1] } }; d), 0, by decide⟩,
   ⟨stD (fun d => { d with ports := { d.ports with canBusOff := false } }), by decide⟩,
   ⟨stD (fun d => let d : Dev := { d with ports := { d.ports with canBusOff := true } }; d), _, _, Reg.CAN_CTL, 32, _,
      granted_fw (by decide), by decide, by decide, by decide⟩,
   ⟨stD (fun d => (({ d with ports := { d.ports with canBusOff := true } } : Dev).set Reg.CAN_CTL_AUTO_BOR 1)), by decide, by decide⟩⟩

/-- A state and operands for every clause of `Obligations.SessionAndJobCommandsTakeEffect`. -/
theorem wit_SessionAndJobCommandsTakeEffect :
  (∃ (s : State) (k : Fin 8) (f : Frame), s.dev.accepts k.val 0x0001 f (sessionForm s.dev f) ∧ s.dev.sessionPre k.val f = 0) ∧
  (∃ (s : State) (k : Fin 8) (f : Frame), s.dev.accepts k.val 0x0002 f (lenIs 0 s.dev f) ∧ (s.dev.ten k.val).jobs = []) ∧
  (∃ (s : State) (k : Fin 8) (f : Frame), s.dev.accepts k.val 0x0003 f (f.len ≤ 8)) ∧
  (∃ (s : State) (k : Fin 8) (f : Frame), s.dev.accepts k.val 0x0004 f (lenIs 0 s.dev f) ∧
      ((s.dev.began k.val f).ten k.val).state = .opened) ∧
  (∃ (s : State) (k : Fin 8) (f : Frame), s.dev.accepts k.val 0x0101 f (jobForm s.dev f) ∧ s.dev.lacks (f.b 0) = false ∧
      (s.dev.ten k.val).jobs.length < s.dev.jobMax k.val) ∧
  (∃ (s : State) (k : Fin 8) (f : Frame) (j : _), s.dev.accepts k.val 0x0102 f (sheetForm s.dev f) ∧ s.dev.sheetPre k.val f = 0 ∧
      (s.dev.began k.val f).job? k.val (f.h 0) = some j) ∧
  (∃ (s : State) (k : Fin 8) (exts : _) (f : Frame) (x : _) (y : _),
      s.dev.accepts k.val 0x0103 f (8 ≤ f.len && f.len ≤ 65536 && f.b 5 / 2 == 0 && f.zero 6 7) ∧ s.dev.dataStream k.val f = .ok x ∧
      s.dev.spoolCheck k.val x (f.len - 8) = 0 ∧ s.dev.chainFeeds k.val (f.h 0) (f.h 2) (f.b 4) = false ∧
      s.dev.extsFit x (x.len + (f.len - 8)) exts = true ∧ (s.dev.began k.val f).dataStream k.val f = .ok y) ∧
  (∃ (s : State) (k : Fin 8) (exts : _) (f : Frame) (x : _) (y : _),
      s.dev.accepts k.val 0x0104 f (f.len == 12 && f.zero 6 7 && 4 ≤ f.b 5 && f.b 5 ≤ 15 && 1 ≤ f.w 8 && f.w 8 ≤ 2 ^ 26) ∧
      s.dev.dmaPre k.val f = 0 ∧ s.dev.dataStream k.val f = .ok x ∧ s.dev.extsFit x (x.len + f.w 8) exts = true ∧
      (s.dev.began k.val f).dataStream k.val f = .ok y) ∧
  (∃ (s : State) (c : Fin 16) (h : _) (x : _), (s.dev.dch c.val).chain = some h ∧ h.ended = true ∧ h.answered = false ∧
    let d := s.dev.modDch c.val (fun x => { x with chain := some { h with answered := true } })
    d.deferred? h.ten 0x0104 = some x ∧ x.seq = h.seq ∧ (d.ten h.ten).epoch = h.epoch) ∧
  (∃ (s : State) (k : Fin 8) (f : Frame) (j : _), s.dev.accepts k.val 0x0105 f (jobEndForm s.dev f) ∧
      s.dev.jobPre k.val f (f.b 2) = 0 ∧ (s.dev.began k.val f).job? k.val (f.h 0) = some j ∧ j.state = 0 ∧
    let d := ((s.dev.began k.val f).answer k.val f St.ok []).modJob k.val (f.h 0) (fun x => { x with state := 1, cut := f.b 2 })
    (d.rcptIs k.val (f.h 0) && d.head.waiting) = false) ∧
  (∃ (s : State) (k : Fin 8) (f : Frame), s.dev.accepts k.val 0x0106 f (f.len == 4 && f.zero 2 3) ∧ s.dev.jobPre k.val f 0 = 0 ∧
    let d := s.dev.began k.val f
    let e := (d.cancelJob k.val (f.h 0)).answer k.val f St.ok (d.cancelCounts k.val (f.h 0))
    e.rcptIs k.val (f.h 0) = false) ∧
  (∃ (s : State) (k : Fin 8) (f : Frame) (j : _), s.dev.accepts k.val 0x0107 f (lenIs 2 s.dev f) ∧ s.dev.jobPre k.val f 0 = 0 ∧
      (s.dev.began k.val f).job? k.val (f.h 0) = some j) :=
  ⟨⟨stD (fun d => let d : Dev := wCmd 1 (wF 1 [1,0,0,0,0,0,0,0]) d; d), 1, (wF 1 [1,0,0,0,0,0,0,0]), acc (by decide), by decide⟩,
   ⟨stD (fun d => let d : Dev := wCmd 1 (wF 2 []) (wTen 1 (id) (d)); d), 1, (wF 2 []), acc (by decide), by decide⟩,
   ⟨stD (fun d => let d : Dev := wCmd 1 (wF 3 [1,2,3,4,5,6,7,8]) (wTen 1 (id) (d)); d), 1, (wF 3 [1,2,3,4,5,6,7,8]), acc (by decide)⟩,
   ⟨stD (fun d => let d : Dev := wCmd 1 (wF 4 []) (wTen 1 (id) (d)); d), 1, (wF 4 []), acc (by decide), by decide⟩,
   ⟨stD (fun d => let d : Dev := wCmd 1 (wF 257 [0,0,1,0,8,0,0,0,0,0,0,0,0,0,0,0]) (wTen 1 (id) (d)); d), 1,
      (wF 257 [0,0,1,0,8,0,0,0,0,0,0,0,0,0,0,0]), acc (by decide), by decide, by decide⟩,
   ⟨stD (fun d =>
      let d : Dev := wCmd 1 (wF 258 ([1,0,0,0,0xE8,3,0,0,1,0,0,0,0,0,0,0] ++ [4,0,0,0,1,0,0,0] ++ zeros 24)) (wTen 1 (fun t => { t with jobs := [{ wJob with defined := 0 }] }) (d)); d),
      1, (wF 258 ([1,0,0,0,0xE8,3,0,0,1,0,0,0,0,0,0,0] ++ [4,0,0,0,1,0,0,0] ++ zeros 24)), _, acc (by decide), by decide, rfl⟩,
   ⟨stD (fun d =>
      (((let d : Dev := wCmd 1 (wF 259 [1,0,0,0,0,0,0,0]) (wTen 1 (fun t => { t with jobs := [wJob] }) (wSh (fun x => { x with epoch := 1, layers := [⟨2, 0, true, false, 0, 0⟩] }) d)); d : Dev).set
      Reg.XSPI_STAT_CS0_MODE 2).setReg Reg.CS0_SIZE 0x800000)), 1, [], (wF 259 [1,0,0,0,0,0,0,0]), _, _, acc (by decide), rfl, by decide,
      by decide, by decide, rfl⟩,
   ⟨stD (fun d =>
      (((let d : Dev := wCmd 1 (wF 260 [1,0,0,0,0,4,0,0,1,0,0,0]) (wTen 1 (fun t => { t with jobs := [wJob] }) ({ (wSh (fun x => { x with epoch := 1, layers := [⟨2, 0, true, false, 0, 0⟩] }) d) with dmaOwner := List.replicate 16 1 })); d : Dev).set
      Reg.XSPI_STAT_CS0_MODE 2).setReg Reg.CS0_SIZE 0x800000)), 1, [0x60000000], (wF 260 [1,0,0,0,0,4,0,0,1,0,0,0]), _, _,
      acc (by decide), by decide, rfl, by decide, rfl⟩,
   ⟨stD (fun d =>
      let d : Dev := wTen 1 (fun t => { t with deferred := [⟨0x104, 5, 1, [], []⟩] }) (d.modDch 0 (fun x => { x with chain := some ⟨1, 1, 5, 1, 0, 0, 0, 0, 0, 0, true, false, false, [], []⟩ })); d),
      0, _, _, rfl, by decide, by decide, rfl, by decide, by decide⟩,
   ⟨stD (fun d => let d : Dev := wCmd 1 (wF 261 [1,0,0,0]) (wTen 1 (fun t => { t with jobs := [wJob] }) (d)); d), 1,
      (wF 261 [1,0,0,0]), _, acc (by decide), by decide, rfl, by decide, by decide⟩,
   ⟨stD (fun d => let d : Dev := wCmd 1 (wF 262 [1,0,0,0]) (wTen 1 (fun t => { t with jobs := [wJob] }) (d)); d), 1,
      (wF 262 [1,0,0,0]), acc (by decide), by decide, by decide⟩,
   ⟨stD (fun d => let d : Dev := wCmd 1 (wF 263 [1,0]) (wTen 1 (fun t => { t with jobs := [wJob] }) (d)); d), 1, (wF 263 [1,0]), _,
      acc (by decide), by decide, rfl⟩⟩

/-- A state and operands for every clause of `Obligations.FormAndEngineCommandsTakeEffect`. -/
theorem wit_FormAndEngineCommandsTakeEffect :
  (∃ (s : State) (k : Fin 8) (f : Frame) (p : _), s.dev.accepts k.val 0x0201 f (12 ≤ f.len && f.b 2 / 8 == 0 && [1, 2,
      4].contains (f.b 3) && f.h 4 % 8 == 0 && 8 ≤ f.h 4 && f.h 4 ≤ 5120 && f.b 6 ≤ 3 && f.b 7 == 0) ∧
      (bit (f.h 0) 15 && k.val != 0) = false ∧ (s.dev.began k.val f).formGoesOn k.val f = some p ∧
      (p.data ++ f.payload.drop 12).length ≤ 4194304 ∧ bit (f.b 2) 1 = false) ∧
  (∃ (s : State) (k : Fin 8) (base : _) (x : _) (p : _), s.dev.deferred? k.val 0x0201 = some x ∧
      (s.dev.ten k.val).formParts.find? (·.last) = some p ∧ (p.encode = false ∨ p.rawBands ≤ p.blocks.length) ∧
      s.dev.formQuota k.val p.id p.blocks.flatten.length = false ∧ s.dev.formPlaceOk base p.blocks.flatten.length = true) ∧
  (∃ (s : State) (k : Fin 8) (f : Frame), s.dev.accepts k.val 0x0202 f (f.len == 4 && f.zero 2 3) ∧
      (bit (f.h 0) 15 && k.val != 0) = false ∧ (s.dev.formSeen k.val (f.h 0)).isNone = false ∧ s.dev.formInUse k.val (f.h 0) = false) ∧
  (∃ (s : State) (k : Fin 8) (f : Frame), s.dev.accepts k.val 0x0203 f (lenIs 0 s.dev f) ∧ (s.dev.began k.val f).formArea.2 ≠ 0) ∧
  (∃ (s : State) (k : Fin 8) (f : Frame), s.dev.accepts k.val 0x0301 f (f.len == 4 && f.h 0 ≤ 4000 && f.b 2 ≤ 2 && f.b 3 == 0) ∧
      s.dev.feedPre k.val = 0) ∧
  (∃ (s : State) (k : _), s.dev.head.job = .feed k ∧ s.dev.head.feedLeft = 0 ∧ s.dev.head.cutKind = 0 ∧ (s.dev.ax 2).vel = 0) ∧
  (∃ (s : State) (k : Fin 8) (f : Frame), s.dev.accepts k.val 0x0302 f (engineForm s.dev f) ∧ f.b 1 = 1 ∧ s.dev.lacks 0 = false ∧
      ((s.dev.began k.val f).laserState = LasSt.cold ∨ (s.dev.began k.val f).laserState = LasSt.cooling)) ∧
  (∃ (s : State) (k : Fin 8) (f : Frame), s.dev.accepts k.val 0x0302 f (engineForm s.dev f) ∧ f.b 1 = 2 ∧ s.dev.lacks 0 = false ∧
      s.dev.pathEmpty = true ∧ s.dev.anyQueued = false ∧ (s.dev.began k.val f).laserState = LasSt.ready) ∧
  (∃ (s : State) (k : Fin 8) (f : Frame), s.dev.accepts k.val 0x0401 f (f.len == 4 && 1 ≤ f.b 0 && f.b 0 ≤ 4 && f.b 1 / 2 == 0 &&
      f.zero 2 3) ∧ s.dev.calPre k.val (f.b 0) f = 0 ∧ f.b 0 = 1) ∧
  (∃ (s : State) (k : Fin 8) (f : Frame), s.dev.accepts k.val 0x0401 f (f.len == 4 && 1 ≤ f.b 0 && f.b 0 ≤ 4 && f.b 1 / 2 == 0 &&
      f.zero 2 3) ∧ s.dev.calPre k.val (f.b 0) f = 0 ∧ f.b 0 = 2) ∧
  (∃ (s : State) (k : Fin 8) (f : Frame), s.dev.accepts k.val 0x0401 f (f.len == 4 && 1 ≤ f.b 0 && f.b 0 ≤ 4 && f.b 1 / 2 == 0 &&
      f.zero 2 3) ∧ s.dev.calPre k.val (f.b 0) f = 0 ∧ f.b 0 = 3) ∧
  (∃ (s : State) (k : Fin 8) (f : Frame), s.dev.accepts k.val 0x0401 f (f.len == 4 && 1 ≤ f.b 0 && f.b 0 ≤ 4 && f.b 1 / 2 == 0 &&
      f.zero 2 3) ∧ s.dev.calPre k.val (f.b 0) f = 0 ∧ f.b 0 = 4) ∧
  (∃ (s : State) (k : _), s.dev.bg.cal = some (3, k) ∧ s.dev.get Reg.HL_STAT_STATE ≠ 2 ∧ s.dev.hold.result = 1) ∧
  (∃ (s : State) (k : _), s.dev.bg.cal = some (1, k) ∧ s.dev.flag Reg.FT_STAT_VALID = true ∧ s.dev.flag Reg.FT_STAT_LEN_VALID = true) :=
  ⟨⟨stD (fun d => let d : Dev := wCmd 1 (wF 513 [1,0,1,1,8,0,0,0,0,0,0,0]) (wTen 1 (id) (d)); d), 1,
      (wF 513 [1,0,1,1,8,0,0,0,0,0,0,0]), _, acc (by decide), by decide, rfl, by decide, by decide⟩,
   ⟨stD (fun d =>
      ((((let d : Dev := wTen 1 (fun t => { t with deferred := [⟨0x201, 5, 1, [], []⟩], formParts := [⟨1, false, 1, 8, 0, [], [], true⟩] }) d; d : Dev).set
      Reg.XSPI_STAT_CS1_MODE 2).setReg Reg.CS1_SIZE 0x4000000).setReg Reg.NOR_FORMS 0x100000)), 1, 0x70100000, _, _, rfl, rfl, by decide,
      by decide, by decide⟩,
   ⟨stD (fun d =>
      ((((let d : Dev := wCmd 1 (wF 514 [1,0,0,0]) (wTen 1 (id) ({ d with forms := [⟨1, 1, 1, 32, 64, 0x70000000, []⟩] })); d : Dev).set
      Reg.XSPI_STAT_CS1_MODE 2).setReg Reg.CS1_SIZE 0x4000000).setReg Reg.NOR_FORMS 0x100000)), 1, (wF 514 [1,0,0,0]), acc (by decide),
      by decide, by decide, by decide⟩,
   ⟨stD (fun d => ((((let d : Dev := wCmd 1 (wF 515 []) (wTen 1 (id) (d)); d : Dev).set Reg.XSPI_STAT_CS1_MODE 2).setReg Reg.CS1_SIZE
      0x4000000).setReg Reg.NOR_FORMS 0x100000)), 1, (wF 515 []), acc (by decide), by decide⟩,
   ⟨stD (fun d => ((let d : Dev := wCmd 1 (wF 769 [1,0,0,0]) (wTen 1 (id) (d)); d : Dev).setThm ThmSt.idle 0)), 1, (wF 769 [1,0,0,0]),
      acc (by decide), by decide⟩,
   ⟨stD (fun d => d.modHead (fun h => { h with job := .feed 1, feedLeft := 0, cutKind := 0 })), 1, by decide, by decide, by decide,
      by decide⟩,
   ⟨stD (fun d => ((let d : Dev := wCmd 0 (wF 770 [0,1,0,0]) (wTen 0 (id) (d)); d : Dev).setLas LasSt.cold)), 0, (wF 770 [0,1,0,0]),
      acc (by decide), by decide, by decide, by decide⟩,
   ⟨stD (fun d => ((let d : Dev := wCmd 0 (wF 770 [0,2,0,0]) (wTen 0 (id) (d)); d : Dev).setLas LasSt.ready)), 0, (wF 770 [0,2,0,0]),
      acc (by decide), by decide, by decide, by decide, by decide, by decide⟩,
   ⟨stD (fun d => let d : Dev := wCmd 0 (wF 1025 [1,1,0,0]) (wTen 0 (id) (d)); d), 0, (wF 1025 [1,1,0,0]), acc (by decide), by decide,
      by decide⟩,
   ⟨stD (fun d => let d : Dev := wCmd 0 (wF 1025 [2,1,0,0]) (wTen 0 (id) (d)); d), 0, (wF 1025 [2,1,0,0]), acc (by decide), by decide,
      by decide⟩,
   ⟨stD (fun d => let d : Dev := wCmd 0 (wF 1025 [3,1,0,0]) (wTen 0 (id) (d)); d), 0, (wF 1025 [3,1,0,0]), acc (by decide), by decide,
      by decide⟩,
   ⟨stD (fun d => let d : Dev := wCmd 0 (wF 1025 [4,1,0,0]) (wTen 0 (id) (d)); d), 0, (wF 1025 [4,1,0,0]), acc (by decide), by decide,
      by decide⟩,
   ⟨stD (fun d =>
      let d : Dev := { d with bg := { d.bg with cal := some (3, 1) }, hold := { d.hold with result := 1 } }; { d with hold := { d.hold with result := 1 } }),
      1, by decide, by decide, by decide⟩,
   ⟨stD (fun d =>
      let d : Dev := { d with bg := { d.bg with cal := some (1, 1) } }; ((d.set Reg.FT_STAT_VALID 1).set Reg.FT_STAT_LEN_VALID 1)), 1,
      by decide, by decide, by decide⟩⟩

/-- A state and operands for every clause of `Obligations.ReadingCommandsTakeEffect`. -/
theorem wit_ReadingCommandsTakeEffect :
  (∃ (s : State) (k : Fin 8) (f : Frame), s.dev.accepts k.val 0x0501 f (f.len == 4 && 1 ≤ f.b 2 && f.b 2 ≤ 64 && f.b 3 == 0 && f.h 0 +
      f.b 2 ≤ 24)) ∧
  (∃ (s : State) (k : Fin 8) (f : Frame), s.dev.accepts k.val 0x0502 f (f.len == 20 && f.b 16 ≤ 2 && f.zero 17 19) ∧
      s.dev.canDefer k.val 0x0502 = true) ∧
  (∃ (s : State) (k : Fin 8) (x : _), s.dev.deferred? k.val 0x0502 = some x) ∧
  (∃ (s : State) (k : Fin 8) (f : Frame), s.dev.accepts k.val 0x0601 f (f.len == 8 && 1 ≤ f.b 4 && f.b 4 ≤ 64 && f.zero 5 7)) ∧
  (∃ (s : State) (k : Fin 8) (f : Frame), s.dev.accepts k.val 0x0602 f (f.len == 4 && f.b 0 ≤ 7 && f.zero 1 3)) ∧
  (∃ (s : State) (k : Fin 8) (f : Frame), s.dev.accepts k.val 0x0701 f (f.len == 8 && regHead f) ∧
      s.dev.canDefer k.val 0x0701 = true ∧ (readAddrs (f.w 0) (f.b 4)).all (s.dev.readOk k.val) = true ∧
    let d := s.dev.began k.val f
    (readAddrs (f.w 0) (f.b 4)).all (d.readReady k.val) = true) ∧
  (∃ (s : State) (k : Fin 8) (x : _), s.dev.deferred? k.val 0x0701 = some x ∧ x.args.getD 2 0 ≤ (s.dev.br k.val).done ∧
      (readAddrs (x.args.getD 0 0) (x.args.getD 1 0)).all s.dev.answers = true) ∧
  (∃ (s : State) (k : Fin 8) (f : Frame), s.dev.accepts k.val 0x0702 f (8 ≤ f.len && regHead f && f.len == 8 + 4 * f.b 4) ∧
      f.b 4 ≤ s.dev.brRoom k.val ∧ s.dev.ports.wbuf = []) ∧
  (∃ (s : State) (k : Fin 8) (f : Frame), s.dev.accepts k.val 0x0703 f (lenIs 0 s.dev f) ∧ s.dev.canDefer k.val 0x0703 = true ∧
    let d := s.dev.began k.val f
    d.outstanding k.val = []) ∧
  (∃ (s : State) (k : Fin 8) (f : Frame), s.dev.accepts k.val 0x0703 f (lenIs 0 s.dev f) ∧ s.dev.canDefer k.val 0x0703 = true ∧
    let d := s.dev.began k.val f
    d.outstanding k.val ≠ []) :=
  ⟨⟨stD (fun d => let d : Dev := wCmd 1 (wF 1281 [0,0,24,0]) (wTen 1 (id) (d)); d), 1, (wF 1281 [0,0,24,0]), acc (by decide)⟩,
   ⟨stD (fun d => let d : Dev := wCmd 1 (wF 1282 (zeros 20)) (wTen 1 (id) (d)); d), 1, (wF 1282 (zeros 20)), acc (by decide),
      by decide⟩,
   ⟨stD (fun d => let d : Dev := wTen 1 (fun t => { t with deferred := [⟨0x502, 5, 1, [], []⟩] }) d; d), 1, _, rfl⟩,
   ⟨stD (fun d => let d : Dev := wCmd 1 (wF 1537 [0,0,0,0,1,0,0,0]) (wTen 1 (id) (d)); d), 1, (wF 1537 [0,0,0,0,1,0,0,0]),
      acc (by decide)⟩,
   ⟨stD (fun d => let d : Dev := wCmd 1 (wF 1538 [7,0,0,0]) (wTen 1 (fun t => { t with minor := 1 }) (d)); d), 1, (wF 1538 [7,0,0,0]),
      acc (by decide)⟩,
   ⟨stD (fun d => let d : Dev := wCmd 0 (wF 1793 [0,0,0,0x40,1,0,0,0]) (wTen 0 (id) (d)); d), 0, (wF 1793 [0,0,0,0x40,1,0,0,0]),
      acc (by decide), by decide, by decide, by decide⟩,
   ⟨stD (fun d => let d : Dev := wTen 1 (fun t => { t with deferred := [⟨0x701, 5, 1, [0x40000000, 1, 0], []⟩] }) d; d), 1, _, rfl,
      by decide, by decide⟩,
   ⟨stD (fun d => let d : Dev := wCmd 1 (wF 1794 [0,0,0,0x40,1,0,0,0,1,2,3,4]) (wTen 1 (id) (d)); d), 1,
      (wF 1794 [0,0,0,0x40,1,0,0,0,1,2,3,4]), acc (by decide), by decide, by decide⟩,
   ⟨stD (fun d => let d : Dev := wCmd 1 (wF 1795 []) (wTen 1 (id) (d)); d), 1, (wF 1795 []), acc (by decide), by decide, by decide⟩,
   ⟨stD (fun d =>
      let d : Dev := wCmd 1 (wF 1795 []) (wTen 1 (id) ({ d with bridges := lmod d.bridges 1 (fun b => { b with queue := [⟨0x40000000, 0, 0⟩], posted := 1 }) })); d),
      1, (wF 1795 []), acc (by decide), by decide, by decide⟩⟩

/-- A state and operands for every clause of `Obligations.KeyAndPatchCommandsTakeEffect`. -/
theorem wit_KeyAndPatchCommandsTakeEffect :
  (∃ (s : State) (k : Fin 8) (f : Frame), s.dev.accepts k.val 0x0801 f (f.len == 64 && f.b 0 ≤ 15 && (f.b 1 == 1 || f.b 1 == 2) && f.b
      2 ≤ 15 && f.b 3 == 0) ∧ s.dev.keyLoadPre k.val f = 0 ∧
    let d := s.dev.began k.val f
    let key := d.wrapKey k.val f
    let iv := (f.payload.drop 4).take 12
    let ct := (f.payload.drop 16).take 32
    (f.payload.drop 48).take 16 = gcmTag key iv (d.keyAad k.val f) ct) ∧
  (∃ (s : State) (k : Fin 8) (f : Frame), s.dev.accepts k.val 0x0801 f (f.len == 64 && f.b 0 ≤ 15 && (f.b 1 == 1 || f.b 1 == 2) && f.b
      2 ≤ 15 && f.b 3 == 0) ∧ s.dev.keyLoadPre k.val f = 0 ∧
    let d := s.dev.began k.val f
    let key := d.wrapKey k.val f
    let iv := (f.payload.drop 4).take 12
    let ct := (f.payload.drop 16).take 32
    (f.payload.drop 48).take 16 ≠ gcmTag key iv (d.keyAad k.val f) ct) ∧
  (∃ (s : State) (k : Fin 8) (f : Frame), s.dev.accepts k.val 0x0802 f (f.len == 4 && f.b 0 ≤ 15 && f.zero 1 3) ∧ f.b 0 ≠ 0 ∧
      s.dev.keyOwner (f.b 0) = k.val ∧ (s.dev.ten k.val).tags = false) ∧
  (∃ (s : State) (k : Fin 8) (f : Frame), s.dev.accepts k.val 0x0803 f (lenIs 0 s.dev f)) ∧
  (∃ (s : State) (k : Fin 8) (f : Frame), s.dev.accepts k.val 0x0901 f (f.len == 4 && 1 ≤ f.h 0 && f.h 0 ≤ 1024 && f.zero 2 3) ∧
      s.dev.canDefer k.val 0x0901 = true ∧
    let d := s.dev.began k.val f
    d.flag Reg.TR_STAT_LATCHED = true) ∧
  (∃ (s : State) (k : Fin 8) (f : Frame), s.dev.accepts k.val 0x0901 f (f.len == 4 && 1 ≤ f.h 0 && f.h 0 ≤ 1024 && f.zero 2 3) ∧
      s.dev.canDefer k.val 0x0901 = true ∧
    let d := s.dev.began k.val f
    d.flag Reg.TR_STAT_LATCHED = false) ∧
  (∃ (s : State) (k : Fin 8) (f : Frame), s.dev.accepts k.val 0x0A01 f (lenIs 0 s.dev f)) ∧
  (∃ (s : State) (k : Fin 8) (f : Frame) (bs : _),
      s.dev.accepts k.val 0x0A02 f (9 ≤ f.len && f.len ≤ 65536 && f.b 4 / 2 == 0 && f.zero 5 7) ∧ bit (s.dev.intWord 384) 2 = false ∧
      (s.dev.began k.val f).pushChunk f = .ok bs ∧
    let d := s.dev.began k.val f
    bit (f.b 4) 0 = true ∧ d.canDefer k.val 0x0A02 = true) ∧
  (∃ (s : State) (k : Fin 8) (f : Frame) (bs : _),
      s.dev.accepts k.val 0x0A02 f (9 ≤ f.len && f.len ≤ 65536 && f.b 4 / 2 == 0 && f.zero 5 7) ∧ bit (s.dev.intWord 384) 2 = false ∧
      (s.dev.began k.val f).pushChunk f = .ok bs ∧ bit (f.b 4) 0 = false) ∧
  (∃ (s : State) (p : _), s.dev.boot.push = some p ∧ p.when + 100000 < s.dev.now) ∧
  (∃ (s : State) (k : Fin 8) (f : Frame), s.dev.accepts k.val 0x0B01 f (f.len == 4 && f.zero 1 3 && (f.b 0 == 0xFF || f.b 0 ≤ 7)) ∧
      resetTarget k.val f = k.val) ∧
  (∃ (s : State) (f : Frame), s.dev.accepts 0 0x0B01 f (f.len == 4 && f.zero 1 3 && (f.b 0 == 0xFF || f.b 0 ≤ 7)) ∧
      resetTarget 0 f ≠ 0 ∧ s.dev.canDefer 0 0x0B01 = true) :=
  ⟨⟨stD (fun d => ((let d : Dev := wCmd 1 wKey (wTen 1 id d); d : Dev).setReg Reg.KS_OWN0 0x10)), 1, wKey, acc (by decide), by decide,
      by decide⟩,
   ⟨stD (fun d => ((let d : Dev := wCmd 1 (wF 0x801 ([1,1,0,0] ++ zeros 60)) (wTen 1 id d); d : Dev).setReg Reg.KS_OWN0 0x10)), 1,
      (wF 0x801 ([1,1,0,0] ++ zeros 60)), acc (by decide), by decide, by decide⟩,
   ⟨stD (fun d => ((let d : Dev := wCmd 1 (wF 2050 [1,0,0,0]) (wTen 1 (id) (d)); d : Dev).setReg Reg.KS_OWN0 0x10)), 1,
      (wF 2050 [1,0,0,0]), acc (by decide), by decide, by decide, by decide⟩,
   ⟨stD (fun d => let d : Dev := wCmd 1 (wF 2051 []) (wTen 1 (id) (d)); d), 1, (wF 2051 []), acc (by decide)⟩,
   ⟨stD (fun d => ((let d : Dev := wCmd 1 (wF 2305 [1,0,0,0]) (wTen 1 (id) (d)); (d.set Reg.TR_STAT_LATCHED 1) : Dev).set
      Reg.TR_STAT_LATCHED 1)), 1, (wF 2305 [1,0,0,0]), acc (by decide), by decide, by decide⟩,
   ⟨stD (fun d => let d : Dev := wCmd 1 (wF 2305 [0,4,0,0]) (wTen 1 (id) (d)); (d.set Reg.TR_STAT_LATCHED 0)), 1, (wF 2305 [0,4,0,0]),
      acc (by decide), by decide, by decide⟩,
   ⟨stD (fun d => let d : Dev := wCmd 1 (wF 2561 []) (wTen 1 (id) (d)); d), 1, (wF 2561 []), acc (by decide)⟩,
   ⟨stD (fun d => ((((let d : Dev := wCmd 0 (wF 2562 [0,0,0,0,1,0,0,0,9]) (wTen 0 (id) (d)); d : Dev).setDev DevSt.boot).set
      Reg.BT_STAT_STEP 7).set Reg.BT_STAT_WINDOW 1)), 0, (wF 2562 [0,0,0,0,1,0,0,0,9]), _, acc (by decide), by decide, rfl, by decide,
      by decide⟩,
   ⟨stD (fun d => ((((let d : Dev := wCmd 0 (wF 2562 [0,0,0,0,0,0,0,0,9]) (wTen 0 (id) (d)); d : Dev).setDev DevSt.boot).set
      Reg.BT_STAT_STEP 7).set Reg.BT_STAT_WINDOW 1)), 0, (wF 2562 [0,0,0,0,0,0,0,0,9]), _, acc (by decide), by decide, rfl, by decide⟩,
   ⟨stD (fun d => let d : Dev := { d with now := 100001, boot := { d.boot with push := some ⟨0, [], 0⟩ } }; d), _, rfl, by decide⟩,
   ⟨stD (fun d => let d : Dev := wCmd 1 (wF 2817 [0xFF,0,0,0]) (wTen 1 (id) (d)); d), 1, (wF 2817 [0xFF,0,0,0]), acc (by decide),
      by decide⟩,
   ⟨stD (fun d => let d : Dev := wCmd 0 (wF 2817 [3,0,0,0]) (wTen 0 (id) (d)); d), (wF 2817 [3,0,0,0]), acc (by decide), by decide,
      by decide⟩⟩

/-- A state and operands for every clause of `Obligations.PageHeaderWritesTakeEffect`. -/
theorem wit_PageHeaderWritesTakeEffect :
  (∃ (s : State) (l : Land) (ag : _) (a : _) (v : Word) (d : Dev), s.dev.granted l = some (ag, a, v, d) ∧ (pageOf a).isSome = true ∧
      offOf a = 0x24) ∧
  (∃ (s : State) (l : Land) (ag : _) (a : _) (v : Word) (d : Dev), s.dev.granted l = some (ag, a, v, d) ∧ (pageOf a).isSome = true ∧
      offOf a = 0x20) ∧
  (∃ (s : State) (l : Land) (ag : _) (a : _) (v : Word) (d : Dev) (p : _), s.dev.granted l = some (ag, a, v, d) ∧ pgCtlOf a = some p ∧
      ctlSoftRst a v = true ∧ isPage a 0x16 = false ∧ (List.range 8).any (fun k => isPage a (2 + k)) = false) ∧
  (∃ (s : State) (l : Land) (ag : _) (a : _) (v : Word) (d : Dev) (p : _), s.dev.granted l = some (ag, a, v, d) ∧ pgCtlOf a = some p ∧
      ctlFreeze a v = true) ∧
  (∃ (s : State) (l : Land) (ag : _) (a : _) (v : Word) (d : Dev) (p : _), s.dev.granted l = some (ag, a, v, d) ∧ pgCtlOf a = some p ∧
      ctlCommit a v = true) ∧
  (∃ (s : State) (l : Land) (ag : _) (a : _) (v : Word) (d : Dev) (p : _), s.dev.granted l = some (ag, a, v, d) ∧ pageOf a = some p ∧
      offOf a = 0x18) ∧
  (∃ (s : State) (l : Land) (ag : _) (a : _) (v : Word) (d : Dev) (p : _), s.dev.granted l = some (ag, a, v, d) ∧ pageOf a = some p ∧
      offOf a = 0x1C) ∧
  (∃ (s : State) (l : Land) (ag : _) (a : _) (v : Word) (d : Dev) (k : Fin 8), s.dev.granted l = some (ag, a, v, d) ∧
      a = Reg.LE_POP k.val ∧ bit v.toNat 0 = true) ∧
  (∃ (s : State) (l : Land) (ag : _) (a : _) (v : Word) (d : Dev), s.dev.granted l = some (ag, a, v, d) ∧ s.dev.hasRow a v = false) ∧
  (∃ (s : State) (l : Land) (ag : _) (a : _) (v : Word) (d : Dev), s.dev.granted l = some (ag, a, v, d) ∧ ctlSoftRst a v = true ∧
      isPage a 0x16 = true) :=
  ⟨⟨stD id, _, _, (Reg.PG_OWNER 2), 0, _, granted_fw (by decide), by decide, by decide⟩,
   ⟨stD id, _, _, (Reg.PG_LOCK 2), 0, _, granted_fw (by decide), by decide, by decide⟩,
   ⟨stD id, _, _, (Reg.PG_CTL 0x19), 2, _, _, granted_fw (by decide), rfl, by decide, by decide, by decide⟩,
   ⟨stD id, _, _, (Reg.PG_CTL 2), 16, _, _, granted_fw (by decide), rfl, by decide⟩,
   ⟨stD id, _, _, (Reg.PG_CTL 0x19), 256, _, _, granted_fw (by decide), rfl, by decide⟩,
   ⟨stD id, _, _, (Reg.PG_OWNER 2 - 0x24 + 0x18), 1, _, _, granted_fw (by decide), rfl, by decide⟩,
   ⟨stD id, _, _, (Reg.PG_OWNER 2 - 0x24 + 0x1C), 3, _, _, granted_fw (by decide), rfl, by decide⟩,
   ⟨stD id, _, _, (Reg.LE_POP 0), 1, _, 0, granted_fw (by decide), by decide, by decide⟩,
   ⟨stD id, _, _, (Reg.EVT_EN 2), 0, _, granted_fw (by decide), by decide⟩,
   ⟨stD id, _, _, (Reg.PG_CTL 0x16), 2, _, granted_fw (by decide), by decide, by decide⟩⟩

/-- A state and operands for every clause of `Obligations.ReadsFencesAndSpineTakeEffect`. -/
theorem wit_ReadsFencesAndSpineTakeEffect :
  (∃ (s : State) (k : Fin 8) (a : _), s.dev.readOk k.val a = true ∧ s.dev.readReady k.val a = true) ∧
  (∃ (s : State) (k : Fin 8) (a : _), s.dev.readOk k.val a = true ∧ s.dev.readReady k.val a = true ∧ ∃ (i : Fin 4),
      a = Reg.EVT_RD i.val) ∧
  (∃ (s : State) (k : Fin 8) (a : _), s.dev.readOk k.val a = true ∧ s.dev.readReady k.val a = true ∧ a = Reg.LF_LO) ∧
  (∃ (s : State) (k : Fin 8) (p : Fin 8), s.dev.readOk k.val (Reg.WRITE_FENCE p.val) = true ∧
      s.dev.answers (Reg.WRITE_FENCE p.val) = true ∧ (p ≠ k ∨ s.dev.outstanding k.val = [])) ∧
  (∃ (s : State) (k : Fin 8) (f : Fence) (rest : _), (s.dev.br k.val).fences = f :: rest ∧ f.target ≤ (s.dev.br k.val).done ∧
      f.what = 0) ∧
  (∃ (s : State) (k : Fin 8) (f : Fence) (rest : _), (s.dev.br k.val).fences = f :: rest ∧ f.target ≤ (s.dev.br k.val).done ∧
      f.what ≠ 0) ∧
  (∃ (s : State) (k : Fin 8) (ecc : Ecc) (w : _) (rest : _), (s.dev.br k.val).queue = w :: rest ∧
      s.dev.refuseReason k.val w.addr w.data (ecc = .uncorrectable) = 0) ∧
  (∃ (s : State) (k : Fin 8) (a : _) (x : _), s.dev.deferred? k.val 0x0701 = some x ∧
      (readAddrs (x.args.getD 0 0) (x.args.getD 1 0)).contains a = true) ∧
  (∃ (s : State) (p : Fin 65) (im : _), (s.dev.page p.val).image = some im ∧ (s.dev.page p.val).frozeAt + 10000 ≤ s.dev.now) ∧
  (∃ (p : Fin 65), noBoundary p.val = false ∧ perChan p.val = true) ∧
  (∃ (s : State) (p : Fin 65), noBoundary p.val = false ∧ perChan p.val = false ∧ p.val ≠ 0x22 ∧ p.val ≠ 0x24 ∧
      (levelPages.contains p.val && s.dev.pageBusy p.val) = false) ∧
  (∃ (s : State) (p : Fin 65) (e : _) (rest : _), (s.dev.page p.val).buf = e :: rest ∧ (s.dev.page p.val).lost = 0) ∧
  (∃ (s : State), s.dev.now % 2 ^ 32 = 0 ∧ s.dev.now ≠ 0) :=
  ⟨⟨stD id, 0, 0x40000000, by decide, by decide⟩,
   ⟨stD id, 0, (Reg.EVT_RD 0), by decide, by decide, 0, by decide⟩,
   ⟨stD id, 0, Reg.LF_LO, by decide, by decide, by decide⟩,
   ⟨stD id, 0, 0, by decide, by decide, by decide⟩,
   ⟨stD (fun d => let d : Dev := { d with bridges := lmod d.bridges 0 (fun b => { b with fences := [⟨0, 5, 0⟩] }) }; d), 0, _, _, rfl,
      by decide, by decide⟩,
   ⟨stD (fun d => let d : Dev := { d with bridges := lmod d.bridges 0 (fun b => { b with fences := [⟨1, 5, 0⟩] }) }; d), 0, _, _, rfl,
      by decide, by decide⟩,
   ⟨stD (fun d => let d : Dev := { d with bridges := lmod d.bridges 0 (fun b => { b with queue := [⟨0x40000004, 0, 0⟩] }) }; d), 0,
      .ok, _, _, rfl, by decide⟩,
   ⟨stD (fun d => let d : Dev := wTen 1 (fun t => { t with deferred := [⟨0x701, 5, 1, [0x40000000, 1, 0], []⟩] }) d; d), 1, 0x40000000,
      _, rfl, by decide⟩,
   ⟨stD (fun d => { d.modPage 0 (fun p => { p with image := some [] }) with now := 10000 }), 0, _, rfl, by decide⟩,
   ⟨0x1A, by decide, by decide⟩,
   ⟨stD id, 0x32, by decide, by decide, by decide, by decide, by decide⟩,
   ⟨stD (fun d => let d : Dev := d.post 1 ⟨1, 0, 0, 0, false, 0⟩; d), 1, _, _, rfl, by decide⟩,
   ⟨stD (fun d => let d : Dev := { d with now := 4294967296 }; d), by decide, by decide⟩⟩

/-- A state and operands for every clause of `Obligations.DmaCommandsTakeEffect`. -/
theorem wit_DmaCommandsTakeEffect :
  (∃ (s : State) (a : _) (v : Word) (p : Fin 2), s.dev.fwRefuse a = 0 ∧ a = Reg.DMA_POST p.val ∧ bit v.toNat 8 = false) ∧
  (∃ (s : State) (c : Fin 16), s.dev.dmaEn c.val = true ∧ (s.dev.dch c.val).active = none ∧ (s.dev.dch c.val).queued ≠ 0 ∧
    let ad := slotAddr c.val (s.dev.dch c.val).head
    let a : ActiveDesc := ⟨(s.dev.dch c.val).head, (List.range 6).map (fun i => s.mem.readLE (ad + 4 * i) 4), 0, none, false⟩
    a.path ≠ 2 ∧ a.path ≠ 3 ∧ s.dev.eccBad ad 32 = false ∧ descValid c.val a = true) ∧
  (∃ (s : State) (c : Fin 16) (a : _), (s.dev.dch c.val).active = some a ∧ (s.dev.dch c.val).barWait = false ∧ a.path = 0 ∧
      a.barrier = false ∧ min (s.dev.reach (a.w 1) a.count) (s.dev.reach (a.w 2) a.count) = a.count ∧ s.dev.eccMeets a = none) ∧
  (∃ (s : State) (c : Fin 16) (ecc : _) (off : _) (a : _), (s.dev.dch c.val).active = some a ∧ off < a.count ∧ a.path ≠ 2 ∧
      a.path ≠ 3 ∧ (ecc = true → a.sramWord off = none)) ∧
  (∃ (s : State) (c : Fin 16) (a : _), (s.dev.dch c.val).active = some a ∧ a.path = 1 ∧
    let p := s.dev.portTake s.mem c.val a
    p.2.2.done < p.2.2.count) ∧
  (∃ (s : State) (c : Fin 16), (s.dev.dch c.val).late.length < 4 ∧ (s.dev.dch c.val).chain = none) ∧
  (∃ (s : State) (l : Land) (ag : _) (a : _) (v : Word) (d : Dev) (c : Nat), s.dev.granted l = some (ag, a, v, d) ∧
      (List.range 16).find? (fun c => a == Reg.DCH_LE_POP c) = some c ∧ bit v.toNat 0 = true) ∧
  (∃ (s : State) (a : _) (v : Word) (c : _), s.dev.fwRefuse a = 0 ∧ chanOfCtl a = some c ∧ bit v.toNat 1 = true) ∧
  (∃ (s : State) (a : _) (v : Word) (c : _), s.dev.fwRefuse a = 0 ∧ chanOfCtl a = some c ∧ bit v.toNat 1 = false ∧
      bit v.toNat 0 = false) ∧
  (∃ (s : State) (n : _), (s.dev.addSat Reg.FAB_STAT_RAISED 1).get Reg.FAB_STAT_P0_WAIT_MAX < n) :=
  ⟨⟨stD id, (Reg.DMA_POST 0), 0, 0, by decide, by decide, by decide⟩,
   ⟨(let s := stD (fun d => (((d.modDch 2 (fun x => { x with queued := 1 })).set (Reg.DCH_CTL_EN 2) 1).set (Reg.PG_CTL_EN 0x1A) 1)); { s with mem := s.mem.writeBytes 0x20060404 (leBytes 4 0x20080000 ++ leBytes 4 0x20020000 ++ leBytes 4 4) }),
      2, by decide, by decide, by decide, by decide, by decide, by decide, by decide⟩,
   ⟨stD (fun d =>
      let d : Dev := d.modDch 0 (fun x => { x with active := some ⟨0, [0, 0x20080000, 0x20090000, 4, 0, 0], 0, none, false⟩ }); d), 0, _,
      rfl, by decide, by decide, by decide, by decide, by decide⟩,
   ⟨stD (fun d =>
      let d : Dev := d.modDch 0 (fun x => { x with active := some ⟨0, [0, 0x20080000, 0x20090000, 4, 0, 0], 0, none, false⟩ }); d), 0,
      false, 0, _, rfl, by decide, by decide, by decide, by decide⟩,
   ⟨stD (fun d =>
      let d : Dev := d.modDch 0 (fun x => { x with active := some ⟨0, [1, 0x20080000, 0x20090000, 4, 0, 0], 0, none, false⟩ }); d), 0, _,
      rfl, by decide, by decide⟩,
   ⟨stD id, 0, by decide, by decide⟩,
   ⟨stD id, _, _, (Reg.DCH_LE_POP 0), 1, _, 0, granted_fw (by decide), by decide, by decide⟩,
   ⟨stD id, (Reg.DCH_CTL 0), 2, 0, by decide, by decide, by decide⟩,
   ⟨stD id, (Reg.DCH_CTL 0), 0, 0, by decide, by decide, by decide, by decide⟩,
   ⟨stD id, 1, by decide⟩⟩

/-- A state and operands for every clause of `Obligations.MemoryAndCodecCommandsTakeEffect`. -/
theorem wit_MemoryAndCodecCommandsTakeEffect :
  (∃ (s : State) (a : _) (v : Word), s.dev.fwRefuse a = 0 ∧ a = Reg.XSPI_CMD_CTL ∧ bit v.toNat 16 = true) ∧
  (∃ (s : State), s.dev.flag Reg.XSPI_STAT_SUSPEND = true ∧ s.dev.norBusy = 1) ∧
  (∃ (s : State), s.dev.devState ≠ DevSt.off ∧ s.dev.devState ≠ DevSt.tripped ∧ s.dev.ecc = [] ∧
      s.dev.reg Reg.BG_SCRUB_POS + 64 < 0x20200000) ∧
  (∃ (s : State), s.dev.devState ≠ DevSt.off ∧ s.dev.devState ≠ DevSt.tripped ∧ s.dev.ecc = [] ∧
      0x20200000 ≤ s.dev.reg Reg.BG_SCRUB_POS + 64) ∧
  (∃ (s : State) (b : _) (rest : _), s.dev.codec.q0 = b :: rest) ∧
  (∃ (s : State) (b : _) (rest : _), s.dev.codec.q0 = [] ∧ s.dev.codec.q1 = b :: rest) ∧
  (∃ (s : State), s.dev.codec.q0 ≠ [] ∧ s.dev.codec.q1 ≠ []) ∧
  (∃ (s : State) (e : _) (rest : _), s.dev.codec.q2 = e :: rest ∧ e.form = true) ∧
  (∃ (s : State) (u : Fin 96), (s.dev.unit u.val).state = .releasing ∧ s.dev.flag Reg.GAL_CFG_ZERO_REL = false) ∧
  (∃ (s : State) (u : Fin 96), (s.dev.unit u.val).state = .releasing ∧ s.dev.flag Reg.GAL_CFG_ZERO_REL = true) :=
  ⟨⟨stD id, Reg.XSPI_CMD_CTL, 65536, by decide, by decide, by decide⟩,
   ⟨stD (fun d => (({ d with norBusy := 1 } : Dev).set Reg.XSPI_STAT_SUSPEND 1)), by decide, by decide⟩,
   ⟨stD (fun d => ((d : Dev).setDev DevSt.nominal)), by decide, by decide, by decide, by decide⟩,
   ⟨stD (fun d => (((d : Dev).setDev DevSt.nominal).setReg Reg.BG_SCRUB_POS 0x201FFFF8)), by decide, by decide, by decide, by decide⟩,
   ⟨stD (fun d => let d : Dev := { d with codec := { d.codec with q0 := [⟨[1], 1, 4, 0, 0, 1, 1, 0, 0, false, false⟩] } }; d), _, _,
      rfl⟩,
   ⟨stD (fun d => let d : Dev := { d with codec := { d.codec with q1 := [⟨[1], 1, 4, 0, 0, 1, 1, 0, 0, false, false⟩] } }; d), _, _,
      by decide, rfl⟩,
   ⟨stD (fun d =>
      let d : Dev := { d with codec := { d.codec with q0 := [⟨[1], 1, 4, 0, 0, 1, 1, 0, 0, false, false⟩], q1 := [⟨[1], 1, 4, 0, 0, 1, 1, 0, 0, false, false⟩] } }; d),
      by decide, by decide⟩,
   ⟨stD (fun d => let d : Dev := { d with codec := { d.codec with q2 := [⟨true, 1, 0, 1, 0, 0, 0, 64, 1, 0, 32, []⟩] } }; d), _, _,
      rfl, by decide⟩,
   ⟨stD (fun d => ({ d with units := [{ GUnit.reset with state := .releasing }] } : Dev).set Reg.GAL_CFG_ZERO_REL 0), 0, by decide,
      by decide⟩,
   ⟨stD (fun d => ({ d with units := [{ GUnit.reset with state := .releasing }] } : Dev).set Reg.GAL_CFG_ZERO_REL 1), 0, by decide,
      by decide⟩⟩

/-- A state and operands for every clause of `Obligations.KestrelWordsRun`. -/
theorem wit_KestrelWordsRun :
  (∃ (s : State) (i : Fin 2) (w : _), s.dev.fetches i.val w ∧ kIllegal i.val w = false ∧ kMop w = 0x00) ∧
  (∃ (s : State) (i : Fin 2) (w : _), s.dev.fetches i.val w ∧ kIllegal i.val w = false ∧ kMop w = 0x01) ∧
  (∃ (s : State) (i : Fin 2) (w : _), s.dev.fetches i.val w ∧ kIllegal i.val w = false ∧ kMop w = 0x02) ∧
  (∃ (s : State) (i : Fin 2) (w : _), s.dev.fetches i.val w ∧ kIllegal i.val w = false ∧ kMop w = 0x03) ∧
  (∃ (s : State) (i : Fin 2) (w : _), s.dev.fetches i.val w ∧ kIllegal i.val w = false ∧ kMop w = 0x04) ∧
  (∃ (s : State) (i : Fin 2) (w : _), s.dev.fetches i.val w ∧ kIllegal i.val w = false ∧ kMop w = 0x05) ∧
  (∃ (s : State) (i : Fin 2) (w : _), s.dev.fetches i.val w ∧ kIllegal i.val w = false ∧ kMop w = 0x06) ∧
  (∃ (s : State) (i : Fin 2) (w : _), s.dev.fetches i.val w ∧ kIllegal i.val w = false ∧ kMop w = 0x07) ∧
  (∃ (s : State) (i : Fin 2) (w : _), s.dev.fetches i.val w ∧ kIllegal i.val w = false ∧ kMop w = 0x08) ∧
  (∃ (s : State) (i : Fin 2) (w : _), s.dev.fetches i.val w ∧ kIllegal i.val w = false ∧ kMop w = 0x09) ∧
  (∃ (s : State) (i : Fin 2) (w : _), s.dev.fetches i.val w ∧ kIllegal i.val w = false ∧ kMop w = 0x0A) ∧
  (∃ (s : State) (i : Fin 2) (w : _), s.dev.fetches i.val w ∧ kIllegal i.val w = false ∧ kMop w = 0x0B) ∧
  (∃ (s : State) (i : Fin 2) (w : _), s.dev.fetches i.val w ∧ kIllegal i.val w = false ∧ kMop w = 0x0C) ∧
  (∃ (s : State) (i : Fin 2) (w : _), s.dev.fetches i.val w ∧ kIllegal i.val w = false ∧ kMop w = 0x0D) ∧
  (∃ (s : State) (i : Fin 2) (w : _), s.dev.fetches i.val w ∧ kIllegal i.val w = false ∧ kMop w = 0x0E) ∧
  (∃ (s : State) (i : Fin 2) (w : _), s.dev.fetches i.val w ∧ kIllegal i.val w = false ∧ kMop w = 0x10) ∧
  (∃ (s : State) (i : Fin 2) (w : _), s.dev.fetches i.val w ∧ kIllegal i.val w = false ∧ kMop w = 0x11) ∧
  (∃ (s : State) (i : Fin 2) (w : _), s.dev.fetches i.val w ∧ kIllegal i.val w = false ∧ kMop w = 0x12) ∧
  (∃ (s : State) (i : Fin 2) (w : _), s.dev.fetches i.val w ∧ kIllegal i.val w = false ∧ kMop w = 0x13) ∧
  (∃ (s : State) (i : Fin 2) (w : _), s.dev.fetches i.val w ∧ kIllegal i.val w = false ∧ kMop w = 0x14) ∧
  (∃ (s : State) (i : Fin 2) (w : _), s.dev.fetches i.val w ∧ kIllegal i.val w = false ∧ kMop w = 0x18) ∧
  (∃ (s : State) (i : Fin 2) (w : _), s.dev.fetches i.val w ∧ kIllegal i.val w = false ∧ kMop w = 0x19) ∧
  (∃ (s : State) (i : Fin 2) (w : _), s.dev.fetches i.val w ∧ kIllegal i.val w = false ∧ kMop w = 0x1A) ∧
  (∃ (s : State) (i : Fin 2) (w : _), s.dev.fetches i.val w ∧ kIllegal i.val w = false ∧ kMop w = 0x1B) ∧
  (∃ (s : State) (i : Fin 2) (w : _), s.dev.fetches i.val w ∧ kIllegal i.val w = false ∧ kMop w = 0x1C) ∧
  (∃ (s : State) (i : Fin 2) (w : _), s.dev.fetches i.val w ∧ kIllegal i.val w = false ∧ kFmt w = true ∧ kBop w = 0) ∧
  (∃ (s : State) (i : Fin 2) (w : _), s.dev.fetches i.val w ∧ kIllegal i.val w = false ∧ kFmt w = true ∧ kBop w = 1) ∧
  (∃ (s : State) (i : Fin 2) (w : _), s.dev.fetches i.val w ∧ kIllegal i.val w = false ∧ kFmt w = true ∧ kBop w = 2) ∧
  (∃ (s : State) (i : Fin 2) (w : _), s.dev.fetches i.val w ∧ kIllegal i.val w = false ∧ kFmt w = true ∧ kBop w = 3) ∧
  (∃ (s : State) (i : Fin 2) (w : _), s.dev.fetches i.val w ∧ kIllegal i.val w = false ∧ kFmt w = true ∧ kBop w = 4) ∧
  (∃ (s : State) (i : Fin 2) (w : _), s.dev.fetches i.val w ∧ kIllegal i.val w = false ∧ kFmt w = true ∧ kBop w = 5) ∧
  (∃ (s : State) (i : Fin 2) (w : _), s.dev.fetches i.val w ∧ kIllegal i.val w = false ∧ kFmt w = true ∧ kBop w = 6) ∧
  (∃ (s : State) (i : Fin 2) (w : _), s.dev.fetches i.val w ∧ kIllegal i.val w = false ∧ kFmt w = true ∧ kBop w = 7) ∧
  (∃ (s : State) (i : Fin 2) (w : _), s.dev.fetches i.val w ∧ kIllegal i.val w = true) :=
  ⟨⟨stD (fun d => let d : Dev := wK 1 (0 * 2 ^ 56) d; d), 1, (0 * 2 ^ 56), ⟨by decide, by decide⟩, by decide, by decide⟩,
   ⟨stD (fun d => let d : Dev := wK 1 (1 * 2 ^ 56) d; d), 1, (1 * 2 ^ 56), ⟨by decide, by decide⟩, by decide, by decide⟩,
   ⟨stD (fun d => let d : Dev := wK 1 (2 * 2 ^ 56) d; d), 1, (2 * 2 ^ 56), ⟨by decide, by decide⟩, by decide, by decide⟩,
   ⟨stD (fun d => let d : Dev := wK 1 (3 * 2 ^ 56) d; d), 1, (3 * 2 ^ 56), ⟨by decide, by decide⟩, by decide, by decide⟩,
   ⟨stD (fun d => let d : Dev := wK 1 (4 * 2 ^ 56) d; d), 1, (4 * 2 ^ 56), ⟨by decide, by decide⟩, by decide, by decide⟩,
   ⟨stD (fun d => let d : Dev := wK 1 (5 * 2 ^ 56) d; d), 1, (5 * 2 ^ 56), ⟨by decide, by decide⟩, by decide, by decide⟩,
   ⟨stD (fun d => let d : Dev := wK 1 (6 * 2 ^ 56) d; d), 1, (6 * 2 ^ 56), ⟨by decide, by decide⟩, by decide, by decide⟩,
   ⟨stD (fun d => let d : Dev := wK 1 (7 * 2 ^ 56) d; d), 1, (7 * 2 ^ 56), ⟨by decide, by decide⟩, by decide, by decide⟩,
   ⟨stD (fun d => let d : Dev := wK 1 (8 * 2 ^ 56) d; d), 1, (8 * 2 ^ 56), ⟨by decide, by decide⟩, by decide, by decide⟩,
   ⟨stD (fun d => let d : Dev := wK 1 (9 * 2 ^ 56) d; d), 1, (9 * 2 ^ 56), ⟨by decide, by decide⟩, by decide, by decide⟩,
   ⟨stD (fun d => let d : Dev := wK 1 (10 * 2 ^ 56) d; d), 1, (10 * 2 ^ 56), ⟨by decide, by decide⟩, by decide, by decide⟩,
   ⟨stD (fun d => let d : Dev := wK 1 (11 * 2 ^ 56) d; d), 1, (11 * 2 ^ 56), ⟨by decide, by decide⟩, by decide, by decide⟩,
   ⟨stD (fun d => let d : Dev := wK 1 (12 * 2 ^ 56) d; d), 1, (12 * 2 ^ 56), ⟨by decide, by decide⟩, by decide, by decide⟩,
   ⟨stD (fun d => let d : Dev := wK 1 (13 * 2 ^ 56) d; d), 1, (13 * 2 ^ 56), ⟨by decide, by decide⟩, by decide, by decide⟩,
   ⟨stD (fun d => let d : Dev := wK 1 (14 * 2 ^ 56) d; d), 1, (14 * 2 ^ 56), ⟨by decide, by decide⟩, by decide, by decide⟩,
   ⟨stD (fun d => let d : Dev := wK 1 (16 * 2 ^ 56) d; d), 1, (16 * 2 ^ 56), ⟨by decide, by decide⟩, by decide, by decide⟩,
   ⟨stD (fun d => let d : Dev := wK 1 (17 * 2 ^ 56) d; d), 1, (17 * 2 ^ 56), ⟨by decide, by decide⟩, by decide, by decide⟩,
   ⟨stD (fun d => let d : Dev := wK 1 (18 * 2 ^ 56) d; d), 1, (18 * 2 ^ 56), ⟨by decide, by decide⟩, by decide, by decide⟩,
   ⟨stD (fun d => let d : Dev := wK 1 (19 * 2 ^ 56) d; d), 1, (19 * 2 ^ 56), ⟨by decide, by decide⟩, by decide, by decide⟩,
   ⟨stD (fun d => let d : Dev := wK 1 (20 * 2 ^ 56) d; d), 1, (20 * 2 ^ 56), ⟨by decide, by decide⟩, by decide, by decide⟩,
   ⟨stD (fun d => let d : Dev := wK 1 (24 * 2 ^ 56) d; d), 1, (24 * 2 ^ 56), ⟨by decide, by decide⟩, by decide, by decide⟩,
   ⟨stD (fun d => let d : Dev := wK 1 (25 * 2 ^ 56) d; d), 1, (25 * 2 ^ 56), ⟨by decide, by decide⟩, by decide, by decide⟩,
   ⟨stD (fun d => let d : Dev := wK 1 (26 * 2 ^ 56) d; d), 1, (26 * 2 ^ 56), ⟨by decide, by decide⟩, by decide, by decide⟩,
   ⟨stD (fun d => let d : Dev := wK 1 (27 * 2 ^ 56) d; d), 1, (27 * 2 ^ 56), ⟨by decide, by decide⟩, by decide, by decide⟩,
   ⟨stD (fun d => let d : Dev := wK 1 (28 * 2 ^ 56) d; d), 1, (28 * 2 ^ 56), ⟨by decide, by decide⟩, by decide, by decide⟩,
   ⟨stD (fun d => let d : Dev := wK 1 (2 ^ 95 + 0 * 2 ^ 82) d; d), 1, (2 ^ 95 + 0 * 2 ^ 82), ⟨by decide, by decide⟩, by decide,
      by decide, by decide⟩,
   ⟨stD (fun d => let d : Dev := wK 1 (2 ^ 95 + 1 * 2 ^ 82) d; d), 1, (2 ^ 95 + 1 * 2 ^ 82), ⟨by decide, by decide⟩, by decide,
      by decide, by decide⟩,
   ⟨stD (fun d => let d : Dev := wK 1 (2 ^ 95 + 2 * 2 ^ 82) d; d), 1, (2 ^ 95 + 2 * 2 ^ 82), ⟨by decide, by decide⟩, by decide,
      by decide, by decide⟩,
   ⟨stD (fun d => let d : Dev := wK 1 (2 ^ 95 + 3 * 2 ^ 82) d; d), 1, (2 ^ 95 + 3 * 2 ^ 82), ⟨by decide, by decide⟩, by decide,
      by decide, by decide⟩,
   ⟨stD (fun d => let d : Dev := wK 1 (2 ^ 95 + 4 * 2 ^ 82) d; d), 1, (2 ^ 95 + 4 * 2 ^ 82), ⟨by decide, by decide⟩, by decide,
      by decide, by decide⟩,
   ⟨stD (fun d => let d : Dev := wK 1 (2 ^ 95 + 5 * 2 ^ 82) d; d), 1, (2 ^ 95 + 5 * 2 ^ 82), ⟨by decide, by decide⟩, by decide,
      by decide, by decide⟩,
   ⟨stD (fun d => let d : Dev := wK 1 (2 ^ 95 + 6 * 2 ^ 82) d; d), 1, (2 ^ 95 + 6 * 2 ^ 82), ⟨by decide, by decide⟩, by decide,
      by decide, by decide⟩,
   ⟨stD (fun d => let d : Dev := wK 1 (2 ^ 95 + 7 * 2 ^ 82) d; d), 1, (2 ^ 95 + 7 * 2 ^ 82), ⟨by decide, by decide⟩, by decide,
      by decide, by decide⟩,
   ⟨stD (fun d => let d : Dev := wK 1 (2 ^ 86) d; d), 1, (2 ^ 86), ⟨by decide, by decide⟩, by decide⟩⟩

/-- A state and operands for every clause of `Obligations.KestrelMicroOperations`. -/
theorem wit_KestrelMicroOperations :
  (∃ (w : _), kMop w = 0x01) ∧
  (∃ (w : _), kMop w = 0x02) ∧
  (∃ (w : _), kMop w = 0x03) ∧
  (∃ (w : _), kMop w = 0x04) ∧
  (∃ (w : _), kMop w = 0x05) ∧
  (∃ (w : _), kMop w = 0x06) ∧
  (∃ (w : _), kMop w = 0x08) ∧
  (∃ (w : _), kMop w = 0x09) ∧
  (∃ (w : _), kMop w = 0x0A) ∧
  (∃ (w : _), kMop w = 0x0B) ∧
  (∃ (w : _), kMop w = 0x0C) ∧
  (∃ (w : _), kMop w = 0x0D) ∧
  (∃ (w : _), kMop w = 0x0E) ∧
  (∃ (w : _) (j : Fin 8),
    let k := kMsel w % 8
    kMop w ≤ 0x0D ∧ j.val ≠ k) :=
  ⟨⟨(1 * 2 ^ 56), by decide⟩,
   ⟨(2 * 2 ^ 56), by decide⟩,
   ⟨(3 * 2 ^ 56), by decide⟩,
   ⟨(4 * 2 ^ 56), by decide⟩,
   ⟨(5 * 2 ^ 56), by decide⟩,
   ⟨(6 * 2 ^ 56), by decide⟩,
   ⟨(8 * 2 ^ 56), by decide⟩,
   ⟨(9 * 2 ^ 56), by decide⟩,
   ⟨(10 * 2 ^ 56), by decide⟩,
   ⟨(11 * 2 ^ 56), by decide⟩,
   ⟨(12 * 2 ^ 56), by decide⟩,
   ⟨(13 * 2 ^ 56), by decide⟩,
   ⟨(14 * 2 ^ 56), by decide⟩,
   ⟨(13 * 2 ^ 56), 1, by decide, by decide⟩⟩

/-- A state and operands for every clause of `Obligations.KestrelFlags`. -/
theorem wit_KestrelFlags :
  (∃ (d : Dev) (w : _), d.seqs.length = 2 ∧ (3 ≤ kMop w ∧ kMop w ≤ 6 ∨ 9 ≤ kMop w ∧ kMop w ≤ 0x0C)) ∧
  (∃ (d : Dev) (w : _), d.seqs.length = 2 ∧ kMop w = 0x07) ∧
  (∃ (d : Dev) (w : _), d.seqs.length = 2 ∧ kMop w = 0x03) ∧
  (∃ (d : Dev) (w : _), d.seqs.length = 2 ∧ kMop w = 0x09) ∧
  (∃ (d : Dev) (w : _), d.seqs.length = 2 ∧ kMop w = 0x0A) ∧
  (∃ (d : Dev) (w : _), d.seqs.length = 2 ∧ 4 ≤ kMop w ∧ kMop w ≤ 6) ∧
  (∃ (d : Dev) (w : _), d.seqs.length = 2 ∧ (kMop w = 0x01 ∨ kMop w = 0x02 ∨ kMop w = 0x08 ∨ kMop w = 0x0D)) :=
  ⟨⟨Dev.reset, (3 * 2 ^ 56), by decide, by decide⟩,
   ⟨Dev.reset, (7 * 2 ^ 56), by decide, by decide⟩,
   ⟨Dev.reset, (3 * 2 ^ 56), by decide, by decide⟩,
   ⟨Dev.reset, (9 * 2 ^ 56), by decide, by decide⟩,
   ⟨Dev.reset, (10 * 2 ^ 56), by decide, by decide⟩,
   ⟨Dev.reset, (5 * 2 ^ 56), by decide, by decide⟩,
   ⟨Dev.reset, (1 * 2 ^ 56), by decide, by decide⟩⟩

/-- A state and operands for every clause of `Obligations.SequencerCommandsTakeEffect`. -/
theorem wit_SequencerCommandsTakeEffect :
  (∃ (s : State) (i : Fin 2), s.dev.get (Reg.SEQ_STAT_STATE i.val) = 2 ∧ s.dev.get (Reg.SEQ_WDOG_WAIT_MAX i.val) ≠ 0) ∧
  (∃ (s : State) (l : Land) (ag : _) (a : _) (v : Word) (d : Dev) (i : Fin 2), s.dev.granted l = some (ag, a, v, d) ∧
      a = Reg.SEQ_CTL i.val ∧ bit v.toNat 4 = true ∧ bit v.toNat 5 = false) ∧
  (∃ (s : State) (l : Land) (ag : _) (a : _) (v : Word) (d : Dev) (i : Fin 2), s.dev.granted l = some (ag, a, v, d) ∧
      a = Reg.SEQ_CTL i.val ∧ bit v.toNat 5 = true) ∧
  (∃ (s : State) (l : Land) (ag : _) (a : _) (v : Word) (d : Dev) (i : Fin 2), s.dev.granted l = some (ag, a, v, d) ∧
      a = Reg.CS_CMD i.val ∧ bit v.toNat 0 = true ∧ d.get (Reg.CS_ADDR_ADDR i.val) < storeSize i.val ∧ d.seqRuns i.val = false ∧
      d.flag (Reg.CS_CRC_CTL_CRC_GO i.val) = false) ∧
  (∃ (s : State) (l : Land) (ag : _) (a : _) (v : Word) (d : Dev) (i : Fin 2), s.dev.granted l = some (ag, a, v, d) ∧
      a = Reg.CS_CMD i.val ∧ bit v.toNat 0 = true ∧ d.get (Reg.CS_ADDR_ADDR i.val) < storeSize i.val ∧ d.seqRuns i.val = true) ∧
  (∃ (s : State) (l : Land) (ag : _) (a : _) (v : Word) (d : Dev) (i : Fin 2), s.dev.granted l = some (ag, a, v, d) ∧
      a = Reg.CS_CMD i.val ∧ bit v.toNat 1 = true ∧ bit v.toNat 0 = false ∧ d.get (Reg.CS_ADDR_ADDR i.val) < storeSize i.val) ∧
  (∃ (s : State) (l : Land) (ag : _) (a : _) (v : Word) (d : Dev) (i : Fin 2), s.dev.granted l = some (ag, a, v, d) ∧
      a = Reg.CS_CRC_CTL i.val ∧ bit v.toNat 0 = true) ∧
  (∃ (s : State) (i : Fin 2), s.dev.flag (Reg.CS_CRC_CTL_CRC_GO i.val) = true) :=
  ⟨⟨stD (fun d => ((d.set (Reg.SEQ_STAT_STATE 0) 2).set (Reg.SEQ_WDOG_WAIT_MAX 0) 1)), 0, by decide, by decide⟩,
   ⟨stD id, _, _, (Reg.SEQ_CTL 0), 16, _, 0, granted_fw (by decide), by decide, by decide, by decide⟩,
   ⟨stD id, _, _, (Reg.SEQ_CTL 0), 32, _, 0, granted_fw (by decide), by decide, by decide⟩,
   ⟨stD (fun d => (d.set (Reg.CS_CRC_CTL_CRC_GO 0) 0)), _, _, (Reg.CS_CMD 0), 1, _, 0, granted_fw (by decide), by decide, by decide,
      by decide, by decide, by decide⟩,
   ⟨stD (fun d => ((d : Dev).set (Reg.SEQ_STAT_STATE 0) 1)), _, _, (Reg.CS_CMD 0), 1, _, 0, granted_fw (by decide), by decide,
      by decide, by decide, by decide⟩,
   ⟨stD id, _, _, (Reg.CS_CMD 0), 2, _, 0, granted_fw (by decide), by decide, by decide, by decide, by decide⟩,
   ⟨stD id, _, _, (Reg.CS_CRC_CTL 0), 1, _, 0, granted_fw (by decide), by decide, by decide⟩,
   ⟨stD (fun d => (d.set (Reg.CS_CRC_CTL_CRC_GO 0) 1)), 0, by decide⟩⟩

/-- A state and operands for every clause of `Obligations.ScanAndVideoCommandsTakeEffect`. -/
theorem wit_ScanAndVideoCommandsTakeEffect :
  (∃ (s : State) (t : _) (width : _), s.dev.pulseOk t width = true) ∧
  (∃ (s : State) (t : _) (width : _), s.dev.pulseOk t width = false) ∧
  (∃ (s : State) (late : _), s.dev.scan.winArmed = true ∧ s.dev.flag Reg.BD_STAT_QUALIFIED = true ∧
    let r := s.dev.bd s.mem (roundDivI s.dev.expect6 6).toNat true late
    let d := ((r.1.addSat Reg.BD_CNT_MISSES 1).addSat Reg.BD_STAT_MISS_RUN 1).fire 0x1F 5 0
    d.get Reg.BD_STAT_MISS_RUN < atLeast1 (s.dev.get Reg.BD_CFG_BD_LOSS)) ∧
  (∃ (s : State), s.dev.pmFunc 4 = 0 ∧ s.dev.scan.eosOpen = true ∧ s.dev.flag Reg.BD_CFG_EOS_EN = true ∧
      s.dev.scan.eos.any (·.1 == s.dev.facet) = false) ∧
  (∃ (s : State) (v : Word) (x : _), s.dev.fwRefuse Reg.SHEET_ARM1 = 0 ∧ s.dev.scan.armRef = false ∧ s.dev.scan.armed.length < 2 ∧
      s.dev.sheets.find? (fun y => y.token == s.dev.get Reg.SHEET_ARM0_TOKEN && y.token != 0) = some x ∧
      s.dev.leadOf x % 65536 = ((v.toNat % 65536 : Nat) : Int)) ∧
  (∃ (s : State), s.dev.flag Reg.CK_AUX_STAT_PIX_REF = true) ∧
  (∃ (s : State), s.dev.laserState = LasSt.warming ∧ s.dev.flag Reg.BD_STAT_QUALIFIED = false) ∧
  (∃ (s : State), bit (s.dev.seq 0).pulse 4 = true ∧ s.dev.nextLine = none) ∧
  (∃ (s : State), bit (s.dev.seq 0).pulse 16 = true ∧ s.dev.scan.goSeen = false) :=
  ⟨⟨stD (fun d => ((((let d : Dev := { d with scan := { d.scan with winArmed := true, openAt := some 0 } }; d : Dev).set
      Reg.BD_CFG_W_MIN 0).set Reg.BD_CFG_W_MAX 9).set Reg.BD_STAT_QUALIFIED 0)), 100, 1, by decide⟩,
   ⟨stD id, 100, 1, by decide⟩,
   ⟨stD (fun d => (((({ d with scan := { d.scan with winArmed := true } } : Dev).set Reg.BD_STAT_QUALIFIED 1) : Dev).set
      Reg.BD_CFG_BD_LOSS 5)), false, by decide, by decide, by decide⟩,
   ⟨stD (fun d => (({ d with scan := { d.scan with eosOpen := true } } : Dev).set Reg.BD_CFG_EOS_EN 1)), by decide, by decide,
      by decide, by decide⟩,
   ⟨stD (fun d => ((let d : Dev := wSh id d; { d with scan := { d.scan with armRef := false } } : Dev).set Reg.SHEET_ARM0_TOKEN 1)),
      142, _, by decide, by decide, by decide, rfl, by decide⟩,
   ⟨stD (fun d => (d.set Reg.CK_AUX_STAT_PIX_REF 1)), by decide⟩,
   ⟨stD (fun d => ((d.setLas LasSt.warming).set Reg.BD_STAT_QUALIFIED 0)), by decide, by decide⟩,
   ⟨stD (fun d => ((d : Dev).modSeq 0 (fun q => { q with pulse := 16 }))), by decide, by decide⟩,
   ⟨stD (fun d => (({ d with scan := { d.scan with goSeen := false } } : Dev).modSeq 0 (fun q => { q with pulse := 65536 }))),
      by decide, by decide⟩⟩

/-- A state and operands for every clause of `Obligations.MotorCommandsTakeEffect`. -/
theorem wit_MotorCommandsTakeEffect :
  (∃ (s : State) (m : Fin 3),
    let d := (s.dev.boundary (0x25 + m.val)).engHold
    d.blState m.val = 0 ∧ d.flag (Reg.BL_CTL_RUN m.val) = true ∧ d.blSelected m.val ≠ 0) ∧
  (∃ (s : State) (m : Fin 3) (amp : _), s.dev.blState m.val = 1 ∧
      (s.dev.mot m.val).since + 1000 * atLeast1 (s.dev.get (Reg.BL_CATCH_CATCH_T m.val)) ≤ s.dev.now ∧
      amp < s.dev.get (Reg.BL_CATCH_CATCH_MIN m.val)) ∧
  (∃ (s : State) (m : Fin 3) (amp : _) (spd : _), s.dev.blState m.val = 1 ∧
      (s.dev.mot m.val).since + 1000 * atLeast1 (s.dev.get (Reg.BL_CATCH_CATCH_T m.val)) ≤ s.dev.now ∧
      s.dev.get (Reg.BL_CATCH_CATCH_MIN m.val) ≤ amp ∧ spd * s.dev.blDir m.val < 0) ∧
  (∃ (s : State) (m : Fin 3) (amp : _) (spd : _), s.dev.blState m.val = 1 ∧
      (s.dev.mot m.val).since + 1000 * atLeast1 (s.dev.get (Reg.BL_CATCH_CATCH_T m.val)) ≤ s.dev.now ∧
      s.dev.get (Reg.BL_CATCH_CATCH_MIN m.val) ≤ amp ∧ spd ≠ 0 ∧ 0 ≤ spd * s.dev.blDir m.val ∧
      (s.dev.hoUp m.val : Int) ≤ spd * s.dev.blDir m.val) ∧
  (∃ (s : State) (m : Fin 3), s.dev.blState m.val = 2) ∧
  (∃ (s : State) (m : Fin 3), s.dev.blState m.val = 2 ∧
      (s.dev.mot m.val).since + 100000 * s.dev.get (Reg.BL_CATCH_BRAKE_MAX m.val) ≤ s.dev.now) ∧
  (∃ (s : State) (m : Fin 3) (peaks : _), s.dev.blState m.val = 3 ∧ peaks.length = 12 ∧ ∃ (ph : _),
      s.dev.openPhase m.val peaks = some ph) ∧
  (∃ (s : State) (m : Fin 3) (peaks : _), s.dev.blState m.val = 3 ∧ peaks.length = 12 ∧ s.dev.openPhase m.val peaks = none ∧
      alignFlat peaks = true) ∧
  (∃ (s : State) (m : Fin 3) (peaks : _), s.dev.blState m.val = 3 ∧ peaks.length = 12 ∧ s.dev.openPhase m.val peaks = none ∧
      alignFlat peaks = false) ∧
  (∃ (s : State) (m : Fin 3) (t : _), s.dev.blState m.val = 4 ∧ (s.dev.mot m.val).hoAt = some t ∧ t + 1000000 ≤ s.dev.now) ∧
  (∃ (s : State) (m : Fin 3), s.dev.blState m.val = 6) ∧
  (∃ (s : State) (m : Fin 3), (s.dev.mot m.val).gates ≠ 0 ∧ (s.dev.mot m.val).ocNow = false) ∧
  (∃ (s : State) (m : Fin 3), (s.dev.mot m.val).gates ≠ 0) ∧
  (∃ (d : Dev) (m : _), 1 ≤ d.blState m ∧ d.blState m ≤ 5) ∧
  (∃ (s : State) (v : Word) (m : Fin 3), s.dev.fwRefuse (Reg.BL_CTL m.val) = 0 ∧ bit v.toNat 3 = true ∧
    let d := (s.dev.store (Reg.BL_CTL m.val) v.toNat).set (Reg.BL_CTL_CLR_FAULT m.val) 0
    d.blState m.val = 7 ∧ d.blSelected m.val = 0) ∧
  (∃ (s : State) (m : Fin 3) (n : _), m.val ≠ 0 ∧ s.dev.get (Reg.BL_CTL_DIR_SRC m.val) = 2 ∧ s.dev.pmFunc (2 * (m.val - 1)) = 0 ∧
      s.dev.pmFunc (2 * (m.val - 1) + 1) = 0 ∧ n ≠ 0) ∧
  (∃ (s : State) (m : Fin 3), s.dev.blState m.val = 5 ∧ s.dev.blFwd m.val < 0) ∧
  (∃ (s : State) (m : Fin 3), s.dev.get (Reg.BL_CURVE_CURVE_SRC m.val) = 0 ∧
    let d := s.dev.seti (Reg.BL_CURVE_X_X_NOW m.val) (s.dev.geti (Reg.BL_CURVE_X_X m.val))
    d.curveOk m.val = true ∧ s.dev.curveX m.val 0 ≤ s.dev.geti (Reg.BL_CURVE_X_X m.val)) :=
  ⟨⟨stD (fun d => (((((d.set (Reg.BL_CTL_RUN 0) 1) : Dev).set (Reg.BL_CTL_CMD_SRC 0) 0).set (Reg.BL_SPD_CMD_SPEED 0) 1000).set
      (Reg.BL_MOTOR_RATED 0) 1000)), 0, by decide, by decide, by decide⟩,
   ⟨stD (fun d => ((({ d with now := 1000000000 } : Dev).set (Reg.PG_STAT_STATE (0x25 + 0)) 1).set (Reg.BL_CATCH_CATCH_MIN 0) 5)), 0,
      0, by decide, by decide, by decide⟩,
   ⟨stD (fun d => (({ d with now := 1000000000 } : Dev).set (Reg.PG_STAT_STATE (0x25 + 0)) 1)), 0, 1000000,
      (if (stD id).dev.blDir 0 < 0 then 1000 else -1000), by decide, by decide, by decide, by decide⟩,
   ⟨stD (fun d => (({ d with now := 1000000000 } : Dev).set (Reg.PG_STAT_STATE (0x25 + 0)) 1)), 0, 1000000,
      (if (stD id).dev.blDir 0 < 0 then -100000 else 100000), by decide, by decide, by decide, by decide, by decide, by decide⟩,
   ⟨stD (fun d => ((d : Dev).set (Reg.PG_STAT_STATE (0x25 + 0)) 2)), 0, by decide⟩,
   ⟨stD (fun d => (({ d with now := 1000000000 } : Dev).set (Reg.PG_STAT_STATE (0x25 + 0)) 2)), 0, by decide, by decide⟩,
   ⟨stD (fun d => ((d : Dev).set (Reg.PG_STAT_STATE (0x25 + 0)) 3)), 0, [0,0,0,0,0,0,0,0,0,0,0,0], by decide, by decide, _, rfl⟩,
   ⟨stD (fun d => (((d : Dev).set (Reg.PG_STAT_STATE (0x25 + 0)) 3).set (Reg.BL_CHK_OPEN_PCT 0) 0)), 0, (List.replicate 12 1000),
      by decide, by decide, by decide, by decide⟩,
   ⟨stD (fun d => (((d : Dev).set (Reg.PG_STAT_STATE (0x25 + 0)) 3).set (Reg.BL_CHK_OPEN_PCT 0) 0)), 0,
      [1000,2000,3000,1000,2000,3000,1,2,3,4,5,6], by decide, by decide, by decide, by decide⟩,
   ⟨stD (fun d => ((({ d with now := 1000000000 } : Dev).set (Reg.PG_STAT_STATE (0x25 + 0)) 4).modMot 0 (fun b =>
      { b with hoAt := some 0 }))), 0, _, by decide, rfl, by decide⟩,
   ⟨stD (fun d => ((d : Dev).set (Reg.PG_STAT_STATE (0x25 + 0)) 6)), 0, by decide⟩,
   ⟨stD (fun d => ((d : Dev).modMot 0 (fun b => { b with gates := 1 }))), 0, by decide, by decide⟩,
   ⟨stD (fun d => ((d : Dev).modMot 0 (fun b => { b with gates := 1 }))), 0, by decide⟩,
   ⟨(Dev.reset.set (Reg.PG_STAT_STATE 0x25) 1), 0, by decide, by decide⟩,
   ⟨stD (fun d => ((((d : Dev).set (Reg.PG_STAT_STATE 0x25) 7).set (Reg.BL_SPD_CMD_SPEED 0) 0).set (Reg.BL_CTL_CMD_SRC 0) 0)), 8, 0,
      by decide, by decide, by decide, by decide⟩,
   ⟨stD (fun d => (((d.set (Reg.BL_CTL_DIR_SRC 1) 2) : Dev).set (Reg.BL_CTL_DIR_SRC 1) 2)), 1, 1, by decide, by decide, by decide,
      by decide, by decide⟩,
   ⟨stD (fun d => (((d : Dev).set (Reg.PG_STAT_STATE (0x25 + 0)) 5).seti (Reg.BL_SPEED_SPEED 0) (if d.blDir 0 < 0 then 100 else
      -100))), 0, by decide, by decide⟩,
   ⟨stD (fun d => ((((d.set (Reg.BL_CURVE_CURVE_SRC 0) 0) : Dev).seti (Reg.BL_CURVE_X_X 0) 0).setReg 0x40025104 1)), 0, by decide,
      by decide, by decide⟩⟩

/-- A state and operands for every clause of `Obligations.StepperCommandsTakeEffect`. -/
theorem wit_StepperCommandsTakeEffect :
  (∃ (s : State) (v : Word), s.dev.fwRefuse Reg.MS_POST = 0 ∧ bit v.toNat 0 = true ∧
    let k := s.dev.reg (Reg.MS_SEG 0) % 8
    k = 0) ∧
  (∃ (s : State) (v : Word), s.dev.fwRefuse Reg.MS_POST = 0 ∧ bit v.toNat 0 = true ∧
    let k := s.dev.reg (Reg.MS_SEG 0) % 8
    k = 1) ∧
  (∃ (s : State) (v : Word), s.dev.fwRefuse Reg.MS_POST = 0 ∧ bit v.toNat 0 = true ∧
    let k := s.dev.reg (Reg.MS_SEG 0) % 8
    k = 2) ∧
  (∃ (s : State) (v : Word), s.dev.fwRefuse Reg.MS_POST = 0 ∧ bit v.toNat 0 = true ∧
    let k := s.dev.reg (Reg.MS_SEG 0) % 8
    k = 3) ∧
  (∃ (s : State) (v : Word), s.dev.fwRefuse Reg.MS_POST = 0 ∧ bit v.toNat 0 = true ∧
    let k := s.dev.reg (Reg.MS_SEG 0) % 8
    k = 4) ∧
  (∃ (s : State) (i : Fin 4), (s.dev.ax i.val).drive = true) ∧
  (∃ (s : State) (i : Fin 4) (b : Bool), (s.dev.ax i.val).drive = true ∧
      200 ≤ (if b then (s.dev.coilTargets i.val).2 else (s.dev.coilTargets i.val).1).natAbs) ∧
  (∃ (s : State) (l : Land) (ag : _) (v : Word) (d : Dev) (i : Fin 4), s.dev.granted l = some (ag, Reg.ST_CTL i.val, v, d) ∧
      bit v.toNat 3 = true) ∧
  (∃ (s : State) (i : Fin 4), (s.dev.ax i.val).ramp = 1 ∧ s.dev.past (s.dev.ax i.val).rampAt 10000 = true) ∧
  (∃ (s : State) (i : Fin 4),
    let d := s.dev.stepShadow i.val
    (d.axState i.val = 0 ∨ d.axState i.val = 3) ∧ d.flag (Reg.ST_CTL_DRV_EN i.val) = true ∧ d.get (Reg.CH_STAT_PG 5) = 1 ∧
      (d.ax i.val).drive = false ∧ d.get (Reg.ST_STAT_POS_STATE i.val) ≠ 2) ∧
  (∃ (s : State) (l : Land) (ag : _) (v : Word) (d : Dev), s.dev.granted l = some (ag, Reg.ST_DC 3, v, d)) ∧
  (∃ (s : State), s.dev.s4Dc = true ∧ s.dev.get (Reg.ST_DC_DUTY 3) ≠ 0 ∧ s.dev.flag (Reg.ST_DC_BRAKE 3) = false) :=
  ⟨⟨stD (fun d => ((d : Dev).setReg (Reg.MS_SEG 0) 0)), 1, by decide, by decide, by decide⟩,
   ⟨stD (fun d => ((d : Dev).setReg (Reg.MS_SEG 0) 1)), 1, by decide, by decide, by decide⟩,
   ⟨stD (fun d => ((d : Dev).setReg (Reg.MS_SEG 0) 2)), 1, by decide, by decide, by decide⟩,
   ⟨stD (fun d => ((d : Dev).setReg (Reg.MS_SEG 0) 3)), 1, by decide, by decide, by decide⟩,
   ⟨stD (fun d => ((d : Dev).setReg (Reg.MS_SEG 0) 4)), 1, by decide, by decide, by decide⟩,
   ⟨stD (fun d => ((d : Dev).modAx 0 (fun x => { x with drive := true }))), 0, by decide⟩,
   ⟨stD (fun d => ((((d : Dev).modAx 0 (fun x => { x with drive := true })).set (Reg.ST_CUR_I_RUN 0) 100).set (Reg.ST_CUR_I_HOLD 0)
      100)), 0, true, by decide, by decide⟩,
   ⟨stD id, _, _, 8, _, 0, granted_fw (by decide), by decide⟩,
   ⟨stD (fun d => ((let d : Dev := { d with now := 10000 }; { d with now := 1000000000 } : Dev).modAx 0 (fun x =>
      { x with ramp := 1 }))), 0, by decide, by decide⟩,
   ⟨stD (fun d => ((d.set (Reg.ST_CTL_DRV_EN 0) 1).set (Reg.CH_STAT_PG 5) 1)), 0, by decide, by decide, by decide, by decide,
      by decide⟩,
   ⟨stD id, _, _, 0, _, granted_fw (by decide)⟩,
   ⟨stD (fun d => ((((d.set (Reg.ST_DC_DUTY 3) 1).set (Reg.ST_DC_BRAKE 3) 0) : Dev).set (Reg.ST_CTL_MODE 3) 1)), by decide, by decide,
      by decide⟩⟩

/-- A state and operands for every clause of `Obligations.PathCommandsTakeEffect`. -/
theorem wit_PathCommandsTakeEffect :
  (∃ (s : State) (ins : List SnsIn) (ilk : _) (c0 : _) (c1 : _),
    let inp := fun i : Nat => ins.getD i ⟨false, 512, 0, 1023, false, false⟩
    let r1 := Dev.gather (fun d i => d.debounce i (inp i)) (List.range 6) ((List.range 6).foldl (fun d i => d.snsLevel i (inp i)) s.dev)
    let r2 := Dev.gather (fun d i => d.snsFaultStep i (inp i)) (List.range 6) r1.1
    let r3 := r2.1.warmStray
    let r4 := Dev.gather (fun d j => d.coverSample j (if j = 0 then ilk else if j = 1 then c0 else c1)) [0, 1, 2] r3.1
    let met := r1.2 ++ r2.2 ++ r3.2 ++ (if r3.1.flag Reg.PT_JAM_ACTIVE then [] else r3.1.missed) ++ r4.2
    met = []) ∧
  (∃ (s : State) (ins : List SnsIn) (ilk : _) (c0 : _) (c1 : _),
    let inp := fun i : Nat => ins.getD i ⟨false, 512, 0, 1023, false, false⟩
    let r1 := Dev.gather (fun d i => d.debounce i (inp i)) (List.range 6) ((List.range 6).foldl (fun d i => d.snsLevel i (inp i)) s.dev)
    let r2 := Dev.gather (fun d i => d.snsFaultStep i (inp i)) (List.range 6) r1.1
    let r3 := r2.1.warmStray
    let r4 := Dev.gather (fun d j => d.coverSample j (if j = 0 then ilk else if j = 1 then c0 else c1)) [0, 1, 2] r3.1
    let met := r1.2 ++ r2.2 ++ r3.2 ++ (if r3.1.flag Reg.PT_JAM_ACTIVE then [] else r3.1.missed) ++ r4.2
    ∃ (n : _) (t : _) (c : _) (x : _), decideCond met = some (n, t, c, x)) ∧
  (∃ (s : State) (sh : _) (i : _), s.dev.picked = some sh ∧ (List.range 4).find? (fun i => (s.dev.slot i).state == 0) = some i ∧
      s.dev.pickReady = true) ∧
  (∃ (s : State), s.dev.flag Reg.PT_JAM_ACTIVE = true ∧ s.dev.flag Reg.PT_JAM_COVER_CYCLED = true ∧ s.dev.coversClosed = true ∧
      s.dev.pathMask = 0 ∧ s.dev.path.told = false) :=
  ⟨⟨stD id, [], false, false, false, by decide +kernel⟩,
   ⟨stD (fun d => wSl (fun t => { t with state := 1, wins := [(2, 0, 1)] }) { d with now := 1000000000 }), [], false, false, false, _,
      _, _, _, rfl⟩,
   ⟨stD (fun d => (((((let d : Dev := wSh (fun x => { x with selected := true }) d; d : Dev).set (Reg.ST_STAT_STATE 0) 1).set
      Reg.PT_SNS_STAT_OCC 1).setLas LasSt.ready).setDev DevSt.nominal)), _, _, rfl, rfl, by decide⟩,
   ⟨stD (fun d => ((({ d with path := { d.path with told := false } } : Dev).set Reg.PT_JAM_ACTIVE 1).set Reg.PT_JAM_COVER_CYCLED 1)),
      by decide, by decide, by decide, by decide, by decide⟩⟩

/-- A state and operands for every clause of `Obligations.LoopCommandsTakeEffect`. -/
theorem wit_LoopCommandsTakeEffect :
  (∃ (s : State) (l : Land) (ag : _) (v : Word) (d : Dev) (n : Fin 8), s.dev.granted l = some (ag, Reg.LP_CTL n.val, v, d) ∧
      bit v.toNat 4 = true) ∧
  (∃ (s : State) (l : Land) (ag : _) (v : Word) (d : Dev) (n : Fin 8), s.dev.granted l = some (ag, Reg.LP_CTL n.val, v, d) ∧
      bit v.toNat 4 = false ∧ bit v.toNat 2 = true) ∧
  (∃ (s : State) (l : Land) (ag : _) (v : Word) (d : Dev) (n : Fin 8), s.dev.granted l = some (ag, Reg.LP_CTL n.val, v, d) ∧
      bit v.toNat 4 = false ∧ bit v.toNat 2 = false ∧ bit v.toNat 1 = true) ∧
  (∃ (s : State) (l : Land) (ag : _) (v : Word) (d : Dev) (n : Fin 8), s.dev.granted l = some (ag, Reg.LP_CTL n.val, v, d) ∧
      bit v.toNat 4 = false ∧ bit v.toNat 2 = false ∧ bit v.toNat 1 = false ∧ bit v.toNat 0 = true) ∧
  (∃ (s : State) (l : Land) (ag : _) (v : Word) (d : Dev) (n : Fin 8), s.dev.granted l = some (ag, Reg.LP_CTL n.val, v, d) ∧
      bit v.toNat 4 = false ∧ bit v.toNat 2 = false ∧ bit v.toNat 1 = false ∧ bit v.toNat 0 = false) ∧
  (∃ (s : State) (l : Land) (ag : _) (a : _) (v : Word) (d : Dev) (n : _) (b : _), s.dev.granted l = some (ag, a, v, d) ∧
      coefOf a = some (n, b) ∧ b ≠ d.get (Reg.LP_STAT_BANK n) ∧ d.flag (Reg.LP_STAT_SWAP_PEND n) = false) ∧
  (∃ (s : State) (l : Land) (ag : _) (a : _) (v : Word) (d : Dev) (n : _) (b : _), s.dev.granted l = some (ag, a, v, d) ∧
      coefOf a = some (n, b) ∧ (b = d.get (Reg.LP_STAT_BANK n) ∨ d.flag (Reg.LP_STAT_SWAP_PEND n) = true)) ∧
  (∃ (s : State) (n : Fin 8) (fb : _),
    let d0 := match fb with | some c => s.dev.loopFeed n.val c | none => s.dev
    let d := (d0.ownerBoundary n.val).ownerSet n.val
    d.get (Reg.LP_STAT_STATE n.val) ≠ 1) ∧
  (∃ (s : State) (n : Fin 8) (fb : _),
    let d0 := match fb with | some c => s.dev.loopFeed n.val c | none => s.dev
    let d := (d0.ownerBoundary n.val).ownerSet n.val
    let x := d.loopTick n.val
    d.get (Reg.LP_STAT_STATE n.val) = 1 ∧ x.get (Reg.LP_STAT_STATE n.val) ≠ 2) ∧
  (∃ (s : State) (n : Fin 8) (fb : _),
    let d0 := match fb with | some c => s.dev.loopFeed n.val c | none => s.dev
    let d := (d0.ownerBoundary n.val).ownerSet n.val
    let x := d.loopTick n.val
    d.get (Reg.LP_STAT_STATE n.val) = 1 ∧ x.get (Reg.LP_STAT_STATE n.val) = 2) :=
  ⟨⟨stD id, _, _, 16, _, 0, granted_fw (by decide), by decide⟩,
   ⟨stD id, _, _, 4, _, 0, granted_fw (by decide), by decide, by decide⟩,
   ⟨stD id, _, _, 2, _, 0, granted_fw (by decide), by decide, by decide, by decide⟩,
   ⟨stD id, _, _, 1, _, 0, granted_fw (by decide), by decide, by decide, by decide, by decide⟩,
   ⟨stD id, _, _, 0, _, 0, granted_fw (by decide), by decide, by decide, by decide, by decide⟩,
   ⟨stD (fun d => d.set (Reg.LP_STAT_BANK 0) 1), _, _, 0x4002E100, 0, _, _, _, granted_fw (by decide), rfl, by decide, by decide⟩,
   ⟨stD id, _, _, 0x4002E100, 0, _, _, _, granted_fw (by decide), rfl, by decide⟩,
   ⟨stD id, 0, none, by decide⟩,
   ⟨stD (fun d => (d.set (Reg.LP_STAT_STATE 6) 1)), 6, none, by decide, by decide⟩,
   ⟨stD (fun d => (((d.set (Reg.LP_STAT_STATE 6) 1).set (Reg.LP_IN_STALE_N 6) 2).set (Reg.LP_STAT_STALE_RUN 6) 1).set (Reg.PG_CTL_EN
      0x2D) 1), 6, none, by decide, by decide⟩⟩

/-- A state and operands for every clause of `Obligations.ProcessCommandsTakeEffect`. -/
theorem wit_ProcessCommandsTakeEffect :
  (∃ (s : State), s.dev.proc.onTime = 0 ∧ s.dev.heaterBlocked = true) ∧
  (∃ (s : State) (r : Fin 4096), 4080 ≤ r.val ∧ 2 ≤ s.dev.proc.opens ∧ s.dev.get Reg.FU_STAT_TH_STATE = 0) ∧
  (∃ (r : Fin 4096), 16 < r.val ∧ r.val < 4080) ∧
  (∃ (s : State) (i : _), 100 ≤ s.dev.proc.onTime ∧ s.dev.proc.openRun = 2 ∧
    let d := s.dev.set Reg.FU_HTR_I_I (min i 65535)
    let e := ({ d with proc := { d.proc with openRun := 3 } } : Dev).fuserFault 6
    e.heaterBlocked = true) ∧
  (∃ (s : State), s.dev.proc.corrDue = true ∧ s.dev.flag Reg.FU_STAT_CORR_RUN = false ∧ s.dev.laserState = LasSt.warming ∧
      s.dev.get (Reg.CH_STAT_PG 10) = 1 ∧ s.dev.procHeld 0 = false ∧ s.dev.rcpt = none ∧ s.dev.get Reg.FU_STAT_TH_STATE = 0) ∧
  (∃ (s : State) (l : Land) (ag : _) (v : Word) (d : Dev), s.dev.granted l = some (ag, Reg.FU_CORR, v, d) ∧ bit v.toNat 8 = true) ∧
  (∃ (s : State), s.dev.flag Reg.FU_STAT_OT_LATCH = false) ∧
  (∃ (s : State) (l : Land) (ag : _) (v : Word) (d : Dev), s.dev.granted l = some (ag, Reg.FU_CLR, v, d) ∧ bit v.toNat 0 = true ∧
      d.flag Reg.FU_STAT_OT_LATCH = true ∧ (d.laserState = LasSt.stopped ∨ d.laserState = LasSt.cold ∨ d.laserState = LasSt.safe)) ∧
  (∃ (s : State) (l : Land) (ag : _) (v : Word) (d : Dev), s.dev.granted l = some (ag, Reg.FU_CLR, v, d) ∧ bit v.toNat 0 = true ∧
      d.flag Reg.FU_STAT_OT_LATCH = true) ∧
  (∃ (s : State), s.dev.heaterOn = true ∧ s.dev.faulted 0x2F 7 = false) ∧
  (∃ (s : State), s.dev.heaterOn = false ∧ s.dev.faulted 0x2F 8 = false) ∧
  (∃ (s : State), s.dev.hvAllowed = true ∧ s.dev.get (Reg.CH_STAT_PG 9) = 1 ∧ s.dev.proc.hvUp = 0 ∧ s.dev.proc.hvCh = none) ∧
  (∃ (s : State), s.dev.flag Reg.LS_STAT_OP_LATCH = false) ∧
  (∃ (s : State) (l : Land) (ag : _) (v : Word) (d : Dev), s.dev.granted l = some (ag, Reg.LS_CTL, v, d) ∧ bit v.toNat 1 = true ∧
      d.flag Reg.LS_STAT_OP_LATCH = true ∧ d.flag Reg.LS_CTL_ARM = false) ∧
  (∃ (s : State) (l : Land) (ag : _) (v : Word) (d : Dev), s.dev.granted l = some (ag, Reg.LS_CTL, v, d) ∧ bit v.toNat 1 = true) ∧
  (∃ (s : State), s.dev.flag Reg.HV_STAT_HV_EN = false ∧ s.dev.faulted 0x30 4 = false) ∧
  (∃ (s : State), s.dev.flag Reg.LS_STAT_PERMIT = false ∧ s.dev.faulted 0x31 3 = false) :=
  ⟨⟨stD (fun d => { d with proc := { d.proc with onTime := 0 } }), by decide, by decide⟩,
   ⟨stD (fun d => let d : Dev := { d with proc := { d.proc with opens := 2 } }; (d.set Reg.FU_STAT_TH_STATE 0)), 4090, by decide,
      by decide, by decide⟩,
   ⟨100, by decide, by decide⟩,
   ⟨stD (fun d => let d : Dev := { d with proc := { d.proc with onTime := 100 } }; { d with proc := { d.proc with openRun := 2 } }), 0,
      by decide, by decide, by decide⟩,
   ⟨stD (fun d => (((((((({ d with proc := { d.proc with corrDue := true }, rcpt := none } : Dev).set Reg.FU_STAT_CORR_RUN 0).setLas
      LasSt.warming).set (Reg.CH_STAT_PG 10) 1).set Reg.FU_STAT_TH_STATE 0) : Dev).setLas LasSt.warming).set (Reg.CH_STAT_PG 10) 1)),
      by decide, by decide, by decide, by decide, by decide, by decide, by decide⟩,
   ⟨stD id, _, _, 256, _, granted_fw (by decide), by decide⟩,
   ⟨stD (fun d => (d.set Reg.FU_STAT_OT_LATCH 0)), by decide⟩,
   ⟨stD (fun d => (((d.set Reg.FU_STAT_OT_LATCH 1) : Dev).setLas LasSt.cold)), _, _, 1, _, granted_fw (by decide), by decide,
      by decide, by decide⟩,
   ⟨stD (fun d => (d.set Reg.FU_STAT_OT_LATCH 1)), _, _, 1, _, granted_fw (by decide), by decide, by decide⟩,
   ⟨stD (fun d => ((let d : Dev := { d with proc := { d.proc with onTime := 5 } }; d : Dev).set Reg.FU_STAT_HTR_ON 1)), by decide,
      by decide⟩,
   ⟨stD id, by decide, by decide⟩,
   ⟨stD (fun d => (((((({ d with proc := { d.proc with hvUp := 0, hvCh := none } } : Dev).set (Reg.CH_STAT_PG 9) 1) : Dev).setLas
      LasSt.ready).set (Reg.BL_STAT_SPD_LOCK 1) 1).set Reg.LS_STAT_ILK 1)), by decide, by decide, by decide, by decide⟩,
   ⟨stD (fun d => (d.set Reg.LS_STAT_OP_LATCH 0)), by decide⟩,
   ⟨stD (fun d => ((d.set Reg.LS_STAT_OP_LATCH 1).set Reg.LS_CTL_ARM 0)), _, _, 2, _, granted_fw (by decide), by decide, by decide,
      by decide⟩,
   ⟨stD id, _, _, 2, _, granted_fw (by decide), by decide⟩,
   ⟨stD (fun d => (d.set Reg.HV_STAT_HV_EN 0)), by decide, by decide⟩,
   ⟨stD (fun d => (d.set Reg.LS_STAT_PERMIT 0)), by decide, by decide⟩⟩

/-- A state and operands for every clause of `Obligations.ThermalLineCommandsTakeEffect`. -/
theorem wit_ThermalLineCommandsTakeEffect :
  (∃ (s : State), s.dev.linePulse 0 = true ∧
    let d := s.dev.takePulse 0
    d.rcptJob = none) ∧
  (∃ (s : State), s.dev.linePulse 0 = true ∧
    let d := s.dev.takePulse 0
    ∃ (j : _), d.rcptJob = some j ∧ d.lineReady s.mem j d.head.next = false) ∧
  (∃ (s : State), s.dev.linePulse 0 = true ∧
    let d := s.dev.takePulse 0
    ∃ (j : _), d.rcptJob = some j ∧ d.lineReady s.mem j d.head.next = true ∧ d.rcptEcc j d.head.next = none) ∧
  (∃ (s : State), s.dev.linePulse 1 = true ∧
    let d := s.dev.takePulse 1
    (d.head.shifted = none ∨ d.rcptJob = none)) ∧
  (∃ (s : State), s.dev.linePulse 1 = true ∧
    let d := s.dev.takePulse 1
    ∃ (n : _) (j : _), d.head.shifted = some n ∧ d.rcptJob = some j ∧ d.flag Reg.PF_STAT_PFW = true) ∧
  (∃ (s : State) (vh : _), s.dev.linePulse 1 = true ∧
    let d := s.dev.takePulse 1
    ∃ (n : _) (j : _), d.head.shifted = some n ∧ d.rcptJob = some j ∧ d.flag Reg.PF_STAT_PFW = false ∧
    let e := d.latchLine vh n j
    e.readyFrom s.mem j (n + 1) ≠ 0) ∧
  (∃ (s : State) (vh : _), s.dev.linePulse 1 = true ∧
    let d := s.dev.takePulse 1
    ∃ (n : _) (j : _), d.head.shifted = some n ∧ d.rcptJob = some j ∧ d.flag Reg.PF_STAT_PFW = false ∧
    let e := d.latchLine vh n j
    e.readyFrom s.mem j (n + 1) = 0 ∧ j.lastLine s.mem n = false ∧ e.head.stopping = 0) ∧
  (∃ (s : State), s.dev.linePulse 2 = true) ∧
  (∃ (s : State), s.dev.head.train ≠ 0) ∧
  (∃ (s : State), s.dev.linePulse 3 = true ∧
    let d := s.dev.takePulse 3
    4 ≤ d.head.preN) ∧
  (∃ (s : State), s.dev.linePulse 3 = true ∧
    let d := s.dev.takePulse 3
    d.head.preN < 4 ∧
    let w := min (d.linePort 4) (min 50 (d.get Reg.HD_ENERGY_PRE_PCT) * (sortNat (d.head.widths.filter (· != 0))).headD 0 / 100 -
      d.head.preUsed)
    w ≠ 0 ∧ d.trainLen (fun k => d.head.pre.getD k false) w ≠ 0) ∧
  (∃ (s : State), s.dev.linePulse 4 = true ∧
    let d := (s.dev.takePulse 4).modHead (fun h => { h with stepDone := true })
    ((d.ax 2).vel ≠ 0 ∨ (d.ax 2).queue ≠ [] ∨ d.flag Reg.PF_STAT_PFW = true)) ∧
  (∃ (s : State), s.dev.linePulse 4 = true ∧
    let d := (s.dev.takePulse 4).modHead (fun h => { h with stepDone := true })
    ∃ (j : _), (d.ax 2).vel = 0 ∧ (d.ax 2).queue = [] ∧ d.flag Reg.PF_STAT_PFW = false ∧ d.head.job = .lines ∧ d.rcptJob = some j) ∧
  (∃ (s : State), s.dev.linePulse 7 = true ∧
    let d := (s.dev.takePulse 7).headBoundary
    d.head.lineOn = false) ∧
  (∃ (s : State), s.dev.linePulse 7 = true ∧
    let d := (s.dev.takePulse 7).headBoundary
    d.head.lineOn = true ∧ d.head.overran = false ∧
    let e := (d.set Reg.HD_FIT_SCHED (min 65535 (d.head.sched / 100))).modHead (fun h =>
      { h with lineOn := false, overran := false, printed := h.printed + 1 })
    ∃ (j : _), e.rcptJob = some j ∧ j.lastLine s.mem (e.head.latched - 1) = true ∧ e.head.stopping ≠ 2) ∧
  (∃ (s : State), s.dev.linePulse 5 = true ∧
    let d := s.dev.takePulse 5
    d.thermalState = ThmSt.idle) ∧
  (∃ (s : State), s.dev.linePulse 6 = true ∧
    let d := s.dev.takePulse 6
    d.head.cutting = true ∧ d.head.job ≠ .homing ∧ d.flag Reg.PF_STAT_PFW = false ∧
    let e := d.modHead (fun h => { h with cutAt := d.now, cutDone := false, cutOn := 1 })
    e.s4Dc = true) ∧
  (∃ (s : State), s.dev.linePulse 6 = true ∧
    let d := s.dev.takePulse 6
    d.head.cutting = true ∧ d.head.job ≠ .homing ∧ d.flag Reg.PF_STAT_PFW = false ∧
    let e := d.modHead (fun h => { h with cutAt := d.now, cutDone := false, cutOn := 1 })
    e.s4Dc = false) :=
  ⟨⟨stD (fun d => (d.modSeq 1 (fun q => { q with pulse := 1 }))), by decide, by decide⟩,
   ⟨stD (fun d => let d : Dev := wRc id d; (d.modSeq 1 (fun q => { q with pulse := 1 }))), by decide, _, rfl, by decide⟩,
   ⟨stD (fun d => let d : Dev := wRu (wRc id d); (d.modSeq 1 (fun q => { q with pulse := 1 }))), by decide, _, rfl, by decide,
      by decide⟩,
   ⟨stD (fun d => (d.modSeq 1 (fun q => { q with pulse := 2 }))), by decide, by decide⟩,
   ⟨stD (fun d => ((let d : Dev := wRu (wRc id d); ((d.modSeq 1 (fun q => { q with pulse := 2 })).set Reg.PF_STAT_PFW 1) : Dev).modHead
      (fun h => { h with shifted := some 0 }))), by decide, _, _, rfl, rfl, by decide⟩,
   ⟨stD (fun d => ((let d : Dev := wRu (wRc id d); ((d.modSeq 1 (fun q => { q with pulse := 2 })).set Reg.PF_STAT_PFW 0) : Dev).modHead
      (fun h => { h with shifted := some 0 }))), 24000, by decide +kernel, _, _, rfl, rfl, by decide +kernel, by decide +kernel⟩,
   ⟨stD (fun d =>
      ((let d : Dev := wRc id d; ((({ d with head := { d.head with stopping := 0 } } : Dev).modSeq 1 (fun q => { q with pulse := 2 })).set Reg.PF_STAT_PFW 0) : Dev).modHead
      (fun h => { h with shifted := some 0 }))), 24000, by decide +kernel, _, _, rfl, rfl, by decide +kernel, by decide +kernel,
      by decide +kernel, by decide +kernel⟩,
   ⟨stD (fun d => (d.modSeq 1 (fun q => { q with pulse := 4 }))), by decide⟩,
   ⟨stD (fun d => ((d : Dev).modHead (fun h => { h with train := 1 }))), by decide⟩,
   ⟨stD (fun d => (((d.modSeq 1 (fun q => { q with pulse := 8 })) : Dev).modHead (fun h => { h with preN := 4 }))), by decide,
      by decide⟩,
   ⟨(stD (fun d => (((d.modSeq 1 (fun q => { q with pulse := 8, ports := List.replicate 16 65535 })).modHead (fun h =>
      { h with widths := [1000], pre := [true] })).set Reg.HD_ENERGY_PRE_PCT 50))), by decide +kernel, by decide +kernel,
      by decide +kernel, by decide +kernel⟩,
   ⟨stD (fun d => (((d.modSeq 1 (fun q => { q with pulse := 16 })) : Dev).set Reg.PF_STAT_PFW 1)), by decide, by decide⟩,
   ⟨stD (fun d => ((wRc id d).modHead (fun h => { h with job := .lines })).modSeq 1 (fun q => { q with pulse := 16 })), by decide, _,
      by decide, by decide, by decide, by decide, rfl⟩,
   ⟨stD (fun d => (({ d with head := { d.head with lineOn := false } } : Dev).modSeq 1 (fun q => { q with pulse := 128 }))), by decide,
      by decide⟩,
   ⟨(let s := stD (fun d => ((wRc (fun j => { j with stream := { Stream.empty with exts := [0x60000000], len := 40, last := true } }) d).modHead (fun h => { h with lineOn := true, overran := false, latched := 1 })).modSeq 1 (fun q => { q with pulse := 128 })); { s with mem := s.mem.writeBytes 0x60000000 (hdrBytes 0 0 1 false 64 1 0 8 8 0) }),
      by decide +kernel, by decide +kernel, by decide +kernel, _, rfl, by decide +kernel, by decide +kernel⟩,
   ⟨stD (fun d => ((d.modSeq 1 (fun q => { q with pulse := 32 })).setThm ThmSt.idle 0)), by decide, by decide⟩,
   ⟨stD (fun d => ((d.modHead (fun h => { h with job := .cut })).modSeq 1 (fun q => { q with pulse := 64 })).set (Reg.ST_CTL_MODE 3)
      1), by decide, by decide, by decide, by decide, by decide⟩,
   ⟨stD (fun d => ((d.modHead (fun h => { h with job := .cut })).modSeq 1 (fun q => { q with pulse := 64 })).set (Reg.ST_CTL_MODE 3)
      0), by decide, by decide, by decide, by decide, by decide⟩⟩

/-- A state and operands for every clause of `Obligations.HeadCommandsTakeEffect`. -/
theorem wit_HeadCommandsTakeEffect :
  (∃ (s : State) (o : _) (p : _) (j : _),
    let g := b2n o + 2 * b2n p + 4 * b2n j
    g ≠ 0 ∧ g &&& (7 ^^^ s.dev.get Reg.HD_STAT_GATE) = 0) ∧
  (∃ (s : State), s.dev.get Reg.HD_STAT_GATE ≠ 0 ∧ s.dev.thermalState = ThmSt.idle ∧ bit (s.dev.get Reg.HD_STAT_GATE) 0 = true ∧
    let d := (((s.dev.setThm ThmSt.blocked 0).endReceipt St.coverOpen).endFeed St.coverOpen).strobesOff.historyOff
    (d.ax 2).vel = 0 ∧ d.head.cutting = false) ∧
  (∃ (s : State), s.dev.thermalState = ThmSt.blocked ∧ s.dev.get Reg.HD_STAT_GATE = 0) ∧
  (∃ (s : State) (l : Land) (ag : _) (v : Word) (d : Dev), s.dev.granted l = some (ag, Reg.HD_CTL, v, d) ∧ bit v.toNat 0 = true ∧
      bit v.toNat 1 = false ∧
    let e := (List.range 16).foldl (fun d c => if d.headCauseGone c then d.headClear c else d) d
    e.thermalState = ThmSt.fault ∧ e.get Reg.HD_STAT_CAUSES = 0 ∧ e.get Reg.HD_STAT_GATE = 0) ∧
  (∃ (s : State) (l : Land) (ag : _) (v : Word) (d : Dev), s.dev.granted l = some (ag, Reg.HD_CTL, v, d) ∧ bit v.toNat 0 = true ∧
      bit v.toNat 1 = false ∧
    let e := (List.range 16).foldl (fun d c => if d.headCauseGone c then d.headClear c else d) d
    (e.thermalState ≠ ThmSt.fault ∨ e.get Reg.HD_STAT_CAUSES ≠ 0)) ∧
  (∃ (s : State) (mv : _), 4500 ≤ mv ∧
    let e := s.dev.head.elem
    let elems := if s.dev.head.elems.contains e then s.dev.head.elems else s.dev.head.elems ++ [e]
    let d := s.dev.modHead (fun h =>
      { h with measDone := true, elems := elems, res := (h.res.filter (fun x => x.1 != e)) ++ [(e, 0xFFF)] })
    let x := (d.set Reg.HD_MEAS_DONE_ELEMS elems.length).enterDefect e (d.defectKind 0xFFF)
    x.flag Reg.HD_MEAS_SWEEP_DONE = true) ∧
  (∃ (s : State), s.dev.head.cutting = true ∧ s.dev.head.job ≠ .homing ∧ s.dev.flag Reg.HD_STAT_HOMED = true ∧ s.dev.cutOver = true ∧
    let k := s.dev.head.cutKind
    let d := (((s.dev.modHead (fun h => { h with cutDone := true, cutMade := k, cutOn := 0 })).fire 0x24 4 0).lifeAdd (if k = 2 then 15
      else 16) 1).set (Reg.ST_STAT_POS_STATE 3) 0
    d.head.job = .cut) ∧
  (∃ (s : State) (j : _), s.dev.rcptJob = some j ∧ s.dev.head.job = .lines ∧ s.dev.homeNeeded j = true ∧
      s.dev.flag Reg.PF_STAT_PFW = false) ∧
  (∃ (s : State), s.dev.head.cutting = true ∧ s.dev.past s.dev.head.cutAt (10000 * s.dev.get Reg.HD_CUT0_CUT_TMAX) = true) ∧
  (∃ (s : State), bit (s.dev.get Reg.HD_STAT_CAUSES) 5 = false) ∧
  (∃ (s : State) (r : Fin 4096), 4080 ≤ r.val ∧ 2 ≤ s.dev.head.opens) ∧
  (∃ (r : Fin 4096), 16 < r.val ∧ r.val < 4080) ∧
  (∃ (s : State) (mv : _), s.dev.get Reg.HD_VH_VH_MIN ≤ mv ∧ mv ≤ s.dev.get Reg.HD_VH_VH_MAX) ∧
  (∃ (s : State) (l : Land) (ag : _) (v : Word) (d : Dev), s.dev.granted l = some (ag, Reg.HD_CTL, v, d) ∧ bit v.toNat 0 = false ∧
      bit v.toNat 1 = true) ∧
  (∃ (s : State) (l : Land) (ag : _) (v : Word) (d : Dev), s.dev.granted l = some (ag, Reg.HD_DEF_ENT, v, d)) :=
  ⟨⟨stD (fun d => d.set Reg.HD_STAT_GATE 4), false, false, true, by decide, by decide⟩,
   ⟨stD (fun d => (d.set Reg.HD_STAT_GATE 1).setThm ThmSt.idle 0), by decide, by decide, by decide, by decide, by decide⟩,
   ⟨stD (fun d => ((d.setThm ThmSt.blocked 0).set Reg.HD_STAT_GATE 0)), by decide, by decide⟩,
   ⟨stD (fun d => (((d.setThm ThmSt.fault 0).set Reg.HD_STAT_CAUSES 0).set Reg.HD_STAT_GATE 0)), _, _, 1, _, granted_fw (by decide),
      by decide, by decide, by decide, by decide, by decide⟩,
   ⟨stD (fun d => ((d : Dev).set Reg.HD_STAT_CAUSES 1)), _, _, 1, _, granted_fw (by decide), by decide, by decide, by decide⟩,
   ⟨stD (fun d => (d.set Reg.HD_MEAS_SWEEP_DONE 1)), 4500, by decide, by decide⟩,
   ⟨stD (fun d => (d.modHead (fun h => { h with job := .cut, cutOn := 1 })).set Reg.HD_STAT_HOMED 1), by decide, by decide, by decide,
      by decide, by decide⟩,
   ⟨stD (fun d => (wRc (fun j => { j with cut := 1 }) d).modHead (fun h => { h with job := .lines })), _, rfl, by decide, by decide,
      by decide⟩,
   ⟨stD (fun d => { (d.modHead (fun h => { h with job := .cut })) with now := 1000000000 }), by decide, by decide⟩,
   ⟨stD id, by decide⟩,
   ⟨stD (fun d => ((d : Dev).modHead (fun h => { h with opens := 2 }))), 4090, by decide, by decide⟩,
   ⟨100, by decide, by decide⟩,
   ⟨stD id, ((stD id).dev.get Reg.HD_VH_VH_MIN), by decide, by decide⟩,
   ⟨stD id, _, _, 2, _, granted_fw (by decide), by decide, by decide⟩,
   ⟨stD id, _, _, 0, _, granted_fw (by decide)⟩⟩

/-- A state and operands for every clause of `Obligations.PowerSequencerStepsTakeEffect`. -/
theorem wit_PowerSequencerStepsTakeEffect :
  (∃ (s : State),
    let d := s.dev
    let w := d.pseqWord
    d.pw.phase = 1 ∧ d.pw.past = false ∧ stepLegal w = true ∧ w / 2 ^ 28 = 0) ∧
  (∃ (s : State),
    let d := s.dev
    let w := d.pseqWord
    d.pw.phase = 1 ∧ d.pw.past = false ∧ stepLegal w = true ∧ w / 2 ^ 28 = 1) ∧
  (∃ (s : State),
    let d := s.dev
    let w := d.pseqWord
    d.pw.phase = 1 ∧ d.pw.past = false ∧ stepLegal w = true ∧ w / 2 ^ 28 = 2) ∧
  (∃ (s : State),
    let d := s.dev
    let w := d.pseqWord
    d.pw.phase = 1 ∧ d.pw.past = false ∧ stepLegal w = true ∧ w / 2 ^ 28 = 3 ∧ w % 2 ^ 20 = 0) ∧
  (∃ (s : State),
    let d := s.dev
    let w := d.pseqWord
    d.pw.phase = 1 ∧ d.pw.past = false ∧ stepLegal w = true ∧ w / 2 ^ 28 = 3 ∧ w % 2 ^ 20 ≠ 0) ∧
  (∃ (s : State),
    let d := s.dev
    let w := d.pseqWord
    d.pw.phase = 1 ∧ d.pw.past = false ∧ stepLegal w = true ∧ w / 2 ^ 28 = 4 ∧ d.stepCond w = true) ∧
  (∃ (s : State),
    let d := s.dev
    let w := d.pseqWord
    d.pw.phase = 1 ∧ d.pw.past = false ∧ stepLegal w = true ∧ w / 2 ^ 28 = 4 ∧ d.stepCond w = false) ∧
  (∃ (s : State),
    let d := s.dev
    let w := d.pseqWord
    d.pw.phase = 1 ∧ d.pw.past = false ∧ stepLegal w = true ∧ w / 2 ^ 28 = 5 ∧ d.stepCond w = true) ∧
  (∃ (s : State),
    let d := s.dev
    let w := d.pseqWord
    d.pw.phase = 1 ∧ d.pw.past = false ∧ stepLegal w = true ∧ w / 2 ^ 28 = 5 ∧ d.stepCond w = false) ∧
  (∃ (s : State),
    let d := s.dev
    let w := d.pseqWord
    d.pw.phase = 1 ∧ d.pw.past = false ∧ stepLegal w = true ∧ w / 2 ^ 28 = 6) ∧
  (∃ (s : State),
    let d := s.dev
    let w := d.pseqWord
    d.pw.phase = 1 ∧ d.pw.past = false ∧ stepLegal w = true ∧ w / 2 ^ 28 = 7 ∧ d.stepCond w = true) ∧
  (∃ (s : State),
    let d := s.dev
    let w := d.pseqWord
    d.pw.phase = 1 ∧ d.pw.past = false ∧ stepLegal w = true ∧ w / 2 ^ 28 = 7 ∧ d.stepCond w = false) ∧
  (∃ (s : State),
    let d := s.dev
    let w := d.pseqWord
    d.pw.phase = 1 ∧ d.pw.past = false ∧ stepLegal w = true ∧ w / 2 ^ 28 = 8) ∧
  (∃ (s : State), s.dev.pw.phase = 2) ∧
  (∃ (s : State), s.dev.pw.phase = 3 ∧ s.dev.stepCond s.dev.pseqWord = true) ∧
  (∃ (s : State), s.dev.pw.phase = 3 ∧ s.dev.stepCond s.dev.pseqWord = false) ∧
  (∃ (s : State) (p : _), s.dev.pw.phase = 1 ∧ (p = true ∨ s.dev.pw.past = true ∨ stepLegal s.dev.pseqWord = false)) :=
  ⟨⟨stD (fun d => ({ d with pw := { d.pw with phase := 1 } } : Dev).setReg (Reg.PSEQ_STEP (d.get Reg.PSEQ_STAT_STEP)) 0), by decide,
      by decide, by decide, by decide⟩,
   ⟨stD (fun d => ({ d with pw := { d.pw with phase := 1 } } : Dev).setReg (Reg.PSEQ_STEP (d.get Reg.PSEQ_STAT_STEP)) 0x10000001),
      by decide, by decide, by decide, by decide⟩,
   ⟨stD (fun d => ({ d with pw := { d.pw with phase := 1 } } : Dev).setReg (Reg.PSEQ_STEP (d.get Reg.PSEQ_STAT_STEP)) 0x20000001),
      by decide, by decide, by decide, by decide⟩,
   ⟨stD (fun d => ({ d with pw := { d.pw with phase := 1 } } : Dev).setReg (Reg.PSEQ_STEP (d.get Reg.PSEQ_STAT_STEP)) 0x30000000),
      by decide, by decide, by decide, by decide, by decide⟩,
   ⟨stD (fun d => ({ d with pw := { d.pw with phase := 1 } } : Dev).setReg (Reg.PSEQ_STEP (d.get Reg.PSEQ_STAT_STEP)) 0x30000005),
      by decide, by decide, by decide, by decide, by decide⟩,
   ⟨stD (fun d => ({ d with pw := { d.pw with phase := 1 } } : Dev).setReg (Reg.PSEQ_STEP (d.get Reg.PSEQ_STAT_STEP)) 0x40000040),
      by decide, by decide, by decide, by decide, by decide⟩,
   ⟨stD (fun d => ({ d with pw := { d.pw with phase := 1 } } : Dev).setReg (Reg.PSEQ_STEP (d.get Reg.PSEQ_STAT_STEP)) 0x40000000),
      by decide, by decide, by decide, by decide, by decide⟩,
   ⟨stD (fun d => ({ d with pw := { d.pw with phase := 1 } } : Dev).setReg (Reg.PSEQ_STEP (d.get Reg.PSEQ_STAT_STEP)) 0x50000040),
      by decide, by decide, by decide, by decide, by decide⟩,
   ⟨stD (fun d => ({ d with pw := { d.pw with phase := 1 } } : Dev).setReg (Reg.PSEQ_STEP (d.get Reg.PSEQ_STAT_STEP)) 0x50000000),
      by decide, by decide, by decide, by decide, by decide⟩,
   ⟨stD (fun d => ({ d with pw := { d.pw with phase := 1 } } : Dev).setReg (Reg.PSEQ_STEP (d.get Reg.PSEQ_STAT_STEP)) 0x60000000),
      by decide, by decide, by decide, by decide⟩,
   ⟨stD (fun d => ({ d with pw := { d.pw with phase := 1 } } : Dev).setReg (Reg.PSEQ_STEP (d.get Reg.PSEQ_STAT_STEP)) 0x70000040),
      by decide, by decide, by decide, by decide, by decide⟩,
   ⟨stD (fun d => ({ d with pw := { d.pw with phase := 1 } } : Dev).setReg (Reg.PSEQ_STEP (d.get Reg.PSEQ_STAT_STEP)) 0x70000000),
      by decide, by decide, by decide, by decide, by decide⟩,
   ⟨stD (fun d => ({ d with pw := { d.pw with phase := 1 } } : Dev).setReg (Reg.PSEQ_STEP (d.get Reg.PSEQ_STAT_STEP)) 0x80000000),
      by decide, by decide, by decide, by decide⟩,
   ⟨stD (fun d => { d with pw := { d.pw with phase := 2 } }), by decide⟩,
   ⟨stD (fun d => ({ d with pw := { d.pw with phase := 3 } } : Dev).setReg (Reg.PSEQ_STEP (d.get Reg.PSEQ_STAT_STEP)) 0x40000040),
      by decide, by decide⟩,
   ⟨stD (fun d => ({ d with pw := { d.pw with phase := 3 } } : Dev).setReg (Reg.PSEQ_STEP (d.get Reg.PSEQ_STAT_STEP)) 0x40000000),
      by decide, by decide⟩,
   ⟨stD (fun d => { d with pw := { d.pw with phase := 1 }, now := 1000000000 }), true, by decide, by decide⟩⟩

/-- A state and operands for every clause of `Obligations.PowerEntriesTakeEffect`. -/
theorem wit_PowerEntriesTakeEffect :
  (∃ (s : State) (v : Nat), s.dev.pw.phase = 0 ∧ [1, 2, 3, 7, 6].find? (fun v => bit (s.dev.get Reg.PSEQ_REQ_REQ) v) = some v ∧ v ≠ 3) ∧
  (∃ (s : State),
    let v := s.dev.get Reg.PSEQ_STAT_VEC
    s.dev.pw.phase ≠ 0 ∧ (v = 1 ∨ v = 5)) ∧
  (∃ (s : State) (l : Land) (ag : _) (v : Word) (d : Dev), s.dev.granted l = some (ag, Reg.PSEQ_REQ, v, d)) ∧
  (∃ (s : State) (l : Land) (ag : _) (v : Word) (d : Dev), s.dev.granted l = some (ag, Reg.PSEQ_CTL, v, d) ∧
    let ready := d.axesParked && d.laserState == LasSt.cold && d.thermalState == ThmSt.idle && d.rcpt.isNone
    (ready = true ∨ bit v.toNat 0 = false)) ∧
  (∃ (s : State) (l : Land) (ag : _) (v : Word) (d : Dev), s.dev.granted l = some (ag, Reg.PSEQ_CTL, v, d) ∧
    let ready := d.axesParked && d.laserState == LasSt.cold && d.thermalState == ThmSt.idle && d.rcpt.isNone
    ready = false ∧ bit v.toNat 0 = true) ∧
  (∃ (s : State), s.dev.devState = DevSt.off ∧ s.dev.flag Reg.PF_STAT_VIN_OK = true ∧ s.dev.flag Reg.PSEQ_CTL_PU_HALT = false) ∧
  (∃ (s : State), s.dev.devState = DevSt.off ∧ s.dev.flag Reg.PF_STAT_VIN_OK = true ∧ s.dev.flag Reg.PSEQ_CTL_PU_HALT = false ∧
      0 < s.dev.get Reg.PSEQ_CTL_PU_FAILS) ∧
  (∃ (s : State) (l : Land) (ag : _) (v : Word) (d : Dev), s.dev.granted l = some (ag, Reg.PWR_CMD, v, d) ∧ bit v.toNat 0 = true ∧
      bit v.toNat 1 = false ∧ bit v.toNat 2 = false) ∧
  (∃ (s : State) (l : Land) (ag : _) (v : Word) (d : Dev), s.dev.granted l = some (ag, Reg.PWR_CMD, v, d) ∧ bit v.toNat 1 = true ∧
      bit v.toNat 2 = false) ∧
  (∃ (s : State) (l : Land) (ag : _) (v : Word) (d : Dev), s.dev.granted l = some (ag, Reg.PWR_CMD, v, d) ∧ bit v.toNat 2 = true ∧
      (d.set Reg.PWR_CMD_CYCLE 1).fwRuns = true) ∧
  (∃ (s : State), s.dev.fwRuns = true) ∧
  (∃ (s : State), s.dev.devState = DevSt.off) ∧
  (∃ (s : State), s.dev.devState = DevSt.tripped) ∧
  (∃ (s : State), s.dev.devState ≠ DevSt.off ∧ s.dev.devState ≠ DevSt.tripped) :=
  ⟨⟨stD (fun d => (({ d with pw := { d.pw with phase := 0 } } : Dev).set Reg.PSEQ_REQ_REQ 2)), 1, by decide, by decide, by decide⟩,
   ⟨stD (fun d => ({ d with pw := { d.pw with phase := 1 } } : Dev).set Reg.PSEQ_STAT_VEC 1), by decide, by decide⟩,
   ⟨stD id, _, _, 0, _, granted_fw (by decide)⟩,
   ⟨stD id, _, _, 0, _, granted_fw (by decide), by decide⟩,
   ⟨stD (fun d => ((d : Dev).setLas LasSt.ready)), _, _, 1, _, granted_fw (by decide), by decide, by decide⟩,
   ⟨stD (fun d => (((d.setDev DevSt.off).set Reg.PF_STAT_VIN_OK 1).set Reg.PSEQ_CTL_PU_HALT 0)), by decide, by decide, by decide⟩,
   ⟨stD (fun d => (((((d.setDev DevSt.off).set Reg.PF_STAT_VIN_OK 1).set Reg.PSEQ_CTL_PU_HALT 0) : Dev).set Reg.PSEQ_CTL_PU_FAILS 1)),
      by decide, by decide, by decide, by decide⟩,
   ⟨stD (fun d => ((d.setDev DevSt.nominal).setLas LasSt.cold).setThm ThmSt.idle 0), _, _, 1, _, granted_fw (by decide), by decide,
      by decide, by decide⟩,
   ⟨stD id, _, _, 2, _, granted_fw (by decide), by decide, by decide⟩,
   ⟨stD (fun d => ((d : Dev).setDev DevSt.nominal)), _, _, 4, _, granted_fw (by decide), by decide, by decide⟩,
   ⟨stD (fun d => ((d : Dev).setDev DevSt.nominal)), by decide⟩,
   ⟨stD (fun d => (d.setDev DevSt.off)), by decide⟩,
   ⟨stD (fun d => (d.setDev DevSt.tripped)), by decide⟩,
   ⟨stD (fun d => ((d : Dev).setDev DevSt.nominal)), by decide, by decide⟩⟩

/-- A state and operands for every clause of `Obligations.PowerConditionsTakeEffect`. -/
theorem wit_PowerConditionsTakeEffect :
  (∃ (s : State) (ok : _),
    let d := (s.dev.setb Reg.PF_STAT_VM_OK ok).rbUpdate
    d.devState ≠ DevSt.standby) ∧
  (∃ (s : State), s.dev.flag Reg.PF_STAT_INPUT_OV = false ∧ s.dev.devState ≠ DevSt.off) ∧
  (∃ (s : State), s.dev.flag Reg.PF_STAT_INPUT_OV = true) ∧
  (∃ (s : State), s.dev.devState ≠ DevSt.off ∧ s.dev.devState ≠ DevSt.tripped) ∧
  (∃ (s : State) (n : Fin 16), s.dev.get (Reg.CH_STAT_PG n.val) = 1) ∧
  (∃ (s : State) (n : Fin 16), bit s.dev.pw.dchg n.val = true ∧ s.dev.chOn n.val = false) ∧
  (∃ (s : State) (c : Fin 7) (n : Fin 16), c.val ≠ 0 ∧ s.dev.tripHolds c.val n.val = true ∧ s.dev.pw.tripped = false ∧
      s.dev.devState ≠ DevSt.off ∧ s.dev.devState ≠ DevSt.tripped) ∧
  (∃ (s : State) (n : Fin 16), warnChannel 3 n.val = true ∧ bit (s.dev.get (Reg.CH_STAT_WARN n.val)) 2 = false ∧
      s.dev.chOn n.val = true ∧ s.dev.get (Reg.CH_CFG_B_ACT n.val) = 0) ∧
  (∃ (s : State) (tj : _),
    let d := s.dev.seti Reg.PWR_TJ_TJ tj
    d.flag Reg.PF_STAT_TJ_HOT = false) ∧
  (∃ (s : State) (tj : _),
    let d := s.dev.seti Reg.PWR_TJ_TJ tj
    d.flag Reg.PF_STAT_TJ_HOT = false ∧ (d.get Reg.PF_CFG_TJ_WARN * 10 : Int) ≤ tj) ∧
  (∃ (s : State) (vin : _), s.dev.pw.vinRef = true ∧ s.dev.flag Reg.PF_STAT_PFW = false ∧ vin < s.dev.pfwThreshold ∧
      s.dev.devState = DevSt.nominal ∧ s.dev.pw.tripped = false) ∧
  (∃ (s : State), s.dev.flag Reg.PF_STAT_PFW = true ∧ s.dev.past s.dev.pw.pfwAt s.dev.pw.pfwWin = true) ∧
  (∃ (s : State), s.dev.pw.vinRef = false ∧ s.dev.devState = DevSt.boot) :=
  ⟨⟨stD id, true, by decide⟩,
   ⟨stD (fun d => (((d.set Reg.PF_STAT_INPUT_OV 0) : Dev).setDev DevSt.nominal)), by decide, by decide⟩,
   ⟨stD (fun d => (d.set Reg.PF_STAT_INPUT_OV 1)), by decide⟩,
   ⟨stD (fun d => ((d : Dev).setDev DevSt.nominal)), by decide, by decide⟩,
   ⟨stD (fun d => (d.set (Reg.CH_STAT_PG 0) 1)), 0, by decide⟩,
   ⟨stD (fun d => let d : Dev := { d with pw := { d.pw with dchg := 1 } }; d), 0, by decide, by decide⟩,
   ⟨stD (fun d => (({ d with pw := { d.pw with tripped := false } } : Dev).setDev DevSt.nominal)), 1, 0, by decide, by decide,
      by decide, by decide, by decide⟩,
   ⟨stD (fun d => (((d.set (Reg.CH_CFG_B_ACT 12) 0) : Dev).set (Reg.CH_STAT_STATE 12) 2)), 12, by decide, by decide, by decide,
      by decide⟩,
   ⟨stD (fun d => (d.set Reg.PF_STAT_TJ_HOT 0)), 0, by decide⟩,
   ⟨stD (fun d => (d.set Reg.PF_STAT_TJ_HOT 0)), 2000, by decide, by decide⟩,
   ⟨stD (fun d => ((({ d with pw := { d.pw with vinRef := true, tripped := false } } : Dev).set Reg.PF_STAT_PFW 0).setDev
      DevSt.nominal)), 0, by decide, by decide, by decide, by decide, by decide⟩,
   ⟨stD (fun d => (({ d with now := 1000000000 } : Dev).set Reg.PF_STAT_PFW 1)), by decide, by decide⟩,
   ⟨stD (fun d => (({ d with pw := { d.pw with vinRef := false } } : Dev).setDev DevSt.boot)), by decide, by decide⟩⟩

/-- A state and operands for every clause of `Obligations.HoldupCommandsTakeEffect`. -/
theorem wit_HoldupCommandsTakeEffect :
  (∃ (s : State) (full : _), full = s.dev.flag Reg.HL_STAT_FULL) ∧
  (∃ (s : State) (full : _), full ≠ s.dev.flag Reg.HL_STAT_FULL ∧
    let d := (s.dev.setb Reg.HL_STAT_FULL full).fire 0x11 0 0
    d.hold.sawFull = true) ∧
  (∃ (s : State), s.dev.fwRuns = true ∧ s.dev.measReady = true ∧ s.dev.get Reg.HL_STAT_STATE ≠ 1) ∧
  (∃ (s : State), s.dev.get Reg.HL_STAT_STATE = 2 ∧ s.dev.now - s.dev.hold.t1 < 1000) ∧
  (∃ (s : State) (l : Land) (ag : _) (v : Word) (d : Dev), s.dev.granted l = some (ag, Reg.HL_CTL, v, d) ∧ bit v.toNat 1 = true ∧
      bit v.toNat 0 = false) ∧
  (∃ (s : State), s.dev.get Reg.HL_STAT_STATE = 2) ∧
  (∃ (s : State), s.dev.flag Reg.PF_STAT_PFW = true ∧ bit (s.dev.get Reg.HL_STAT_CAUSES) 7 = false) ∧
  (∃ (s : State) (c : Fin 5), c.val ≠ 0 ∧ bit (s.dev.get Reg.HL_STAT_CAUSES) (c.val - 1) = false) ∧
  (∃ (s : State) (c : Fin 5), c.val ≠ 0 ∧ bit (s.dev.get Reg.HL_STAT_CAUSES) (c.val - 1) = false ∧ c.val ≠ 1) ∧
  (∃ (s : State), s.dev.flag Reg.PF_STAT_PFW = true ∧ s.dev.hold.written = false ∧ s.dev.fwRuns = true ∧ s.dev.mounted = true ∧
      s.dev.norBusy = 0 ∧ s.dev.pw.tripped = false ∧ s.dev.recDue = true) :=
  ⟨⟨stD id, ((stD id).dev.flag Reg.HL_STAT_FULL), by decide⟩,
   ⟨stD (fun d => { d with hold := { d.hold with sawFull := true } }), (! (stD id).dev.flag Reg.HL_STAT_FULL), by decide, by decide⟩,
   ⟨stD (fun d => ((((let d : Dev := { d with hold := { d.hold with due := true } }; d : Dev).setDev DevSt.nominal).set
      Reg.HL_STAT_FULL 1).setLas LasSt.cold)), by decide, by decide, by decide⟩,
   ⟨stD (fun d => (d.set Reg.HL_STAT_STATE 2)), by decide, by decide⟩,
   ⟨stD id, _, _, 2, _, granted_fw (by decide), by decide, by decide⟩,
   ⟨stD (fun d => (d.set Reg.HL_STAT_STATE 2)), by decide⟩,
   ⟨stD (fun d => (d.set Reg.PF_STAT_PFW 1)), by decide, by decide⟩,
   ⟨stD id, 1, by decide, by decide⟩,
   ⟨stD id, 2, by decide, by decide, by decide⟩,
   ⟨stD (fun d => ((((({ d with hold := { d.hold with written := false }, norBusy := 0, pw := { d.pw with tripped := false } } :
      Dev).set Reg.PF_STAT_PFW 1) : Dev).setDev DevSt.nominal).set Reg.JR_STAT_STATE 1)), by decide, by decide, by decide, by decide,
      by decide, by decide, by decide⟩⟩

/-- A state and operands for every clause of `Obligations.ClockCommandsTakeEffect`. -/
theorem wit_ClockCommandsTakeEffect :
  (∃ (s : State) (k : Fin 2) (e : _) (gap : _), s.dev.clkOn = true ∧ s.dev.srcEn k.val = true ∧
    let nom := if k.val = 0 then 24000000 else s.dev.refinHz
    let good := (! gap && (k.val == 0 || s.dev.pmFunc 17 == 0) && decide (((1000 * e : Nat) - (2 * nom : Nat) : Int).natAbs * 100 ≤ 8 *
      nom))
    s.dev.get (srcFld k.val) = 2 ∧ good = false) ∧
  (∃ (s : State) (k : Fin 2) (e : _) (gap : _), s.dev.clkOn = true ∧ s.dev.srcEn k.val = true ∧
    let nom := if k.val = 0 then 24000000 else s.dev.refinHz
    let good := (! gap && (k.val == 0 || s.dev.pmFunc 17 == 0) && decide (((1000 * e : Nat) - (2 * nom : Nat) : Int).natAbs * 100 ≤ 8 *
      nom))
    s.dev.get (srcFld k.val) ≠ 2 ∧ good = true) ∧
  (∃ (s : State) (k : Fin 2) (e : _) (gap : _), s.dev.clkOn = true ∧ s.dev.srcEn k.val = true ∧
    let nom := if k.val = 0 then 24000000 else s.dev.refinHz
    let good := (! gap && (k.val == 0 || s.dev.pmFunc 17 == 0) && decide (((1000 * e : Nat) - (2 * nom : Nat) : Int).natAbs * 100 ≤ 8 *
      nom))
    s.dev.get (srcFld k.val) = 2 ∧ good = true) ∧
  (∃ (s : State) (k : Fin 2), s.dev.clkOn = true ∧ s.dev.get (srcFld k.val) = 2) ∧
  (∃ (s : State) (l : Land) (ag : _) (v : Word) (d : Dev), s.dev.granted l = some (ag, Reg.CK_REFIN, v, d) ∧
      v.toNat % 2 ^ 26 = d.shGet Reg.CK_REFIN_REFIN_HZ) ∧
  (∃ (s : State), s.dev.clkOn = true ∧ s.dev.flag Reg.CK_SRC_STAT_IRC_OK = true) ∧
  (∃ (s : State), s.dev.get Reg.CK_SYS_STAT_SW_STATE = 1 ∧ s.dev.rcpt = none ∧ s.dev.head.job = .none ∧
      s.dev.get Reg.TOK_PATH_IN_PATH = 0 ∧ s.dev.get Reg.TOK_PATH_EXPECTED = 0 ∧ s.dev.pw.phase = 0 ∧ s.dev.flag Reg.PF_STAT_PFW = false) ∧
  (∃ (s : State) (k : Fin 42), ((s.dev.dom k.val).2 = 0 ∨ (s.dev.dom k.val).2 = 3)) ∧
  (∃ (s : State) (k : Fin 42), (s.dev.dom k.val).2 = 1 ∧ (s.dev.dom k.val).1 ≠ s.dev.slowRatio k.val) ∧
  (∃ (s : State), s.dev.get Reg.CK_SYS_STAT_REF ≠ 0 ∧ s.dev.get Reg.CK_SYS_STAT_SW_STATE = 4 ∧
      s.dev.flag Reg.CK_SYS_STAT_LOCKED = false) ∧
  (∃ (s : State),
    let t := s.dev.get Reg.CK_SYS_STAT_TARGET
    t ≠ 0 ∧ s.dev.flag Reg.CK_SYS_STAT_LOCKED = false ∧ s.dev.get Reg.CK_SYS_STAT_SW_STATE = 4) ∧
  (∃ (s : State), s.dev.devState = DevSt.boot ∧ s.dev.get Reg.CK_SYS_STAT_REF = 0) :=
  ⟨⟨stD (fun d => ((((d.set (srcFld 0) 2) : Dev).setDev DevSt.nominal).set Reg.CK_CFG_XO_EN 1)), 0, 48000, true, by decide, by decide,
      by decide, by decide⟩,
   ⟨stD (fun d => (((d : Dev).setDev DevSt.nominal).set Reg.CK_CFG_XO_EN 1)), 0, 48000, false, by decide, by decide, by decide,
      by decide⟩,
   ⟨stD (fun d => ((((d.set (srcFld 0) 2) : Dev).setDev DevSt.nominal).set Reg.CK_CFG_XO_EN 1)), 0, 48000, false, by decide, by decide,
      by decide, by decide⟩,
   ⟨stD (fun d => ((((d.set (srcFld 0) 2) : Dev).setDev DevSt.nominal).set Reg.CK_CFG_XO_EN 1)), 0, by decide, by decide⟩,
   ⟨stD (fun d => (((d : Dev).setDev DevSt.nominal).set Reg.CK_CFG_XO_EN 1)), _, _,
      (BitVec.ofNat 32 ((stD id).dev.shGet Reg.CK_REFIN_REFIN_HZ)), _, granted_fw (by decide), by decide⟩,
   ⟨stD (fun d => ((((d.set Reg.CK_SRC_STAT_IRC_OK 1) : Dev).setDev DevSt.nominal).set Reg.CK_CFG_XO_EN 1)), by decide, by decide⟩,
   ⟨stD (fun d => (((((((({ d with rcpt := none, head := { d.head with job := .none }, pw := { d.pw with phase := 0 } } : Dev).set
      Reg.CK_SYS_STAT_SW_STATE 1).set Reg.TOK_PATH_IN_PATH 0).set Reg.TOK_PATH_EXPECTED 0).set Reg.PF_STAT_PFW 0) : Dev).setDev
      DevSt.nominal).set Reg.CK_CFG_XO_EN 1)), by decide, by decide, by decide, by decide, by decide, by decide, by decide⟩,
   ⟨stD (fun d => (((d : Dev).setDev DevSt.nominal).set Reg.CK_CFG_XO_EN 1)), 0, by decide⟩,
   ⟨stD (fun d => let d : Dev := { d with clk := { d.clk with doms := [(8, 1)] } }; d), 0, by decide, by decide⟩,
   ⟨stD (fun d => ((((((d.set Reg.CK_SYS_STAT_REF 1).set Reg.CK_SYS_STAT_SW_STATE 4).set Reg.CK_SYS_STAT_LOCKED 0) : Dev).setDev
      DevSt.nominal).set Reg.CK_CFG_XO_EN 1)), by decide, by decide, by decide⟩,
   ⟨stD (fun d => ((((((d.set Reg.CK_SYS_STAT_LOCKED 0).set Reg.CK_SYS_STAT_SW_STATE 4) : Dev).setDev DevSt.nominal).set
      Reg.CK_CFG_XO_EN 1).set Reg.CK_SYS_STAT_TARGET 1)), by decide, by decide, by decide⟩,
   ⟨stD (fun d => ((((((d.setDev DevSt.boot).set Reg.CK_SYS_STAT_REF 0) : Dev).setDev DevSt.nominal).set Reg.CK_CFG_XO_EN 1).setDev
      DevSt.boot)), by decide, by decide⟩⟩

/-- A state and operands for every clause of `Obligations.BootAndOtpCommandsTakeEffect`. -/
theorem wit_BootAndOtpCommandsTakeEffect :
  (∃ (s : State), s.dev.bootAt 4 = true) ∧
  (∃ (s : State), s.dev.bootAt 5 = true ∧
    let d := s.dev.set Reg.BT_STAT_STEP 6
    d.flag Reg.TRIP_REC_VALID = false ∧ d.flag Reg.LK_REC_VALID = false) ∧
  (∃ (s : State), s.dev.flag Reg.BT_STAT_WINDOW = true ∧ s.dev.past s.dev.boot.windowAt 200000 = true) ∧
  (∃ (s : State), s.dev.devState = DevSt.boot ∧ s.dev.boot.push.isSome = true ∧ s.dev.past s.dev.boot.windowAt 2000000 = true) ∧
  (∃ (s : State), s.dev.devState = DevSt.boot ∧ s.dev.boot.decided = false ∧ s.dev.flag Reg.PF_STAT_PFW = false ∧
      7 ≤ s.dev.get Reg.BT_STAT_STEP ∧ s.dev.boot.pushed = none ∧ s.dev.flag Reg.BT_STAT_WINDOW = false ∧ s.dev.boot.push = none ∧
      bit (s.dev.intWord 384) 3 = true) ∧
  (∃ (s : State) (i : _),
    let lo := s.dev.get Reg.BT_SECVER_SENSED
    s.dev.devState = DevSt.nominal ∧ lo < s.dev.boot.raiseTo ∧ s.dev.otp.busy = none ∧
      (List.range 4).find? (fun i => raiseBits lo s.dev.boot.raiseTo i != 0 && ! s.dev.otp.burned.contains (896 + i)) = some i ∧
    let d := s.dev.otpStart .fw false 0x0E7A (896 + i) (raiseBits lo s.dev.boot.raiseTo i)
    d.otp.busy.isSome = true) ∧
  (∃ (s : State) (i : _),
    let lo := s.dev.get Reg.BT_SECVER_SENSED
    s.dev.devState = DevSt.nominal ∧ lo < s.dev.boot.raiseTo ∧ s.dev.otp.busy = none ∧
      (List.range 4).find? (fun i => raiseBits lo s.dev.boot.raiseTo i != 0 && ! s.dev.otp.burned.contains (896 + i)) = some i ∧
    let d := s.dev.otpStart .fw false 0x0E7A (896 + i) (raiseBits lo s.dev.boot.raiseTo i)
    d.otp.busy = none) ∧
  (∃ (s : State) (l : Land) (ag : _) (v : Word) (d : Dev), s.dev.granted l = some (ag, Reg.OTP_PG_CTL, v, d) ∧ bit v.toNat 0 = true ∧
      bit v.toNat 1 = false) ∧
  (∃ (s : State) (l : Land) (ag : _) (v : Word) (d : Dev), s.dev.granted l = some (ag, Reg.OTP_PG_CTL, v, d) ∧ bit v.toNat 1 = true) ∧
  (∃ (s : State) (b : _), s.dev.otp.busy = some b ∧ b.final = false ∧ b.data < 2 ^ 32) :=
  ⟨⟨stD (fun d => (((d : Dev).setDev DevSt.boot).set Reg.BT_STAT_STEP 4)), by decide⟩,
   ⟨stD (fun d => (((((d.set Reg.TRIP_REC_VALID 0).set Reg.LK_REC_VALID 0) : Dev).setDev DevSt.boot).set Reg.BT_STAT_STEP 5)),
      by decide, by decide, by decide⟩,
   ⟨stD (fun d => (({ d with now := 1000000000 } : Dev).set Reg.BT_STAT_WINDOW 1)), by decide, by decide⟩,
   ⟨stD (fun d => ({ d with now := 1000000000, boot := { d.boot with push := some ⟨0, [], 0⟩ } } : Dev).setDev DevSt.boot), by decide,
      by decide, by decide⟩,
   ⟨stD (fun d => ((({ d with otp := { d.otp with shadow := [(384, 8)] } } : Dev).set Reg.OTP_STAT_PASSED 4).setDev DevSt.boot).set
      Reg.BT_STAT_STEP 7), by decide, by decide, by decide, by decide, by decide, by decide, by decide, by decide⟩,
   ⟨stD (fun d => (({ d with boot := { d.boot with raiseTo := 1 }, otp := { d.otp with busy := none } } : Dev).setDev
      DevSt.nominal).set Reg.PWR_IN_VIN 24000), _, by decide, by decide, by decide, rfl, by decide⟩,
   ⟨stD (fun d => (({ d with boot := { d.boot with raiseTo := 1 }, otp := { d.otp with busy := none } } : Dev).setDev
      DevSt.nominal).setReg Reg.OTP_PG_CTL 0), _, by decide, by decide, by decide, rfl, by decide⟩,
   ⟨stD id, _, _, 1, _, granted_fw (by decide), by decide, by decide⟩,
   ⟨stD id, _, _, 2, _, granted_fw (by decide), by decide⟩,
   ⟨stD (fun d => let d : Dev := { d with otp := { d.otp with busy := some ⟨900, 1, 0, false⟩ } }; d), _, rfl, by decide, by decide⟩⟩

/-- A state and operands for every clause of `Obligations.KeysAndTrngCommandsTakeEffect`. -/
theorem wit_KeysAndTrngCommandsTakeEffect :
  (∃ (s : State) (l : Land) (ag : _) (v : Word) (d : Dev), s.dev.granted l = some (ag, Reg.KS_OWN0, v, d)) ∧
  (∃ (s : State) (l : Land) (ag : _) (v : Word) (d : Dev), s.dev.granted l = some (ag, Reg.KS_OWN1, v, d)) ∧
  (∃ (s : State) (l : Land) (ag : _) (v : Word) (d : Dev), s.dev.granted l = some (ag, Reg.KS_ERASE, v, d)) ∧
  (∃ (s : State), s.dev.trng.phase = 1) ∧
  (∃ (s : State), 2 ≤ s.dev.trng.phase) ∧
  (∃ (s : State) (st : _), s.dev.trng.phase = 4 ∧ s.dev.trng.recover = true ∧ s.dev.now < s.dev.trng.startAt + 100000 ∧
      s.dev.trng.drbg = some st) ∧
  (∃ (s : State), s.dev.trng.recover = true ∧ s.dev.trng.phase = 4 ∧ s.dev.past s.dev.trng.startAt 100000 = true) ∧
  (∃ (s : State) (st : _), s.dev.trng.drbg = some st ∧ s.dev.trng.phase = 5 ∧ (s.dev.trng.reqLim ≤ s.dev.trng.reqs ∨
      s.dev.trng.seedAt + s.dev.trng.msLim * 1000 ≤ s.dev.now)) ∧
  (∃ (s : State) (st : _) (r : _) (rest : _), s.dev.trng.drbg = some st ∧ s.dev.trng.queue = r :: rest ∧ s.dev.trng.phase = 5 ∧
      s.dev.trng.reqs < s.dev.trng.reqLim ∧ s.dev.now < s.dev.trng.seedAt + s.dev.trng.msLim * 1000) ∧
  (∃ (s : State) (l : Land) (ag : _) (a : _) (v : Word) (d : Dev), s.dev.granted l = some (ag, a, v, d) ∧ ctlSoftRst a v = true ∧
      isPage a 0x16 = true) :=
  ⟨⟨stD id, _, _, 0, _, granted_fw (by decide)⟩,
   ⟨stD id, _, _, 0, _, granted_fw (by decide)⟩,
   ⟨stD id, _, _, 0, _, granted_fw (by decide)⟩,
   ⟨stD (fun d => { d with trng := { d.trng with phase := 1 } }), by decide⟩,
   ⟨stD (fun d => let d : Dev := { d with trng := { d.trng with phase := 2 } }; d), by decide⟩,
   ⟨stD (fun d => { d with trng := { d.trng with phase := 4, recover := true, drbg := some ([], []) } }), _, by decide, by decide,
      by decide, rfl⟩,
   ⟨stD (fun d => { d with trng := { d.trng with recover := true, phase := 4 }, now := 1000000000 }), by decide, by decide, by decide⟩,
   ⟨stD (fun d => { d with trng := { d.trng with phase := 5, drbg := some ([], []) }, now := 1000000000 }), _, rfl, by decide,
      by decide⟩,
   ⟨stD (fun d => { d with trng := { d.trng with phase := 5, drbg := some ([], []), queue := [⟨1, 5, 4⟩] } }), _, _, _, rfl, rfl,
      by decide, by decide, by decide⟩,
   ⟨stD id, _, _, (Reg.PG_CTL 0x16), 2, _, granted_fw (by decide), by decide, by decide⟩⟩

/-- A state and operands for every clause of `Obligations.LockstepCommandsTakeEffect`. -/
theorem wit_LockstepCommandsTakeEffect :
  (∃ (s : State), s.dev.testsRun = true) ∧
  (∃ (s : State), s.dev.testsRun = true ∧ s.dev.lock.force ≠ 2) ∧
  (∃ (s : State), s.dev.testsRun = true ∧ s.dev.lock.force ≠ 2 ∧
    let n := s.dev.reg Reg.LK_INJ
    n % 2 = 0) ∧
  (∃ (s : State), s.dev.flag Reg.LK_STAT_WD_ARMED = true ∧ s.dev.lockMode = 0 ∧ s.dev.past s.dev.lock.kickAt 10000 = true) ∧
  (∃ (s : State) (l : Land) (ag : _) (v : Word) (d : Dev), s.dev.granted l = some (ag, Reg.LK_KICK, v, d) ∧ v.toNat = 0xC3) ∧
  (∃ (s : State) (l : Land) (ag : _) (v : Word) (d : Dev), s.dev.granted l = some (ag, Reg.LK_KICK, v, d) ∧ v.toNat ≠ 0xC3) ∧
  (∃ (s : State) (l : Land) (ag : _) (v : Word) (d : Dev), s.dev.granted l = some (ag, Reg.LK_COMMIT, v, d)) ∧
  (∃ (s : State), s.dev.lockMode = 1 ∧ s.dev.flag Reg.LK_STAT_GRACE = false ∧ s.dev.get Reg.LK_COMMIT_SLOT = 0) ∧
  (∃ (s : State), s.dev.lockMode = 1 ∧ s.dev.flag Reg.LK_STAT_GRACE = true) ∧
  (∃ (s : State), s.dev.lockMode = 1 ∧ s.dev.past s.dev.lock.enteredAt (s.dev.lock.finishMs * 1000) = true) ∧
  (∃ (s : State) (l : Land) (v : Word) (d : Dev), s.dev.granted l = some (.tenant 0, Reg.LK_FULLRST, v, d) ∧ v.toNat % 65536 = 0x5AFE) ∧
  (∃ (s : State) (l : Land) (v : Word) (d : Dev), s.dev.granted l = some (.tenant 0, Reg.LK_FULLRST, v, d) ∧ v.toNat % 65536 ≠ 0x5AFE) ∧
  (∃ (s : State) (l : Land) (v : Word) (d : Dev), s.dev.granted l = some (.tenant 0, Reg.LK_FORCE, v, d) ∧ v.toNat % 65536 = 0x7E57 ∧
      d.flag Reg.OTP_STAT_DBG_LOCKED = false ∧ bitsOf v.toNat 16 2 = 1) ∧
  (∃ (s : State) (l : Land) (v : Word) (d : Dev), s.dev.granted l = some (.tenant 0, Reg.LK_FORCE, v, d) ∧ v.toNat % 65536 = 0x7E57 ∧
      d.flag Reg.OTP_STAT_DBG_LOCKED = false ∧ bitsOf v.toNat 16 2 = 2) ∧
  (∃ (s : State) (l : Land) (v : Word) (d : Dev), s.dev.granted l = some (.tenant 0, Reg.LK_FORCE, v, d) ∧ v.toNat % 65536 = 0x7E57 ∧
      d.flag Reg.OTP_STAT_DBG_LOCKED = false ∧ bitsOf v.toNat 16 2 = 3) :=
  ⟨⟨stD (fun d => ((d : Dev).setDev DevSt.nominal)), by decide⟩,
   ⟨stD (fun d => ((d : Dev).setDev DevSt.nominal)), by decide, by decide⟩,
   ⟨stD (fun d => ((d : Dev).setDev DevSt.nominal)), by decide, by decide, by decide⟩,
   ⟨stD (fun d => (({ d with now := 1000000000 } : Dev).set Reg.LK_STAT_WD_ARMED 1)), by decide, by decide, by decide⟩,
   ⟨stD id, _, _, 0xC3, _, granted_fw (by decide), by decide⟩,
   ⟨stD id, _, _, 0, _, granted_fw (by decide), by decide⟩,
   ⟨stD id, _, _, 0, _, granted_fw (by decide)⟩,
   ⟨stD (fun d => ((((d.set Reg.LK_STAT_GRACE 0).set Reg.LK_COMMIT_SLOT 0) : Dev).set Reg.LK_STAT_MODE 1)), by decide, by decide,
      by decide⟩,
   ⟨stD (fun d => (((d.set Reg.LK_STAT_GRACE 1) : Dev).set Reg.LK_STAT_MODE 1)), by decide, by decide⟩,
   ⟨stD (fun d => (({ d with now := 1000000000 } : Dev).set Reg.LK_STAT_MODE 1)), by decide, by decide⟩,
   ⟨stD (fun d => { d with bridges := lmod d.bridges 0 (fun b => { b with queue := [⟨Reg.LK_FULLRST, 0x5AFE, 0⟩] }) }),
      (.tenant 0 .ok), 0x5AFE, _, rfl, by decide⟩,
   ⟨stD (fun d => { d with bridges := lmod d.bridges 0 (fun b => { b with queue := [⟨Reg.LK_FULLRST, 1, 0⟩] }) }), (.tenant 0 .ok), 1,
      _, rfl, by decide⟩,
   ⟨stD (fun d => { d with bridges := lmod d.bridges 0 (fun b => { b with queue := [⟨Reg.LK_FORCE, 0x17e57, 0⟩] }) }), (.tenant 0 .ok),
      0x17e57, _, rfl, by decide, by decide, by decide⟩,
   ⟨stD (fun d => { d with bridges := lmod d.bridges 0 (fun b => { b with queue := [⟨Reg.LK_FORCE, 0x27e57, 0⟩] }) }), (.tenant 0 .ok),
      0x27e57, _, rfl, by decide, by decide, by decide⟩,
   ⟨stD (fun d => { d with bridges := lmod d.bridges 0 (fun b => { b with queue := [⟨Reg.LK_FORCE, 0x37e57, 0⟩] }) }), (.tenant 0 .ok),
      0x37e57, _, rfl, by decide, by decide, by decide⟩⟩

/-- A state and operands for every clause of `Obligations.BackgroundAndPinCommandsTakeEffect`. -/
theorem wit_BackgroundAndPinCommandsTakeEffect :
  (∃ (s : State),
    let d := (s.dev.boundary 0x3D).bgTick
    (List.range 2).find? (fun i => d.bg.rebuild.getD i false && d.storeIdle i && d.sliceOk 1) = none ∧
    let pick := [1, 2, 3, 5, 6, 7, 8].find? (fun t => d.bg.due.any (fun x => x.1 == t) && d.sliceOk t && d.taskReady s.mem t)
    pick = none) ∧
  (∃ (s : State),
    let d := (s.dev.boundary 0x3D).bgTick
    (List.range 2).find? (fun i => d.bg.rebuild.getD i false && d.storeIdle i && d.sliceOk 1) = none ∧
    let pick := [1, 2, 3, 5, 6, 7, 8].find? (fun t => d.bg.due.any (fun x => x.1 == t) && d.sliceOk t && d.taskReady s.mem t)
    ∃ (t : _), pick = some t) ∧
  (∃ (s : State) (t : Fin 9), s.dev.bg.due.find? (fun x => x.1 == t.val) = none) ∧
  (∃ (s : State) (t : Fin 9) (a : _), s.dev.bg.due.find? (fun x => x.1 == t.val) = some (t.val, a, false) ∧ bgDeadline t.val ≠ 0 ∧
      a + bgDeadline t.val ≤ s.dev.now) ∧
  (∃ (s : State) (l : Land) (ag : _) (v : Word) (d : Dev), s.dev.granted l = some (ag, Reg.JR_CFG, v, d) ∧ bit v.toNat 16 = true ∧
    let e := d.store Reg.JR_CFG v.toNat
    e.mounted = true) ∧
  (∃ (s : State) (l : Land) (ag : _) (v : Word) (d : Dev), s.dev.granted l = some (ag, Reg.JR_CFG, v, d) ∧ bit v.toNat 16 = true ∧
    let e := d.store Reg.JR_CFG v.toNat
    e.mounted = false) ∧
  (∃ (s : State) (l : Land) (ag : _) (v : Word) (d : Dev), s.dev.granted l = some (ag, Reg.PM_FUNC0, v, d)) ∧
  (∃ (s : State) (a : Fin 2) (i : _), (s.dev.adcRound a.val).find? (fun i => s.dev.adcNext.getD a.val 0 ≤ i) = some i) ∧
  (∃ (s : State) (l : Land) (ag : _) (v : Word) (d : Dev) (i : Fin 2), s.dev.granted l = some (ag, Reg.I2C_CMD i.val, v, d) ∧
      bit v.toNat 24 = true ∧
    let e := d.store (Reg.I2C_CMD i.val) v.toNat
    e.flag (Reg.I2C_STAT_BUSY i.val) = true) ∧
  (∃ (s : State) (l : Land) (ag : _) (v : Word) (d : Dev) (i : Fin 2), s.dev.granted l = some (ag, Reg.I2C_CMD i.val, v, d) ∧
      bit v.toNat 24 = true ∧
    let e := d.store (Reg.I2C_CMD i.val) v.toNat
    e.flag (Reg.I2C_STAT_BUSY i.val) = false) ∧
  (∃ (s : State), s.dev.flag (Reg.I2C_STAT_BUSY 0) = true) ∧
  (∃ (s : State) (i : Fin 2), s.dev.flag (Reg.I2C_STAT_BUSY i.val) = true) ∧
  (∃ (s : State), s.dev.devState ≠ DevSt.off ∧ s.dev.blState 0 ≠ 5 ∧ s.dev.blState 1 ≠ 5 ∧ s.dev.get (Reg.LP_STAT_STATE 0) ≠ 1 ∧
      s.dev.flag Reg.LS_STAT_PERMIT = false) :=
  ⟨⟨stD id, by decide, by decide⟩,
   ⟨stD (fun d =>
      ((let d : Dev := { d.modSeq 0 (fun q => { q with rom := true }) with bg := { d.bg with due := [(1, 0, false)] } }; d : Dev).setDev
      DevSt.nominal)), by decide, _, rfl⟩,
   ⟨stD id, 0, by decide⟩,
   ⟨stD (fun d => { d with bg := { d.bg with due := [(1, 0, false)] }, now := 1000000000 }), 1, 0, by decide, by decide, by decide⟩,
   ⟨stD (fun d => ((d : Dev).set Reg.JR_STAT_STATE 1)), _, _, 65536, _, granted_fw (by decide), by decide, by decide⟩,
   ⟨stD id, _, _, 65536, _, granted_fw (by decide), by decide, by decide⟩,
   ⟨stD id, _, _, 0, _, granted_fw (by decide)⟩,
   ⟨stD (fun d => ((d : Dev).set (Reg.AD_SCAN_SCAN 0) 1)), 0, _, rfl⟩,
   ⟨stD (fun d => (d.set (Reg.I2C_STAT_BUSY 0) 1)), _, _, 16777216, _, 0, granted_fw (by decide), by decide, by decide⟩,
   ⟨stD (fun d => (d.set (Reg.I2C_STAT_BUSY 0) 0)), _, _, 16777216, _, 0, granted_fw (by decide), by decide, by decide⟩,
   ⟨stD (fun d => (d.set (Reg.I2C_STAT_BUSY 0) 1)), by decide⟩,
   ⟨stD (fun d => (d.set (Reg.I2C_STAT_BUSY 0) 1)), 0, by decide⟩,
   ⟨stD (fun d => (((d.set Reg.LS_STAT_PERMIT 0) : Dev).setDev DevSt.nominal)), by decide, by decide, by decide, by decide, by decide⟩⟩

/-- A state and operands for every clause of `Obligations.PortAndMemoryEventsTakeEffect`. -/
theorem wit_PortAndMemoryEventsTakeEffect :
  (∃ (s : State), s.dev.get Reg.USB_STAT_SPEED ≠ 0) ∧
  (∃ (s : State) (i : Fin 4),
    let left := s.dev.ports.canTx.getD i.val 0
    left ≠ 0) ∧
  (∃ (s : State) (i : Fin 4),
    let left := s.dev.ports.canTx.getD i.val 0
    left ≠ 0 ∧
    let p := s.dev.ports
    s.dev.get Reg.CAN_TP_WFT_MAX < p.canWaits.getD i.val 0 + 1) ∧
  (∃ (s : State), s.dev.norBusy ≠ 0) ∧
  (∃ (s : State) (q : _), s.dev.galReqs.find? (fun q => ! q.told && s.dev.past q.since 10000) = some q) ∧
  (∃ (s : State), s.dev.scan.winArmed = true ∧ s.dev.flag Reg.BD_STAT_QUALIFIED = true ∧ s.dev.scan.openAt = none) :=
  ⟨⟨stD (fun d => (d.set Reg.USB_STAT_SPEED 1)), by decide⟩,
   ⟨stD (fun d => let d : Dev := { d with ports := { d.ports with canTx := [1] } }; d), 0, by decide⟩,
   ⟨stD (fun d => let d : Dev := { d with ports := { d.ports with canTx := [1], canWaits := [255] } }; d), 0, by decide, by decide⟩,
   ⟨stD (fun d => let d : Dev := { d with norBusy := 1 }; d), by decide⟩,
   ⟨stD (fun d => { d with galReqs := [⟨0, 1, 0, 1, 0, 0, 0, false⟩], now := 1000000000 }), _, rfl⟩,
   ⟨stD (fun d => (({ d with scan := { d.scan with winArmed := true, openAt := none } } : Dev).set Reg.BD_STAT_QUALIFIED 1)),
      by decide, by decide, by decide⟩⟩

/-- A state and operands for every clause of `Obligations.AStepRunsTheFrontCommand`. -/
theorem wit_AStepRunsTheFrontCommand :
  ∃ s : State, s.pending = [] :=
  ⟨State.reset, rfl⟩

/-- A state and operands for every clause of `Obligations.EveryStepKeepsTheMemoriesInForm`. -/
theorem wit_EveryStepKeepsTheMemoriesInForm :
  ∃ s t : State, s.memInv ∧ step s = .next t :=
  ⟨State.reset, _, (by decide : State.reset.mem.wf = true), rfl⟩

/-- A state and operands for every clause of `Obligations.OtherCommandsLeaveEveryByte`. -/
theorem wit_OtherCommandsLeaveEveryByte :
  ∃ (c : Instr) (s t : State), cmdMayWrite c = false ∧ exec c s = .next t :=
  ⟨.vmOkChange true, State.reset, _, rfl, rfl⟩

/-- A state and operands for every clause of `Obligations.DmaNeverWritesNor`. -/
theorem wit_DmaNeverWritesNor :
  ∃ s t : State,
    (∃ c e, exec (.descriptorFetch c e) s = .next t) ∧ (∃ c b, exec (.descriptorRetire c b) s = .next t) ∧
    (∃ c, exec (.portInTimeout c) s = .next t) ∧ (∃ l, exec (.dmaPost l) s = .next t) ∧ (∃ l, exec (.dmaAbort l) s = .next t) ∧
    (∃ l, exec (.channelDisable l) s = .next t) ∧ (∃ u, exec (.unitFree u) s = .next t) :=
  ⟨State.reset, _, ⟨0, false, rfl⟩, ⟨0, false, rfl⟩, ⟨0, rfl⟩, ⟨.fw 0 0, rfl⟩, ⟨.fw 0 0, rfl⟩, ⟨.fw 0 0, rfl⟩, ⟨0, rfl⟩⟩

/-- A state and operands for every clause of `Obligations.RefusedWritesHaveNoEffect`. -/
theorem wit_RefusedWritesHaveNoEffect :
  ∃ (c : Instr) (k : Fin 8) (ecc : Ecc) (s : State) (w : PostedWrite) (r : Nat), cmdLand c = some (.tenant k ecc) ∧ s.dev.refused k ecc w r :=
  ⟨.chbindWrite (.tenant 1 .ok), 1, .ok, stD (wQ 1 ⟨Reg.CHBIND 0, 0, 0⟩), _, _, rfl, ⟨_, rfl⟩, rfl, by decide⟩

/-- A state and operands for every clause of `Obligations.ReasonsInTheOrderOfTheTable`. -/
theorem wit_ReasonsInTheOrderOfTheTable :
  (∃ a, pageOf a = none) ∧
  (∃ a p, pageOf a = some p ∧ a % 4 ≠ 0) ∧
  (∃ a p k, pageOf a = some p ∧ a % 4 = 0 ∧ ownerOrLock a = true ∧ k ≠ 0) ∧
  (∃ (d : Dev) (a p k : Nat), pageOf a = some p ∧ a % 4 = 0 ∧ ownerOrLock a = false ∧ bit (d.reg (Reg.PG_OWNER p)) (8 + k) = false) ∧
  (∃ (a p k : Nat) (v : Word), pageOf a = some p ∧ a % 4 = 0 ∧ ownerOrLock a = false ∧ t0Only a v = true ∧ k ≠ 0) ∧
  (∃ a p, pageOf a = some p ∧ a % 4 = 0 ∧ ownerOrLock a = false ∧ fwOnly a = true) ∧
  (∃ (d : Dev) (a p k : Nat), pageOf a = some p ∧ a % 4 = 0 ∧ ownerOrLock a = false ∧ d.dmaDenied k a = true) ∧
  (∃ (d : Dev) (a p : Nat), pageOf a = some p ∧ a % 4 = 0 ∧ ownerOrLock a = true ∧ d.flag (Reg.PG_LOCK_LOCK p) = true ∧
    lockExempt a = false) ∧
  (∃ (d : Dev) (a p k : Nat) (v : Word), pageOf a = some p ∧ a % 4 = 0 ∧ ownerOrLock a = false ∧
    bit (d.reg (Reg.PG_OWNER p)) (8 + k) = true ∧ (t0Only a v = false ∨ k = 0) ∧ fwOnly a = false ∧ d.dmaDenied k a = false ∧
    (d.flag (Reg.PG_LOCK_LOCK p) = false ∨ lockExempt a = true) ∧ d.flag (Reg.PG_OWNER_FW_HOLD p) = true) ∧
  (∃ (d : Dev) (a p : Nat), pageOf a = some p ∧ a % 4 = 0 ∧ ownerOrLock a = true ∧ d.flag (Reg.PG_LOCK_LOCK p) = false ∧
    d.flag (Reg.PG_OWNER_FW_HOLD p) = false ∧ (d.page p).inReset = true) ∧
  (∃ (d : Dev) (a p : Nat), pageOf a = some p ∧ a % 4 = 0 ∧ ownerOrLock a = true ∧ d.flag (Reg.PG_LOCK_LOCK p) = false ∧
    d.flag (Reg.PG_OWNER_FW_HOLD p) = false ∧ (d.page p).inReset = false) ∧
  (∃ (d : Dev) (a p k : Nat) (v : Word), pageOf a = some p ∧ d.refuseReason k a v false = 0 ∧ d.flag (Reg.PG_LOCK_LOCK p) = true) :=
  ⟨⟨0, by decide⟩, ⟨0x40000001, 0, by decide⟩, ⟨Reg.PG_OWNER 3, 3, 1, by decide⟩, ⟨Dev.reset, Reg.EVT_EN 3, 3, 2, by decide⟩,
    ⟨Reg.CHBIND 0, 1, 1, 0, by decide⟩, ⟨Reg.LK_KICK, (Reg.LK_KICK - 0x40000000) / 0x1000, by decide⟩, ⟨Dev.reset, Reg.DCH_CTL 4, 0x1A, 0, by decide⟩,
    ⟨Dev.reset.set (Reg.PG_LOCK_LOCK 3) 1, Reg.PG_OWNER 3, 3, by decide⟩,
    ⟨Dev.reset.set (Reg.PG_OWNER_FW_HOLD 3) 1, Reg.EVT_EN 3, 3, 1, 0, by decide⟩,
    ⟨Dev.reset.modPage 3 (fun p => { p with inReset := true }), Reg.PG_OWNER 3, 3, by decide⟩,
    ⟨Dev.reset, Reg.PG_OWNER 3, 3, by decide⟩, ⟨Dev.reset.set (Reg.PG_LOCK_LOCK 3) 1, Reg.EVT_PEND 3, 3, 1, 0, by decide⟩⟩

/-- A state and operands for every clause of `Obligations.OwnersAndLocksAreT0s`. -/
theorem wit_OwnersAndLocksAreT0s :
  (∃ (k : Nat) (p : Fin 65) (a : Nat), (a = Reg.PG_OWNER p.val ∨ a = Reg.PG_LOCK p.val) ∧ k ≠ 0) ∧
  (∃ (d : Dev) (p : Fin 65), d.flag (Reg.PG_LOCK_LOCK p.val) = true) ∧
  (∃ (d : Dev) (p : Fin 65), d.flag (Reg.PG_LOCK_LOCK p.val) = false ∧ d.flag (Reg.PG_OWNER_FW_HOLD p.val) = true) ∧
  (∃ (d : Dev) (p : Fin 65), d.flag (Reg.PG_LOCK_LOCK p.val) = false ∧ d.flag (Reg.PG_OWNER_FW_HOLD p.val) = false ∧
    (d.page p.val).inReset = false) :=
  ⟨⟨7, 64, Reg.PG_LOCK 64, .inr rfl, by decide⟩, ⟨Dev.reset.set (Reg.PG_LOCK_LOCK 64) 1, 64, by decide⟩,
    ⟨Dev.reset.set (Reg.PG_OWNER_FW_HOLD 64) 1, 64, by decide⟩, ⟨Dev.reset, 64, by decide⟩⟩

/-- A state and operands for every clause of `Obligations.LateErrorsAreStoredAndPopped`. -/
theorem wit_LateErrorsAreStoredAndPopped :
  (∃ (d : Dev) (k : Nat), d.bridges.length = 8 ∧ d.pages.length = 65 ∧ k < 8 ∧ (d.br k).late.length < 4 ∧ (d.page 0x0B).buf.length < 4) ∧
  (∃ (d : Dev) (k : Nat), d.bridges.length = 8 ∧ d.pages.length = 65 ∧ k < 8 ∧ 4 ≤ (d.br k).late.length) ∧
  (∃ (s : State) (l : Land) (ag : Agent) (v : Word) (d : Dev) (j : Fin 8), s.dev.granted l = some (ag, Reg.LE_POP j.val, v, d) ∧
    bit v.toNat 0 = true ∧ d.bridges.length = 8) :=
  ⟨⟨Dev.reset, 7, by decide⟩, ⟨Dev.reset.modBr 7 (fun b => { b with late := List.replicate 4 ⟨0, 0, 0, 2⟩ }), 7, by decide⟩,
    ⟨stD id, _, _, 1, _, 7, granted_fw (by decide), by decide, by decide⟩⟩

/-- A state and operands for every clause of `Obligations.TagsCountTheTenantsWrites`. -/
theorem wit_TagsCountTheTenantsWrites :
  ∃ (d : Dev) (k : Nat), d.bridges.length = 8 ∧ k < 8 ∧ d.br k = BridgeT.reset :=
  ⟨Dev.reset, 7, by decide⟩

/-- A state and operands for every clause of `Obligations.FaultCodeHoldsTheWorstCondition`. -/
theorem wit_FaultCodeHoldsTheWorstCondition :
  (∃ (d : Dev) (p : Nat), (d.page p).faults = []) ∧
  (∃ (d : Dev) (p : Nat) (c : FaultCond), worst (d.page p).faults = some c ∧ c.code < 65536) ∧
  (∃ l : List FaultCond, l ≠ []) ∧
  (∃ (d : Dev) (p key : Nat), d.faulted p key = false ∧ p < d.pages.length) :=
  ⟨⟨Dev.reset, 0, by decide⟩, ⟨Dev.reset.modPage 64 (fun p => { p with faults := [⟨1, 65535, 7, 0⟩] }), 64, _, rfl, by decide⟩,
    ⟨[⟨1, 1, 1, 0⟩], by decide⟩, ⟨Dev.reset, 64, 1, by decide⟩⟩

/-- A state and operands for every clause of `Obligations.ABoundaryTakesEveryShadow`. -/
theorem wit_ABoundaryTakesEveryShadow :
  ∃ (d : Dev) (p : Nat → Bool) (x : Nat × Word) (a : Nat), (d.shadows.map (·.1)).Nodup ∧ x ∈ d.shadows ∧ p x.1 = true ∧
    ∀ x ∈ d.shadows, p x.1 = true → x.1 ≠ a :=
  ⟨{ Dev.reset with shadows := [(Reg.PC_GEOM, 5)] }, fun _ => true, (Reg.PC_GEOM, 5), 0, by decide, by decide, rfl, by decide⟩

/-- A state and operands for every clause of `Obligations.FiringsSetRawWhateverIsEnabled`. -/
theorem wit_FiringsSetRawWhateverIsEnabled :
  ∃ i j : Fin 32, j ≠ i :=
  ⟨31, 0, by decide⟩

/-- A state and operands for every clause of `Obligations.ARegisterWriteActsByAccessCode`. -/
theorem wit_ARegisterWriteActsByAccessCode :
  (∃ (a : Nat) (i : Fin 32), bit (accMask a (· == .rw)) i.val = true ∧ bit (accMask a (· == .w1c)) i.val = false ∧
    bit (accMask a (· == .w1s)) i.val = false) ∧
  (∃ (a : Nat) (i : Fin 32), bit (accMask a (· == .rw)) i.val = false ∧ bit (accMask a (· == .w1c)) i.val = true ∧
    bit (accMask a (· == .w1s)) i.val = false) ∧
  (∃ (a : Nat) (i : Fin 32), bit (accMask a (· == .rw)) i.val = false ∧ bit (accMask a (· == .w1c)) i.val = false ∧
    bit (accMask a (· == .w1s)) i.val = true) ∧
  (∃ (a : Nat) (i : Fin 32), bit (accMask a (· == .rw)) i.val = false ∧ bit (accMask a (· == .w1c)) i.val = false ∧
    bit (accMask a (· == .w1s)) i.val = false) :=
  ⟨⟨Reg.EVT_EN 64, 31, by decide⟩, ⟨Reg.LE_STAT 7, 8, by decide⟩, ⟨Reg.PG_LOCK 64, 0, by decide⟩, ⟨Reg.PG_ID 64, 31, by decide⟩⟩

/-- A state and operands for every clause of `Obligations.TheTurnComesToEveryTenant`. -/
theorem wit_TheTurnComesToEveryTenant :
  (∃ (elig : Nat → Bool) (wt : Nat → Nat) (s : Sched) (k : Nat) (t : Sched), schedPick elig wt s = some (k, t) ∧ t.cur = k) ∧
  (∃ (elig : Nat → Bool) (wt : Nat → Nat) (s : Sched) (k : Nat) (t : Sched), schedPick elig wt s = some (k, t) ∧ t.cur ≠ k) ∧
  (∃ (elig : Nat → Bool) (wt : Nat → Nat) (s : Sched) (W k : Nat) (picks : Nat → Nat × Sched), s.cur < 8 ∧ s.used ≤ W ∧ k < 8 ∧
    elig k = true ∧ (∀ i, i < 8 → 1 ≤ wt i ∧ wt i ≤ W) ∧ schedPick elig wt s = some (picks 0) ∧
    ∀ n, schedPick elig wt (picks n).2 = some (picks (n + 1))) :=
  ⟨⟨fun _ => true, fun _ => 2, ⟨7, 0⟩, 7, ⟨7, 1⟩, by decide⟩, ⟨fun _ => true, fun _ => 1, ⟨7, 0⟩, 7, ⟨0, 0⟩, by decide⟩,
    ⟨fun k => k == 0, fun _ => 1, ⟨0, 0⟩, 1, 0, fun _ => (0, ⟨1, 0⟩), by decide, by decide, by decide, rfl, fun _ _ => ⟨Nat.le_refl 1, Nat.le_refl 1⟩,
     by decide,
     fun _ => (by decide : schedPick (fun k => k == 0) (fun _ => 1) ⟨1, 0⟩ = some (0, ⟨1, 0⟩))⟩⟩

/-- A state and operands for every clause of `Obligations.LoopOutputStaysInItsLimits`. -/
theorem wit_LoopOutputStaysInItsLimits :
  ∃ (d : Dev) (n : Fin 8) (y : Int), d.flag (Reg.LP_STAT_SWAP_PEND n.val) = false ∧ (d.lch n.val).init = false ∧
    d.flag (Reg.LP_CTL_INIT n.val) = false ∧ (d.loopLaw n.val y).flag (Reg.LP_STAT_SAT n.val) = true :=
  ⟨wSat, 7, 1000, by decide +kernel⟩

/-- A state and operands for every clause of `Obligations.CounterModeUndoesItself`. -/
theorem wit_CounterModeUndoesItself :
  ∃ iv : List Byte, iv.length = 12 :=
  ⟨zeros 12, by decide⟩

/-- A state and operands for every clause of `Obligations.ARawBlockDecodesToItsRaster`. -/
theorem wit_ARawBlockDecodesToItsRaster :
  ∃ (bpp bh width lines band : Nat) (raster : List Byte) (c : DecCtx), (bpp = 1 ∨ bpp = 2 ∨ bpp = 4) ∧ bh < 4 ∧ width < 65536 ∧
    lines < 65536 ∧ band < 65536 ∧ raster.length = width * bpp / 8 * lines ∧ raster.length < 2 ^ 32 ∧ c.band = band ∧
    c.width = width ∧ c.bpp = bpp ∧ c.bandH = bh ∧ c.lines = lines ∧ c.anyLines = false ∧ raster.length ≤ c.room ∧
    raster.length ≤ c.outMax ∧ c.given = 32 + raster.length :=
  ⟨2, 3, 8, 2, 65535, [1, 2, 3, 4], ⟨65535, 8, 2, 3, 2, false, 4, 4, 0, 36⟩, by decide⟩

/-- A state and operands for every clause of `Obligations.BurnedBitsStay`. -/
theorem wit_BurnedBitsStay :
  ∃ (s t : State) (raw : Option Word), exec (.otpBurnDone raw) s = .next t :=
  ⟨stD (fun d => { d with otp := { d.otp with busy := some ⟨896, 3, 0, false⟩ } }), _, none, rfl⟩

end Sys2Proof.Tests
end

/-! # Proofs of the statements of spec/00_scope.md

A step and the queue, reads and the instants of the register pages, and a write by access codes. -/

namespace Sys2Proof.Machine

/-! ### A step and the queue -/

/-- A step takes the front command and runs it with the rest of the queue. -/
theorem step_cons (c : Instr) (q : List Instr) (s : State) :
    step { s with pending := c :: q } = exec c { s with pending := q } := rfl

/-- With no command waiting one tick of the always-on counter passes (log entry 5). -/
theorem step_idle {s : State} (h : s.pending = []) : step s = .next (s.withDev s.dev.idle) := by
  simp only [step, h, State.withDev]

@[simp] theorem decodeTableWord_eq_none (n w : Nat) : decodeTableWord n w = none := rfl

@[simp] theorem State.withFetchWord_eq_self (s : State) (n w : Nat) : s.withFetchWord n w = s := by
  simp only [State.withFetchWord, decodeTableWord_eq_none]

/-- Settles O38, by the two arms of `step` on the queue and the empty table of command words. -/
theorem aStepRunsTheFrontCommand : Obligations.AStepRunsTheFrontCommand :=
  ⟨fun c s q => step_cons c q s, fun _ => step_idle,
    fun s n w => ⟨decodeTableWord_eq_none n w, s.withFetchWord_eq_self n w⟩⟩

/-! ### Bits of words -/

/-- The model's bit of a number is the library's. -/
theorem bit_eq_testBit (x i : Nat) : bit x i = x.testBit i := by
  rw [bit, Nat.shiftRight_eq_div_pow, Nat.testBit_eq_decide_div_mod_eq]
  rfl

@[simp] theorem bit_zero (i : Nat) : bit 0 i = false := by simp [bit_eq_testBit]

@[simp] theorem bit_and (x y i : Nat) : bit (x &&& y) i = (bit x i && bit y i) := by
  simp only [bit_eq_testBit, Nat.testBit_and]

@[simp] theorem bit_or (x y i : Nat) : bit (x ||| y) i = (bit x i || bit y i) := by
  simp only [bit_eq_testBit, Nat.testBit_or]

/-- A bit of a register word is not touched by the cut to 32 bits. -/
theorem bit_mod_word (x : Nat) (i : Fin 32) : bit (x % 2 ^ 32) i.val = bit x i.val := by
  simp only [bit_eq_testBit, Nat.testBit_mod_two_pow, i.isLt, decide_true, Bool.true_and]

/-- The model complements a mask as 0xFFFFFFFF XOR it. -/
theorem bit_compl (m : Nat) (i : Fin 32) : bit (0xFFFFFFFF ^^^ m) i.val = ! bit m i.val := by
  have ones : Nat.testBit 0xFFFFFFFF i.val = true := by
    rw [show (0xFFFFFFFF : Nat) = 2 ^ 32 - 1 from rfl, Nat.testBit_two_pow_sub_one]
    exact decide_eq_true i.isLt
  simp only [bit_eq_testBit, Nat.testBit_xor, ones, Bool.true_xor]

/-- Under the mask a bit is the new word's, outside it the old one's. -/
theorem bit_merge (old new m : Nat) (i : Fin 32) :
    bit (merge old new m) i.val = if bit m i.val then bit new i.val else bit old i.val := by
  simp only [merge, bit_or, bit_and, bit_compl]
  cases bit m i.val <;> simp

/-! ### Registers by their access codes (R10, R216, R217) -/

@[simp] theorem Dev.reg_setShadow (d : Dev) (a b v : Nat) : (d.setShadow a v).reg b = d.reg b := rfl

theorem Dev.bit_reg_setReg (d : Dev) (a v : Nat) (i : Fin 32) : bit ((d.setReg a v).reg a) i.val = bit v i.val := by
  rw [Dev.reg_setReg_same, bit_mod_word]

theorem Dev.bit_reg_clrReg (d : Dev) (a m : Nat) (i : Fin 32) :
    bit ((d.clrReg a m).reg a) i.val = (bit (d.reg a) i.val && ! bit m i.val) := by
  rw [Dev.clrReg, Dev.bit_reg_setReg, bit_and, bit_compl]

theorem Dev.bit_reg_orReg (d : Dev) (a m : Nat) (i : Fin 32) :
    bit ((d.orReg a m).reg a) i.val = (bit (d.reg a) i.val || bit m i.val) := by
  rw [Dev.orReg, Dev.bit_reg_setReg, bit_or]

/-! `Dev.store` in its four stages, each of which leaves the block alone where the register has no field of the kind. -/

/-- The RW fields take the new word. -/
def Dev.storeRw (d : Dev) (a v : Nat) : Dev :=
  if accMask a (· == .rw) = 0 then d else d.setReg a (merge (d.reg a) v (accMask a (· == .rw)))

/-- The bits of the mask are cleared (W1C). -/
def Dev.storeClr (d : Dev) (a c : Nat) : Dev := if c = 0 then d else d.clrReg a c

/-- The bits of the mask are set (W1S). -/
def Dev.storeSet (d : Dev) (a s : Nat) : Dev := if s = 0 then d else d.orReg a s

/-- The shadow takes the new word in the RWS fields. -/
def Dev.storeShadow (d : Dev) (a v : Nat) : Dev :=
  if accMask a (· == .rws) = 0 then d else d.setShadow a (merge (d.shadow a) v (accMask a (· == .rws)))

theorem Dev.store_eq_stages (d : Dev) (a v : Nat) :
    d.store a v = (((d.storeRw a v).storeClr a (accMask a (· == .w1c) &&& v)).storeSet a
      (accMask a (· == .w1s) &&& v)).storeShadow a v := rfl

theorem Dev.bit_reg_storeRw (d : Dev) (a v : Nat) (i : Fin 32) :
    bit ((d.storeRw a v).reg a) i.val =
      if bit (accMask a (· == .rw)) i.val then bit v i.val else bit (d.reg a) i.val := by
  unfold Dev.storeRw
  split
  next h => simp [h]
  next => rw [Dev.bit_reg_setReg, bit_merge]

theorem Dev.bit_reg_storeClr (d : Dev) (a c : Nat) (i : Fin 32) :
    bit ((d.storeClr a c).reg a) i.val = (bit (d.reg a) i.val && ! bit c i.val) := by
  unfold Dev.storeClr
  split
  next h => simp [h]
  next => exact d.bit_reg_clrReg a c i

theorem Dev.bit_reg_storeSet (d : Dev) (a s : Nat) (i : Fin 32) :
    bit ((d.storeSet a s).reg a) i.val = (bit (d.reg a) i.val || bit s i.val) := by
  unfold Dev.storeSet
  split
  next h => simp [h]
  next => exact d.bit_reg_orReg a s i

@[simp] theorem Dev.reg_storeShadow (d : Dev) (a b v : Nat) : (d.storeShadow a v).reg b = d.reg b := by
  unfold Dev.storeShadow
  split <;> rfl

/-- A bit of the register after a write: the RW, W1C and W1S fields act in this order. -/
theorem Dev.bit_reg_store (d : Dev) (a v : Nat) (i : Fin 32) :
    bit ((d.store a v).reg a) i.val =
      (((if bit (accMask a (· == .rw)) i.val then bit v i.val else bit (d.reg a) i.val) &&
        ! (bit (accMask a (· == .w1c)) i.val && bit v i.val)) ||
        (bit (accMask a (· == .w1s)) i.val && bit v i.val)) := by
  rw [Dev.store_eq_stages, Dev.reg_storeShadow, Dev.bit_reg_storeSet, Dev.bit_reg_storeClr, Dev.bit_reg_storeRw,
    bit_and, bit_and]

/-- Block `e` is block `d` but for register `a` and the shadows. -/
structure Dev.ChangesOnlyReg (a : Nat) (d e : Dev) : Prop where
  others : ∀ b, b ≠ a → e.reg b = d.reg b
  rest : e = { d with regs := e.regs, shadows := e.shadows }

namespace Dev.ChangesOnlyReg

theorem refl (a : Nat) (d : Dev) : ChangesOnlyReg a d d := ⟨fun _ _ => rfl, rfl⟩

theorem trans {a : Nat} {d e f : Dev} (h : ChangesOnlyReg a d e) (g : ChangesOnlyReg a e f) : ChangesOnlyReg a d f where
  others b hb := (g.others b hb).trans (h.others b hb)
  rest := by rw [g.rest, h.rest]

theorem setReg (d : Dev) (a v : Nat) : ChangesOnlyReg a d (d.setReg a v) :=
  ⟨fun b hb => d.reg_setReg_other a b v hb, rfl⟩

theorem setShadow (d : Dev) (a v : Nat) : ChangesOnlyReg a d (d.setShadow a v) :=
  ⟨fun b _ => d.reg_setShadow a b v, rfl⟩

/-- A stage that is passed over where `p` holds. -/
theorem ite_refl {a : Nat} {d e : Dev} (p : Prop) [Decidable p] (h : ChangesOnlyReg a d e) :
    ChangesOnlyReg a d (if p then d else e) := by
  split
  · exact refl a d
  · exact h

/-- A write by access codes changes its register and the shadows only. -/
theorem store (d : Dev) (a v : Nat) : ChangesOnlyReg a d (d.store a v) := by
  have hrw : ChangesOnlyReg a d (d.storeRw a v) := ite_refl _ (setReg d a _)
  have hclr (e : Dev) (c : Nat) : ChangesOnlyReg a e (e.storeClr a c) := ite_refl _ (setReg e a _)
  have hset (e : Dev) (s : Nat) : ChangesOnlyReg a e (e.storeSet a s) := ite_refl _ (setReg e a _)
  have hshadow (e : Dev) : ChangesOnlyReg a e (e.storeShadow a v) := ite_refl _ (setShadow e a _)
  rw [Dev.store_eq_stages]
  exact ((hrw.trans (hclr _ _)).trans (hset _ _)).trans (hshadow _)

end Dev.ChangesOnlyReg

/-- Settles O54: the bit of each kind of field is read off `Dev.bit_reg_store`. -/
theorem aRegisterWriteActsByAccessCode : Obligations.ARegisterWriteActsByAccessCode := by
  refine ⟨?_, fun d a v => (Dev.ChangesOnlyReg.store d a v).others, fun d a v => (Dev.ChangesOnlyReg.store d a v).rest⟩
  intro d a v i
  dsimp only
  rw [Dev.bit_reg_store]
  refine ⟨?_, ?_, ?_, ?_⟩ <;> (intro hrw hc hs; simp [hrw, hc, hs])

/-! ### Reads (R13, R14, R218, R264) -/

/-- A read that is granted and has its word returns it, with the side effects of the read. -/
theorem Dev.tenantRead_ready {d : Dev} {k a : Nat} (m : Mem) (hok : d.readOk k a = true) (hready : d.readReady k a = true) :
    d.tenantRead m k a =
      { (d.readReg m (.tenant k) a).2 with lastRead := [BitVec.ofNat 32 (d.readReg m (.tenant k) a).1] } := by
  simp only [Dev.tenantRead, hok, hready, Bool.and_self, if_true]

/-! The three rows that stand for a read are the same read. -/

theorem exec_rcFieldRead (k : Fin 8) (a : Nat) (s : State) :
    exec (.rcFieldRead k a) s = .next (s.withDev (s.dev.tenantRead s.mem k.val a)) := rfl

theorem exec_evtRdRead (k : Fin 8) (i : Fin 4) (s : State) :
    exec (.evtRdRead k i) s = .next (s.withDev (s.dev.tenantRead s.mem k.val (Reg.EVT_RD i.val))) := rfl

theorem exec_lfLoRead (k : Fin 8) (s : State) :
    exec (.lfLoRead k) s = .next (s.withDev (s.dev.tenantRead s.mem k.val Reg.LF_LO)) := rfl

/-- READ_TIMEOUT of a register that a REG_READ waits for ends it with BUSY (R220). -/
theorem exec_readTimeout_waiting {s : State} {k : Fin 8} {a : Nat} {x : Deferred} (hx : s.dev.deferred? k.val 0x0701 = some x)
    (ha : (readAddrs (x.args.getD 0 0) (x.args.getD 1 0)).contains a = true) :
    exec (.readTimeout k a) s = .next (s.withDev (s.dev.finish k.val 0x0701 St.busy [])) := by
  change execReadTimeout k a s = _
  simp only [execReadTimeout, onDev_next, hx, ha, if_true, State.withDev]

/-! ### Posted writes and fences (R225, R231) -/

/-- WRITE_TIMEOUT refuses a head write that passes every earlier check with reason 8. -/
theorem exec_writeTimeout_head {s : State} {k : Fin 8} {ecc : Ecc} {w : PostedWrite} {rest : List PostedWrite}
    (hq : (s.dev.br k.val).queue = w :: rest)
    (hr : s.dev.refuseReason k.val w.addr w.data (ecc = .uncorrectable) = 0) :
    exec (.writeTimeout (.tenant k.val ecc)) s = .next (s.withDev ((s.dev.popWrite k.val).refuseWrite k.val w 8)) := by
  change execWriteTimeout (.tenant k.val ecc) s = _
  simp only [execWriteTimeout, onDev_next, hq, hr, if_true, State.withDev]

/-- A read of WRITE_FENCE that has nothing to wait for returns at once. -/
theorem exec_writeFenceRead_atOnce {s : State} {k p : Fin 8} (hok : s.dev.readOk k.val (Reg.WRITE_FENCE p.val) = true)
    (hans : s.dev.answers (Reg.WRITE_FENCE p.val) = true) (hnone : p ≠ k ∨ s.dev.outstanding k.val = []) :
    exec (.writeFenceRead k p) s =
      .next (s.withDev { s.dev with lastRead := [BitVec.ofNat 32 (s.dev.fenceWord p.val)] }) := by
  have hnone' : p.val ≠ k.val ∨ s.dev.outstanding k.val = [] := hnone.imp_left (Fin.val_ne_of_ne ·)
  change execWriteFenceRead k p s = _
  simp only [execWriteFenceRead, onDev_next, hok, hans, hnone', Bool.and_self, Bool.not_true, Bool.false_eq_true, if_false,
    if_true, State.withDev]

/-- FENCE_COMPLETE takes the oldest fence, whose writes are complete: a REG_FENCE is answered, a read of WRITE_FENCE returns. -/
theorem exec_fenceComplete_oldest {s : State} {k : Fin 8} {f : Fence} {rest : List Fence}
    (hf : (s.dev.br k.val).fences = f :: rest) (hdone : f.target ≤ (s.dev.br k.val).done) :
    let d := s.dev.modBr k.val (fun b => { b with fences := rest })
    exec (.fenceComplete k) s = .next (s.withDev
      (if f.what = 0 then d.finish k.val 0x0703 St.ok (leBytes 4 (d.fenceWord k.val))
        else { d with lastRead := [BitVec.ofNat 32 (d.fenceWord k.val)] })) := by
  change execFenceComplete k s = _
  simp only [execFenceComplete, onDev_next, hf, Nat.not_lt.mpr hdone, if_false, State.withDev]

/-! ### Instants of a page: the freeze and the shadows (R243, R244) -/

/-- FREEZE_EXPIRY clears a freeze 10 ms old. -/
theorem exec_freezeExpiry_due {s : State} {p : Fin 65} {im : List (Nat × Word)} (him : (s.dev.page p.val).image = some im)
    (hold : (s.dev.page p.val).frozeAt + 10000 ≤ s.dev.now) :
    exec (.freezeExpiry p) s = .next (s.withDev
      ((s.dev.modPage p.val (fun q => { q with image := none })).set (Reg.PG_CTL_FREEZE p.val) 0)) := by
  change execFreezeExpiry p s = _
  rw [execFreezeExpiry, onDev_next, when_true (by rw [him, decide_eq_true hold]; rfl)]
  rfl

/-- SHADOW_BOUNDARY of a per-channel page takes the channel's shadows. -/
theorem exec_shadowBoundary_channel {s : State} {p : Fin 65} {c : Fin 8} (hb : noBoundary p.val = false)
    (hc : perChan p.val = true) :
    exec (.shadowBoundary p c) s = .next (s.withDev (s.dev.chanBoundary p.val c.val)) := by
  change execShadowBoundary p c s = _
  simp only [execShadowBoundary, onDev_next, hb, hc, Bool.false_eq_true, if_false, if_true, State.withDev]

/-- SHADOW_BOUNDARY of any other page, LINE and HEAD apart, takes the page's shadows where its boundary is reached. -/
theorem exec_shadowBoundary_page {s : State} {p : Fin 65} {c : Fin 8} (hb : noBoundary p.val = false)
    (hc : perChan p.val = false) (hline : p.val ≠ 0x22) (hhead : p.val ≠ 0x24)
    (hrest : (levelPages.contains p.val && s.dev.pageBusy p.val) = false) :
    exec (.shadowBoundary p c) s = .next (s.withDev (s.dev.pageBoundary p.val)) := by
  change execShadowBoundary p c s = _
  simp only [execShadowBoundary, onDev_next, hb, hc, hrest, beq_eq_false_iff_ne.mpr hline, beq_eq_false_iff_ne.mpr hhead,
    Bool.or_self, Bool.false_and, Bool.false_eq_true, if_false, State.withDev]

/-! ### The spine (R255, R258, R260) -/

/-- SPINE_ACCEPT takes the oldest record of a page that has lost none. -/
theorem exec_spineAccept_oldest {s : State} {p : Fin 65} {e : EvRec} {rest : List EvRec}
    (hbuf : (s.dev.page p.val).buf = e :: rest) (hlost : (s.dev.page p.val).lost = 0) :
    exec (.spineAccept p) s =
      .next (s.withDev ((s.dev.modPage p.val (fun q => { q with buf := rest, lost := 0 })).spineTake e)) := by
  change execSpineAccept p s = _
  simp only [execSpineAccept, onDev_next, Dev.spineAccept, hbuf, hlost, if_true, State.withDev]

/-- TIME_WRAP posts the notice of the wrap where the counter's low 32 bits have come round to 0. -/
theorem exec_timeWrap_wrapped {s : State} (hwrap : s.dev.now % 2 ^ 32 = 0) (hnow : s.dev.now ≠ 0) :
    exec .timeWrap s = .next (s.withDev ((s.dev.spineTake (spineNotice 2)).fireRaw 0x0A 1)) := by
  change execTimeWrap s = _
  rw [execTimeWrap, onDev_next, when_true (by rw [hwrap, bne_iff_ne.mpr hnow]; rfl)]
  rfl

/-- Settles O13: each clause is the lemma of its row. -/
theorem readsFencesAndSpineTakeEffect : Obligations.ReadsFencesAndSpineTakeEffect := by
  refine ⟨?reads, fun s k p => exec_writeFenceRead_atOnce, ?fenceAnswer, ?fenceRead, fun s k ecc w rest => exec_writeTimeout_head,
    fun s k a x => exec_readTimeout_waiting, fun s p im => exec_freezeExpiry_due, fun s p c => exec_shadowBoundary_channel,
    fun s p c => exec_shadowBoundary_page, fun s p e rest => exec_spineAccept_oldest, fun s => exec_timeWrap_wrapped⟩
  case reads =>
    intro s k a hok hready r t
    have hread : s.withDev (s.dev.tenantRead s.mem k.val a) = t := by rw [Dev.tenantRead_ready s.mem hok hready]
    refine ⟨?_, ?_, ?_⟩
    · rw [exec_rcFieldRead, hread]
    · rintro i rfl
      rw [exec_evtRdRead, hread]
    · rintro rfl
      rw [exec_lfLoRead, hread]
  case fenceAnswer =>
    intro s k f rest hf hdone hwhat d
    rw [exec_fenceComplete_oldest hf hdone, if_pos hwhat]
  case fenceRead =>
    intro s k f rest hf hdone hwhat d
    rw [exec_fenceComplete_oldest hf hdone, if_neg hwhat]

end Sys2Proof.Machine

/-! # Proofs of the statements of spec/01_page_contract.md

The commit decision and the releases of a held sheet, and the instants of the laser engine. -/

namespace Sys2Proof.Machine

/-! ### The commit attempt and the gear (R34, R35, R36) -/

/-- An attempt that checks 8 to 10 pass is decided for the sheet. -/
theorem Dev.lateChecks_pass {d : Dev} {x : Sheet} {took : Nat} (m : Mem)
    (h : (d.lateRecord x (d.slackOf m x)).lateFail x (d.slackOf m x).1 took = none) :
    d.lateChecks m x took =
      (d.lateRecord x (d.slackOf m x)).commit x ((d.lateRecord x (d.slackOf m x)).energyShort x) := by
  simp only [Dev.lateChecks, h]

/-- COMMIT_ATTEMPT of a sheet whose hold may go on and that checks 1 to 7 pass goes on to the late checks. -/
theorem exec_commitAttempt_early {s : State} {took : Nat} {x : Sheet} (hx : s.dev.heldSheet = some x)
    (hage : (s.dev.boundary 0x32).geomCheck.holdAge x < (s.dev.boundary 0x32).geomCheck.holdMax)
    (hearly : (s.dev.boundary 0x32).geomCheck.earlyChecks x = none) :
    exec (.commitAttempt took) s = .next (s.withDev ((s.dev.boundary 0x32).geomCheck.lateChecks s.mem x took)) := by
  change execCommitAttempt took s = _
  simp only [execCommitAttempt, onAll_next, hx, hearly, Nat.not_le.mpr hage, if_false, State.withDev]

/-- GEAR_CHANGE_LOCK takes the target gear where M2 has locked at its speed and a gear is due. -/
theorem exec_gearChangeLock_locked {s : State} (hon : s.dev.engineOn = true) (hlock : s.dev.flag (Reg.BL_STAT_SPD_LOCK 1) = true)
    (hspeed : s.dev.geti (Reg.BL_CMD_NOW_SPEED 1) = s.dev.blSelected 1)
    (hdue : s.dev.get Reg.PC_STAT_RUN_GEAR = 0 ∨ s.dev.flag Reg.PC_STAT_SHIFTING = true) :
    exec .gearChangeLock s =
      .next (s.withDev ((s.dev.set Reg.PC_STAT_RUN_GEAR s.dev.engine.target).set Reg.PC_STAT_SHIFTING 0)) := by
  change execGearChangeLock s = _
  have hgear : (s.dev.get Reg.PC_STAT_RUN_GEAR == 0 || s.dev.flag Reg.PC_STAT_SHIFTING) = true := by simpa using hdue
  rw [execGearChangeLock, onDev_next, when_true (by rw [hon, hlock, beq_iff_eq.mpr hspeed, hgear]; rfl), State.withDev]

/-! ### The end of a hold and the releases (R26, R27, R30, R549) -/

/-- HOLD_MAX_EXPIRY sets a sheet held for HOLD_MAX for a blank release. -/
theorem exec_holdMaxExpiry_due {s : State} {x : Sheet} (hx : s.dev.heldSheet = some x)
    (hlas : s.dev.laserState = LasSt.ready ∨ s.dev.laserState = LasSt.printing) (hage : s.dev.holdMax ≤ s.dev.holdAge x) :
    exec .holdMaxExpiry s = .next (s.withDev (s.dev.setBlank x (s.dev.gapAfter s.dev.now))) := by
  change execHoldMaxExpiry s = _
  simp only [execHoldMaxExpiry, onDev_next, hx, if_pos (And.intro hlas hage), State.withDev]

/-- BLANK_RELEASE launches the blank sheet that stands at the registration roller. -/
theorem exec_blankRelease_standing {s : State} {tRel i : Nat} {x : Sheet}
    (hx : s.dev.sheets.find? (fun y => y.state == .held && y.blank && ! y.released) = some x) (hi : s.dev.slotOf x = some i)
    (hslot : (s.dev.slot i).state = 3) (ht : x.tRel ≤ tRel) (hlock : s.dev.lockMode = 0) :
    exec (.blankRelease tRel) s = .next (s.withDev
      (((s.dev.modSheet x (fun y => { y with released := true, tRel := tRel })).dropSheetWork x).launch x i tRel s.dev.relGear)) := by
  change execBlankRelease tRel s = _
  simp only [execBlankRelease, onDev_next, hx, hi, if_pos (And.intro hslot (And.intro ht hlock)), State.withDev]

/-- SHEET_RELEASE launches the committed sheet that stands at the registration roller. -/
theorem exec_sheetRelease_standing {s : State} {tRel i : Nat} {x : Sheet}
    (hx : s.dev.sheets.find? (fun y => y.state == .committed && ! y.released) = some x) (hi : s.dev.slotOf x = some i)
    (hslot : (s.dev.slot i).state = 3) (ht : x.tRel ≤ tRel) (hlock : s.dev.lockMode ≠ 2) :
    exec (.sheetRelease tRel) s = .next (s.withDev
      ((s.dev.modSheet x (fun y => { y with released := true, tRel := tRel })).launch x i tRel x.gear)) := by
  change execSheetRelease tRel s = _
  simp only [execSheetRelease, onDev_next, hx, hi, if_pos (And.intro hslot (And.intro ht hlock)), State.withDev]

/-- SHEET_FUSING moves the imaging sheet of a slot that is RUNNING or EXITING to FUSING. -/
theorem exec_sheetFusing_imaging {s : State} {i : Fin 4} {x : Sheet} (hx : s.dev.slotSheet i.val = some x)
    (hlow : 4 ≤ (s.dev.slot i.val).state) (hhigh : (s.dev.slot i.val).state ≤ 5) (hblank : x.blank = false)
    (himg : x.state = .imaging) :
    exec (.sheetFusing i) s = .next (s.withDev (s.dev.moveSheet x .fusing)) := by
  change execSheetFusing i s = _
  simp only [execSheetFusing, onDev_next, hx, hlow, hhigh, hblank, himg, Bool.not_false, and_self, if_true, State.withDev]

/-! ### Ingest, warm-up and cooling (R42, R55, R602, R604, Table 1-1) -/

theorem exec_ingestRateUpdate (s : State) :
    exec .ingestRateUpdate s = .next (s.withDev ((List.range 8).foldl Dev.ingestStep s.dev)) := rfl

/-- IDLE_COOL_EXPIRY cools an engine that has been idle in READY for IDLE_COOL. -/
theorem exec_idleCoolExpiry_due {s : State} (hlas : s.dev.laserState = LasSt.ready) (hset : s.dev.get Reg.PC_CTL_IDLE_COOL ≠ 0)
    (hpath : s.dev.pathEmpty = true) (hqueue : s.dev.anyQueued = false)
    (hpast : s.dev.engine.since + 1000000 * s.dev.get Reg.PC_CTL_IDLE_COOL ≤ s.dev.now) :
    exec .idleCoolExpiry s = .next (s.withDev (s.dev.setLas LasSt.cooling)) := by
  change execIdleCoolExpiry s = _
  rw [execIdleCoolExpiry, onDev_next,
    when_true (by rw [hlas, bne_iff_ne.mpr hset, hpath, hqueue, Dev.past, decide_eq_true hpast]; rfl), State.withDev]

/-- WARMUP_COMPLETE makes an engine READY that meets every condition of R602 and whose geometry is sound. -/
theorem exec_warmupComplete_met {s : State} (hlas : s.dev.laserState = LasSt.warming) (hmet : s.dev.geomCheck.unmet = 0)
    (hgeom : s.dev.geomCheck.faulted 0x32 3 = false) :
    exec .warmupComplete s = .next (s.withDev (s.dev.geomCheck.setLas LasSt.ready)) := by
  change execWarmupComplete s = _
  rw [execWarmupComplete, onDev_next, when_true (beq_iff_eq.mpr hlas)]
  simp only [hmet, hgeom, Bool.not_false, and_self, if_true, State.withDev]

/-- WARMUP_TIMEOUT reports what is unmet after WARM_MAX and stops the engine. -/
theorem exec_warmupTimeout_due {s : State} (hlas : s.dev.laserState = LasSt.warming) (hunmet : s.dev.unmet ≠ 0)
    (hpast : s.dev.engine.since + 1000000 * atLeast1 (s.dev.get Reg.FU_WARM_WARM_MAX) ≤ s.dev.now) :
    exec .warmupTimeout s = .next (s.withDev (((s.dev.raise 0x32 0xF St.warmupTimeout 3 s.dev.unmet).faultOn 0x32 2
      St.warmupTimeout 3 s.dev.unmet).engineStopNow 0x32 2)) := by
  change execWarmupTimeout s = _
  rw [execWarmupTimeout, onDev_next,
    when_true (by rw [hlas, bne_iff_ne.mpr hunmet, Dev.past, decide_eq_true hpast]; rfl), State.withDev]

/-- Settles O1: each clause is the lemma of its row; a commit is the early checks passed, then the late ones. -/
theorem engineCommandsComplete : Obligations.EngineCommandsComplete := by
  refine ⟨?commit, fun s => exec_gearChangeLock_locked, fun s x => exec_holdMaxExpiry_due,
    fun s tRel x i => exec_blankRelease_standing, fun s tRel x i => exec_sheetRelease_standing, exec_ingestRateUpdate,
    fun s => exec_idleCoolExpiry_due, fun s => exec_warmupComplete_met, fun s => exec_warmupTimeout_due,
    fun s i x => exec_sheetFusing_imaging⟩
  case commit =>
    intro s took x hx d e hage hearly hlate
    rw [exec_commitAttempt_early hx hage hearly, Dev.lateChecks_pass s.mem hlate]

end Sys2Proof.Machine

/-! # Proofs of the statements of spec/02_tenants.md

What the bridge refuses and grants, the page header's registers, the events of a tenant, the schedulers and the masks at reset. -/

namespace Sys2Proof.Machine

/-! ### How a row of the table lets a register write reach its page (R223) -/

/-- The ways in which a row lets a register write reach its page: which writes it selects, and its effect on a granted one. -/
inductive LandsAs (l : Land) : (State → Out) → Prop
  | block (sel : Nat → Word → Bool) (eff : Agent → Nat → Word → Dev → Dev) : LandsAs l (onDev (·.land l sel eff))
  | segment (kind : Nat) : LandsAs l (onDev (·.landPost l kind))
  | memory (sel : Nat → Word → Bool) (eff : Agent → Nat → Word → Dev → Mem → Dev × Mem) : LandsAs l (onAll (landAll l sel eff))
  | firmware (sel : Nat → Word → Bool) (eff : Nat → Word → Dev → Mem → Dev × Mem) : LandsAs l (onAll (landFw l sel eff))
  | stop (sel : Nat → Word → Bool) (dropAll : Bool) : LandsAs l (onAll (stopWrite l sel dropAll))
  | register : LandsAs l (execRegisterWrite l)
  | timeout : LandsAs l (execWriteTimeout l)

/-- Every row that stands for a register write lands it in one of these ways. -/
theorem exec_landsAs {c : Instr} {l : Land} (h : cmdLand c = some l) : LandsAs l (exec c) :=
  match c, h with
  | .chbindWrite _, rfl | .tcfgWrite _, rfl | .gqWrite _, rfl | .dmaOwnWrite _, rfl | .tenResetWrite _, rfl
  | .tqSoftRst _, rfl | .reattach _, rfl | .bor _, rfl | .pgOwnerWrite _, rfl | .pgLockWrite _, rfl | .evtPendWrite _, rfl
  | .evtSet _, rfl | .lePop _, rfl | .chLePop _, rfl | .xspiCmdGo _, rfl | .seqGo _, rfl | .seqHalt _, rfl
  | .csCmdWrite _, rfl | .csCmdRead _ _, rfl | .crcGo _, rfl | .sheetArm _, rfl | .bldcClrFault _, rfl | .park _, rfl | .stDcWrite _, rfl
  | .loopEnable _, rfl | .loopDisable _, rfl | .loopInit _, rfl | .loopSwap _, rfl | .loopClrFault _, rfl | .coefWrite _, rfl
  | .corrForce _, rfl | .otClr _ _, rfl | .opClr _ _, rfl | .hdClr _, rfl | .defClr _, rfl | .hdDefEntWrite _, rfl
  | .pseqReq _, rfl | .fwAck _, rfl | .stby _, rfl | .wake _, rfl | .cycle _, rfl | .measAbort _, rfl | .refinHzWrite _, rfl
  | .otpPgGo _, rfl | .otpFinal _, rfl | .trngSoftRst _, rfl | .lkKick _, rfl | .lkCommit _, rfl | .lkFullrst _, rfl
  | .lkForce _, rfl | .flush _, rfl | .pmFuncWrite _, rfl | .i2cGo _, rfl => .block _ _
  | .segCruise _, rfl | .segLinear _, rfl | .segSine _, rfl | .segQuintic _, rfl | .segStop _, rfl => .segment _
  | .bookSnapWrite _, rfl | .tqSnapWrite _, rfl | .softRst _, rfl | .freeze _, rfl
  | .shadowCommit _, rfl | .ksOwnWrite _, rfl | .ksErase _, rfl => .memory _ _
  | .dmaPost _, rfl => .firmware _ _
  | .dmaAbort _, rfl | .channelDisable _, rfl => .stop _ _
  | .registerWrite _, rfl => .register
  | .writeTimeout _, rfl => .timeout

/-! ### A refused write in each of these ways (R225, R227) -/

section
variable {d : Dev} {k : Nat} {ecc : Ecc} {w : PostedWrite} {r : Nat} (h : d.refused k ecc w r)
include h

theorem Dev.land_of_refused (sel : Nat → Word → Bool) (eff : Agent → Nat → Word → Dev → Dev) :
    d.land (.tenant k ecc) sel eff = if sel w.addr w.data then (d.popWrite k).refuseWrite k w r else d := by
  split
  next hs => exact Dev.land_refused h hs
  next hs =>
    obtain ⟨⟨rest, hq⟩, -, -⟩ := h
    simp only [Dev.land, hq, hs, Bool.false_eq_true, if_false]

theorem landAll_of_refused (sel : Nat → Word → Bool) (eff : Agent → Nat → Word → Dev → Mem → Dev × Mem) (m : Mem) :
    landAll (.tenant k ecc) sel eff d m = (if sel w.addr w.data then (d.popWrite k).refuseWrite k w r else d, m) := by
  obtain ⟨⟨rest, hq⟩, hr, h0⟩ := h
  simp only [landAll, hq, hr]
  split <;> rfl

theorem landFw_of_refused (sel : Nat → Word → Bool) (eff : Nat → Word → Dev → Mem → Dev × Mem) (m : Mem) :
    landFw (.tenant k ecc) sel eff d m = (if sel w.addr w.data then (d.popWrite k).refuseWrite k w r else d, m) := by
  rw [landFw, Dev.land_of_refused h]

/-- A refused write stops no DMA channel. -/
theorem stopWrite_of_refused (sel : Nat → Word → Bool) (dropAll : Bool) (m : Mem) :
    stopWrite (.tenant k ecc) sel dropAll d m = (if sel w.addr w.data then (d.popWrite k).refuseWrite k w r else d, m) := by
  have hland := Dev.land_of_refused h sel (fun _ a v d => d.store a v.toNat)
  obtain ⟨⟨rest, hq⟩, hr, h0⟩ := h
  simp only [stopWrite, hland, hq, hr, beq_false_of_ne h0, Bool.and_false, Bool.false_eq_true, if_false]

end

/-- An earlier check that fails gives its own reason, not TIMEOUT. -/
theorem execWriteTimeout_of_refused {s : State} {k : Nat} {ecc : Ecc} {w : PostedWrite} {r : Nat} (h : s.dev.refused k ecc w r) :
    execWriteTimeout (.tenant k ecc) s = .next (s.withDev ((s.dev.popWrite k).refuseWrite k w r)) := by
  obtain ⟨⟨rest, hq⟩, hr, h0⟩ := h
  simp only [execWriteTimeout, onDev_next, hq, hr, h0, if_false, State.withDev]

/-- In each of these ways a refused write is either not the row's, or is reported and does nothing else. -/
theorem LandsAs.of_refused {f : State → Out} {s : State} {k : Nat} {ecc : Ecc} {w : PostedWrite} {r : Nat}
    (hf : LandsAs (.tenant k ecc) f) (h : s.dev.refused k ecc w r) :
    ∃ p : Bool, f s = .next (s.withDev (if p then (s.dev.popWrite k).refuseWrite k w r else s.dev)) := by
  cases hf with
  | block sel eff => exact ⟨sel w.addr w.data, by rw [onDev_next, Dev.land_of_refused h, State.withDev]⟩
  | segment kind => exact ⟨_, by rw [onDev_next, Dev.landPost, Dev.land_of_refused h, State.withDev]⟩
  | memory sel eff => exact ⟨sel w.addr w.data, by rw [onAll_next, landAll_of_refused h, State.withDev]⟩
  | firmware sel eff => exact ⟨sel w.addr w.data, by rw [onAll_next, landFw_of_refused h, State.withDev]⟩
  | stop sel dropAll => exact ⟨sel w.addr w.data, by rw [onAll_next, stopWrite_of_refused h, State.withDev]⟩
  | register => exact ⟨! s.dev.hasRow w.addr w.data, by rw [execRegisterWrite, onAll_next, landAll_of_refused h, State.withDev]⟩
  | timeout => exact ⟨true, execWriteTimeout_of_refused h⟩

/-- Settles O45: every row lands its write in one of the ways of `LandsAs`, and none lets a refused write through. -/
theorem refusedWritesHaveNoEffect : Obligations.RefusedWritesHaveNoEffect := by
  intro c k ecc s w r hc h
  obtain ⟨p, hp⟩ := (exec_landsAs hc).of_refused h
  cases p with
  | false => exact .inl hp
  | true => exact .inr hp

/-! ### The checks of Table 5-1 (R225, R235, R237) -/

section
variable {d : Dev} {k a p : Nat} {v : Word}

theorem Dev.refuseReason_uncorrectable : d.refuseReason k a v true = 1 := by
  unfold Dev.refuseReason
  split <;> rfl

theorem Dev.refuseReason_noPage (hp : pageOf a = none) : d.refuseReason k a v false = 2 := by
  simp [Dev.refuseReason, hp]

/-- The checks on a write to an existing page, each after those that pass. -/
theorem Dev.refuseReason_onPage (hp : pageOf a = some p) :
    d.refuseReason k a v false =
      if a % 4 ≠ 0 then 3
      else if d.denied k a v p then 4
      else if d.flag (Reg.PG_LOCK_LOCK p) && ! lockExempt a then 5
      else if d.flag (Reg.PG_OWNER_FW_HOLD p) then 6
      else if (d.page p).inReset then 7
      else 0 := by
  simp only [Dev.refuseReason, hp, Bool.false_eq_true, if_false]

/-- PG_OWNER and PG_LOCK ask for T0 and not for the mask (log entry 29). -/
theorem Dev.denied_ownerOrLock (h : ownerOrLock a = true) : d.denied k a v p = (k != 0) := by
  simp only [Dev.denied, h, if_true]

theorem Dev.denied_iff (h : ownerOrLock a = false) :
    d.denied k a v p = true ↔ bit (d.reg (Reg.PG_OWNER p)) (8 + k) = false ∨ (t0Only a v = true ∧ k ≠ 0) ∨ fwOnly a = true ∨
      d.dmaDenied k a = true := by
  simp [Dev.denied, h, or_assoc]

/-- Check 4 passes: T0 at PG_OWNER or PG_LOCK, or a tenant in the mask at a register that is not another's alone. -/
theorem Dev.denied_eq_false_iff :
    d.denied k a v p = false ↔ (ownerOrLock a = true ∧ k = 0) ∨ (ownerOrLock a = false ∧
      bit (d.reg (Reg.PG_OWNER p)) (8 + k) = true ∧ (t0Only a v = false ∨ k = 0) ∧ fwOnly a = false ∧ d.dmaDenied k a = false) := by
  cases h : ownerOrLock a
  case true => simp [Dev.denied_ownerOrLock h]
  case false => simp [← Bool.not_eq_true, Dev.denied_iff h, imp_iff_not_or]

/-- The checks that are left on an aligned write that check 4 allows: LOCK, FW_HOLD and SOFT_RST. -/
theorem Dev.refuseReason_allowed (hp : pageOf a = some p) (ha : a % 4 = 0) (hd : d.denied k a v p = false) :
    d.refuseReason k a v false =
      if d.flag (Reg.PG_LOCK_LOCK p) && ! lockExempt a then 5
      else if d.flag (Reg.PG_OWNER_FW_HOLD p) then 6
      else if (d.page p).inReset then 7
      else 0 := by
  rw [Dev.refuseReason_onPage hp, if_neg (not_not.mpr ha), hd, if_neg Bool.false_ne_true]

/-- A write is granted where no check fails. -/
theorem Dev.refuseReason_eq_zero_iff (hp : pageOf a = some p) :
    d.refuseReason k a v false = 0 ↔ a % 4 = 0 ∧ d.denied k a v p = false ∧
      (d.flag (Reg.PG_LOCK_LOCK p) && ! lockExempt a) = false ∧ d.flag (Reg.PG_OWNER_FW_HOLD p) = false ∧
      (d.page p).inReset = false := by
  simp [Dev.refuseReason_onPage hp, ite_eq_iff]

end

/-- Settles O46: the clauses read the checks off in their order, and a granted write has passed each. -/
theorem reasonsInTheOrderOfTheTable : Obligations.ReasonsInTheOrderOfTheTable := by
  intro d k a v
  refine ⟨Dev.refuseReason_uncorrectable, Dev.refuseReason_noPage, fun p hp => ?_⟩
  intro mask
  refine ⟨?misaligned, ?ownersAndLocks, ?permission, ?later, ?granted⟩
  case misaligned =>
    intro ha
    rw [Dev.refuseReason_onPage hp, if_pos ha]
  case ownersAndLocks =>
    intro ha ho hk
    simp [Dev.refuseReason_onPage hp, ha, Dev.denied_ownerOrLock ho, hk]
  case permission =>
    intro ha ho hd
    simp [Dev.refuseReason_onPage hp, ha, (Dev.denied_iff ho).mpr hd]
  case later =>
    intro ha hd
    rw [Dev.refuseReason_allowed hp ha (Dev.denied_eq_false_iff.mpr hd)]
    refine ⟨fun hl he => by simp [hl, he], fun hl => ?_⟩
    have hlock : (d.flag (Reg.PG_LOCK_LOCK p) && ! lockExempt a) = false := by simpa [imp_iff_not_or] using hl
    rw [hlock]
    exact ⟨fun hh => by simp [hh], fun hh hr => by simp [hh, hr], fun hh hr => by simp [hh, hr]⟩
  case granted =>
    intro h0
    obtain ⟨ha, hd, hl, hh, -⟩ := (Dev.refuseReason_eq_zero_iff hp).mp h0
    refine ⟨ha, ?_, fun hlock => by simpa [hlock] using hl, hh⟩
    rcases Dev.denied_eq_false_iff.mp hd with ⟨ho, hk⟩ | ⟨-, hm, -⟩
    · exact .inr ⟨hk, ho⟩
    · exact .inl hm

/-! ### A granted write in a row of the table (R223) -/

section
variable {s : State} {l : Land} {ag : Agent} {a : Nat} {v : Word} {d : Dev} {p : Nat} {k : Fin 8}
  (hg : s.dev.granted l = some (ag, a, v, d))
include hg

theorem onDev_land_granted {sel : Nat → Word → Bool} {eff : Agent → Nat → Word → Dev → Dev} (hs : sel a v = true) :
    onDev (fun d => d.land l sel eff) s = .next (s.withDev (eff ag a v d)) := by
  rw [onDev_next, Dev.land_granted hg hs, State.withDev]

theorem onAll_landAll_granted {sel : Nat → Word → Bool} {eff : Agent → Nat → Word → Dev → Mem → Dev × Mem} (hs : sel a v = true) :
    onAll (landAll l sel eff) s = .next (s.withBoth (eff ag a v d s.mem)) := by
  rw [onAll_next, landAll_granted hg hs, State.withBoth]

/-! ### Masks, lock and events (R229, R235, R236, R249, R250) -/

theorem exec_pgOwnerWrite_granted (hp : (pageOf a).isSome = true) (ho : offOf a = 0x24) :
    exec (.pgOwnerWrite l) s =
      .next (s.withDev (d.setReg a (merge (d.reg a) v.toNat (if ag = .fw then 0x1FFFF else 0xFFFF)))) :=
  onDev_land_granted hg (by rw [hp, ho]; rfl)

theorem exec_pgLockWrite_granted (hp : (pageOf a).isSome = true) (ho : offOf a = 0x20) :
    exec (.pgLockWrite l) s = .next (s.withDev (d.store a v.toNat)) :=
  onDev_land_granted hg (by rw [hp, ho]; rfl)

theorem exec_evtPendWrite_granted (hp : pageOf a = some p) (ho : offOf a = 0x18) :
    exec (.evtPendWrite l) s = .next (s.withDev (d.clrReg (Reg.EVT_RAW p) v.toNat)) := by
  change execEvtPendWrite l s = _
  rw [execEvtPendWrite, onDev_land_granted hg (by rw [hp, ho]; rfl), hp]

theorem exec_evtSet_granted (hp : pageOf a = some p) (ho : offOf a = 0x1C) :
    exec (.evtSet l) s = .next (s.withDev ((List.range 32).foldl (fun d i =>
      if bit v.toNat i then d.post p ⟨p, Agent.field ag, St.ok, 0, true, BitVec.ofNat 32 i⟩ else d)
      (d.orReg (Reg.EVT_RAW p) v.toNat))) := by
  change execEvtSet l s = _
  rw [execEvtSet, onDev_land_granted hg (by rw [hp, ho]; rfl), hp]

/-- LE_POP's address names the tenant whose FIFO it is. -/
theorem exec_lePop_granted (ha : a = Reg.LE_POP k.val) (hv : bit v.toNat 0 = true) :
    exec (.lePop l) s = .next (s.withDev (d.modBr k.val (fun b => { b with late := b.late.tail }))) := by
  subst ha
  have hk : (Reg.LE_POP k.val - 0x40002000) / 0x1000 = k.val := by
    simp only [Reg.LE_POP, pageBase]
    omega
  change execLePop l s = _
  rw [execLePop, onDev_land_granted hg, hk]
  rw [hv, Bool.and_true, List.any_eq_true]
  exact ⟨k.val, List.mem_range.mpr k.isLt, beq_self_eq_true _⟩

/-! ### PG_CTL and the registers without a row (R223, R241 to R246, R866) -/

theorem exec_softRst_granted (hp : pgCtlOf a = some p) (hv : ctlSoftRst a v = true) (htrng : isPage a 0x16 = false)
    (hten : (List.range 8).any (fun k => isPage a (2 + k)) = false) :
    exec (.softRst l) s = .next (s.withBoth (d.softRst s.mem p)) := by
  change execSoftRst l s = _
  rw [execSoftRst, onAll_landAll_granted hg (by rw [hv, htrng, hten]; rfl), hp]

theorem exec_trngSoftRst_granted (hv : ctlSoftRst a v = true) (htrng : isPage a 0x16 = true) :
    exec (.trngSoftRst l) s = .next (s.withDev (d.softRegs 0x16).trngSoftRst) :=
  onDev_land_granted hg (by rw [hv, htrng]; rfl)

theorem exec_freeze_granted (hp : pgCtlOf a = some p) (hv : ctlFreeze a v = true) :
    exec (.freeze l) s = .next (s.withBoth (d.pgCtl s.mem p v.toNat)) := by
  change execFreeze l s = _
  rw [execFreeze, onAll_landAll_granted hg hv, hp]

theorem exec_shadowCommit_granted (hp : pgCtlOf a = some p) (hv : ctlCommit a v = true) :
    exec (.shadowCommit l) s = .next (s.withBoth (d.pgCtl s.mem p v.toNat)) := by
  change execShadowCommit l s = _
  rw [execShadowCommit, onAll_landAll_granted hg hv, hp]

theorem exec_registerWrite_granted (hrow : s.dev.hasRow a v = false) :
    exec (.registerWrite l) s = .next (s.withBoth (d.regWrite s.mem ag a v.toNat)) := by
  change execRegisterWrite l s = _
  rw [execRegisterWrite, onAll_next, landAll_granted hg (by rw [hrow]; rfl), State.withBoth]

end

/-- Settles O12: each clause is the lemma of its row. -/
theorem pageHeaderWritesTakeEffect : Obligations.PageHeaderWritesTakeEffect :=
  ⟨fun _ _ _ _ _ _ => exec_pgOwnerWrite_granted, fun _ _ _ _ _ _ => exec_pgLockWrite_granted,
    fun _ _ _ _ _ _ _ => exec_softRst_granted, fun _ _ _ _ _ _ _ => exec_freeze_granted,
    fun _ _ _ _ _ _ _ => exec_shadowCommit_granted, fun _ _ _ _ _ _ _ => exec_evtPendWrite_granted,
    fun _ _ _ _ _ _ _ => exec_evtSet_granted, fun _ _ _ _ _ _ _ => exec_lePop_granted,
    fun _ _ _ _ _ _ => exec_registerWrite_granted, fun _ _ _ _ _ _ => exec_trngSoftRst_granted⟩

/-! ### Waiting bindings and owners, resets, keepalives and snapshots (R62, R70, R90, R94, R105) -/

theorem exec_chbindApply_whole {s : State} {c : Fin 16} {b : Option Nat} (hpend : (s.dev.chan c.val).pend = some b)
    (hheld : s.dev.frameHeld c.val = false) : exec (.chbindApply c) s = .next (s.withDev (s.dev.bindNow c.val b)) := by
  change execChbindApply c s = _
  simp only [execChbindApply, onDev_next, hpend, hheld, Bool.false_eq_true, if_false, State.withDev]

theorem exec_dmaOwnApply (s : State) (c : Fin 16) : exec (.dmaOwnApply c) s = .next (s.withDev (s.dev.dmaOwnAsk c.val)) := rfl

theorem exec_tenantResetDone_complete {s : State} {k : Fin 8} (hst : (s.dev.ten k.val).state = .resetting)
    (hnone : s.dev.outstanding k.val = []) :
    exec (.tenantResetDone k) s = .next (s.withBoth
      (let x := ((s.dev.resetQueues k.val).resetWork k.val).resetOwned s.mem k.val
       (((x.1.resetUnits k.val).resetBooks k.val).resetEnd k.val, x.2))) := by
  change execTenantResetDone k s = _
  simp only [execTenantResetDone, onAll_next, if_pos (And.intro hst hnone), State.withBoth]

theorem exec_keepaliveExpiry_due {s : State} {k : Fin 8} (hst : (s.dev.ten k.val).state = .opened)
    (hset : s.dev.get (Reg.TCFG_KEEPALIVE k.val) ≠ 0)
    (hdue : (s.dev.ten k.val).keepFrom + s.dev.get (Reg.TCFG_KEEPALIVE k.val) * 100000 ≤ s.dev.now) :
    exec (.keepaliveExpiry k) s = .next (s.withDev (s.dev.tenantFault k.val)) := by
  change execKeepaliveExpiry k s = _
  rw [execKeepaliveExpiry, onDev_next, when_true (by rw [hst, bne_iff_ne.mpr hset, decide_eq_true hdue]; rfl), State.withDev]

theorem exec_snapshotExpiry_global {s : State} {t : Nat} {x : List (Nat × Word)} (hsnap : s.dev.globalSnap = some (t, x))
    (hdue : t + 10000 ≤ s.dev.now) :
    exec (.snapshotExpiry 8) s = .next (s.withDev { s.dev.set Reg.BOOK_SNAP_SNAP 0 with globalSnap := none }) := by
  change execSnapshotExpiry 8 s = _
  simp [execSnapshotExpiry, onDev_next, hsnap, hdue, State.withDev]

theorem exec_snapshotExpiry_tenant {s : State} {w : Fin 9} {t : Nat} {x : List (Nat × Word)} (hw : w.val ≠ 8)
    (hsnap : s.dev.tqSnaps.getD w.val none = some (t, x)) (hdue : t + 10000 ≤ s.dev.now) :
    exec (.snapshotExpiry w) s = .next (s.withDev
      { s.dev.set (Reg.TQ_SNAP_SNAP w.val) 0 with tqSnaps := lmod s.dev.tqSnaps w.val (fun _ => none) }) := by
  change execSnapshotExpiry w s = _
  simp only [execSnapshotExpiry, onDev_next, if_neg hw, hsnap, if_pos hdue, State.withDev]

/-- Settles O3: each clause is the lemma of its row. -/
theorem tenantEventsTakeEffect : Obligations.TenantEventsTakeEffect :=
  ⟨fun _ _ _ => exec_chbindApply_whole, exec_dmaOwnApply, fun _ _ => exec_tenantResetDone_complete,
    fun _ _ => exec_keepaliveExpiry_due, fun _ _ _ => exec_snapshotExpiry_global, fun _ _ _ _ => exec_snapshotExpiry_tenant⟩

/-! ### The schedulers and the allocator (R78, R83 to R86, R361, R362) -/

theorem exec_laserSelect_picked {s : State} {k : Nat} {n : Sched} {x : Sheet} (hmay : s.dev.laserMay = true)
    (hpick : schedPick (fun k => (s.dev.ten k).state == .opened && s.dev.get (Reg.TCFG_WEIGHT_L k) != 0 && (s.dev.oldestSheet k).isSome)
      (fun k => s.dev.get (Reg.TCFG_WEIGHT_L k)) s.dev.laserSched = some (k, n))
    (hx : s.dev.oldestSheet k = some x) :
    exec .laserSelect s =
      .next (s.withDev (({ s.dev with laserSched := n } : Dev).modSheet x (fun y => { y with selected := true }))) := by
  change execLaserSelect s = _
  simp only [execLaserSelect, onDev_next, hmay, Bool.not_true, Bool.false_eq_true, if_false, hpick, hx, State.withDev]

theorem exec_thermalSelect_picked {s : State} {k : Nat} {n : Sched} {j : Job} (hmay : s.dev.thermalMay = true)
    (hpick : schedPick
      (fun k => (s.dev.ten k).state == .opened && s.dev.get (Reg.TCFG_WEIGHT_T k) != 0 && (s.dev.oldestReceipt k).isSome)
      (fun k => s.dev.get (Reg.TCFG_WEIGHT_T k)) s.dev.thermalSched = some (k, n))
    (hj : s.dev.oldestReceipt k = some j) (hline : s.dev.seqRuns 1 = false) :
    exec .thermalSelect s = .next (s.withDev
      ((({ s.dev with thermalSched := n } : Dev).modJob k j.num (fun x => { x with waiting := false })).receiptStart s.mem k j.epoch
        j.num)) := by
  change execThermalSelect s = _
  simp only [execThermalSelect, onAll_next, hmay, Bool.not_true, hpick, hj, hline, Bool.false_and, Bool.false_eq_true, if_false,
    State.withDev]

/-- A request that no other waits beside is granted where the quota and the free units allow it. -/
theorem exec_galleyGrant_alone {s : State} {k : Fin 8} {epoch job index band : Nat} {r : GReq}
    (hr : r = ⟨0, k.val, epoch, job, index, band, s.dev.now, false⟩) (hnone : s.dev.galReqs = []) (hvalid : s.dev.reqValid r = true)
    (hheld : s.dev.reqHeld r = false)
    (hmay : ({ s.dev with galReqs := [r] } : Dev).mayGrant k.val (({ s.dev with galReqs := [r] } : Dev).reqUnits r)
      (({ s.dev with galReqs := [r] } : Dev).unitCount .free) = true) :
    exec (.galleyGrant false k epoch job index band) s =
      .next (s.withDev { ({ s.dev with galReqs := [r] } : Dev).fillReq r with galReqs := [] }) := by
  subst hr
  change execGalleyGrant false k epoch job index band s = _
  simp [execGalleyGrant, onDev_next, hnone, hvalid, hheld, hmay, minReq, State.withDev]

/-- Settles O4: each clause is the lemma of its row. -/
theorem schedulersAndAllocator : Obligations.SchedulersAndAllocator :=
  ⟨fun _ _ _ _ => exec_laserSelect_picked, fun _ _ _ _ => exec_thermalSelect_picked,
    fun _ _ _ _ _ _ => exec_galleyGrant_alone rfl⟩

/-! ### PG_OWNER at reset (R68) -/

/-- After a device reset PG_OWNER of every page holds the word of Table 26-1. -/
theorem resetWord_pgOwner (p : Fin 65) : resetWord (Reg.PG_OWNER p.val) = BitVec.ofNat 32 (ownerReset p.val) := by
  have ha : Reg.PG_OWNER p.val = 0x40000024 + p.val * 0x1000 := by
    simp only [Reg.PG_OWNER, pageBase]
    omega
  have hpage : pageOf (Reg.PG_OWNER p.val) = some p.val := by
    rw [pageOf, ha, if_pos (by omega)]
    congr 1
    omega
  have hoff : Reg.PG_OWNER p.val % 0x1000 = 0x24 := by omega
  simp only [resetWord, hpage, hoff, if_true]

/-- The two masks of the word that Table 26-1 gives the pages TQ0 to TQ7. -/
theorem ownerReset_tenantPage (n : Fin 8) :
    bitsOf (BitVec.ofNat 32 (ownerReset (2 + n.val))).toNat 0 8 = (1 <<< n.val ||| 1) ∧
      bitsOf (BitVec.ofNat 32 (ownerReset (2 + n.val))).toNat 8 8 = 1 <<< n.val := by
  revert n
  decide

/-- Settles O59: the masks are the fields of the reset word. -/
theorem resetMasksOfTheTenantPages : Obligations.ResetMasksOfTheTenantPages := by
  have hreg (p : Fin 65) : State.reset.dev.reg (Reg.PG_OWNER p.val) = (BitVec.ofNat 32 (ownerReset p.val)).toNat :=
    congrArg BitVec.toNat (resetWord_pgOwner p)
  refine ⟨fun n => ?_, hreg 5⟩
  simp only [Dev.get, Reg.PG_OWNER_RD_MASK, Reg.PG_OWNER_WR_MASK, hreg ⟨2 + n.val, by omega⟩]
  exact ownerReset_tenantPage n

end Sys2Proof.Machine

/-! # Proofs of the statements of spec/03_host_ports.md

The SPI target's transactions, frames and their ports, and the events of the USB, UART, CAN, NOR, galley and beam-detect pages. -/

namespace Sys2Proof.Machine

/-- A row that acts only under a guard on the block takes its effect where the guard holds. -/
theorem onDev_when {s : State} {f : Dev → Dev → Dev} {p : Dev → Bool} (h : p s.dev = true) :
    onDev (fun d => when (p d) (f d) d) s = .next (s.withDev (f s.dev s.dev)) := by
  rw [onDev_next, when_true h, State.withDev]

/-! ### Transactions of the SPI target (R139 to R146, R187, R1019) -/

@[simp] theorem Dev.quadOk_spiStart (d : Dev) (cmd : Nat) (quad : Bool) : (d.spiStart cmd).quadOk quad = d.quadOk quad := rfl

section
variable {s : State} {k : Nat} (hidle : s.dev.ports.spiCmd = 0) (hopen : s.dev.regPorts = true)
  (hbind : (s.dev.chan 8).bind = some k)
include hidle hopen hbind

/-- With none in progress and the register ports on, a transaction starts and runs for the tenant that channel 8 is bound to. -/
theorem Dev.spiRun_bound (cmd : Nat) (f : Nat → Dev → Dev) : s.dev.spiRun cmd f = f k (s.dev.spiStart cmd) := by
  simp only [Dev.spiRun, hidle, hopen, hbind, ne_eq, not_true_eq_false, Bool.not_true, Bool.false_eq_true, or_self, if_false]

theorem onDev_spiRun_bound (cmd : Nat) (f : Nat → Dev → Dev) :
    onDev (·.spiRun cmd f) s = .next (s.withDev (f k (s.dev.spiStart cmd))) := by
  rw [onDev_next, Dev.spiRun_bound hidle hopen hbind, State.withDev]

theorem exec_spiRegRead_bound {quad : Bool} {mosi : List Byte} (n : Nat) (hlen : 4 ≤ mosi.length)
    (hquad : s.dev.quadOk quad = true) :
    exec (.spiRegRead quad mosi n) s =
      .next (s.withDev (Dev.spiWords s.mem k (max 1 n) (leAt mosi 0 4) (s.dev.spiStart 1))) := by
  change execSpiRegRead quad mosi n s = _
  simp [execSpiRegRead, onAll_next, Dev.spiRun_bound hidle hopen hbind, hquad, hlen, State.withDev]

theorem exec_spiRegWrite_bound {quad : Bool} {mosi : List Byte} (hlen : 4 ≤ mosi.length) (hquad : s.dev.quadOk quad = true) :
    exec (.spiRegWrite quad mosi) s = .next (s.withDev
      (Dev.spiWriteWords k (BitVec.ofNat 8 (2 + 128 * b2n quad)) mosi.length (leAt mosi 0 4) (mosi.drop 4) (s.dev.spiStart 2))) := by
  change execSpiRegWrite quad mosi s = _
  rw [execSpiRegWrite, onDev_spiRun_bound hidle hopen hbind]
  simp [hquad, Nat.not_lt.mpr hlen]

theorem exec_streamWrite_bound (bytes : List Byte) :
    exec (.streamWrite bytes) s =
      .next (s.withDev ((s.dev.spiStart 3).receive 8 (bytes.map (fun b => (b, RxErr.none))) false)) :=
  onDev_spiRun_bound hidle hopen hbind 3 _

theorem exec_streamRead_bound (n : Nat) :
    let d := s.dev.spiStart 4
    exec (.streamRead n) s = .next (s.withDev
      ((d.modChan 8 (fun x => { x with out := (takeBytes n (d.chan 8).out).2 })).spiSend
        (leBytes 2 (min 65535 d.spiAvail) ++ (takeBytes n (d.chan 8).out).1 ++
          List.replicate (n - (takeBytes n (d.chan 8).out).1.length) 0xFF))) :=
  onDev_spiRun_bound hidle hopen hbind 4 _

/-- Bytes beyond the channel's COUNT are discarded (log entry 24). -/
theorem exec_dmaWrite_bound (bytes : List Byte) :
    exec (.dmaWrite bytes) s = .next (s.withDev ((s.dev.spiStart 5).modChan 8 (fun x =>
      { x with dmaIn := x.dmaIn ++ bytes.take x.dmaLeft, dmaLeft := x.dmaLeft - bytes.length }))) :=
  onDev_spiRun_bound hidle hopen hbind 5 _

/-- A command code that Table 3-6 does not list is answered with 0xFF and spoils its transaction. -/
theorem exec_spiBadCommand_bound {c : Fin 256} (hc : c.val % 128 = 0 ∨ 5 < c.val % 128) :
    exec (.spiBadCommand c) s =
      .next (s.withDev (((s.dev.spiStart (c.val % 128)).spiSend [0xFF]).spiSpoil)) := by
  have hunlisted : ¬ (1 ≤ c.val % 128 ∧ c.val % 128 ≤ 5) := by omega
  change execSpiBadCommand c s = _
  simp only [execSpiBadCommand, onDev_next, if_neg hunlisted, Dev.spiRun_bound hidle hopen hbind, State.withDev]

end

theorem exec_csNDeassert_running {s : State} (hrun : s.dev.ports.spiCmd ≠ 0) :
    exec .csNDeassert s = .next (s.withDev { s.dev with ports := { s.dev.ports with
      spiCmd := 0, spiMiso := [], spiBad := s.dev.ports.spiMark, spiMark := false } }) := by
  change execCsNDeassert s = _
  exact onDev_when (bne_iff_ne.mpr hrun)

/-- Settles O6: each clause is the lemma of its row, and all but the last start a transaction by `Dev.spiRun_bound`. -/
theorem spiCommandsTakeEffect : Obligations.SpiCommandsTakeEffect :=
  ⟨fun _ _ _ _ n hidle hopen hbind => exec_spiRegRead_bound hidle hopen hbind n,
    fun _ _ _ _ hidle hopen hlen hbind => exec_spiRegWrite_bound hidle hopen hbind hlen,
    fun _ _ bytes hidle hopen hbind => exec_streamWrite_bound hidle hopen hbind bytes,
    fun _ _ n hidle hopen hbind => exec_streamRead_bound hidle hopen hbind n,
    fun _ _ bytes hidle hopen hbind => exec_dmaWrite_bound hidle hopen hbind bytes,
    fun _ _ _ hidle hopen hc hbind => exec_spiBadCommand_bound hidle hopen hbind hc,
    fun _ => exec_csNDeassert_running⟩

/-! ### Receiving and sending frames (R114, R122, R861, R1018) -/

theorem exec_frameReceive (s : State) (c : Fin 16) (bytes : List (Byte × RxErr)) (fin : Bool) :
    exec (.frameReceive c bytes fin) s = .next (s.withDev (s.dev.receive c.val bytes fin)) := rfl

section
variable {s : State} {c : Fin 16} {k : Nat} (hbind : (s.dev.chan c.val).bind = some k) (hopen : s.dev.sendOpen c.val = true)
  (hsent : s.dev.sendIdle c.val = true) (htags : (s.dev.ten k).tags = false)
include hbind hopen hsent htags

/-- The oldest response of the channel goes out without a tag, with no notice before it. -/
theorem exec_responseSend_oldest {r : Resp} (hnone : (s.dev.chan c.val).notices = [])
    (hr : (s.dev.ten k).respQ.find? (fun r => s.dev.respChan k r == c.val) = some r) :
    let d := s.dev.modTen k (fun t => { t with respQ := t.respQ.erase r })
    exec (.responseSend c) s = .next (s.withDev
      (((d.beginSend c.val k true (s.dev.respFrame k r none)).drain k).noticeQueued s.dev)) := by
  change execResponseSend c s = _
  simp only [execResponseSend, onDev_next, hbind, hopen, hsent, hnone, htags, hr, List.isEmpty_nil, Bool.not_true, Bool.or_self,
    Bool.false_and, Bool.false_eq_true, if_false, State.withDev]

/-- The oldest notice of the channel goes out without a tag. -/
theorem exec_noticeSend_oldest {n : Notice} {rest : List Notice} (hn : (s.dev.chan c.val).notices = n :: rest) :
    exec (.noticeSend c) s = .next (s.withDev ((s.dev.modChan c.val (fun x => { x with notices := rest })).beginSend c.val k false
      (frameBytes 6 n.opcode n.seq n.status ((s.dev.ten k).retCred % 256) (leBytes 2 n.exp ++ zeros 2) none))) := by
  change execNoticeSend c s = _
  simp only [execNoticeSend, onDev_next, hbind, hopen, hsent, hn, htags, Bool.not_true, Bool.or_self, Bool.and_false,
    Bool.false_eq_true, if_false, State.withDev]

end

/-! ### UART events (R149, R150, R152, R153) -/

theorem exec_uartFrameGap_partial {s : State} {u : Fin 2} (hgap : s.dev.flag (Reg.UART_CFG_FRAME_GAP u.val) = true)
    (hpart : 0 < (s.dev.chan (9 + u.val)).skip ∨ (s.dev.chan (9 + u.val)).rx ≠ []) :
    exec (.uartFrameGap u) s = .next (s.withDev
      ((s.dev.modChan (9 + u.val) (fun x => { x with rx := [], skip := 0, inResync := false })).addSat (resyncFld (9 + u.val)) 1)) := by
  change execUartFrameGap u s = _
  exact onDev_when (by simpa [hgap] using hpart)

section
variable {s : State} {u : Fin 2} (hrs : s.dev.flag (Reg.UART_CFG_RS485 u.val) = true) (hout : (s.dev.chan (9 + u.val)).out ≠ [])
include hrs hout

/-- A collision is counted; at the eighth on one frame the frame is dropped and the count of its collisions starts anew. -/
theorem exec_rs485Collision_sending :
    let n := s.dev.ports.collisions.getD u.val 0 + 1
    let d := s.dev.addSat (Reg.UART_ERR_COLLISION u.val) 1
    let e := d.modChan (9 + u.val) (fun x => { x with out := [] })
    exec (.rs485Collision u) s = .next (s.withDev
      (if 8 ≤ n then { e with ports := { e.ports with collisions := lmod e.ports.collisions u.val (fun _ => 0) } }
        else { d with ports := { d.ports with collisions := lmod d.ports.collisions u.val (fun _ => n) } })) := by
  change execRs485Collision u s = _
  exact onDev_when (by simpa [hrs] using hout)

theorem exec_rs485Collision_again (hn : s.dev.ports.collisions.getD u.val 0 + 1 < 8) :
    let d := s.dev.addSat (Reg.UART_ERR_COLLISION u.val) 1
    exec (.rs485Collision u) s = .next (s.withDev { d with ports := { d.ports with
      collisions := lmod d.ports.collisions u.val (fun _ => s.dev.ports.collisions.getD u.val 0 + 1) } }) := by
  rw [exec_rs485Collision_sending hrs hout, if_neg (Nat.not_le.mpr hn)]

theorem exec_rs485Collision_eighth (hn : 8 ≤ s.dev.ports.collisions.getD u.val 0 + 1) :
    let d := (s.dev.addSat (Reg.UART_ERR_COLLISION u.val) 1).modChan (9 + u.val) (fun x => { x with out := [] })
    exec (.rs485Collision u) s = .next (s.withDev { d with ports := { d.ports with
      collisions := lmod d.ports.collisions u.val (fun _ => 0) } }) := by
  rw [exec_rs485Collision_sending hrs hout, if_pos hn]

end

theorem exec_ctsNChange (s : State) (u : Fin 2) (high : Bool) :
    exec (.ctsNChange u high) s = .next (s.withDev { s.dev with ports := { s.dev.ports with
      ctsHeld := lmod s.dev.ports.ctsHeld u.val (fun _ => high) } }) := rfl

/-! ### CAN events (R154, R157, R158) -/

theorem exec_canNCrTimeout_receiving {s : State} {i : Fin 4} {k : Nat} (hrx : s.dev.ports.canRx.getD i.val false = true) :
    let d := s.dev.modChan (11 + i.val) (fun x => { x with rx := [] })
    let e : Dev := { d with ports := { d.ports with canRx := lmod d.ports.canRx i.val (fun _ => false) } }
    (e.chan (11 + i.val)).bind = some k → exec (.canNCrTimeout i) s = .next (s.withDev (e.protoErr k)) := by
  intro d e hbind
  change execCanNCrTimeout i s = _
  rw [execCanNCrTimeout, onDev_when hrx]
  simp only [d, e] at hbind ⊢
  rw [hbind]

theorem exec_busOff_on {s : State} (hon : s.dev.ports.canBusOff = false) :
    let d := (s.dev.canDrop.addSat Reg.CAN_ERR_BUS_OFF 1).set Reg.CAN_STAT_STATE 2
    exec .busOff s = .next (s.withDev { d with ports := { d.ports with canBusOff := true, canRecover := false } }) := by
  change execBusOff s = _
  exact onDev_when (by rw [hon]; rfl)

theorem exec_bor_granted {s : State} {l : Land} {ag : Agent} {a : Nat} {v : Word} {d : Dev}
    (hg : s.dev.granted l = some (ag, a, v, d)) (ha : a = Reg.CAN_CTL) (hv : bit v.toNat 5 = true)
    (hoff : (d.store a v.toNat).ports.canBusOff = true) :
    exec (.bor l) s = .next (s.withDev
      { d.store a v.toNat with ports := { (d.store a v.toNat).ports with canRecover := true } }) := by
  change execBor l s = _
  rw [execBor, onDev_land_granted hg (by rw [ha, hv]; rfl)]
  simp only [hoff, if_true]

/-- The recovery ends bus-off with both error counters at 0 (log entry 43). -/
theorem exec_autoBorRecovery_recovering {s : State} (hoff : s.dev.ports.canBusOff = true)
    (hask : s.dev.flag Reg.CAN_CTL_AUTO_BOR = true ∨ s.dev.ports.canRecover = true) :
    let d := ((s.dev.canDrop.set Reg.CAN_STAT_STATE 0).set Reg.CAN_STAT_TEC 0).set Reg.CAN_STAT_REC 0
    exec .autoBorRecovery s =
      .next (s.withDev { d with ports := { d.ports with canBusOff := false, canRecover := false } }) := by
  change execAutoBorRecovery s = _
  exact onDev_when (by simpa [hoff] using hask)

section
variable {s : State} {i : Fin 4} (hleft : s.dev.ports.canTx.getD i.val 0 ≠ 0)
include hleft

theorem exec_canNBsTimeout_sending :
    exec (.canNBsTimeout i) s = .next (s.withDev ((s.dev.canTxEnd i.val).addSat Reg.CAN_ERR_TP_TIMEOUT 1)) := by
  change execCanNBsTimeout i s = _
  exact onDev_when (bne_iff_ne.mpr hleft)

theorem exec_canFlowControl_cts (bs st : Nat) :
    let left := s.dev.ports.canTx.getD i.val 0
    let sent := if bs % 256 = 0 then left else min left (bs % 256 * (s.dev.canCaps left).2.2)
    exec (.canFlowControl i .cts bs st) s = .next (s.withDev { s.dev with ports := { s.dev.ports with
      canTx := lmod s.dev.ports.canTx i.val (fun _ => left - sent), canWaits := lmod s.dev.ports.canWaits i.val (fun _ => 0),
      canBs := lmod s.dev.ports.canBs i.val (fun _ => bs % 256), canSt := lmod s.dev.ports.canSt i.val (fun _ => st % 256) } }) := by
  change execCanFlowControl i .cts bs st s = _
  exact onDev_when (bne_iff_ne.mpr hleft)

/-- A WAIT beyond WFT_MAX ends the transmission (log entry 43). -/
theorem exec_canFlowControl_wait_beyond {bs st : Nat}
    (hmax : s.dev.get Reg.CAN_TP_WFT_MAX < s.dev.ports.canWaits.getD i.val 0 + 1) :
    exec (.canFlowControl i .wait bs st) s = .next (s.withDev (s.dev.canTxEnd i.val)) := by
  change execCanFlowControl i .wait bs st s = _
  rw [execCanFlowControl, onDev_when (by exact bne_iff_ne.mpr hleft)]
  simp only [if_pos hmax]

/-- OVFLW ends the transmission (log entry 43). -/
theorem exec_canFlowControl_ovflw (bs st : Nat) :
    exec (.canFlowControl i .ovflw bs st) s = .next (s.withDev (s.dev.canTxEnd i.val)) := by
  change execCanFlowControl i .ovflw bs st s = _
  exact onDev_when (bne_iff_ne.mpr hleft)

end

/-- Settles O7: each clause is the lemma of its row. -/
theorem framePortsTakeEffect : Obligations.FramePortsTakeEffect :=
  ⟨exec_frameReceive,
    fun _ _ _ _ hbind hopen hsent hnone htags => exec_responseSend_oldest hbind hopen hsent htags hnone,
    fun _ _ _ _ _ hbind hn hopen hsent htags => exec_noticeSend_oldest hbind hopen hsent htags hn,
    fun _ _ => exec_uartFrameGap_partial, fun _ _ => exec_rs485Collision_again, fun _ _ => exec_rs485Collision_eighth,
    fun _ _ _ hrx _ => exec_canNCrTimeout_receiving hrx, fun _ _ => exec_canNBsTimeout_sending, fun _ => exec_busOff_on,
    fun _ _ _ _ _ _ => exec_bor_granted, fun _ => exec_autoBorRecovery_recovering⟩

/-! ### USB events (R129, R130) -/

theorem exec_usbResume (s : State) :
    let d := s.dev.set Reg.USB_STAT_SUSPENDED 0
    exec .usbResume s = .next (s.withDev { d with ports := { d.ports with usbWakeSig := false } }) := rfl

section
variable {s : State} (hatt : s.dev.get Reg.USB_STAT_SPEED ≠ 0)
include hatt

theorem exec_setAddress_attached (a : Nat) :
    exec (.standardRequest (.setAddress a)) s = .next (s.withDev (s.dev.set Reg.USB_STAT_ADDR a)) := by
  change execStandardRequest (.setAddress a) s = _
  exact onDev_when (bne_iff_ne.mpr hatt)

theorem exec_setConfiguration_attached (on : Bool) :
    exec (.standardRequest (.setConfiguration on)) s = .next (s.withDev (s.dev.setb Reg.USB_STAT_CONFIGURED on)) := by
  change execStandardRequest (.setConfiguration on) s = _
  exact onDev_when (bne_iff_ne.mpr hatt)

theorem exec_permitRemoteWakeup_attached (on : Bool) :
    exec (.standardRequest (.remoteWakeup on)) s =
      .next (s.withDev { s.dev with ports := { s.dev.ports with usbWake := on } }) := by
  change execStandardRequest (.remoteWakeup on) s = _
  exact onDev_when (bne_iff_ne.mpr hatt)

end

/-! ### The end of a NOR sequence, a grant that waits, the BD window (R251, R280, R428) -/

/-- The memories after a NOR sequence of a kind on address `a`. -/
def NorOp.apply (op : NorOp) (a : Nat) (data : List Byte) (m : Mem) : Mem :=
  match op with
  | .program => m.program a data
  | .erase n => m.erase a n
  | .other => m

/-- NOR_SEQUENCE_END clears GO; the array changes as the sequence has it. -/
theorem exec_norSequenceEnd_busy {s : State} (hbusy : s.dev.norBusy ≠ 0) (op : NorOp) :
    let a := 0x70000000 + s.dev.reg Reg.XSPI_CMD_ADDR % 0x4000000
    let data := ((List.range 64).flatMap (fun i => leBytes 4 (s.dev.reg (Reg.XSPI_CMD_DATA i)))).take
      (min (s.dev.get Reg.XSPI_CMD_CTL_LEN) 256)
    exec (.norSequenceEnd op) s = .next (s.withBoth
      ({ (s.dev.clrReg Reg.XSPI_CMD_CTL 0x10000).fwFree 0x18 with norBusy := 0 }, NorOp.apply op a data s.mem)) := by
  change execNorSequenceEnd op s = _
  simp only [execNorSequenceEnd, onAll_next, if_neg hbusy, State.withBoth]
  cases op <;> rfl

/-- The first grant that has waited 10 ms without being told fires WAIT and is marked as told. -/
theorem exec_galleyWait_due {s : State} {q : GReq}
    (hq : s.dev.galReqs.find? (fun q => ! q.told && s.dev.past q.since 10000) = some q) :
    exec .galleyWait s = .next (s.withDev { s.dev.fireT 0x1D 0 q.ten 0 with
      galReqs := s.dev.galReqs.map (fun x => if x = q then { x with told := true } else x) }) := by
  change execGalleyWait s = _
  simp only [execGalleyWait, onDev_next, hq, State.withDev]

theorem exec_bdWindowOpen_armed {s : State} (harm : s.dev.scan.winArmed = true) (hqual : s.dev.flag Reg.BD_STAT_QUALIFIED = true)
    (hshut : s.dev.scan.openAt = none) :
    exec .bdWindowOpen s = .next (s.withDev (s.dev.modScan (fun x => { x with
      openAt := some (-(96 * (s.dev.get Reg.BD_WINCFG_WIN_PRE : Int) - s.dev.expect6).fdiv 6).toNat }))) := by
  change execBdWindowOpen s = _
  exact onDev_when (by rw [harm, hqual, hshut]; rfl)

/-- Settles O37: each clause is the lemma of its row. -/
theorem portAndMemoryEventsTakeEffect : Obligations.PortAndMemoryEventsTakeEffect := by
  refine ⟨exec_usbResume, ?requests, exec_ctsNChange, ?flowControl, ?norEnd, fun s q => exec_galleyWait_due,
    fun s => exec_bdWindowOpen_armed⟩
  case requests =>
    intro s hatt
    exact ⟨exec_setAddress_attached hatt,
      fun on => ⟨exec_setConfiguration_attached hatt on, exec_permitRemoteWakeup_attached hatt on⟩⟩
  case flowControl =>
    intro s i bs st left hleft sent p q
    exact ⟨exec_canFlowControl_cts hleft bs st, exec_canFlowControl_wait_beyond hleft, exec_canFlowControl_ovflw hleft bs st⟩
  case norEnd =>
    intro s hbusy a data d
    exact ⟨exec_norSequenceEnd_busy hbusy .program, fun n => exec_norSequenceEnd_busy hbusy (.erase n),
      exec_norSequenceEnd_busy hbusy .other⟩

end Sys2Proof.Machine

/-! # Proofs of the statements of spec/04_commands.md

The effects of accepted commands, and of the events that complete or abandon one. -/

namespace Sys2Proof.Machine

/-! ### Updates of a table entry -/

/-- Two updates of an entry are the same where they agree on it; an entry that the table lacks is not updated. -/
theorem lmod_congr {α : Type} {l : List α} {i : Nat} {f g : α → α} {x : α} (h : f (l.getD i x) = g (l.getD i x)) :
    lmod l i f = lmod l i g := by
  rw [List.getD_eq_getElem?_getD] at h
  rw [lmod, lmod, List.modify_eq_set_getElem?, List.modify_eq_set_getElem?]
  cases hi : l[i]? with
  | none => rfl
  | some a =>
    rw [hi] at h
    exact congrArg (l.set i) h

theorem Dev.modTen_congr (d : Dev) {k : Nat} {f g : Tenant → Tenant} (h : f (d.ten k) = g (d.ten k)) :
    d.modTen k f = d.modTen k g := by
  rw [Dev.modTen, lmod_congr h, Dev.modTen]

/-! ### A command frame that is accepted (R166) -/

section
variable {op k : Nat} {sel : Frame → Bool} {form : Dev → Frame → Bool} {hold : Dev → Mem → Frame → Bool}
  {pre : Dev → Mem → Frame → Nat} {act : Frame → Dev → Mem → Dev × Mem} {s : State} {f : Frame}

/-- An accepted frame that the row selects, with no precondition failing and nothing holding it, takes its effect. -/
theorem onAll_runFrame_withBoth {x : Dev × Mem} (h : s.dev.accepts k op f (form s.dev f)) (hsel : sel f = true)
    (hpre : pre s.dev s.mem f = 0) (hhold : hold s.dev s.mem f = false) (hact : act f (s.dev.began k f) s.mem = x) :
    onAll (runFrame op sel form hold pre act k) s = .next (s.withBoth x) := by
  rw [onAll_next, runFrame_accepted h hsel hpre hhold, hact, State.withBoth]

/-- The same for an effect that leaves the memories alone. -/
theorem onAll_runFrame_withDev {d : Dev} (h : s.dev.accepts k op f (form s.dev f)) (hsel : sel f = true)
    (hpre : pre s.dev s.mem f = 0) (hhold : hold s.dev s.mem f = false) (hact : act f (s.dev.began k f) s.mem = (d, s.mem)) :
    onAll (runFrame op sel form hold pre act k) s = .next (s.withDev d) :=
  onAll_runFrame_withBoth h hsel hpre hhold hact

end

/-! ### Sessions and queries (R169, R170, R176, Table 4-3) -/

section
variable {s : State} {k : Fin 8} {f : Frame}

theorem exec_sessionOpen_accepted (h : s.dev.accepts k.val 0x0001 f (sessionForm s.dev f)) (hpre : s.dev.sessionPre k.val f = 0) :
    exec (.sessionOpen k) s = .next (s.withDev ((s.dev.began k.val f).openSession k.val f)) :=
  onAll_runFrame_withDev h rfl hpre rfl rfl

theorem exec_sessionClose_accepted (h : s.dev.accepts k.val 0x0002 f (lenIs 0 s.dev f)) (hjobs : (s.dev.ten k.val).jobs = []) :
    exec (.sessionClose k) s = .next (s.withDev ((s.dev.began k.val f).answerAct k.val f St.ok [] 2 0)) :=
  onAll_runFrame_withDev h rfl (if_pos hjobs) rfl rfl

theorem exec_ping_accepted (h : s.dev.accepts k.val 0x0003 f (f.len ≤ 8)) :
    exec (.ping k) s = .next (s.withDev ((s.dev.began k.val f).answer k.val f St.ok f.payload)) :=
  onAll_runFrame_withDev h rfl rfl rfl rfl

/-- For a tenant that is OPEN no byte of GET_INFO is left open. -/
theorem exec_getInfo_opened (h : s.dev.accepts k.val 0x0004 f (lenIs 0 s.dev f))
    (hopen : ((s.dev.began k.val f).ten k.val).state = .opened) :
    let d := s.dev.began k.val f
    exec (.getInfo k) s = .next (s.withDev (d.answer k.val f St.ok (leBytes 1 d.devState ++ leBytes 1 d.laserState ++
      leBytes 1 d.thermalState ++ leBytes 1 1 ++ leBytes 4 (d.reg Reg.BT_FEATURE) ++ buildBytes ++
      leBytes 1 (d.get Reg.PC_STAT_RUN_GEAR) ++ leBytes 2 d.mediaBits ++ zeros 2))) := by
  refine onAll_runFrame_withDev h rfl rfl rfl ?_
  simp only [hopen, reduceCtorEq, if_false]

/-! ### Jobs and their sheets (R180, R182, R187, R188, R189, Table 4-12) -/

theorem exec_jobStart_accepted (h : s.dev.accepts k.val 0x0101 f (jobForm s.dev f)) (hlacks : s.dev.lacks (f.b 0) = false)
    (hroom : (s.dev.ten k.val).jobs.length < s.dev.jobMax k.val) :
    let d := s.dev.began k.val f
    let t := d.ten k.val
    let n := freeJob (t.jobs.map (·.num)) 8 t.nextJob
    exec (.jobStart k) s = .next (s.withDev
      ((d.modTen k.val (fun t' => { t' with jobs := t'.jobs ++ [newJob f n t.epoch], nextJob := jobAfter n })).answerAct k.val f
        St.ok (leBytes 2 n ++ leBytes 2 t.epoch) (if f.b 0 = 1 then 4 else 0) n)) := by
  intro d t n
  refine onAll_runFrame_withDev h rfl ?pre rfl ?act
  case pre => simp only [hlacks, Nat.not_le.mpr hroom, Bool.false_eq_true, if_false]
  case act =>
    exact congrArg (fun e : Dev =>
      (e.answerAct k.val f St.ok (leBytes 2 n ++ leBytes 2 t.epoch) (if f.b 0 = 1 then 4 else 0) n, s.mem)) (d.modTen_congr rfl)

/-- SHEET_DEFINE appends its sheet to the sheets of its job; where placing the response queues a sheet, the engine takes note. -/
theorem exec_sheetDefine_accepted {j : Job} (h : s.dev.accepts k.val 0x0102 f (sheetForm s.dev f))
    (hpre : s.dev.sheetPre k.val f = 0) (hj : (s.dev.began k.val f).job? k.val (f.h 0) = some j) :
    let d := s.dev.began k.val f
    let e := ({ d with sheets := d.sheets ++ [newSheet f k.val j] } : Dev).modJob k.val j.num
      (fun x => { x with defined := x.defined + 1 })
    exec (.sheetDefine k) s = .next (s.withDev
      ((e.answerAct k.val f St.ok (leBytes 2 (sheetBands f j)) 1 (j.num * 65536 + f.h 2)).noticeQueued s.dev)) := by
  change execSheetDefine k s = _
  rw [execSheetDefine, onAll_next, runFrame_accepted h rfl hpre rfl]
  simp only [hj, State.withDev]

/-- DATA appends its bytes to the layer's stream, in the extents it has and those granted. -/
theorem exec_data_accepted {exts : List Nat} {x y : Stream}
    (h : s.dev.accepts k.val 0x0103 f (8 ≤ f.len && f.len ≤ 65536 && f.b 5 / 2 == 0 && f.zero 6 7))
    (hx : s.dev.dataStream k.val f = .ok x) (hspool : s.dev.spoolCheck k.val x (f.len - 8) = 0)
    (hfeeds : s.dev.chainFeeds k.val (f.h 0) (f.h 2) (f.b 4) = false)
    (hfit : s.dev.extsFit x (x.len + (f.len - 8)) exts = true) (hy : (s.dev.began k.val f).dataStream k.val f = .ok y) :
    let bs := f.payload.drop 8
    let m := Stream.write { y with exts := y.exts ++ exts } s.mem y.len bs
    let d := ((s.dev.began k.val f).ingest k.val bs.length).modStream k.val (f.h 0) (f.h 2) (f.b 4) (fun t =>
      { t with exts := t.exts ++ exts, len := t.len + bs.length, last := bit (f.b 5) 0 })
    exec (.data k exts) s = .next (s.withBoth
      ((d.walkStream m k.val (f.h 0) (f.h 2) (f.b 4)).answer k.val f St.ok (leBytes 4 (y.len + bs.length)), m)) := by
  refine onAll_runFrame_withBoth h rfl ?pre ?hold ?act
  case pre => simp only [hx, hspool]
  case hold => simp only [hx, hfeeds, hfit, Bool.not_true, Bool.or_self]
  case act => simp only [hy]

/-- DATA_DMA builds the chain of descriptors for its bytes on the channel it names, and posts it. -/
theorem exec_dataDma_accepted {exts : List Nat} {x y : Stream}
    (h : s.dev.accepts k.val 0x0104 f
      (f.len == 12 && f.zero 6 7 && 4 ≤ f.b 5 && f.b 5 ≤ 15 && 1 ≤ f.w 8 && f.w 8 ≤ 2 ^ 26))
    (hpre : s.dev.dmaPre k.val f = 0) (hx : s.dev.dataStream k.val f = .ok x) (hfit : s.dev.extsFit x (x.len + f.w 8) exts = true)
    (hy : (s.dev.began k.val f).dataStream k.val f = .ok y) :
    let d := s.dev.began k.val f
    let c := f.b 5
    let z : Stream := { y with exts := y.exts ++ exts }
    let ch : DChain := ⟨k.val, (d.ten k.val).epoch, f.seq, f.h 0, f.h 2, f.b 4, y.len, 0, 0, 0, false, false, false,
      chainDescs z f.ch f.seq (d.flag (Reg.DCH_CTL_END_BAR c)) 1025 y.len (f.w 8), z.exts⟩
    let e := (d.defer k.val f [c] []).modStream k.val (f.h 0) (f.h 2) (f.b 4) (fun t => { t with exts := t.exts ++ exts })
    exec (.dataDma k exts) s = .next (s.withBoth (Dev.chainPost 16 c
      ((e.modDch c (fun x => { x with chain := some ch })).modChan f.ch (fun x => { x with dmaLeft := f.w 8 })) s.mem)) := by
  refine onAll_runFrame_withBoth h rfl hpre ?hold ?act
  case hold => simp only [hx, hfit, Bool.not_true]
  case act => simp only [hy]

/-- JOB_END of a job that defines sheets, with no receipt of it waiting for bytes, starts its draining. -/
theorem exec_jobEnd_accepted {j : Job} (h : s.dev.accepts k.val 0x0105 f (jobEndForm s.dev f))
    (hpre : s.dev.jobPre k.val f (f.b 2) = 0) (hj : (s.dev.began k.val f).job? k.val (f.h 0) = some j) (hst : j.state = 0) :
    let d := ((s.dev.began k.val f).answer k.val f St.ok []).modJob k.val (f.h 0) (fun x => { x with state := 1, cut := f.b 2 })
    (d.rcptIs k.val (f.h 0) && d.head.waiting) = false →
    exec (.jobEnd k) s = .next (s.withDev (d.jobCheck k.val (f.h 0))) := by
  intro d hrcpt
  refine onAll_runFrame_withDev h rfl hpre rfl ?_
  simp only [d] at hrcpt ⊢
  simp only [hj, hst, hrcpt, ne_eq, not_true_eq_false, Bool.false_eq_true, if_false]

/-- JOB_CANCEL of a job whose receipt is not being printed. -/
theorem exec_jobCancel_accepted (h : s.dev.accepts k.val 0x0106 f (f.len == 4 && f.zero 2 3))
    (hpre : s.dev.jobPre k.val f 0 = 0) :
    let d := s.dev.began k.val f
    let e := (d.cancelJob k.val (f.h 0)).answer k.val f St.ok (d.cancelCounts k.val (f.h 0))
    e.rcptIs k.val (f.h 0) = false →
    exec (.jobCancel k) s = .next (s.withDev (e.jobCheck k.val (f.h 0)).queueChanged) := by
  intro d e hrcpt
  refine onAll_runFrame_withDev h rfl hpre rfl ?_
  simp only [e, d] at hrcpt ⊢
  simp only [hrcpt, Bool.false_eq_true, if_false]

theorem exec_jobStatus_accepted {j : Job} (h : s.dev.accepts k.val 0x0107 f (lenIs 2 s.dev f))
    (hpre : s.dev.jobPre k.val f 0 = 0) (hj : (s.dev.began k.val f).job? k.val (f.h 0) = some j) :
    let d := s.dev.began k.val f
    exec (.jobStatus k) s = .next (s.withDev (d.answer k.val f St.ok (leBytes 1 (b2n j.thermal) ++ leBytes 1 j.state ++
      leBytes 2 (if j.thermal then 1 else j.defined) ++ leBytes 2 j.final ++ leBytes 2 j.printed ++
      leBytes 4 (d.jobSpool k.val j)))) := by
  refine onAll_runFrame_withDev h rfl hpre rfl ?_
  simp only [hj]

end

/-- DATA_DMA_DONE answers the DATA_DMA whose chain has ended, once (R1023). -/
theorem exec_dataDmaDone_ended {s : State} {c : Fin 16} {h : DChain} {x : Deferred} (hchain : (s.dev.dch c.val).chain = some h)
    (hended : h.ended = true) (hnew : h.answered = false) :
    let d := s.dev.modDch c.val (fun x => { x with chain := some { h with answered := true } })
    d.deferred? h.ten 0x0104 = some x → x.seq = h.seq → (d.ten h.ten).epoch = h.epoch →
    exec (.dataDmaDone c) s = .next (s.withDev (d.finish h.ten 0x0104 h.status (leBytes 4 h.stored))) := by
  intro d hx hseq hepoch
  have hwaits : ¬ (! h.ended || h.answered) = true := by simp [hended, hnew]
  change execDataDmaDone c s = _
  simp only [execDataDmaDone, onDev_next, hchain, if_neg hwaits]
  simp only [d] at hx hepoch ⊢
  simp only [hx, hseq, hepoch, and_self, if_true, State.withDev]

/-- Settles O8: each clause is the lemma of its row. -/
theorem sessionAndJobCommandsTakeEffect : Obligations.SessionAndJobCommandsTakeEffect :=
  ⟨fun _ _ _ => exec_sessionOpen_accepted, fun _ _ _ => exec_sessionClose_accepted, fun _ _ _ => exec_ping_accepted,
    fun _ _ _ => exec_getInfo_opened, fun _ _ _ => exec_jobStart_accepted, fun _ _ _ _ => exec_sheetDefine_accepted,
    fun _ _ _ _ _ _ => exec_data_accepted, fun _ _ _ _ _ _ => exec_dataDma_accepted,
    fun _ _ _ _ => exec_dataDmaDone_ended, fun _ _ _ _ => exec_jobEnd_accepted, fun _ _ _ => exec_jobCancel_accepted,
    fun _ _ _ _ => exec_jobStatus_accepted⟩

/-! ### Forms (R192, R193, R194, R351) -/

section
variable {s : State} {k : Fin 8} {f : Frame}

/-- A part of a FORM_STORE that goes on with its store and is not the last is kept. -/
theorem exec_formStore_part {p : FormPart}
    (h : s.dev.accepts k.val 0x0201 f (12 ≤ f.len && f.b 2 / 8 == 0 && [1, 2, 4].contains (f.b 3) && f.h 4 % 8 == 0 &&
      8 ≤ f.h 4 && f.h 4 ≤ 5120 && f.b 6 ≤ 3 && f.b 7 == 0))
    (hmay : (bit (f.h 0) 15 && k.val != 0) = false) (hp : (s.dev.began k.val f).formGoesOn k.val f = some p)
    (hsize : (p.data ++ f.payload.drop 12).length ≤ 4194304) (hmore : bit (f.b 2) 1 = false) :
    exec (.formStore k) s = .next (s.withDev
      (((s.dev.began k.val f).formKeep k.val { p with data := p.data ++ f.payload.drop 12 }).answer k.val f St.ok [])) := by
  refine onAll_runFrame_withDev h rfl ?pre rfl ?act
  case pre => simp only [hmay, Bool.false_eq_true, if_false]
  case act => simp only [hp, Nat.not_lt.mpr hsize, hmore, Bool.false_eq_true, if_false]

/-- FORM_PROGRAM_DONE installs the form whose last part has come and whose blocks are complete, within quota and at a place that fits. -/
theorem exec_formProgramDone_complete {base : Nat} {x : Deferred} {p : FormPart} (hx : s.dev.deferred? k.val 0x0201 = some x)
    (hp : (s.dev.ten k.val).formParts.find? (·.last) = some p) (hwhole : p.encode = false ∨ p.rawBands ≤ p.blocks.length)
    (hquota : s.dev.formQuota k.val p.id p.blocks.flatten.length = false)
    (hplace : s.dev.formPlaceOk base p.blocks.flatten.length = true) :
    exec (.formProgramDone k base) s = .next (s.withBoth (s.dev.formInstall s.mem k.val base p)) := by
  have hencoded : ¬ (p.encode = true ∧ p.blocks.length < p.rawBands) := by
    rcases hwhole with hraw | hall
    · simp only [hraw, Bool.false_eq_true, false_and, not_false_eq_true]
    · exact fun hshort => Nat.not_lt.mpr hall hshort.2
  change execFormProgramDone k base s = _
  simp only [execFormProgramDone, onAll_next, hx, hp, if_neg hencoded, hquota, hplace, Bool.false_eq_true, if_false, if_true,
    State.withBoth]

/-- FORM_DELETE of a form seen and not in use evicts it from the galley and takes it off the list. -/
theorem exec_formDelete_accepted (h : s.dev.accepts k.val 0x0202 f (f.len == 4 && f.zero 2 3))
    (hmay : (bit (f.h 0) 15 && k.val != 0) = false) (hseen : (s.dev.formSeen k.val (f.h 0)).isNone = false)
    (hfree : s.dev.formInUse k.val (f.h 0) = false) :
    let o := formOwner k.val (f.h 0)
    let d := (s.dev.began k.val f).formEvict o (f.h 0)
    exec (.formDelete k) s = .next (s.withDev
      (({ d with forms := d.forms.filter (fun x => ! (x.owner == o && x.id == f.h 0)) } : Dev).answer k.val f St.ok [])) :=
  onAll_runFrame_withDev h rfl (by simp only [hmay, hseen, hfree, Bool.false_eq_true, if_false]) rfl rfl

/-- With a form area in NOR FORM_LIST answers the tenant's own forms and those common to all (R282). -/
theorem exec_formList_accepted (h : s.dev.accepts k.val 0x0203 f (lenIs 0 s.dev f))
    (harea : (s.dev.began k.val f).formArea.2 ≠ 0) :
    let d := s.dev.began k.val f
    exec (.formList k) s = .next (s.withDev (d.answer k.val f St.ok
      (((d.forms.filter (fun g => g.owner == 8 || g.owner == k.val)).foldl (fun l g => insForm g l) []).flatMap
        (fun g => leBytes 2 g.id ++ leBytes 1 g.bpp ++ leBytes 1 g.bandH ++ leBytes 4 g.size)))) := by
  refine onAll_runFrame_withDev h rfl rfl rfl ?_
  simp only [if_neg harea]

/-! ### Feeds, the engine and calibrations (R195, R196, R674, R675, R926, R938, Table 23-2) -/

theorem exec_feed_accepted (h : s.dev.accepts k.val 0x0301 f (f.len == 4 && f.h 0 ≤ 4000 && f.b 2 ≤ 2 && f.b 3 == 0))
    (hpre : s.dev.feedPre k.val = 0) :
    exec (.feed k) s =
      .next (s.withDev (((s.dev.began k.val f).defer k.val f [f.h 0, f.b 2] []).feedBegin k.val (f.h 0) (f.b 2))) :=
  onAll_runFrame_withDev h rfl hpre rfl rfl

/-- ENGINE_CTL with the warm action starts the warm-up of an engine that is COLD or COOLING. -/
theorem exec_engineCtlWarm_started (h : s.dev.accepts k.val 0x0302 f (engineForm s.dev f)) (hact : f.b 1 = 1)
    (hlacks : s.dev.lacks 0 = false)
    (hlas : (s.dev.began k.val f).laserState = LasSt.cold ∨ (s.dev.began k.val f).laserState = LasSt.cooling) :
    exec (.engineCtlWarm k) s =
      .next (s.withDev (((s.dev.began k.val f).setLas LasSt.warming).answer k.val f St.ok [])) := by
  refine onAll_runFrame_withDev h ?sel ?pre rfl ?act
  case sel => rw [hact]; rfl
  case pre => simp only [hlacks, Bool.false_eq_true, if_false]
  case act => simp only [if_pos hlas]

/-- ENGINE_CTL with the cool action cools a READY engine with nothing on the path and nothing queued. -/
theorem exec_engineCtlCool_started (h : s.dev.accepts k.val 0x0302 f (engineForm s.dev f)) (hact : f.b 1 = 2)
    (hlacks : s.dev.lacks 0 = false) (hpath : s.dev.pathEmpty = true) (hqueue : s.dev.anyQueued = false)
    (hlas : (s.dev.began k.val f).laserState = LasSt.ready) :
    exec (.engineCtlCool k) s =
      .next (s.withDev (((s.dev.began k.val f).setLas LasSt.cooling).answer k.val f St.ok [])) := by
  refine onAll_runFrame_withDev h ?sel ?pre rfl ?act
  case sel => rw [hact]; rfl
  case pre => simp only [hlacks, hpath, hqueue, Bool.not_true, Bool.or_self, Bool.false_eq_true, if_false]
  case act => simp only [if_pos hlas]

/-- A CALIBRATE is deferred and its calibration falls due as background task 8, whichever of the four its row takes. -/
theorem onAll_calibrate_accepted {c : Nat} {sel : Frame → Bool}
    (h : s.dev.accepts k.val 0x0401 f (f.len == 4 && 1 ≤ f.b 0 && f.b 0 ≤ 4 && f.b 1 / 2 == 0 && f.zero 2 3))
    (hpre : s.dev.calPre k.val (f.b 0) f = 0) (hc : f.b 0 = c) (hsel : sel f = true) :
    onAll (calibrate c k.val sel) s =
      .next (s.withDev (((s.dev.began k.val f).defer k.val f [f.b 0, f.b 1] []).bgFall 8)) := by
  subst hc
  exact onAll_runFrame_withDev h hsel hpre rfl rfl

end

/-- FEED_DONE completes a feed with no travel and no cut left and the drive at rest. -/
theorem exec_feedDone_complete {s : State} {k : Nat} (hjob : s.dev.head.job = .feed k) (hleft : s.dev.head.feedLeft = 0)
    (hcut : s.dev.head.cutKind = 0) (hrest : (s.dev.ax 2).vel = 0) :
    exec .feedDone s = .next (s.withDev ((s.dev.setThm ThmSt.idle 0).endFeed St.ok).lineIdle) := by
  change execFeedDone s = _
  simp only [execFeedDone, onDev_next, hjob, hleft, hcut, hrest, and_self, if_true, State.withDev]

/-- CALIBRATE_DONE ends a hold-up calibration that has measured, with the capacitance. -/
theorem exec_calibrateDone_holdup {s : State} {k : Nat} (samples : List Nat) (hcal : s.dev.bg.cal = some (3, k))
    (hidle : s.dev.get Reg.HL_STAT_STATE ≠ 2) (hpass : s.dev.hold.result = 1) :
    exec (.calibrateDone samples) s = .next (s.withDev (s.dev.calEnd 3 k true (s.dev.reg Reg.HL_C))) := by
  change execCalibrateDone samples s = _
  simp only [execCalibrateDone, onDev_next, hcal, if_neg hidle, hpass, State.withDev]

/-- CALIBRATE_DONE ends a facet relearn whose tables are valid, records them and answers the largest corrections. -/
theorem exec_calibrateDone_facets {s : State} {k : Nat} (samples : List Nat) (hcal : s.dev.bg.cal = some (1, k))
    (hvalid : s.dev.flag Reg.FT_STAT_VALID = true) (hlen : s.dev.flag Reg.FT_STAT_LEN_VALID = true) :
    exec (.calibrateDone samples) s = .next (s.withDev ((s.dev.queueRec 2 s.dev.facetBody).scanBack.calEnd 1 k true
      (min (s.dev.facetMax Reg.FT_A_INT_ERR) 65535 + min (s.dev.facetMax Reg.FT_B_TRIM) 65535 * 65536))) := by
  change execCalibrateDone samples s = _
  simp only [execCalibrateDone, onDev_next, hcal, hvalid, hlen, Bool.or_true, Bool.and_self, if_true, State.withDev]

/-- Settles O9: each clause is the lemma of its row; the four calibrations share one. -/
theorem formAndEngineCommandsTakeEffect : Obligations.FormAndEngineCommandsTakeEffect := by
  refine ⟨fun _ _ _ _ => exec_formStore_part, fun _ _ _ _ _ => exec_formProgramDone_complete,
    fun _ _ _ => exec_formDelete_accepted, fun _ _ _ => exec_formList_accepted, fun _ _ _ => exec_feed_accepted,
    fun _ _ => exec_feedDone_complete, fun _ _ _ => exec_engineCtlWarm_started, fun _ _ _ => exec_engineCtlCool_started,
    ?calibrations, fun _ samples _ => exec_calibrateDone_holdup samples, fun _ samples _ => exec_calibrateDone_facets samples⟩
  case calibrations =>
    intro s k f h hpre t
    exact ⟨fun hc => onAll_calibrate_accepted h hpre hc (by rw [hc]; rfl),
      fun hc => onAll_calibrate_accepted h hpre hc (by rw [hc]; rfl),
      fun hc => onAll_calibrate_accepted h hpre hc (by rw [hc]; rfl),
      fun hc => onAll_calibrate_accepted h hpre hc (by rw [hc]; rfl)⟩

/-! ### Counters, reports and events (R197, R200, R201, R202, R879) -/

section
variable {s : State} {k : Fin 8} {f : Frame}

theorem exec_countersRead_accepted
    (h : s.dev.accepts k.val 0x0501 f (f.len == 4 && 1 ≤ f.b 2 && f.b 2 ≤ 64 && f.b 3 == 0 && f.h 0 + f.b 2 ≤ 24)) :
    exec (.countersRead k) s = .next (s.withDev ((s.dev.began k.val f).answer k.val f St.ok
      ((s.dev.began k.val f).lifeEntries (f.h 0) (f.b 2)))) :=
  onAll_runFrame_withDev h rfl rfl rfl rfl

theorem exec_sealedReport_accepted (h : s.dev.accepts k.val 0x0502 f (f.len == 20 && f.b 16 ≤ 2 && f.zero 17 19))
    (hdefer : s.dev.canDefer k.val 0x0502 = true) :
    let d := s.dev.began k.val f
    exec (.sealedReport k) s = .next (s.withDev (({ d with reportSeq := d.reportSeq + 1 } : Dev).defer k.val f []
      (d.sealReport k.val (f.b 16) (f.payload.take 16)))) :=
  onAll_runFrame_withDev h rfl (if_pos hdefer) rfl rfl

theorem exec_sealedReportDone_deferred {x : Deferred} (hx : s.dev.deferred? k.val 0x0502 = some x) :
    exec (.sealedReportDone k) s = .next (s.withDev (s.dev.finish k.val 0x0502 St.ok x.bytes)) := by
  change execSealedReportDone k s = _
  simp only [execSealedReportDone, onDev_next, hx, State.withDev]

/-- EVENT_READ answers what the walk of the ring gives: the records, whether an unreadable one was passed, and what follows. -/
theorem exec_eventRead_accepted {r : List RingRec × Bool × Nat}
    (h : s.dev.accepts k.val 0x0601 f (f.len == 8 && 1 ≤ f.b 4 && f.b 4 ≤ 64 && f.zero 5 7))
    (hr : readRing k.val (f.b 4) (f.w 0) ((s.dev.began k.val f).ringFrom (f.w 0)) = r) :
    let d := s.dev.began k.val f
    exec (.eventRead k) s = .next (s.withDev (d.answer k.val f St.ok (leBytes 4 r.2.2 ++ leBytes 1 r.1.length ++
      leBytes 1 (b2n (r.2.1 || d.seqGone (f.w 0))) ++ zeros 2 ++ r.1.flatMap RingRec.bytes))) := by
  obtain ⟨rs, bad, next⟩ := r
  refine onAll_runFrame_withDev h rfl rfl rfl ?_
  rw [hr]

theorem exec_eventSubscribe_accepted (h : s.dev.accepts k.val 0x0602 f (f.len == 4 && f.b 0 ≤ 7 && f.zero 1 3)) :
    exec (.eventSubscribe k) s = .next (s.withDev
      (((s.dev.began k.val f).modTen k.val (fun t => { t with minSev := f.b 0, skipped := 0 })).answer k.val f St.ok [])) :=
  onAll_runFrame_withDev h rfl rfl rfl rfl

/-! ### Registers and fences (R218, R219, R220, R224, R231, Table 4-16) -/

/-- REG_READ answers at once where every word is there. -/
theorem exec_regRead_ready (h : s.dev.accepts k.val 0x0701 f (f.len == 8 && regHead f))
    (hdefer : s.dev.canDefer k.val 0x0701 = true) (hok : (readAddrs (f.w 0) (f.b 4)).all (s.dev.readOk k.val) = true) :
    let d := s.dev.began k.val f
    (readAddrs (f.w 0) (f.b 4)).all (d.readReady k.val) = true →
    let r := Dev.readRegs s.mem (.tenant k.val) (f.b 4) (f.w 0) d
    exec (.regRead k) s = .next (s.withDev (r.2.answer k.val f St.ok (wordBytes r.1))) := by
  intro d hready r
  refine onAll_runFrame_withDev h rfl ?pre rfl (if_pos hready)
  case pre => simp only [hdefer, hok, Bool.not_true, Bool.false_eq_true, if_false, if_true]

/-- REG_READ_DONE answers the REG_READ that waits, once the writes before it are complete and the pages answer. -/
theorem exec_regReadDone_answering {x : Deferred} (hx : s.dev.deferred? k.val 0x0701 = some x)
    (hdone : x.args.getD 2 0 ≤ (s.dev.br k.val).done)
    (hans : (readAddrs (x.args.getD 0 0) (x.args.getD 1 0)).all s.dev.answers = true) :
    let r := Dev.readRegs s.mem (.tenant k.val) (x.args.getD 1 0) (x.args.getD 0 0) s.dev
    exec (.regReadDone k) s = .next (s.withDev (r.2.finish k.val 0x0701 St.ok (wordBytes r.1))) := by
  change execRegReadDone k s = _
  simp only [execRegReadDone, onAll_next, hx, if_pos (And.intro hdone hans), State.withDev]

/-- REG_WRITE posts its words where the bridge has room and no words of the SPI target wait before it. -/
theorem exec_regWrite_accepted (h : s.dev.accepts k.val 0x0702 f (8 ≤ f.len && regHead f && f.len == 8 + 4 * f.b 4))
    (hroom : f.b 4 ≤ s.dev.brRoom k.val) (hbuf : s.dev.ports.wbuf = []) :
    exec (.regWrite k) s = .next (s.withDev
      ((Dev.postWords k.val (f.w 0) (wordsOf (f.payload.drop 8)) (s.dev.began k.val f)).answer k.val f St.ok [])) := by
  refine onAll_runFrame_withDev h rfl rfl ?hold rfl
  case hold => simp [hroom, hbuf]

/-- REG_FENCE answers at once when no write is outstanding, else it waits for those that are. -/
theorem exec_regFence_accepted (h : s.dev.accepts k.val 0x0703 f (lenIs 0 s.dev f)) (hdefer : s.dev.canDefer k.val 0x0703 = true) :
    let d := s.dev.began k.val f
    exec (.regFence k) s = .next (s.withDev
      (if (d.outstanding k.val).length = 0 then d.answer k.val f St.ok (leBytes 4 (d.fenceWord k.val))
        else (d.defer k.val f [] []).modBr k.val (fun b =>
          { b with fences := b.fences ++ [⟨0, f.seq, b.done + (d.outstanding k.val).length⟩] }))) :=
  onAll_runFrame_withDev h rfl (if_pos hdefer) rfl rfl

end

/-- Settles O10: each clause is the lemma of its row; the two of REG_FENCE are its two cases. -/
theorem readingCommandsTakeEffect : Obligations.ReadingCommandsTakeEffect := by
  refine ⟨fun _ _ _ => exec_countersRead_accepted, fun _ _ _ => exec_sealedReport_accepted,
    fun _ _ _ => exec_sealedReportDone_deferred, fun _ _ _ h => exec_eventRead_accepted h rfl,
    fun _ _ _ => exec_eventSubscribe_accepted, fun _ _ _ => exec_regRead_ready, fun _ _ _ => exec_regReadDone_answering,
    fun _ _ _ => exec_regWrite_accepted, ?fenceAnswer, ?fenceWait⟩
  case fenceAnswer =>
    intro s k f h hdefer d hnone
    rw [exec_regFence_accepted h hdefer, if_pos (List.length_eq_zero_iff.mpr hnone)]
  case fenceWait =>
    intro s k f h hdefer d hsome
    rw [exec_regFence_accepted h hdefer, if_neg (mt List.length_eq_zero_iff.mp hsome)]

/-! ### Keys and random bytes (R203, R204, R205, R852, R854, R857, R868) -/

section
variable {s : State} {k : Fin 8} {f : Frame}

/-- KEY_LOAD writes the unwrapped key when the tag of its wrapping matches, else it counts and reports the mismatch. -/
theorem exec_keyLoad_accepted
    (h : s.dev.accepts k.val 0x0801 f
      (f.len == 64 && f.b 0 ≤ 15 && (f.b 1 == 1 || f.b 1 == 2) && f.b 2 ≤ 15 && f.b 3 == 0))
    (hpre : s.dev.keyLoadPre k.val f = 0) :
    let d := s.dev.began k.val f
    let key := d.wrapKey k.val f
    let iv := (f.payload.drop 4).take 12
    let ct := (f.payload.drop 16).take 32
    exec (.keyLoad k) s = .next (s.withDev
      (if (f.payload.drop 48).take 16 = gcmTag key iv (d.keyAad k.val f) ct then
        (d.loadSlot (f.b 0) (f.b 1) (gcmCrypt key iv ct)).answer k.val f St.ok []
       else ((d.addSat Reg.CR_ERR_UNWRAP_FAIL 1).fireT 0x14 0 k.val 0).answer k.val f St.tagMismatch [])) :=
  onAll_runFrame_withDev h rfl hpre rfl rfl

/-- KEY_ERASE zeroises a slot of the tenant's own, other than slot 0, while the tenant's frames carry no tags. -/
theorem exec_keyErase_accepted (h : s.dev.accepts k.val 0x0802 f (f.len == 4 && f.b 0 ≤ 15 && f.zero 1 3)) (hslot : f.b 0 ≠ 0)
    (hown : s.dev.keyOwner (f.b 0) = k.val) (htags : (s.dev.ten k.val).tags = false) :
    let x := (s.dev.began k.val f).eraseSlot s.mem (f.b 0)
    exec (.keyErase k) s = .next (s.withBoth (x.1.answer k.val f St.ok [], x.2)) :=
  onAll_runFrame_withBoth h rfl (if_neg (by simp [hslot, hown, htags])) rfl rfl

theorem exec_keyInfo_accepted (h : s.dev.accepts k.val 0x0803 f (lenIs 0 s.dev f)) :
    exec (.keyInfo k) s = .next (s.withDev ((s.dev.began k.val f).answer k.val f St.ok
      ((List.range 16).flatMap ((s.dev.began k.val f).keyEntry k.val)))) :=
  onAll_runFrame_withDev h rfl rfl rfl rfl

/-- RANDOM_GET ends at once while the fault of the source is latched, else its request joins the queue. -/
theorem exec_randomGet_accepted
    (h : s.dev.accepts k.val 0x0901 f (f.len == 4 && 1 ≤ f.h 0 && f.h 0 ≤ 1024 && f.zero 2 3))
    (hdefer : s.dev.canDefer k.val 0x0901 = true) :
    let d := s.dev.began k.val f
    exec (.randomGet k) s = .next (s.withDev
      (if d.flag Reg.TR_STAT_LATCHED then (d.addSat Reg.TR_CNT_UNAVAIL 1).answer k.val f St.entropyUnavailable []
       else (d.defer k.val f [f.h 0] []).modTrng (fun t => { t with queue := t.queue ++ [⟨k.val, f.seq, f.h 0⟩] }))) :=
  onAll_runFrame_withDev h rfl (if_pos hdefer) rfl rfl

/-! ### Patches and tenant resets (R206, R207, R208, R875) -/

theorem exec_patchStatus_accepted (h : s.dev.accepts k.val 0x0A01 f (lenIs 0 s.dev f)) :
    let d := s.dev.began k.val f
    exec (.patchStatus k) s = .next (s.withDev (d.answer k.val f St.ok (leBytes 1 d.devState ++
      leBytes 1 (d.get Reg.BT_STAT_SOURCE) ++ leBytes 2 (d.get Reg.BT_PATCH_LAST) ++ leBytes 4 (d.reg Reg.BT_BUNDLE) ++
      leBytes 1 (d.get Reg.OTP_SECVER_SEC_VER) ++ leBytes 1 (d.get Reg.BT_SECVER_BUNDLE) ++ buildBytes ++ zeros 3 ++
      leBytes 4 (d.reg Reg.BT_FEATURE)))) :=
  onAll_runFrame_withDev h rfl rfl rfl rfl

section
variable {bs : List Byte}
  (h : s.dev.accepts k.val 0x0A02 f (9 ≤ f.len && f.len ≤ 65536 && f.b 4 / 2 == 0 && f.zero 5 7))
  (hmay : bit (s.dev.intWord 384) 2 = false) (hchunk : (s.dev.began k.val f).pushChunk f = .ok bs)
include h hmay hchunk

/-- The last chunk of a push completes the bundle, whose answer waits for its verification. -/
theorem exec_patchPush_last (hlast : bit (f.b 4) 0 = true) :
    let d := s.dev.began k.val f
    d.canDefer k.val 0x0A02 = true → exec (.patchPush k) s = .next (s.withDev
      (({ d with boot := { d.boot with push := none, pushed := some bs } } : Dev).defer k.val f [] [])) := by
  intro d hdefer
  refine onAll_runFrame_withDev h rfl ?pre rfl ?act
  case pre => simp only [hmay, Bool.false_eq_true, if_false]
  case act =>
    simp only [d] at hdefer ⊢
    simp only [hchunk, hlast, hdefer, if_true]

/-- Any other chunk is kept with the instant it came at. -/
theorem exec_patchPush_part (hmore : bit (f.b 4) 0 = false) :
    let d := s.dev.began k.val f
    exec (.patchPush k) s = .next (s.withDev
      ((({ d with boot := { d.boot with push := some ⟨k.val, bs, d.now⟩ } } : Dev).set Reg.BT_STAT_PUSHING 1).answer k.val f
        St.ok [])) := by
  refine onAll_runFrame_withDev h rfl ?pre rfl ?act
  case pre => simp only [hmay, Bool.false_eq_true, if_false]
  case act => simp only [hchunk, hmore, Bool.false_eq_true, if_false]

end

/-- A TENANT_RESET of the tenant's own starts at once. -/
theorem exec_tenantReset_own (h : s.dev.accepts k.val 0x0B01 f (f.len == 4 && f.zero 1 3 && (f.b 0 == 0xFF || f.b 0 ≤ 7)))
    (hown : resetTarget k.val f = k.val) :
    exec (.tenantReset k) s = .next (s.withDev ((s.dev.began k.val f).startReset k.val)) := by
  refine onAll_runFrame_withDev h rfl (if_pos hown) rfl ?_
  simp only [hown, if_true]

/-- T0's TENANT_RESET of another tenant starts that tenant's reset and answers when it is done. -/
theorem exec_tenantReset_other (h : s.dev.accepts 0 0x0B01 f (f.len == 4 && f.zero 1 3 && (f.b 0 == 0xFF || f.b 0 ≤ 7)))
    (hother : resetTarget 0 f ≠ 0) (hdefer : s.dev.canDefer 0 0x0B01 = true) :
    exec (.tenantReset 0) s =
      .next (s.withDev (((s.dev.began 0 f).defer 0 f [resetTarget 0 f] []).startReset (resetTarget 0 f))) := by
  refine onAll_runFrame_withDev (k := 0) h rfl ?pre rfl ?act
  case pre => simp [hother, hdefer]
  case act => simp [hother]

end

/-- PUSH_GAP_TIMEOUT abandons a push whose last chunk is more than 100 ms old. -/
theorem exec_pushGapTimeout_due {s : State} {p : Push} (hp : s.dev.boot.push = some p) (hdue : p.when + 100000 < s.dev.now) :
    exec .pushGapTimeout s = .next (s.withDev s.dev.pushAbandon) := by
  change execPushGapTimeout s = _
  simp only [execPushGapTimeout, onDev_next, hp, if_pos hdue, State.withDev]

/-- Settles O11: each clause is the lemma of its row; the pairs of KEY_LOAD and RANDOM_GET are its two cases. -/
theorem keyAndPatchCommandsTakeEffect : Obligations.KeyAndPatchCommandsTakeEffect := by
  refine ⟨?keyLoad, fun _ _ _ => exec_keyErase_accepted, fun _ _ _ => exec_keyInfo_accepted, ?randomGet,
    fun _ _ _ => exec_patchStatus_accepted, ?patchPush, fun _ _ => exec_pushGapTimeout_due,
    fun _ _ _ => exec_tenantReset_own, fun _ _ => exec_tenantReset_other⟩
  case keyLoad =>
    intro s k f h hpre d key iv ct
    rw [exec_keyLoad_accepted h hpre]
    exact ⟨fun htag => by rw [if_pos htag], fun htag => by rw [if_neg htag]⟩
  case randomGet =>
    intro s k f h hdefer d
    rw [exec_randomGet_accepted h hdefer]
    exact ⟨fun hlatched => by rw [if_pos hlatched], fun hfree => by rw [if_neg (by rw [hfree]; exact Bool.false_ne_true)]⟩
  case patchPush =>
    intro s k f bs h hmay hchunk d
    exact ⟨exec_patchPush_last h hmay hchunk, exec_patchPush_part h hmay hchunk⟩

end Sys2Proof.Machine

/-! # Proofs of the statements of spec/05_registers_events.md

What a command may change beside the block, runs of the queue, PG_OWNER and PG_LOCK, firings, late errors, tags and the spine. -/

namespace Sys2Proof.Machine

/-! ### What a command may change beside the block -/

/-- What a command answers in state `s`, by whether it may write a memory: a next state with another block, or with other memories
too, and the queue that was given. -/
inductive ActsAs (s : State) : Bool → Out → Prop
  | block {mayWrite : Bool} (d : Dev) : ActsAs s mayWrite (.next (s.withDev d))
  | memories (d : Dev) (m : Mem) : ActsAs s true (.next (s.withBoth (d, m)))

/-- A command answers a next state with the queue it was given, and with the memories it was given unless it may write them. -/
theorem ActsAs.next {s : State} {mayWrite : Bool} {o : Out} (h : ActsAs s mayWrite o) :
    ∃ x, o = .next (s.withBoth x) ∧ (mayWrite = false → x.2 = s.mem) := by
  cases h with
  | block d => exact ⟨(d, s.mem), rfl, fun _ => rfl⟩
  | memories d m => exact ⟨(d, m), rfl, nofun⟩

/-- A command that reads the memories and hands them on acts on the block alone. -/
theorem ActsAs.reading {s : State} {mayWrite : Bool} {f : Dev → Mem → Dev × Mem} (h : ∀ d m, (f d m).2 = m) :
    ActsAs s mayWrite (onAll f s) := by
  rw [onAll_next, h]
  exact .block _

/-- Taking a frame leaves the memories alone where the frame's own effect does. -/
theorem runFrame_mem {op k : Nat} {sel : Frame → Bool} {form : Dev → Frame → Bool} {hold : Dev → Mem → Frame → Bool}
    {pre : Dev → Mem → Frame → Nat} {act : Frame → Dev → Mem → Dev × Mem}
    (h : ∀ f d m, ∃ e, act f d m = (e, m)) (d : Dev) (m : Mem) :
    (runFrame op sel form hold pre act k d m).2 = m := by
  simp only [runFrame]
  split
  · rfl
  next f _ =>
    split
    · rfl
    next r _ =>
      split_ifs
      · rfl
      · rfl
      · rfl
      · rfl
      · obtain ⟨e, he⟩ := h f ((d.takeFrame k).wake r) m
        rw [he]

/-- Landing a write leaves the memories alone where the write's own effect does. -/
theorem landAll_mem {l : Land} {sel : Nat → Word → Bool} {eff : Agent → Nat → Word → Dev → Mem → Dev × Mem}
    (h : ∀ ag a v d m, ∃ e, eff ag a v d m = (e, m)) (d : Dev) (m : Mem) : (landAll l sel eff d m).2 = m := by
  have heff (ag : Agent) (a : Nat) (v : Word) (d : Dev) : (eff ag a v d m).2 = m := by
    obtain ⟨e, he⟩ := h ag a v d m
    rw [he]
  cases l with
  | fw a v =>
    simp only [landAll]
    split
    · split
      · exact heff _ _ _ _
      · rfl
    · rfl
  | tenant k ecc =>
    simp only [landAll]
    split
    · rfl
    · split
      · split
        · exact heff _ _ _ _
        · rfl
      · rfl

/-! The commands that read the memories: each of their branches hands them on. -/

theorem actsAs_lateDmaError (s : State) (c : Fin 16) (addr tag : Nat) (reason : Fin 4) :
    ActsAs s false (execLateDmaError c addr tag reason s) := by
  refine .reading fun d m => ?_
  extract_lets +lift
  split
  next => rfl
  next => split <;> rfl

theorem actsAs_commitAttempt (s : State) (took : Nat) : ActsAs s false (execCommitAttempt took s) := by
  refine .reading fun d m => ?_
  split
  next => rfl
  next =>
    extract_lets +lift
    split
    · rfl
    · split <;> rfl

theorem actsAs_lineGo (s : State) (late : Bool) : ActsAs s false (execLineGo late s) := by
  refine .reading fun d m => ?_
  split
  · extract_lets +lift
    split
    · split
      next => split <;> rfl
      next => rfl
    · rfl
  · rfl

theorem actsAs_shiftGo (s : State) : ActsAs s false (execShiftGo s) := by
  refine .reading fun d m => ?_
  split
  · extract_lets +lift
    split
    next => rfl
    next =>
      extract_lets +lift
      split <;> rfl
  · rfl

theorem actsAs_latch (s : State) (vh : Nat) : ActsAs s false (execLatch vh s) := by
  refine .reading fun d m => ?_
  split
  · extract_lets +lift
    split
    next =>
      split
      · rfl
      · extract_lets +lift
        split <;> rfl
    next => rfl
  · rfl

theorem actsAs_strobeGo (s : State) : ActsAs s false (execStrobeGo s) := by
  refine .reading fun d m => ?_
  split <;> rfl

theorem actsAs_strobeDone (s : State) : ActsAs s false (execStrobeDone s) := by
  refine .reading fun d m => ?_
  split <;> rfl

theorem actsAs_step (s : State) : ActsAs s false (execStep s) := by
  refine .reading fun d m => ?_
  split
  · extract_lets +lift
    split
    · rfl
    · split
      next => split <;> rfl
      next => rfl
      next => rfl
      next => rfl
  · rfl

theorem actsAs_lineDone (s : State) : ActsAs s false (execLineDone s) := by
  refine .reading fun d m => ?_
  split
  · extract_lets +lift
    split
    · rfl
    · split
      next => rfl
      next =>
        extract_lets +lift
        split_ifs <;> rfl
  · rfl

theorem actsAs_thermalSelect (s : State) : ActsAs s false (execThermalSelect s) := by
  refine .reading fun d m => ?_
  split
  · rfl
  · extract_lets +lift
    split
    next => rfl
    next => split <;> rfl

theorem actsAs_usbRegRead (s : State) (a len : Nat) : ActsAs s false (execUsbRegRead a len s) := by
  refine .reading fun d m => ?_
  split
  · rfl
  · split
    next => rfl
    next =>
      extract_lets +lift
      split_ifs
      · rfl
      · rfl
      · rfl
      · split
        rfl

theorem actsAs_regReadDone (s : State) (k : Fin 8) : ActsAs s false (execRegReadDone k s) := by
  refine .reading fun d m => ?_
  split
  next => rfl
  next =>
    extract_lets +lift
    split
    · split
      rfl
    · rfl

theorem actsAs_regRead (s : State) (k : Fin 8) : ActsAs s false (execRegRead k s) := by
  refine .reading (runFrame_mem fun f d m => ?_)
  dsimp only
  split <;> exact ⟨_, rfl⟩

theorem actsAs_eventRead (s : State) (k : Fin 8) : ActsAs s false (execEventRead k s) := by
  refine .reading (runFrame_mem fun f d m => ?_)
  obtain ⟨rs, bad, next⟩ := readRing k.val (f.b 4) (f.w 0) (d.ringFrom (f.w 0))
  exact ⟨_, rfl⟩

theorem actsAs_jobStatus (s : State) (k : Fin 8) : ActsAs s false (execJobStatus k s) := by
  refine .reading (runFrame_mem fun f d m => ?_)
  split <;> exact ⟨_, rfl⟩

theorem actsAs_jobEnd (s : State) (k : Fin 8) : ActsAs s false (execJobEnd k s) := by
  refine .reading (runFrame_mem fun f d m => ?_)
  dsimp only
  split
  next => exact ⟨_, rfl⟩
  next => split <;> exact ⟨_, rfl⟩

theorem actsAs_sheetDefine (s : State) (k : Fin 8) : ActsAs s false (execSheetDefine k s) := by
  refine .reading fun d m => runFrame_mem (fun f d m => ?_) d m
  dsimp only
  split <;> exact ⟨_, rfl⟩

/-- Every command acts as `cmdMayWrite` says: the memory writers, the command frames and the snapshots, whose effects are given to
`runFrame` and `landAll`, the commands of the lemmas above, and all others, which act on the block by their definition. -/
theorem exec_actsAs (c : Instr) (s : State) : ActsAs s (cmdMayWrite c) (exec c s) := by
  cases c
  case tenantResetDone | data | dataDma | formProgramDone | keyErase | registerWrite | softRst | freeze | shadowCommit | dmaPost
    | descriptorFetch | descriptorRetire | transferFail | portInTimeout | dmaAbort | channelDisable | scrubBurst | blockDecode
    | blockEncode | unitFree | bdPulse | bdWindowClose | pfRecordWrite | bootReports | bundleDecide | ksOwnWrite | ksErase
    | taskSlice | norSequenceEnd =>
    exact .memories _ _
  case sessionOpen | sessionClose | ping | getInfo | patchStatus | tenantReset | formStore | formDelete | formList | jobStart
    | jobCancel | feed | engineCtlWarm | engineCtlCool | facetRelearn | headResistance | holdupCal | laserPowerCurve
    | countersRead | sealedReport | eventSubscribe | regWrite | regFence | keyLoad | keyInfo | randomGet | patchPush =>
    exact .reading (runFrame_mem fun _ _ _ => ⟨_, rfl⟩)
  case bookSnapWrite | tqSnapWrite =>
    exact .reading (landAll_mem fun _ _ _ _ _ => ⟨_, rfl⟩)
  case lateDmaError => exact actsAs_lateDmaError s ..
  case commitAttempt => exact actsAs_commitAttempt s _
  case lineGo => exact actsAs_lineGo s _
  case shiftGo => exact actsAs_shiftGo s
  case latch => exact actsAs_latch s _
  case strobeGo => exact actsAs_strobeGo s
  case strobeDone => exact actsAs_strobeDone s
  case step => exact actsAs_step s
  case lineDone => exact actsAs_lineDone s
  case thermalSelect => exact actsAs_thermalSelect s
  case usbRegRead => exact actsAs_usbRegRead s ..
  case regReadDone => exact actsAs_regReadDone s _
  case eventRead => exact actsAs_eventRead s _
  case regRead => exact actsAs_regRead s _
  case jobStatus => exact actsAs_jobStatus s _
  case jobEnd => exact actsAs_jobEnd s _
  case sheetDefine => exact actsAs_sheetDefine s _
  all_goals exact .block _

/-- Settles O39: every command acts on the block and at most the memories. -/
theorem everyCommandGoesOnAndKeepsTheQueue : Obligations.EveryCommandGoesOnAndKeepsTheQueue := by
  intro c s
  obtain ⟨x, hx, -⟩ := (exec_actsAs c s).next
  exact ⟨s.withBoth x, hx, rfl⟩

/-- Settles O43: a command outside the memory writers acts on the block alone. -/
theorem otherCommandsLeaveEveryByte : Obligations.OtherCommandsLeaveEveryByte := by
  intro c s t hc ht
  obtain ⟨x, hx, hmem⟩ := (exec_actsAs c s).next
  obtain rfl : s.withBoth x = t := Host.Outcome.next.inj (hx.symm.trans ht)
  have hkeep : (s.withBoth x).mem = s.mem := hmem hc
  exact ⟨hkeep, fun a => by rw [hkeep]⟩

/-! ### Steps and runs of the queue -/

/-- A step goes on and takes the front command off the queue, if there is one. -/
theorem step_next (s : State) : ∃ t, step s = .next t ∧ t.pending = s.pending.tail := by
  cases hq : s.pending with
  | nil => exact ⟨_, step_idle hq, hq⟩
  | cons c q =>
    obtain ⟨t, ht, hpend⟩ := everyCommandGoesOnAndKeepsTheQueue c { s with pending := q }
    exact ⟨t, by rw [← ht, ← step_cons, ← hq], hpend⟩

/-- A run whose first step goes on is the run of the rest from the state that step answers. -/
theorem run_succ {M : Host.Core} {s t : M.State} (h : M.step s = .next t) (n : Nat) : M.run (n + 1) s = M.run n t := by
  simp only [Host.Core.run, h]

/-- Settles O40, by induction on the number of steps. -/
theorem aRunTakesTheQueueInOrder : Obligations.ARunTakesTheQueueInOrder := by
  intro n
  induction n with
  | zero => exact fun s => ⟨trivial, s, rfl, rfl⟩
  | succ n ih =>
    intro s
    obtain ⟨u, hu, htail⟩ := step_next s
    obtain ⟨hsafe, t, hrun, hpend⟩ := ih u
    refine ⟨⟨u, hu, hsafe⟩, t, (run_succ (M := Sys2Proof.core) hu n).trans hrun, ?_⟩
    rw [hpend, htail, List.drop_tail]

/-- Settles O42: each part of the state after reset is given by its definition. -/
theorem resetHasTheMemoriesInForm : Obligations.ResetHasTheMemoriesInForm :=
  ⟨Mem.wf_reset, rfl, rfl, rfl, rfl, rfl, rfl⟩

/-! ### PG_OWNER and PG_LOCK of a page (R235) -/

section
variable {p o : Nat}

theorem pageOf_header (hp : p < 65) (ho : o < 0x1000) : pageOf (pageBase p + o) = some p := by
  rw [pageOf, pageBase, if_pos (by omega)]
  congr 1
  omega

theorem header_mod_page (ho : o < 0x1000) : (pageBase p + o) % 0x1000 = o := by
  rw [pageBase]
  omega

end

/-- What Table 5-1 asks of a write of PG_OWNER or PG_LOCK of page `p`. -/
structure IsOwnerOrLock (p a : Nat) : Prop where
  page : pageOf a = some p
  aligned : a % 4 = 0
  ownerOrLock : ownerOrLock a = true
  notExempt : lockExempt a = false

theorem isOwnerOrLock_of_eq {p : Fin 65} {a : Nat} (h : a = Reg.PG_OWNER p.val ∨ a = Reg.PG_LOCK p.val) :
    IsOwnerOrLock p.val a := by
  obtain ⟨o, ho, rfl⟩ : ∃ o, (o = 0x24 ∨ o = 0x20) ∧ a = pageBase p.val + o := by
    rcases h with rfl | rfl
    · exact ⟨0x24, .inl rfl, rfl⟩
    · exact ⟨0x20, .inr rfl, rfl⟩
  have hlt : o < 0x1000 := by omega
  have hmod : (pageBase p.val + o) % 0x1000 = o := header_mod_page hlt
  refine ⟨pageOf_header p.isLt hlt, by omega, ?_, ?_⟩
  · rw [ownerOrLock, hmod]
    rcases ho with rfl | rfl <;> rfl
  · have hne (b : Nat) (hb : b % 0x1000 ≠ 0x24 ∧ b % 0x1000 ≠ 0x20) : (pageBase p.val + o == b) = false := by
      rw [beq_eq_false_iff_ne]
      rintro rfl
      omega
    have hsnap (n : Nat) : Reg.TQ_SNAP n % 0x1000 ≠ 0x24 ∧ Reg.TQ_SNAP n % 0x1000 ≠ 0x20 := by
      simp only [Reg.TQ_SNAP, pageBase]
      omega
    simp only [lockExempt, hmod, hne _ (hsnap _), hne Reg.BOOK_SNAP (by decide), hne Reg.TEN_RESET (by decide),
      hne Reg.EVT_RD_SEQ (by decide)]
    rcases ho with rfl | rfl <;> simp

/-- Settles O47: check 4 asks for T0 and not for the mask, and the later checks are LOCK, FW_HOLD and SOFT_RST. -/
theorem ownersAndLocksAreT0s : Obligations.OwnersAndLocksAreT0s := by
  intro d k p v a ha
  obtain ⟨hpage, halign, hown, hexempt⟩ := isOwnerOrLock_of_eq ha
  have hdenied (j : Nat) : d.denied j a v p.val = (j != 0) := Dev.denied_ownerOrLock hown
  refine ⟨fun hk => ?other, ?_⟩
  case other =>
    rw [Dev.refuseReason_onPage hpage, if_neg (not_not.mpr halign), hdenied, if_pos (bne_iff_ne.mpr hk)]
  rw [Dev.refuseReason_allowed hpage halign (hdenied 0), hexempt]
  refine ⟨fun hl => by simp [hl], fun hl hh => by simp [hl, hh], fun hl hh hr => by simp [hl, hh, hr]⟩

/-! ### Firings (R248) -/

/-- A bit of a register is the field of one bit there. -/
theorem Dev.bit_reg_eq_get (d : Dev) (a i : Nat) : bit (d.reg a) i = (d.get ⟨a, i, 1⟩ == 1) := rfl

theorem Dev.bit_reg_fireRaw_same (d : Dev) (p : Nat) (i : Fin 32) :
    bit ((d.fireRaw p i.val).reg (Reg.EVT_RAW p)) i.val = true := by
  have hok : Fld.ok ⟨Reg.EVT_RAW p, i.val, 1⟩ := i.isLt
  rw [Dev.fireRaw_eq, Dev.bit_reg_eq_get, Dev.get_set_same _ _ _ hok]
  rfl

theorem Dev.bit_reg_fireRaw_other (d : Dev) (p : Nat) {i j : Fin 32} (h : j ≠ i) :
    bit ((d.fireRaw p i.val).reg (Reg.EVT_RAW p)) j.val = bit (d.reg (Reg.EVT_RAW p)) j.val := by
  have hok : Fld.ok ⟨Reg.EVT_RAW p, i.val, 1⟩ := i.isLt
  have hapart : j.val + 1 ≤ i.val ∨ i.val + 1 ≤ j.val := Nat.lt_or_gt_of_ne (Fin.val_ne_of_ne h)
  rw [Dev.fireRaw_eq, Dev.bit_reg_eq_get, Dev.get_set_apart _ _ _ _ hok hapart, ← Dev.bit_reg_eq_get]

theorem Dev.reg_fireRaw_other (d : Dev) (p i : Nat) {a : Nat} (h : a ≠ Reg.EVT_RAW p) : (d.fireRaw p i).reg a = d.reg a :=
  d.reg_setReg_other _ _ _ h

/-- EVT_PEND shows the pending sources of its page. -/
theorem Dev.live_evtPend (d : Dev) (m : Mem) (who : Agent) (p : Nat) : d.live m who p (Reg.EVT_PEND p) = d.pend p := by
  have hhdr : Reg.EVT_PEND p % 0x1000 < 0x40 := by
    rw [Reg.EVT_PEND, header_mod_page (by decide)]
    decide
  refine (if_pos hhdr).trans ?_
  simp [Dev.liveHdr, Reg.EVT_PEND, Reg.PG_ID, Reg.PG_CAP, Reg.PG_STAT]

/-- Settles O53: a firing writes the field of its one bit in EVT_RAW, and EVT_PEND is computed from EVT_RAW and EVT_EN. -/
theorem firingsSetRawWhateverIsEnabled : Obligations.FiringsSetRawWhateverIsEnabled := by
  refine ⟨fun d p i => ⟨d.bit_reg_fireRaw_same p.val i, fun j hj => d.bit_reg_fireRaw_other p.val hj,
    d.reg_fireRaw_other p.val i.val ?_⟩, fun d m who p => d.live_evtPend m who p.val⟩
  simp [Reg.EVT_EN, Reg.EVT_RAW]

/-! ### A refused write and the late-error FIFO (R227, R228, R229) -/

theorem Dev.get_post_other (d : Dev) (p : Nat) (r : EvRec) (f : Fld) (h : f.addr ≠ Reg.EVT_DROP) :
    (d.post p r).get f = d.get f := by
  unfold Dev.post
  split
  · rfl
  · exact Dev.get_set_other _ _ _ _ h

/-- A record finds its place behind those that wait in its page's buffer. -/
theorem Dev.page_post_room (d : Dev) {p : Nat} (r : EvRec) (hp : p < d.pages.length) (h : (d.page p).buf.length < 4) :
    ((d.post p r).page p).buf = (d.page p).buf ++ [r] := by
  rw [Dev.post, if_pos h, Dev.page_modPage_same _ _ _ hp]

@[simp] theorem Dev.br_set (d : Dev) (f : Fld) (v k : Nat) : (d.set f v).br k = d.br k := rfl
@[simp] theorem Dev.br_raise (d : Dev) (p t c s x k : Nat) : (d.raise p t c s x).br k = d.br k := by
  rw [Dev.br, Dev.raise_bridges, Dev.br]
@[simp] theorem Dev.page_set (d : Dev) (f : Fld) (v p : Nat) : (d.set f v).page p = d.page p := rfl
@[simp] theorem Dev.page_modBr (d : Dev) (k p : Nat) (f : BridgeT → BridgeT) : (d.modBr k f).page p = d.page p := rfl

theorem Dev.modBr_congr (d : Dev) {k : Nat} {f g : BridgeT → BridgeT} (h : f (d.br k) = g (d.br k)) :
    d.modBr k f = d.modBr k g := by
  rw [Dev.modBr, lmod_congr h, Dev.modBr]

/-- The bridge's part of a tenant after a refusal: ERR counts one more, and the entry is stored unless the FIFO holds 4. -/
def BridgeT.refused (b : BridgeT) (w : PostedWrite) (r : Nat) : BridgeT :=
  { b with err := b.err + 1, late := if 4 ≤ b.late.length then b.late else b.late ++ [⟨w.addr, w.data, w.tag, r⟩] }

section
variable (d : Dev) (k : Nat) (w : PostedWrite) (r : Nat)

/-- The block once the entry, or OVF, and ERR are written, before the record and the LATE_ERR bit. -/
def Dev.refuseNoted : Dev :=
  let e := d.modBr k (·.refused w r)
  if 4 ≤ (d.br k).late.length then e.set (Reg.LE_STAT_OVF k) 1 else e

/-- The block once the record is posted and an uncorrectable error counted. -/
def Dev.refuseReported : Dev :=
  let e := (d.refuseNoted k w r).raise 0x0B k St.lateWriteErr 1 w.addr
  if r = 1 then e.addSat Reg.BR_ECC_UNCORR 1 else e

theorem Dev.refuseWrite_eq_stages : d.refuseWrite k w r = (d.refuseReported k w r).fireRaw (2 + k) 2 := by
  unfold Dev.refuseWrite
  extract_lets full d1 d2 d3 d4
  have h1 : d1 = d.modBr k (·.refused w r) := d.modBr_congr rfl
  simp only [d4, d3, d2, full, h1, Dev.refuseReported, Dev.refuseNoted]

theorem Dev.refuseNoted_br (hk : k < d.bridges.length) : (d.refuseNoted k w r).br k = (d.br k).refused w r := by
  have hmod := Dev.br_modBr_same d k (·.refused w r) hk
  unfold Dev.refuseNoted
  split
  · rw [Dev.br_set, hmod]
  · exact hmod

theorem Dev.refuseNoted_page (p : Nat) : (d.refuseNoted k w r).page p = d.page p := by
  unfold Dev.refuseNoted
  split
  · rw [Dev.page_set, Dev.page_modBr]
  · rw [Dev.page_modBr]

theorem Dev.refuseNoted_pages_length : (d.refuseNoted k w r).pages.length = d.pages.length := by
  unfold Dev.refuseNoted
  split
  · rw [Dev.set_pages, Dev.modBr_pages]
  · rw [Dev.modBr_pages]

theorem Dev.refuseReported_br : (d.refuseReported k w r).br k = (d.refuseNoted k w r).br k := by
  unfold Dev.refuseReported
  split
  · rw [Dev.addSat_eq, Dev.br_set, Dev.br_raise]
  · rw [Dev.br_raise]

theorem Dev.refuseReported_page (p : Nat) :
    (d.refuseReported k w r).page p = ((d.refuseNoted k w r).raise 0x0B k St.lateWriteErr 1 w.addr).page p := by
  unfold Dev.refuseReported
  split
  · rw [Dev.addSat_eq, Dev.page_set]
  · rfl

theorem Dev.refuseReported_get {f : Fld} (hdrop : f.addr ≠ Reg.EVT_DROP) (hecc : f.addr ≠ Reg.BR_ECC) :
    (d.refuseReported k w r).get f = (d.refuseNoted k w r).get f := by
  unfold Dev.refuseReported
  split
  · rw [Dev.addSat_eq, Dev.get_set_other _ _ _ _ hecc, Dev.raise, Dev.get_post_other _ _ _ _ hdrop]
  · rw [Dev.raise, Dev.get_post_other _ _ _ _ hdrop]

end

theorem Dev.refuseWrite_br {d : Dev} {k : Nat} (hk : k < d.bridges.length) (w : PostedWrite) (r : Nat) :
    (d.refuseWrite k w r).br k = (d.br k).refused w r := by
  rw [Dev.refuseWrite_eq_stages, Dev.fireRaw_eq, Dev.br_set, Dev.refuseReported_br, Dev.refuseNoted_br d k w r hk]

/-- A refusal that finds the FIFO full sets OVF. -/
theorem Dev.refuseWrite_ovf {d : Dev} {k : Nat} (hfull : 4 ≤ (d.br k).late.length) (w : PostedWrite) (r : Nat) :
    (d.refuseWrite k w r).flag (Reg.LE_STAT_OVF k) = true := by
  have hraw : (Reg.LE_STAT_OVF k).addr ≠ Reg.EVT_RAW (2 + k) := by simp [Reg.LE_STAT_OVF, Reg.LE_STAT, Reg.EVT_RAW]
  have hdrop : (Reg.LE_STAT_OVF k).addr ≠ Reg.EVT_DROP := by
    simp only [Reg.LE_STAT_OVF, Reg.LE_STAT, Reg.EVT_DROP, pageBase]
    omega
  have hecc : (Reg.LE_STAT_OVF k).addr ≠ Reg.BR_ECC := by
    simp only [Reg.LE_STAT_OVF, Reg.LE_STAT, Reg.BR_ECC, pageBase]
    omega
  have hok : (Reg.LE_STAT_OVF k).ok := (by decide : 8 + 1 ≤ 32)
  have hget : (d.refuseWrite k w r).get (Reg.LE_STAT_OVF k) = 1 := by
    rw [Dev.refuseWrite_eq_stages, Dev.fireRaw_eq, Dev.get_set_other _ _ _ _ hraw, Dev.refuseReported_get d k w r hdrop hecc,
      Dev.refuseNoted, if_pos hfull, Dev.get_set_same _ _ _ hok]
    rfl
  rw [Dev.flag, hget]
  rfl

/-- A refusal sets LATE_ERR of the tenant's page. -/
theorem Dev.refuseWrite_lateErr (d : Dev) (k : Nat) (w : PostedWrite) (r : Nat) :
    bit ((d.refuseWrite k w r).reg (Reg.EVT_RAW (2 + k))) 2 = true := by
  rw [Dev.refuseWrite_eq_stages]
  exact Dev.bit_reg_fireRaw_same _ (2 + k) 2

/-- A refusal posts its record where the bridge's page has room. -/
theorem Dev.refuseWrite_record {d : Dev} (hp : 0x0B < d.pages.length) (hroom : (d.page 0x0B).buf.length < 4) (k : Nat)
    (w : PostedWrite) (r : Nat) :
    ((d.refuseWrite k w r).page 0x0B).buf =
      (d.page 0x0B).buf ++ [⟨0x0B, k, St.lateWriteErr, 1, false, BitVec.ofNat 32 w.addr⟩] := by
  have hpage := d.refuseNoted_page k w r 0x0B
  rw [Dev.refuseWrite_eq_stages, Dev.fireRaw_eq, Dev.page_set, Dev.refuseReported_page, Dev.raise,
    Dev.page_post_room _ _ (by rwa [Dev.refuseNoted_pages_length]) (by rwa [hpage]), hpage]

/-- Settles O48: the effects of a refusal one by one, and POP as the row's effect on the FIFO its address names. -/
theorem lateErrorsAreStoredAndPopped : Obligations.LateErrorsAreStoredAndPopped := by
  refine ⟨?refusal, ?pop⟩
  case refusal =>
    intro d k w r hbr hpages hk t
    have hb : t.br k = (d.br k).refused w r := Dev.refuseWrite_br (by omega) w r
    refine ⟨fun hroom => ?_, fun hfull => ⟨?_, Dev.refuseWrite_ovf hfull w r⟩, ?_, d.refuseWrite_lateErr k w r,
      fun hroom => Dev.refuseWrite_record (by omega) hroom k w r⟩
    · exact hb ▸ if_neg (Nat.not_le.mpr hroom)
    · exact hb ▸ if_pos hfull
    · exact hb ▸ rfl
  case pop =>
    intro s l ag v d j hg hv hbr
    refine ⟨_, exec_lePop_granted hg rfl hv, ?_, fun i hi => Dev.br_modBr_other _ _ _ _ hi.symm, rfl⟩
    rw [Dev.br_modBr_same _ _ _ (by omega)]

/-! ### Tags of posted writes (R221) -/

/-- The writes `ws`, posted after `n` others, as they stand in the queue. -/
def taggedFrom (n : Nat) (ws : List (Nat × Word)) : List PostedWrite :=
  ws.mapIdx (fun i w => ⟨w.1, w.2, (n + i + 1) % 65536⟩)

theorem taggedFrom_cons (n : Nat) (w : Nat × Word) (ws : List (Nat × Word)) :
    taggedFrom n (w :: ws) = ⟨w.1, w.2, (n + 1) % 65536⟩ :: taggedFrom (n + 1) ws := by
  simp [taggedFrom, List.mapIdx_cons, Nat.add_comm, Nat.add_left_comm]

/-- Posting writes appends them to the tenant's queue with the tags that follow. -/
theorem Dev.foldl_enqWrite_br {d : Dev} {k : Nat} (ws : List (Nat × Word)) (hk : k < d.bridges.length) :
    (ws.foldl (fun d w => d.enqWrite k w.1 w.2) d).br k = { d.br k with
      posted := (d.br k).posted + ws.length, queue := (d.br k).queue ++ taggedFrom (d.br k).posted ws } := by
  induction ws generalizing d with
  | nil => simp [taggedFrom]
  | cons w ws ih =>
    have hstep : (d.enqWrite k w.1 w.2).br k = _ := Dev.br_modBr_same _ _ _ hk
    rw [List.foldl_cons, ih (by rwa [Dev.enqWrite, Dev.modBr, lmod_length]), hstep, taggedFrom_cons]
    simp [Nat.add_assoc, Nat.add_comm 1]

theorem Dev.foldl_enqWrite_br_other {k j : Nat} (h : j ≠ k) (ws : List (Nat × Word)) (d : Dev) :
    (ws.foldl (fun d w => d.enqWrite k w.1 w.2) d).br j = d.br j := by
  induction ws generalizing d with
  | nil => rfl
  | cons w ws ih => exact (ih _).trans (Dev.br_modBr_other _ _ _ _ h.symm)

/-- Settles O49: after a reset no write has been posted, so the first tag is 1. -/
theorem tagsCountTheTenantsWrites : Obligations.TagsCountTheTenantsWrites := by
  intro d k ws hbr hk hreset t
  have hb : t.br k = _ := Dev.foldl_enqWrite_br ws (by omega)
  rw [hreset] at hb
  refine ⟨?_, ?_, fun j hj => Dev.foldl_enqWrite_br_other hj ws d⟩
  · rw [hb]
    simp [BridgeT.reset, taggedFrom]
  · rw [hb]
    simp [BridgeT.reset]

/-! ### Acceptance by the spine (R255, R258, R259, R264, R265) -/

/-- The parts of the block that an acceptance writes or stamps with: the ring, the next sequence number and the always-on counter. -/
def Dev.ringState (d : Dev) : List RingRec × Nat × Nat := (d.spine.ring, d.spine.nextSeq, d.now)

@[simp] theorem Dev.ringState_set (d : Dev) (f : Fld) (v : Nat) : (d.set f v).ringState = d.ringState := rfl
@[simp] theorem Dev.ringState_modTen (d : Dev) (k : Nat) (f : Tenant → Tenant) : (d.modTen k f).ringState = d.ringState := rfl
@[simp] theorem Dev.ringState_modSheets (d : Dev) (p : Sheet → Bool) (f : Sheet → Sheet) :
    (d.modSheets p f).ringState = d.ringState := rfl
@[simp] theorem Dev.ringState_fireT (d : Dev) (p b t x : Nat) : (d.fireT p b t x).ringState = d.ringState := by
  simp only [Dev.ringState, Dev.fireT_spine, Dev.fireT_now]

@[simp] theorem Dev.ringState_placeAct (d : Dev) (k act arg : Nat) : (d.placeAct k act arg).ringState = d.ringState := by
  unfold Dev.placeAct
  split <;> simp [Dev.modJob]

@[simp] theorem Dev.ringState_placeOne (d : Dev) (k : Nat) : (d.placeOne k).ringState = d.ringState := by
  unfold Dev.placeOne
  split
  · rfl
  · simp [apply_ite Dev.ringState]

@[simp] theorem Dev.ringState_drainN (n k : Nat) (d : Dev) : (Dev.drainN n k d).ringState = d.ringState := by
  induction n generalizing d with
  | zero => rfl
  | succ n ih => rw [Dev.drainN, ih, Dev.ringState_placeOne]

@[simp] theorem Dev.ringState_place (d : Dev) (k : Nat) (r : Resp) : (d.place k r).ringState = d.ringState := by
  simp [Dev.place, Dev.drain, apply_ite Dev.ringState]

@[simp] theorem Dev.ringState_spinePush (d : Dev) (k : Nat) (r : RingRec) : (d.spinePush k r).ringState = d.ringState := by
  simp [Dev.spinePush, Dev.unsol, apply_ite Dev.ringState]

@[simp] theorem Dev.ringState_spineFire (d : Dev) (k : Nat) (e : EvRec) : (d.spineFire k e).ringState = d.ringState := by
  unfold Dev.spineFire
  split_ifs
  · rfl
  · rfl
  · exact Dev.ringState_set _ _ _

/-- Telling the tenants of a record leaves the ring alone. -/
theorem Dev.ringState_tell (e : EvRec) (r : RingRec) (ks : List Nat) (d : Dev) :
    (ks.foldl (fun d k => (d.spineFire k e).spinePush k r) d).ringState = d.ringState := by
  induction ks generalizing d with
  | nil => rfl
  | cons k ks ih => rw [List.foldl_cons, ih, Dev.ringState_spinePush, Dev.ringState_spineFire]

/-- The spine numbers and stamps the record and puts it first in the ring. -/
theorem Dev.ringState_spineTake (d : Dev) (e : EvRec) :
    (d.spineTake e).ringState = ((⟨d.spine.nextSeq, d.now % 2 ^ 32, e, false⟩ :: d.spine.ring).take 1024,
      (d.spine.nextSeq + 1) % 2 ^ 32, d.now) :=
  Dev.ringState_tell _ _ _ _

theorem EvRec.visible_iff (e : EvRec) (k : Nat) : e.visible k = true ↔ k = 0 ∨ e.ten = k ∨ e.ten = 0xF := by
  simp [EvRec.visible, or_assoc]

/-- Settles O50: the ring, the number after it and the counter are read off `Dev.ringState_spineTake`. -/
theorem theSpineNumbersAndStamps : Obligations.TheSpineNumbersAndStamps := by
  refine ⟨fun d e => ?accept, fun e => ?first, EvRec.visible_iff⟩
  case accept =>
    obtain ⟨hring, hrest⟩ := Prod.mk.inj (d.ringState_spineTake e)
    obtain ⟨hseq, hnow⟩ := Prod.mk.inj hrest
    refine ⟨hring, hseq, ?_, hnow⟩
    rw [hring]
    exact List.length_take_le _ _
  case first =>
    obtain ⟨hring, -⟩ := Prod.mk.inj (Dev.reset.ringState_spineTake e)
    rw [hring]
    rfl

end Sys2Proof.Machine

/-! # Proofs of the statements of spec/06_memory_dma.md

The canonical form of the addressed memories through every command, and the commands of XSPI, the scrubber, the band codec and the
galley. -/

namespace Sys2Proof.Machine

/-! ### Writers of the addressed memories keep their canonical form (R270, R276, R279)

`h` is the canonical form of the memories a writer is given. The stores of bytes are `Mem.wf_writeBytes`, `Mem.wf_program`,
`Mem.wf_erase`, `Mem.wf_norFill` and `Stream.wf_write`; each writer is a composition of them. -/

/-- A command keeps the invariant where its effect on the memories keeps their form. -/
theorem onAll_memInv {f : Dev → Mem → Dev × Mem} {s t : State} (hf : ∀ d m, m.wf = true → (f d m).2.wf = true) (hs : s.memInv)
    (h : onAll f s = .next t) : t.memInv := by
  rw [onAll_next] at h
  rw [← Host.Outcome.next.inj h]
  exact hf _ _ hs

/-- The form of an outcome is that of its memories, whatever its block. -/
theorem wf_snd_mk (d : Dev) {m : Mem} (h : m.wf = true) : (d, m).2.wf = true := h

/-- A round over channels, slots, words or armed sheets keeps the form where each turn does. -/
theorem foldl_wf {α : Type} {f : Dev × Mem → α → Dev × Mem} (hf : ∀ x a, x.2.wf = true → (f x a).2.wf = true) (l : List α)
    {x : Dev × Mem} (hx : x.2.wf = true) : (l.foldl f x).2.wf = true :=
  List.foldlRecOn (motive := fun x : Dev × Mem => x.2.wf = true) l f hx fun x hx a _ => hf x a hx

section
variable {m : Mem} (h : m.wf = true)
include h

/-! DMA: posting, retiring, dropping, stopping and moving data (R286, R291 to R297, R307). -/

theorem Dev.wf_postDesc (d : Dev) (c : Nat) (ws : List Nat) : (d.postDesc m c ws).2.wf = true := by
  unfold Dev.postDesc
  extract_lets
  split
  · exact h
  · exact wf_snd_mk _ (Mem.wf_writeBytes _ _ _ h)

theorem Dev.wf_chainPost (n c : Nat) (d : Dev) : (Dev.chainPost n c d m).2.wf = true := by
  induction n generalizing d m with
  | zero => exact h
  | succ n ih =>
    unfold Dev.chainPost
    split
    · exact h
    · split
      · exact h
      · split
        · exact h
        · exact ih (Dev.wf_postDesc h ..) _

theorem Dev.wf_retire (d : Dev) (c : Nat) (a : ActiveDesc) (result code done : Nat) :
    (d.retire m c a result code done).2.wf = true :=
  Dev.wf_chainPost (Mem.wf_writeBytes _ _ _ (Mem.wf_writeBytes _ _ _ h)) ..

theorem Dev.wf_dropQueue (n c : Nat) (d : Dev) : (Dev.dropQueue n c d m).2.wf = true := by
  induction n generalizing d m with
  | zero => exact h
  | succ n ih =>
    unfold Dev.dropQueue
    extract_lets
    split
    · exact h
    · exact ih (Dev.wf_retire h ..) _

theorem Dev.wf_afterRetire (d : Dev) (c : Nat) : (d.afterRetire m c).2.wf = true := by
  unfold Dev.afterRetire
  split
  · exact h
  · extract_lets
    split
    · exact Dev.wf_dropQueue h ..
    · exact h

theorem Dev.wf_portTake (d : Dev) (c : Nat) (a : ActiveDesc) : (d.portTake m c a).2.1.wf = true :=
  Mem.wf_writeBytes _ _ _ h

theorem Dev.wf_stopCh (d : Dev) (c : Nat) (dropAll : Bool) : (d.stopCh m c dropAll).2.wf = true := by
  unfold Dev.stopCh
  split
  · split
    · exact Dev.wf_dropQueue h ..
    · exact h
  · extract_lets
    split
    · dsimp only
      split
      · exact Dev.wf_afterRetire (Dev.wf_retire (Dev.wf_portTake h _ c _) ..) ..
      · exact Dev.wf_portTake h _ c _
    · exact h

theorem Dev.wf_moveData (d : Dev) (c : Nat) (a : ActiveDesc) : (d.moveData m c a).2.1.wf = true := by
  unfold Dev.moveData
  extract_lets
  split
  · exact Mem.wf_writeBytes _ _ _ h
  · split
    · exact Dev.wf_portTake h _ c _
    · exact h
  · exact Mem.wf_writeBytes _ _ _ h
  · exact h

theorem Dev.wf_moveUpTo (d : Dev) (c : Nat) (a : ActiveDesc) (off : Nat) : (d.moveUpTo m c a off).2.wf = true := by
  unfold Dev.moveUpTo
  extract_lets
  split <;> exact Mem.wf_writeBytes _ _ _ h

theorem Dev.wf_transferBad (d : Dev) (c : Nat) (a : ActiveDesc) (code off : Nat) :
    (d.transferBad m c a code off).2.wf = true := by
  dsimp only [Dev.transferBad]
  exact Dev.wf_afterRetire (Dev.wf_retire h ..) ..

theorem Dev.wf_retireMoved (d : Dev) (c : Nat) (a : ActiveDesc) (ack : Bool) : (d.retireMoved m c a ack).2.wf = true := by
  have hmoved : (if (d.dch c).barWait then (d, m, a) else d.moveData m c a).2.1.wf = true := by
    split
    · exact h
    · exact Dev.wf_moveData h ..
  unfold Dev.retireMoved
  generalize (if (d.dch c).barWait then (d, m, a) else d.moveData m c a) = moved at hmoved ⊢
  obtain ⟨d1, m1, a1⟩ := moved
  dsimp only at hmoved ⊢
  split
  · exact hmoved
  · split
    · exact Dev.wf_transferBad hmoved ..
    · split
      · exact Dev.wf_afterRetire (Dev.wf_retire hmoved ..) ..
      · split
        · exact hmoved
        · exact Dev.wf_afterRetire (Dev.wf_retire hmoved ..) ..

/-! The scrubber (Table 6-3, R928 to R930). -/

theorem Dev.wf_eccReact (d : Dev) (a : Nat) (at1 : Bank1) : (d.eccReact m a at1).2.wf = true := by
  unfold Dev.eccReact
  extract_lets
  split
  · exact h
  · split
    · cases at1 <;> exact h
    · split
      · split_ifs <;> exact h
      · split
        · exact Mem.wf_writeBytes _ _ _ h
        · split_ifs <;> exact h

theorem Dev.wf_eccFound (d : Dev) (w : Option Nat) : (d.eccFound m w).2.wf = true := by
  cases w with
  | none => exact h
  | some a => exact Dev.wf_eccReact h ..

theorem Dev.wf_scrubWord (d : Dev) (a : Nat) (double : Bool) (at1 : Bank1) : (d.scrubWord m a double at1).2.wf = true := by
  unfold Dev.scrubWord
  split
  · exact Dev.wf_eccReact h ..
  · exact h

/-! Galley units, the codec and the bands of a line (R341, R348, R353, R367, R374). -/

theorem Dev.wf_fillUnits (d : Dev) (p : GUnit → Bool) (bytes : List Byte) : (d.fillUnits m p bytes).wf = true := by
  refine List.foldlRecOn (motive := fun m : Mem => m.wf = true) _ _ h fun m hm u _ => ?_
  split
  · exact Mem.wf_writeBytes _ _ _ hm
  · exact hm

theorem Dev.wf_decoded (d : Dev) (q ten : Nat) (b : CBlock) (bpp : Nat) (r : DecRes) (p : GUnit → Bool) :
    (d.decoded m q ten b bpp r p).2.wf = true := by
  unfold Dev.decoded
  extract_lets
  split
  · exact Dev.wf_fillUnits h ..
  · exact h

theorem Dev.wf_decodeSheet (d : Dev) (b : CBlock) : (d.decodeSheet m b).2.wf = true := by
  unfold Dev.decodeSheet
  split
  · exact h
  · split
    · exact h
    · extract_lets
      split <;> exact Dev.wf_decoded h ..

theorem Dev.wf_decodeReceipt (d : Dev) (b : CBlock) : (d.decodeReceipt m b).2.wf = true := by
  unfold Dev.decodeReceipt
  split
  · exact h
  · split
    · exact h
    · split
      · exact h
      · extract_lets
        split <;> exact Dev.wf_decoded h ..

theorem Dev.wf_recode (d : Dev) (e : EncBlk) (blk : List Byte) (addr : Nat) : (d.recode m e blk addr).2.wf = true := by
  unfold Dev.recode
  split
  · exact h
  · split
    · exact h
    · extract_lets
      split
      · exact Mem.wf_writeBytes _ _ _ h
      · exact h

theorem Dev.wf_deadline (d : Dev) (s : Sheet) (b : Nat) (whole : Nat → Bool) : (d.deadline m s b whole).2.wf = true := by
  unfold Dev.deadline
  dsimp only
  split
  · exact h
  · split
    · exact Dev.wf_fillUnits h ..
    · exact h

theorem Dev.wf_decideBands (l : Int) (a : Armed) (n : Nat) (d : Dev) :
    (Dev.decideBands l a n d m).2.wf = true := by
  induction n generalizing d m with
  | zero => exact h
  | succ n ih =>
    unfold Dev.decideBands
    split
    · exact h
    · split
      · exact ih (Dev.wf_deadline h ..) _
      · exact h

theorem Dev.wf_bandsAt (d : Dev) (a : Armed) (l : Int) (late : Bool) : (d.bandsAt m a l late).2.wf = true := by
  have hdecided := Dev.wf_decideBands h l a 1025 d
  unfold Dev.bandsAt
  extract_lets
  split
  · exact hdecided
  · extract_lets
    split_ifs <;> exact hdecided

theorem Dev.wf_usedBd (d : Dev) (late : Bool) : (d.usedBd m late).2.wf = true :=
  foldl_wf (fun _ _ hx => Dev.wf_bandsAt hx ..) _ h

theorem Dev.wf_bd (d : Dev) (t : Nat) (synth late : Bool) : (d.bd m t synth late).2.wf = true := by
  unfold Dev.bd
  extract_lets
  split
  · exact Dev.wf_usedBd h ..
  · exact h

/-! Key slots, whose erasure aborts the FETCH_DECs that use them (R851, R857). -/

theorem Dev.wf_abortDec (d : Dev) (c : Nat) : (d.abortDec m c).2.wf = true := by
  unfold Dev.abortDec
  split
  · exact h
  · dsimp only
    exact Dev.wf_afterRetire (Dev.wf_retire h ..) ..

theorem Dev.wf_eraseSlot (d : Dev) (s : Nat) : (d.eraseSlot m s).2.wf = true := by
  unfold Dev.eraseSlot
  split
  · exact h
  · exact foldl_wf (fun _ _ hx => Dev.wf_abortDec hx ..) _ h

theorem Dev.wf_ownSlot (d : Dev) (s v : Nat) : (d.ownSlot m s v).2.wf = true := by
  unfold Dev.ownSlot
  extract_lets
  split
  · exact h
  · exact Dev.wf_eraseSlot h ..

/-! Register writes and resets that stop channels (R241, R309, R94). -/

theorem Dev.wf_enTo (d : Dev) (p : Nat) (on : Bool) : (d.enTo m p on).2.wf = true := by
  unfold Dev.enTo
  split
  · exact h
  · exact foldl_wf (fun _ _ hx => Dev.wf_stopCh hx ..) _ h

theorem Dev.wf_pgCtl (d : Dev) (p v : Nat) : (d.pgCtl m p v).2.wf = true := Dev.wf_enTo h ..

theorem Dev.wf_regWrite (d : Dev) (ag : Agent) (a v : Nat) : (d.regWrite m ag a v).2.wf = true := by
  unfold Dev.regWrite
  split
  · exact h
  · split
    · exact h
    · split
      · exact Dev.wf_pgCtl h ..
      · split <;> exact h

theorem Dev.wf_softRst (d : Dev) (p : Nat) : (d.softRst m p).2.wf = true := by
  unfold Dev.softRst
  dsimp only
  split
  · exact foldl_wf (fun _ _ hx => Dev.wf_ownSlot hx ..) _ h
  · exact h

theorem Dev.wf_resetOwned (d : Dev) (k : Nat) : (d.resetOwned m k).2.wf = true :=
  foldl_wf (fun _ _ hx => Dev.wf_eraseSlot hx ..) _ (foldl_wf (fun _ _ hx => Dev.wf_stopCh hx ..) _ h)

/-! The journal, the reports, the bundle and forms: NOR and the patch code area (R193, R775, R832, R945 to R951). -/

theorem Dev.wf_openSeg {d d' : Dev} {m' : Mem} (ho : d.openSeg m = some (d', m')) : m'.wf = true := by
  unfold Dev.openSeg at ho
  extract_lets at ho
  split at ho
  · nomatch ho
  · cases ho
    exact Mem.wf_program _ _ _ h

theorem Dev.wf_eraseSeg (d : Dev) (i : Nat) (fail : Bool) : (d.eraseSeg m i fail).2.wf = true := by
  have herased : (m.erase (d.segAddr i) 65536).wf = true := Mem.wf_erase _ _ _ h
  unfold Dev.eraseSeg
  extract_lets
  split
  · exact h
  · split <;> exact wf_snd_mk _ herased

theorem Dev.wf_writeRec (d : Dev) (typ : Nat) (body : List Byte) (fail : Bool) : (d.writeRec m typ body fail).2.1.wf = true := by
  unfold Dev.writeRec
  extract_lets _ room
  split
  · exact h
  next d1 m1 ho =>
    have hopen : m1.wf = true := by
      split at ho
      · cases ho
        exact h
      · exact Dev.wf_openSeg h ho
    extract_lets
    split
    · dsimp only
      exact Mem.wf_program _ _ _ hopen
    · dsimp only
      exact Mem.wf_program _ _ _ (Mem.wf_program _ _ _ hopen)

theorem Dev.wf_journalWrite (d : Dev) (rb : Bool) : (d.journalWrite m rb).2.wf = true := by
  unfold Dev.journalWrite
  split
  · exact h
  · exact Dev.wf_writeRec h ..

theorem Dev.wf_compact (d : Dev) (er : Bool) : (d.compact m er).2.wf = true := by
  unfold Dev.compact
  split
  · exact wf_snd_mk _ (Dev.wf_eraseSeg h ..)
  · split
    · exact h
    · generalize hcopy : List.foldl _ _ _ = copied
      have hcopied : copied.2.1.wf = true := by
        rw [← hcopy]
        refine List.foldlRecOn (motive := fun x : Dev × Mem × Bool => x.2.1.wf = true) _ _ h fun x hx r _ => ?_
        split
        · split
          · exact Dev.wf_writeRec hx ..
          · exact Mem.wf_program _ _ _ (Dev.wf_writeRec hx ..)
        · exact hx
      obtain ⟨d1, m1, ok⟩ := copied
      dsimp only at hcopied ⊢
      split
      · exact hcopied
      · exact wf_snd_mk _ (Dev.wf_eraseSeg hcopied ..)

theorem Dev.wf_runTask (d : Dev) (t : Nat) (rb er : Bool) : (d.runTask m t rb er).2.wf = true := by
  unfold Dev.runTask
  split
  · exact h
  · exact h
  · exact h
  · exact h
  · exact Dev.wf_journalWrite h ..
  · exact Dev.wf_compact h ..
  · split <;> exact h
  · exact h

theorem Dev.wf_pfReport (d : Dev) : (d.pfReport m).2.wf = true := by
  unfold Dev.pfReport
  split
  · exact h
  · exact Mem.wf_program _ _ _ h

theorem Dev.wf_bundleReject (d : Dev) (src step status : Nat) : (d.bundleReject m src step status).2.wf = true := by
  dsimp only [Dev.bundleReject]
  split
  · exact Mem.wf_writeBytes _ _ _ h
  · exact h

theorem Dev.wf_applyRecs {d d' : Dev} {m' : Mem} {rs : List BRec} (ha : d.applyRecs m rs = some (d', m')) : m'.wf = true := by
  unfold Dev.applyRecs at ha
  extract_lets at ha
  split at ha
  · obtain ⟨-, rfl⟩ := Prod.mk.inj (Option.some.inj ha)
    refine List.foldlRecOn (motive := fun m : Mem => m.wf = true) _ _ h fun m hm r _ => ?_
    split
    · exact Mem.wf_writeBytes _ _ _ hm
    · exact hm
  · nomatch ha

theorem Dev.wf_useBundle (d : Dev) (src : Nat) (b : List Byte) : (d.useBundle m src b).2.1.wf = true := by
  dsimp only [Dev.useBundle]
  split
  · dsimp only
    exact Dev.wf_bundleReject h ..
  · split
    · dsimp only
      exact Dev.wf_bundleReject h ..
    · split
      · dsimp only
        exact Dev.wf_bundleReject h ..
      next ha => exact Dev.wf_applyRecs h ha

theorem Dev.wf_formInstall (d : Dev) (k base : Nat) (p : FormPart) : (d.formInstall m k base p).2.wf = true :=
  Mem.wf_norFill _ _ _ h

end

/-! ### Commands that may write the memories keep their canonical form -/

/-- Taking a frame keeps the form where the frame's own effect does. -/
theorem runFrame_wf {op k : Nat} {sel : Frame → Bool} {form : Dev → Frame → Bool} {hold : Dev → Mem → Frame → Bool}
    {pre : Dev → Mem → Frame → Nat} {act : Frame → Dev → Mem → Dev × Mem}
    (hact : ∀ f d m, m.wf = true → (act f d m).2.wf = true) (d : Dev) (m : Mem) (h : m.wf = true) :
    (runFrame op sel form hold pre act k d m).2.wf = true := by
  unfold runFrame
  split
  · exact h
  · split
    · exact h
    · split_ifs
      · exact h
      · exact h
      · exact h
      · exact h
      · exact hact _ _ _ h

/-- Landing a write keeps the form where the write's own effect does. -/
theorem landAll_wf {l : Land} {sel : Nat → Word → Bool} {eff : Agent → Nat → Word → Dev → Mem → Dev × Mem}
    (heff : ∀ ag a v d m, m.wf = true → (eff ag a v d m).2.wf = true) (d : Dev) (m : Mem) (h : m.wf = true) :
    (landAll l sel eff d m).2.wf = true := by
  cases l with
  | fw a v =>
    dsimp only [landAll]
    split
    · split
      · exact heff _ _ _ _ _ h
      · exact h
    · exact h
  | tenant k ecc =>
    dsimp only [landAll]
    split
    · exact h
    · split
      · split
        · exact heff _ _ _ _ _ h
        · exact h
      · exact h

/-- The same for a row whose write takes effect only from the firmware. -/
theorem landFw_wf {l : Land} {sel : Nat → Word → Bool} {eff : Nat → Word → Dev → Mem → Dev × Mem}
    (heff : ∀ a v d m, m.wf = true → (eff a v d m).2.wf = true) (d : Dev) (m : Mem) (h : m.wf = true) :
    (landFw l sel eff d m).2.wf = true := by
  cases l with
  | fw a v =>
    dsimp only [landFw]
    split
    · split
      · exact heff _ _ _ _ h
      · exact h
    · exact h
  | tenant k ecc => exact h

theorem stopWrite_wf {l : Land} {sel : Nat → Word → Bool} {dropAll : Bool} (d : Dev) (m : Mem) (h : m.wf = true) :
    (stopWrite l sel dropAll d m).2.wf = true := by
  dsimp only [stopWrite]
  split
  · exact Dev.wf_stopCh h ..
  · exact h

section
variable {s t : State} (hs : s.memInv)
include hs

theorem memInv_of_data {k : Fin 8} {es : List Nat} (h : execData k es s = .next t) : t.memInv := by
  refine onAll_memInv (runFrame_wf fun f d m hm => ?_) hs h
  dsimp only
  split
  · exact hm
  · exact Stream.wf_write _ _ _ _ hm

theorem memInv_of_dataDma {k : Fin 8} {es : List Nat} (h : execDataDma k es s = .next t) : t.memInv := by
  refine onAll_memInv (runFrame_wf fun f d m hm => ?_) hs h
  dsimp only
  split
  · exact hm
  · exact Dev.wf_chainPost hm ..

theorem memInv_of_formProgramDone {k : Fin 8} {base : Nat} (h : execFormProgramDone k base s = .next t) : t.memInv := by
  refine onAll_memInv (fun d m hm => ?_) hs h
  dsimp only
  split
  · exact hm
  · split
    · exact hm
    · split_ifs
      · exact hm
      · exact hm
      · exact Dev.wf_formInstall hm ..
      · exact hm

theorem memInv_of_tenantResetDone {k : Fin 8} (h : execTenantResetDone k s = .next t) : t.memInv := by
  refine onAll_memInv (fun d m hm => ?_) hs h
  dsimp only
  split
  · exact wf_snd_mk _ (Dev.wf_resetOwned hm ..)
  · exact hm

theorem memInv_of_keyErase {k : Fin 8} (h : execKeyErase k s = .next t) : t.memInv :=
  onAll_memInv (runFrame_wf fun _ _ _ hm => wf_snd_mk _ (Dev.wf_eraseSlot hm ..)) hs h

theorem memInv_of_dmaPost {l : Land} (h : execDmaPost l s = .next t) : t.memInv := by
  refine onAll_memInv (landFw_wf fun a v d m hm => ?_) hs h
  dsimp only
  split
  · exact hm
  · exact Dev.wf_postDesc hm ..

theorem memInv_of_descriptorFetch {c : Fin 16} {ecc : Bool} (h : execDescriptorFetch c ecc s = .next t) : t.memInv := by
  refine onAll_memInv (fun d m hm => ?_) hs h
  extract_lets
  split
  · exact hm
  · split
    · exact hm
    · split
      · dsimp only
        exact Dev.wf_afterRetire (Dev.wf_retire hm ..) ..
      · split
        · dsimp only
          exact Dev.wf_afterRetire (Dev.wf_retire hm ..) ..
        · split
          · dsimp only
            exact Dev.wf_afterRetire (Dev.wf_retire hm ..) ..
          · split <;> exact wf_snd_mk _ hm

theorem memInv_of_descriptorRetire {c : Fin 16} {ack : Bool} (h : execDescriptorRetire c ack s = .next t) : t.memInv := by
  refine onAll_memInv (fun d m hm => ?_) hs h
  dsimp only
  split
  · exact hm
  · split
    · exact wf_snd_mk _ (Dev.wf_transferBad (Dev.wf_eccFound (Dev.wf_moveUpTo hm ..) ..) ..)
    · exact wf_snd_mk _ (Dev.wf_retireMoved hm ..)

theorem memInv_of_transferFail {c : Fin 16} {ecc : Bool} {off : Nat} (h : execTransferFail c ecc off s = .next t) : t.memInv := by
  refine onAll_memInv (fun d m hm => ?_) hs h
  dsimp only
  split
  · exact hm
  · split
    · exact hm
    · refine wf_snd_mk _ (Dev.wf_transferBad ?_ ..)
      split
      · exact Dev.wf_eccFound hm ..
      · exact hm

theorem memInv_of_portInTimeout {c : Fin 16} (h : execPortInTimeout c s = .next t) : t.memInv := by
  refine onAll_memInv (fun d m hm => ?_) hs h
  dsimp only
  split
  · exact hm
  next a _ =>
    have htaken := Dev.wf_portTake hm d c a
    split
    · exact hm
    · split
      · exact wf_snd_mk _ (Dev.wf_afterRetire (Dev.wf_retire htaken ..) ..)
      · exact wf_snd_mk _ htaken

theorem memInv_of_scrubBurst {found : List (Fin 8 × Bool)} {at1 : Bank1} (h : execScrubBurst found at1 s = .next t) : t.memInv := by
  refine onAll_memInv (fun d m hm => ?_) hs h
  dsimp only
  split
  · exact hm
  · generalize hscrub : List.foldl _ _ _ = scrubbed
    have hscrubbed : scrubbed.2.wf = true := by
      rw [← hscrub]
      refine foldl_wf (fun x i hx => ?_) _ hm
      split
      · exact Dev.wf_scrubWord hx ..
      · exact hx
    split <;> exact wf_snd_mk _ hscrubbed

theorem memInv_of_blockDecode (h : execBlockDecode s = .next t) : t.memInv := by
  refine onAll_memInv (fun d m hm => ?_) hs h
  dsimp only
  split
  · exact Dev.wf_decodeSheet hm ..
  · exact Dev.wf_decodeReceipt hm ..
  · exact hm

theorem memInv_of_blockEncode {addr : Nat} (h : execBlockEncode addr s = .next t) : t.memInv := by
  refine onAll_memInv (fun d m hm => ?_) hs h
  dsimp only
  split
  · exact hm
  · split
    · exact Mem.wf_writeBytes _ _ _ hm
    · exact Dev.wf_recode (Mem.wf_writeBytes _ _ _ hm) ..

theorem memInv_of_unitFree {u : Fin 96} (h : execUnitFree u s = .next t) : t.memInv := by
  refine onAll_memInv (fun d m hm => ?_) hs h
  extract_lets
  split
  · split
    · exact wf_snd_mk _ (Mem.wf_writeBytes _ _ _ hm)
    · exact hm
  · exact hm

theorem memInv_of_bdPulse {time width : Nat} {late : Bool} (h : execBdPulse time width late s = .next t) : t.memInv := by
  refine onAll_memInv (fun d m hm => ?_) hs h
  dsimp only
  split
  · exact wf_snd_mk _ (Dev.wf_bd hm ..)
  · exact hm

theorem memInv_of_bdWindowClose {late : Bool} (h : execBdWindowClose late s = .next t) : t.memInv := by
  refine onAll_memInv (fun d m hm => ?_) hs h
  dsimp only
  split
  · exact wf_snd_mk _ (Dev.wf_bd hm ..)
  · exact hm

theorem memInv_of_pfRecordWrite {fail : Bool} (h : execPfRecordWrite fail s = .next t) : t.memInv := by
  refine onAll_memInv (fun d m hm => ?_) hs h
  dsimp only
  split
  · exact wf_snd_mk _ (Dev.wf_writeRec hm ..)
  · exact hm

theorem memInv_of_bootReports (h : execBootReports s = .next t) : t.memInv := by
  refine onAll_memInv (fun d m hm => ?_) hs h
  extract_lets
  split
  · exact wf_snd_mk _ (Dev.wf_pfReport hm ..)
  · exact hm

theorem memInv_of_bundleDecide (h : execBundleDecide s = .next t) : t.memInv := by
  refine onAll_memInv (fun d m hm => ?_) hs h
  extract_lets _ _ _ _ _ pick
  split
  · exact hm
  · refine wf_snd_mk _ ?_
    clear_value pick
    cases pick with
    | none => exact hm
    | some bundle => exact Dev.wf_useBundle hm ..

theorem memInv_of_ksOwnWrite {l : Land} (h : execKsOwnWrite l s = .next t) : t.memInv :=
  onAll_memInv (landAll_wf fun _ _ _ _ _ hm => foldl_wf (fun _ _ hx => Dev.wf_ownSlot hx ..) _ hm) hs h

theorem memInv_of_ksErase {l : Land} (h : execKsErase l s = .next t) : t.memInv := by
  refine onAll_memInv (landAll_wf fun _ _ v _ _ hm => foldl_wf (fun x slot hx => ?_) _ hm) hs h
  split
  · exact Dev.wf_eraseSlot hx ..
  · exact hx

theorem memInv_of_freeze {l : Land} (h : execFreeze l s = .next t) : t.memInv := by
  refine onAll_memInv (landAll_wf fun _ a v d m hm => ?_) hs h
  split
  · exact Dev.wf_pgCtl hm ..
  · exact hm

theorem memInv_of_shadowCommit {l : Land} (h : execShadowCommit l s = .next t) : t.memInv := by
  refine onAll_memInv (landAll_wf fun _ a v d m hm => ?_) hs h
  split
  · exact Dev.wf_pgCtl hm ..
  · exact hm

theorem memInv_of_softRst {l : Land} (h : execSoftRst l s = .next t) : t.memInv := by
  refine onAll_memInv (landAll_wf fun _ a v d m hm => ?_) hs h
  split
  · exact Dev.wf_softRst hm ..
  · exact hm

theorem memInv_of_registerWrite {l : Land} (h : execRegisterWrite l s = .next t) : t.memInv :=
  onAll_memInv (landAll_wf fun _ _ _ _ _ hm => Dev.wf_regWrite hm ..) hs h

theorem memInv_of_taskSlice {rb er : Bool} (h : execTaskSlice rb er s = .next t) : t.memInv := by
  refine onAll_memInv (fun d m hm => ?_) hs h
  extract_lets
  split
  · exact hm
  · split
    · exact hm
    · exact wf_snd_mk _ (Dev.wf_runTask hm ..)

theorem memInv_of_norSequenceEnd {op : NorOp} (h : execNorSequenceEnd op s = .next t) : t.memInv := by
  refine onAll_memInv (fun d m hm => ?_) hs h
  dsimp only
  split
  · exact hm
  · cases op with
    | program => exact Mem.wf_program _ _ _ hm
    | erase n => exact Mem.wf_erase _ _ _ hm
    | other => exact hm

/-- Every command keeps the form: one that may write memories by the lemma of its row, any other because it leaves every byte. -/
theorem exec_memInv (c : Instr) (h : exec c s = .next t) : t.memInv := by
  by_cases hc : cmdMayWrite c = false
  · have hmem := (otherCommandsLeaveEveryByte c s t hc h).1
    rw [State.memInv, hmem]
    exact hs
  · cases c
    case tenantResetDone => exact memInv_of_tenantResetDone hs h
    case data => exact memInv_of_data hs h
    case dataDma => exact memInv_of_dataDma hs h
    case formProgramDone => exact memInv_of_formProgramDone hs h
    case keyErase => exact memInv_of_keyErase hs h
    case registerWrite => exact memInv_of_registerWrite hs h
    case softRst => exact memInv_of_softRst hs h
    case freeze => exact memInv_of_freeze hs h
    case shadowCommit => exact memInv_of_shadowCommit hs h
    case dmaPost => exact memInv_of_dmaPost hs h
    case descriptorFetch => exact memInv_of_descriptorFetch hs h
    case descriptorRetire => exact memInv_of_descriptorRetire hs h
    case transferFail => exact memInv_of_transferFail hs h
    case portInTimeout => exact memInv_of_portInTimeout hs h
    case dmaAbort | channelDisable => exact onAll_memInv stopWrite_wf hs h
    case scrubBurst => exact memInv_of_scrubBurst hs h
    case blockDecode => exact memInv_of_blockDecode hs h
    case blockEncode => exact memInv_of_blockEncode hs h
    case unitFree => exact memInv_of_unitFree hs h
    case bdPulse => exact memInv_of_bdPulse hs h
    case bdWindowClose => exact memInv_of_bdWindowClose hs h
    case pfRecordWrite => exact memInv_of_pfRecordWrite hs h
    case bootReports => exact memInv_of_bootReports hs h
    case bundleDecide => exact memInv_of_bundleDecide hs h
    case ksOwnWrite => exact memInv_of_ksOwnWrite hs h
    case ksErase => exact memInv_of_ksErase hs h
    case taskSlice => exact memInv_of_taskSlice hs h
    case norSequenceEnd => exact memInv_of_norSequenceEnd hs h
    all_goals exact absurd rfl hc

end

/-! ### Steps keep the canonical form -/

/-- Settles O41: a tick of the idle block leaves the memories alone, and a command keeps their form by `exec_memInv`. -/
theorem everyStepKeepsTheMemoriesInForm : Obligations.EveryStepKeepsTheMemoriesInForm := by
  intro s t hs h
  cases hq : s.pending with
  | nil =>
    rw [step_idle hq] at h
    rw [← Host.Outcome.next.inj h]
    exact hs
  | cons c q =>
    have hfront : exec c { s with pending := q } = .next t := by
      rw [← h, ← step_cons, ← hq]
    exact exec_memInv (s := { s with pending := q }) hs c hfront

/-! ### XSPI sequences (R279, R280) -/

/-- A firmware write that no check refuses is granted. -/
theorem Dev.granted_fw {d : Dev} {a : Nat} {v : Word} (hok : d.fwRefuse a = 0) : d.granted (.fw a v) = some (.fw, a, v, d) :=
  if_pos hok

theorem exec_xspiCmdGo_fw {s : State} {a : Nat} {v : Word} (hok : s.dev.fwRefuse a = 0) (ha : a = Reg.XSPI_CMD_CTL)
    (hgo : bit v.toNat 16 = true) :
    exec (.xspiCmdGo (.fw a v)) s = .next (s.withDev { (s.dev.store a v.toNat).fwHold 0x18 with norBusy := 1 }) := by
  change execXspiCmdGo (.fw a v) s = _
  rw [execXspiCmdGo, onDev_land_granted (Dev.granted_fw hok) (by rw [ha, hgo]; rfl)]

theorem exec_norSuspend_running {s : State} (hcan : s.dev.flag Reg.XSPI_STAT_SUSPEND = true) (hrun : s.dev.norBusy = 1) :
    exec .norSuspend s = .next (s.withDev { s.dev with norBusy := 2 }) := by
  change execNorSuspend s = _
  exact onDev_when (p := fun d => d.flag Reg.XSPI_STAT_SUSPEND && d.norBusy == 1) (by rw [hcan, hrun]; rfl)

/-! ### The scrubber (R928, R929, R930) -/

section
variable {s : State} (at1 : Bank1) (hon : s.dev.devState ≠ DevSt.off) (hup : s.dev.devState ≠ DevSt.tripped) (hclean : s.dev.ecc = [])
include hon hup hclean

/-- A burst that meets no flipped bit only moves on, at the end of SRAM to its start. -/
theorem exec_scrubBurst_clean :
    exec (.scrubBurst [] at1) s = .next (s.withDev
      (if s.dev.reg Reg.BG_SCRUB_POS + 64 < 0x20200000 then s.dev.setReg Reg.BG_SCRUB_POS (s.dev.reg Reg.BG_SCRUB_POS + 64)
      else ((s.dev.setReg Reg.BG_SCRUB_POS 0x20000000).addWrap Reg.BG_SCRUB_PASSES 1).fire 0x3D 0 0)) := by
  change execScrubBurst [] at1 s = _
  simp only [execScrubBurst, onAll_next, hon, hup, hclean, or_self, if_false, List.any_nil, Bool.or_self, Bool.false_eq_true,
    List.foldl_fixed]
  split <;> rfl

end

/-! ### The band codec (R338, R341, R344, R345, R348, R350) -/

theorem exec_blockDecode_sheet {s : State} {b : CBlock} {rest : List CBlock} (hq : s.dev.codec.q0 = b :: rest) :
    exec .blockDecode s = .next (s.withBoth (Dev.decodeSheet
      { s.dev.boundary 0x1C with codec := { s.dev.codec with q0 := rest, suspended := s.dev.codec.suspended && ! rest.isEmpty } } s.mem b)) := by
  change execBlockDecode s = _
  simp only [execBlockDecode, onAll_next, hq, State.withBoth]

theorem exec_blockDecode_receipt {s : State} {b : CBlock} {rest : List CBlock} (hnone : s.dev.codec.q0 = [])
    (hq : s.dev.codec.q1 = b :: rest) :
    exec .blockDecode s = .next (s.withBoth (Dev.decodeReceipt
      { s.dev.boundary 0x1C with codec := { s.dev.codec with q1 := rest, suspended := false } } s.mem b)) := by
  change execBlockDecode s = _
  simp only [execBlockDecode, onAll_next, hnone, hq, State.withBoth]

theorem exec_decodeSuspend_both {s : State} (h0 : s.dev.codec.q0 ≠ []) (h1 : s.dev.codec.q1 ≠ []) :
    exec .decodeSuspend s = .next (s.withDev { s.dev with codec := { s.dev.codec with suspended := true } }) := by
  change execDecodeSuspend s = _
  exact onDev_when (p := fun d => ! d.codec.q0.isEmpty && ! d.codec.q1.isEmpty) (by simp [h0, h1])

theorem exec_blockEncode_form {s : State} (addr : Nat) {e : EncBlk} {rest : List EncBlk} (hq : s.dev.codec.q2 = e :: rest)
    (hform : e.form = true) :
    let d : Dev := { s.dev.boundary 0x1C with codec := { s.dev.codec with q2 := rest } }
    let r := encodeBlock d.effort e.width e.bpp e.bandH e.lines e.band e.raster
    let d1 := d.addWrap Reg.ENC_COUNT_BLOCKS 1
    let d2 := if r.2 then d1.addWrap Reg.ENC_COUNT_RAW_FALLBACK 1 else d1
    let d3 := (d2.fireT 0x1C 1 e.ten 0).sramWritten stagingBase r.1.length
    exec (.blockEncode addr) s = .next (s.withBoth (d3.modTen e.ten (fun t => { t with formParts := t.formParts.map (fun p =>
      if p.id = e.job ∧ p.last then { p with blocks := p.blocks ++ [r.1] } else p) }), s.mem.writeBytes stagingBase r.1)) := by
  change execBlockEncode addr s = _
  simp only [execBlockEncode, onAll_next, hq, hform, if_true, State.withBoth]

/-! ### Galley units (R367) -/

section
variable {s : State} {u : Fin 96} (hrel : (s.dev.unit u.val).state = .releasing)
include hrel

theorem exec_unitFree_kept (hzero : s.dev.flag Reg.GAL_CFG_ZERO_REL = false) :
    exec (.unitFree u) s = .next (s.withDev { s.dev with units := lmod s.dev.units u.val (fun _ => GUnit.reset) }) := by
  change execUnitFree u s = _
  simp only [execUnitFree, onAll_next, hrel, hzero, Bool.false_eq_true, if_true, if_false, State.withDev]

theorem exec_unitFree_zeroed (hzero : s.dev.flag Reg.GAL_CFG_ZERO_REL = true) :
    exec (.unitFree u) s = .next (s.withBoth
      ({ s.dev with
          units := lmod s.dev.units u.val (fun _ => GUnit.reset),
          ecc := s.dev.ecc.filter (fun e => ! (unitAddr u.val ≤ e.1 && e.1 < unitAddr u.val + 0x4000)) },
       s.mem.writeBytes (unitAddr u.val) (zeros 16384))) := by
  change execUnitFree u s = _
  simp only [execUnitFree, onAll_next, hrel, hzero, if_true, State.withBoth]

end

/-- Settles O15: each clause is the lemma of its row. -/
theorem memoryAndCodecCommandsTakeEffect : Obligations.MemoryAndCodecCommandsTakeEffect := by
  refine ⟨fun s a v => exec_xspiCmdGo_fw, fun s => exec_norSuspend_running, ?within, ?wrap, fun s b rest => exec_blockDecode_sheet,
    fun s b rest => exec_blockDecode_receipt, fun s => exec_decodeSuspend_both, fun s addr e rest => exec_blockEncode_form addr,
    fun s u => exec_unitFree_kept, fun s u => exec_unitFree_zeroed⟩
  case within =>
    intro s at1 hon hup hclean hpos
    rw [exec_scrubBurst_clean at1 hon hup hclean, if_pos hpos]
  case wrap =>
    intro s at1 hon hup hclean hpos
    rw [exec_scrubBurst_clean at1 hon hup hclean, if_neg (Nat.not_lt.mpr hpos)]

end Sys2Proof.Machine

/-! # Proofs of the statements of spec/07_band_codec.md

A block header reads back as it was written, and a raw block passes every check of the decoder. -/

namespace Sys2Proof.Machine

/-! ### Little-endian byte strings (R1) -/

theorem leNat_leBytes (n x : Nat) : leNat (leBytes n x) = x % 256 ^ n := by
  induction n generalizing x with
  | zero => simp [leBytes, leNat, Nat.mod_one]
  | succ n ih => rw [leBytes, leNat, ih, BitVec.toNat_ofNat, pow_succ' 256, Nat.mod_mul]

theorem leAt_leBytes_append (n x : Nat) (post : List Byte) : leAt (leBytes n x ++ post) 0 n = x % 256 ^ n := by
  rw [leAt, List.drop_zero, List.take_left' (leBytes_length n x), leNat_leBytes]

/-- A read behind the first field of a byte string is a read of the rest. -/
theorem leAt_append_right {pre : List Byte} (post : List Byte) {i : Nat} (n : Nat) (h : pre.length ≤ i) :
    leAt (pre ++ post) i n = leAt post (i - pre.length) n := by
  rw [leAt, leAt, List.drop_append, List.drop_eq_nil_of_le h, List.nil_append]

theorem byteAt_eq_leAt (bs : List Byte) (i : Nat) : byteAt bs i = leAt bs i 1 := by
  rw [byteAt, leAt, List.getD_eq_getElem?_getD, ← List.head?_drop]
  cases bs.drop i with
  | nil => rfl
  | cons b rest => simp [leNat]

/-! ### The range of CRC-32C (R110) -/

theorem crc32cBit_lt {c : Nat} (h : c < 2 ^ 32) : crc32cBit c < 2 ^ 32 := by
  unfold crc32cBit
  split
  · exact Nat.xor_lt_two_pow (by omega) (by decide)
  · omega

theorem crc32cByte_lt {c : Nat} (b : Byte) (h : c < 2 ^ 32) : crc32cByte c b < 2 ^ 32 := by
  have hx : c ^^^ b.toNat < 2 ^ 32 := Nat.xor_lt_two_pow h (by have := b.isLt; omega)
  unfold crc32cByte
  iterate 8 apply crc32cBit_lt
  exact hx

theorem crc32c_lt (bs : List Byte) : crc32c bs < 2 ^ 32 := by
  have hfold : bs.foldl crc32cByte 0xFFFFFFFF < 2 ^ 32 :=
    List.foldlRecOn (motive := (· < 2 ^ 32)) bs crc32cByte (by decide) fun _ h b _ => crc32cByte_lt b h
  exact Nat.xor_lt_two_pow hfold (by decide)

/-! ### Block headers (R318, R319, Table 7-1) -/

/-- The MODE byte of a header. -/
def hdrMode (coding bppCode bandH : Nat) (dyn : Bool) : Nat := coding + 4 * bppCode + 16 * bandH + 64 * b2n dyn

/-- The 28 bytes that HCRC covers, field by field. -/
def hdrBody (coding bppCode bandH : Nat) (dyn : Bool) (width lines band plen outlen pcrc : Nat) : List Byte :=
  leBytes 1 0xEB ++ (leBytes 1 1 ++ (leBytes 1 (hdrMode coding bppCode bandH dyn) ++ (leBytes 1 0 ++ (leBytes 2 width ++
    (leBytes 2 lines ++ (leBytes 2 band ++ (leBytes 2 0 ++ (leBytes 4 plen ++ (leBytes 4 outlen ++ (leBytes 4 pcrc ++
      leBytes 4 0))))))))))

section
variable (coding bppCode bandH : Nat) (dyn : Bool) (width lines band plen outlen pcrc : Nat)

@[simp] theorem hdrBody_length : (hdrBody coding bppCode bandH dyn width lines band plen outlen pcrc).length = 28 := by
  simp [hdrBody]

theorem hdrBytes_eq_body_hcrc :
    hdrBytes coding bppCode bandH dyn width lines band plen outlen pcrc =
      hdrBody coding bppCode bandH dyn width lines band plen outlen pcrc ++
        leBytes 4 (crc32c (hdrBody coding bppCode bandH dyn width lines band plen outlen pcrc)) := by
  have hbody : leBytes 2 (0xEB + 0x01 * 256) ++ [BitVec.ofNat 8 (hdrMode coding bppCode bandH dyn), 0] ++
      leBytes 2 width ++ leBytes 2 lines ++ leBytes 2 band ++ zeros 2 ++ leBytes 4 plen ++ leBytes 4 outlen ++
      leBytes 4 pcrc ++ zeros 4 = hdrBody coding bppCode bandH dyn width lines band plen outlen pcrc := by
    simp only [hdrBody, List.append_assoc]
    rfl
  simp only [hdrBytes]
  rw [← hbody]
  rfl

@[simp] theorem hdrBytes_length : (hdrBytes coding bppCode bandH dyn width lines band plen outlen pcrc).length = 32 := by
  simp [hdrBytes_eq_body_hcrc]

/-- HCRC of a written header matches, whatever follows it. -/
theorem hdrCrcOk_hdrBytes (payload : List Byte) :
    hdrCrcOk (hdrBytes coding bppCode bandH dyn width lines band plen outlen pcrc ++ payload) = true := by
  rw [hdrBytes_eq_body_hcrc]
  generalize hb : hdrBody coding bppCode bandH dyn width lines band plen outlen pcrc = body
  have hlen : body.length = 28 := by simp [← hb]
  have hcrc : leAt (body ++ (leBytes 4 (crc32c body) ++ payload)) 28 4 = crc32c body := by
    rw [leAt_append_right _ _ hlen.le, hlen, leAt_leBytes_append]
    exact Nat.mod_eq_of_lt (crc32c_lt body)
  rw [hdrCrcOk, List.append_assoc, hcrc, List.take_left' hlen]
  simp [hlen]
  omega

end

section
variable {coding bppCode bandH : Nat} (dyn : Bool) (hcod : coding < 4) (hbpp : bppCode < 4) (hbh : bandH < 4)
include hcod hbpp hbh

theorem hdrMode_fields :
    let m := hdrMode coding bppCode bandH dyn
    m < 128 ∧ m % 4 = coding ∧ bitsOf m 2 2 = bppCode ∧ bitsOf m 4 2 = bandH ∧ bit m 6 = dyn ∧ bit m 7 = false := by
  cases dyn <;> simp [hdrMode, bitsOf, bit, b2n, Nat.shiftRight_eq_div_pow] <;> omega

/-- A header reads back as the fields it was written from, whatever follows it, with every reserved bit 0. -/
theorem parseHdr_hdrBytes {width lines band plen outlen pcrc : Nat} (hwidth : width < 65536) (hlines : lines < 65536)
    (hband : band < 65536) (hplen : plen < 2 ^ 32) (hout : outlen < 2 ^ 32) (hpcrc : pcrc < 2 ^ 32) (payload : List Byte) :
    parseHdr (hdrBytes coding bppCode bandH dyn width lines band plen outlen pcrc ++ payload) =
      ⟨0xEB, 1, coding, bppCode, bandH, dyn, true, width, lines, band, plen, outlen, pcrc⟩ := by
  obtain ⟨hm, hmcod, hmbpp, hmbh, hmdyn, hmres⟩ := hdrMode_fields dyn hcod hbpp hbh
  have hmode : hdrMode coding bppCode bandH dyn % 256 = hdrMode coding bppCode bandH dyn := Nat.mod_eq_of_lt (by omega)
  have h16 {x : Nat} (h : x < 65536) : x % 256 ^ 2 = x := Nat.mod_eq_of_lt h
  have h32 {x : Nat} (h : x < 2 ^ 32) : x % 256 ^ 4 = x := Nat.mod_eq_of_lt h
  rw [hdrBytes_eq_body_hcrc, parseHdr, hdrBody]
  simp [byteAt_eq_leAt, leAt_append_right, leAt_leBytes_append, -Nat.reducePow, h16 hwidth, h16 hlines, h16 hband, h32 hplen,
    h32 hout, h32 hpcrc, hmode, hmcod, hmbpp, hmbh, hmdyn, hmres]

end

/-! ### Raw blocks (R321, R338, R348, Table 7-6) -/

theorem encodeBlock_raw (width bpp bandH lines band : Nat) (raster : List Byte) :
    (encodeBlock 0 width bpp bandH lines band raster).1 =
      hdrBytes 0 bpp.log2 bandH false width lines band raster.length raster.length (crc32c raster) ++ raster := by
  simp [encodeBlock]

/-- The BPP code of 1, 2 or 4 bits per pixel is one of the three that R321 allows, and names that many. -/
theorem bppCode_valid {bpp : Nat} (h : bpp = 1 ∨ bpp = 2 ∨ bpp = 4) : bpp.log2 < 3 ∧ bppOf bpp.log2 = bpp := by
  rcases h with rfl | rfl | rfl <;> decide

/-- A block whose header is that of a raw raster within the decoder's limits passes steps 1 to 7 of Table 7-6. -/
theorem checkHdr_raw {c : DecCtx} {blk : List Byte} {bppCode pcrc n : Nat} (hcrc : hdrCrcOk blk = true)
    (hhdr : parseHdr blk = ⟨0xEB, 1, 0, bppCode, c.bandH, false, true, c.width, c.lines, c.band, n, n, pcrc⟩)
    (hcode : bppCode < 3) (hbpp : bppOf bppCode = c.bpp) (hany : c.anyLines = false) (hlen : n = c.width * c.bpp / 8 * c.lines)
    (hroom : n ≤ c.room) (hmax : n ≤ c.outMax) (hgiven : c.given = 32 + n) : checkHdr c blk = none := by
  have hvalid : hdrValid (parseHdr blk) = true := by simp [hhdr, hdrValid]; omega
  have hfit : ¬ (c.outMax < n ∨ c.room < n) := by omega
  simp only [checkHdr, hcrc, hvalid, hgiven]
  simp [hhdr, hbpp, hany, ← hlen, hfit]

/-- A block that passes steps 1 to 7, is raw and carries its payload's checksum decodes to the payload's pixels. -/
theorem decodeBlock_raw {c : DecCtx} {blk : List Byte} (hchk : checkHdr c blk = none) (hraw : (parseHdr blk).coding = 0)
    (hpcrc : crc32c ((blk.drop 32).take (parseHdr blk).plen) = (parseHdr blk).pcrc) :
    decodeBlock c blk = ⟨St.ok, 0, 32 + ((parseHdr blk).outlen + 3) / 4,
      (unpackPixels c.bpp ((blk.drop 32).take (parseHdr blk).plen)).toArray⟩ := by
  simp [decodeBlock, hchk, hraw, hpcrc]

/-- Settles O58: the encoder's raw block reads back as the fields it was written from, which pass every check. -/
theorem aRawBlockDecodesToItsRaster : Obligations.ARawBlockDecodesToItsRaster := by
  intro bpp bh width lines band raster c hbpp hbh hwidth hlines hband hlen hlen32 hcband hcwidth hcbpp hcbh hclines hany hroom
    hmax hgiven
  subst hcband hcwidth hcbpp hcbh hclines
  obtain ⟨hcode, hbppOf⟩ := bppCode_valid hbpp
  rw [encodeBlock_raw]
  have hcrc := hdrCrcOk_hdrBytes 0 c.bpp.log2 c.bandH false c.width c.lines c.band raster.length raster.length (crc32c raster) raster
  have hhdr := parseHdr_hdrBytes false (by decide : 0 < 4) (by omega : c.bpp.log2 < 4) hbh hwidth hlines hband hlen32 hlen32
    (crc32c_lt raster) raster
  have hpay : ((hdrBytes 0 c.bpp.log2 c.bandH false c.width c.lines c.band raster.length raster.length (crc32c raster) ++
      raster).drop 32).take raster.length = raster := by
    rw [List.drop_left' (hdrBytes_length ..), List.take_length]
  have hchk := checkHdr_raw hcrc hhdr hcode hbppOf hany hlen hroom hmax hgiven
  rw [decodeBlock_raw hchk (by rw [hhdr]) (by rw [hhdr, hpay]), hhdr, hpay]

end Sys2Proof.Machine

/-! # Proofs of the statements of spec/09_kestrel.md

The control registers, the control-store window and the timers of the two microsequencers. -/

namespace Sys2Proof.Machine

/-! ### Registers that each sequencer has one of (R405, R415) -/

/-- A row's test "the register of SCAN or of LINE" selects the register of either sequencer. -/
theorem selectsInstance (r : Nat → Nat) (i : Fin 2) : (r i.val == r 0 || r i.val == r 1) = true := by
  fin_cases i <;> simp

theorem instOf_instance {r : Nat → Nat} (hne : r 1 ≠ r 0) (i : Fin 2) : instOf r (r i.val) = i.val := by
  fin_cases i <;> simp [instOf, hne]

@[simp] theorem instOf_seqCtl (i : Fin 2) : instOf Reg.SEQ_CTL (Reg.SEQ_CTL i.val) = i.val := instOf_instance (by decide) i

@[simp] theorem instOf_csCmd (i : Fin 2) : instOf Reg.CS_CMD (Reg.CS_CMD i.val) = i.val := instOf_instance (by decide) i

/-! ### Timers and the watchdog (R395, R404) -/

theorem exec_timerExpire (s : State) (i : Fin 2) (n : Fin 4) :
    exec (.timerExpire i n) s = .next (s.withDev
      (s.dev.modSeq i.val (fun q => { q with tm := lmod q.tm n.val (fun x => if x.2 then (0, true) else x) }))) := by
  change execTimerExpire i n s = _
  rw [execTimerExpire, onDev_next, State.withDev]

theorem exec_waitWatchdog_waiting {s : State} {i : Fin 2} (hwait : s.dev.get (Reg.SEQ_STAT_STATE i.val) = 2)
    (hmax : s.dev.get (Reg.SEQ_WDOG_WAIT_MAX i.val) ≠ 0) :
    exec (.waitWatchdog i) s = .next (s.withDev (s.dev.seqFault i.val 6)) := by
  change execWaitWatchdog i s = _
  exact onDev_when (f := fun _ d => d.seqFault i.val 6)
    (p := fun d => d.get (Reg.SEQ_STAT_STATE i.val) == 2 && d.get (Reg.SEQ_WDOG_WAIT_MAX i.val) != 0)
    (by rw [hwait, bne_iff_ne.mpr hmax]; rfl)

/-! ### Granted writes of SEQ_CTL, CS_CMD and CS_CRC_CTL (R405 to R408, R414 to R419) -/

section
variable {s : State} {l : Land} {ag : Agent} {a : Nat} {v : Word} {d : Dev} {i : Fin 2}
  (hg : s.dev.granted l = some (ag, a, v, d))
include hg

theorem exec_seqGo_granted (ha : a = Reg.SEQ_CTL i.val) (hgo : bit v.toNat 4 = true) (hhalt : bit v.toNat 5 = false) :
    exec (.seqGo l) s = .next (s.withDev (d.seqGo i.val (v.toNat % 16))) := by
  subst ha
  change execSeqGo l s = _
  rw [execSeqGo, onDev_land_granted hg (by rw [selectsInstance, hgo, hhalt]; rfl), instOf_seqCtl]

theorem exec_seqHalt_granted (ha : a = Reg.SEQ_CTL i.val) (hhalt : bit v.toNat 5 = true) :
    exec (.seqHalt l) s =
      .next (s.withDev ((d.set (Reg.SEQ_CTL_ENTRY i.val) (v.toNat % 16)).seqHalt i.val)) := by
  subst ha
  change execSeqHalt l s = _
  rw [execSeqHalt, onDev_land_granted hg (by rw [selectsInstance, hhalt]; rfl), instOf_seqCtl]

section
variable (ha : a = Reg.CS_CMD i.val) (hin : d.get (Reg.CS_ADDR_ADDR i.val) < storeSize i.val)
include ha hin

/-- WRITE at an address of the store: refused while the sequencer or a CRC pass runs, else the word is written; CS_ADDR moves on
either way. -/
theorem exec_csCmdWrite_inStore (hwr : bit v.toNat 0 = true) :
    exec (.csCmdWrite l) s = .next (s.withDev
      (if d.seqRuns i.val || d.flag (Reg.CS_CRC_CTL_CRC_GO i.val) then (d.set (Reg.CS_STAT_WR_REFUSED i.val) 1).csInc i.val
      else (d.setWord i.val (d.get (Reg.CS_ADDR_ADDR i.val))
        (d.reg (Reg.CS_DATA0 i.val) + 2 ^ 32 * d.reg (Reg.CS_DATA1 i.val) + 2 ^ 64 * d.reg (Reg.CS_DATA2 i.val))).csInc i.val)) := by
  subst ha
  change execCsCmdWrite l s = _
  rw [execCsCmdWrite, onDev_land_granted hg (by rw [selectsInstance, hwr]; rfl)]
  simp only [instOf_csCmd, if_neg (Nat.not_le.mpr hin)]

theorem exec_csCmdWrite_stopped (hwr : bit v.toNat 0 = true) (hstop : d.seqRuns i.val = false)
    (hcrc : d.flag (Reg.CS_CRC_CTL_CRC_GO i.val) = false) :
    exec (.csCmdWrite l) s = .next (s.withDev ((d.setWord i.val (d.get (Reg.CS_ADDR_ADDR i.val))
      (d.reg (Reg.CS_DATA0 i.val) + 2 ^ 32 * d.reg (Reg.CS_DATA1 i.val) + 2 ^ 64 * d.reg (Reg.CS_DATA2 i.val))).csInc i.val)) := by
  rw [exec_csCmdWrite_inStore hg ha hin hwr, if_neg (by rw [hstop, hcrc]; decide)]

theorem exec_csCmdWrite_running (hwr : bit v.toNat 0 = true) (hrun : d.seqRuns i.val = true) :
    exec (.csCmdWrite l) s = .next (s.withDev ((d.set (Reg.CS_STAT_WR_REFUSED i.val) 1).csInc i.val)) := by
  rw [exec_csCmdWrite_inStore hg ha hin hwr, if_pos (by rw [hrun]; rfl)]

/-- READ of a word without an uncorrectable error gives it to the three data registers. -/
theorem exec_csCmdRead_ok (hrd : bit v.toNat 1 = true) (hwr : bit v.toNat 0 = false) :
    let w := d.word i.val (d.get (Reg.CS_ADDR_ADDR i.val))
    exec (.csCmdRead l .ok) s = .next (s.withDev ((((d.setReg (Reg.CS_DATA0 i.val) (bitsOf w 0 32)).setReg (Reg.CS_DATA1 i.val)
      (bitsOf w 32 32)).setReg (Reg.CS_DATA2 i.val) (bitsOf w 64 32)).csInc i.val)) := by
  subst ha
  change execCsCmdRead l .ok s = _
  rw [execCsCmdRead, onDev_land_granted hg (by rw [selectsInstance, hrd, hwr]; rfl)]
  simp only [instOf_csCmd, if_neg (Nat.not_le.mpr hin)]

end

theorem exec_crcGo_granted (ha : a = Reg.CS_CRC_CTL i.val) (hgo : bit v.toNat 0 = true) :
    exec (.crcGo l) s = .next (s.withDev (d.store a v.toNat)) := by
  change execCrcGo l s = _
  rw [execCrcGo, onDev_land_granted hg (by rw [ha, selectsInstance, hgo]; rfl)]

end

/-! ### The end of a CRC pass (R418, R419, R936) -/

@[simp] theorem Dev.word_set (d : Dev) (f : Fld) (v i a : Nat) : (d.set f v).word i a = d.word i a := rfl

/-- A pass that met no uncorrectable word gives the CRC-32C of words 0 to CRC_LAST. -/
theorem exec_crcDone_clean {s : State} {i : Fin 2} (hgo : s.dev.flag (Reg.CS_CRC_CTL_CRC_GO i.val) = true) :
    let last := min (s.dev.get (Reg.CS_CRC_CTL_CRC_LAST i.val)) (storeSize i.val - 1)
    let d := s.dev.set (Reg.CS_CRC_CTL_CRC_GO i.val) 0
    exec (.crcDone i []) s = .next (s.withDev ((d.setReg (Reg.CS_CRC i.val)
      (crc32c ((List.range (last + 1)).flatMap (fun a => leBytes 12 (d.word i.val a))))).storeJudge i.val
        (last + 1 == storeSize i.val) false)) := by
  intro last d
  change execCrcDone i [] s = _
  rw [execCrcDone, onDev_next, when_true hgo]
  simp only [d, last, List.filter_nil, List.foldl_nil, if_true, List.isEmpty_nil, Bool.not_true, Dev.word_set, State.withDev]

/-- Settles O19: each clause is the lemma of its row. -/
theorem sequencerCommandsTakeEffect : Obligations.SequencerCommandsTakeEffect := by
  refine ⟨exec_timerExpire, fun _ _ => exec_waitWatchdog_waiting, fun _ _ _ _ _ _ _ => exec_seqGo_granted,
    fun _ _ _ _ _ _ _ => exec_seqHalt_granted, ?write, ?read, fun _ _ _ _ _ _ _ => exec_crcGo_granted,
    fun _ _ => exec_crcDone_clean⟩
  case write =>
    intro s l ag a v d i hg ha hwr hin
    exact ⟨exec_csCmdWrite_stopped hg ha hin hwr, exec_csCmdWrite_running hg ha hin hwr⟩
  case read =>
    intro s l ag a v d i hg ha hrd hwr hin
    exact exec_csCmdRead_ok hg ha hin hrd hwr

end Sys2Proof.Machine

/-! # Proofs of the statements of spec/10_scan_video.md

Beam detects and their window, the arming of a sheet, the lock of the pixel clock and the line buffers. -/

namespace Sys2Proof.Machine

/-! ### Beam detects (R429, R432, R433, R435, R441) -/

theorem exec_bdPulse_qualified {s : State} {t width : Nat} (late : Bool) (hok : s.dev.pulseOk t width = true) :
    let r := (s.dev.set Reg.BD_STAT_MISS_RUN 0).bd s.mem t false late
    exec (.bdPulse t width late) s = .next (s.withBoth (r.1.bdFuse r.1.facet ((t : Int) - r.1.facetOfs r.1.facet), r.2)) := by
  change execBdPulse t width late s = _
  simp only [execBdPulse, onAll_next, if_pos hok, State.withBoth]

theorem exec_bdPulse_rejected {s : State} {t width : Nat} (late : Bool) (hno : s.dev.pulseOk t width = false) :
    exec (.bdPulse t width late) s = .next (s.withDev (s.dev.addSat Reg.BD_CNT_REJECTS 1)) := by
  change execBdPulse t width late s = _
  simp only [execBdPulse, onAll_next, hno, Bool.false_eq_true, if_false, State.withDev]

/-- While the misses in a row stay below BD_LOSS the beam is not lost. -/
theorem exec_bdWindowClose_missed {s : State} {late : Bool} (harm : s.dev.scan.winArmed = true)
    (hqual : s.dev.flag Reg.BD_STAT_QUALIFIED = true) :
    let r := s.dev.bd s.mem (roundDivI s.dev.expect6 6).toNat true late
    let d := ((r.1.addSat Reg.BD_CNT_MISSES 1).addSat Reg.BD_STAT_MISS_RUN 1).fire 0x1F 5 0
    d.get Reg.BD_STAT_MISS_RUN < atLeast1 (s.dev.get Reg.BD_CFG_BD_LOSS) →
    exec (.bdWindowClose late) s = .next (s.withBoth (d, r.2)) := by
  intro r d hrun
  change execBdWindowClose late s = _
  simp only [execBdWindowClose, onAll_next, harm, hqual, Bool.and_self, if_true]
  rw [if_neg (Nat.not_le.mpr hrun), State.withBoth]

theorem exec_eosPulse_captured {s : State} (t : Nat) (hpin : s.dev.pmFunc 4 = 0) (hopen : s.dev.scan.eosOpen = true)
    (hen : s.dev.flag Reg.BD_CFG_EOS_EN = true) (hfirst : s.dev.scan.eos.any (·.1 == s.dev.facet) = false) :
    exec (.eosPulse t) s =
      .next (s.withDev (s.dev.modScan (fun x => { x with eos := x.eos ++ [(s.dev.facet, t - x.tLast.getD t)] }))) := by
  change execEosPulse t s = _
  exact onDev_when
    (p := fun d => d.pmFunc 4 == 0 && d.scan.eosOpen && d.flag Reg.BD_CFG_EOS_EN && ! d.scan.eos.any (·.1 == d.facet))
    (by rw [hpin, hopen, hen, hfirst]; rfl)

theorem exec_searchTimeout_unqualified {s : State} (hwarm : s.dev.laserState = LasSt.warming)
    (hqual : s.dev.flag Reg.BD_STAT_QUALIFIED = false) :
    exec .searchTimeout s = .next (s.withDev (((((s.dev.seqHalt 0).raise 0x1F 0xF St.bdLost 3
      (s.dev.facet * 256 + s.dev.olderToken * 16777216)).faultOn 0x1F 2 St.bdLost 3 0).engineStopNow 0x1F 16))) := by
  change execSearchTimeout s = _
  exact onDev_when (p := fun d => d.laserState == LasSt.warming && ! d.flag Reg.BD_STAT_QUALIFIED) (by rw [hwarm, hqual]; rfl)

/-! ### Arming a sheet (R447, R448) -/

/-- The write of SHEET_ARM1 arms the sheet that SHEET_ARM0 names when it carries that sheet's LEAD. -/
theorem exec_sheetArm_armed {s : State} {v : Word} {x : Sheet} (hok : s.dev.fwRefuse Reg.SHEET_ARM1 = 0)
    (hnamed : s.dev.scan.armRef = false) (hroom : s.dev.scan.armed.length < 2)
    (hsheet : s.dev.sheets.find? (fun y => y.token == s.dev.get Reg.SHEET_ARM0_TOKEN && y.token != 0) = some x)
    (hlead : s.dev.leadOf x % 65536 = ((v.toNat % 65536 : Nat) : Int)) :
    exec (.sheetArm (.fw Reg.SHEET_ARM1 v)) s = .next (s.withDev ((s.dev.store Reg.SHEET_ARM1 v.toNat).modScan (fun c =>
      { c with armed := c.armed ++ [⟨x.tenant, x.epoch, x.job, x.index, s.dev.get Reg.SHEET_ARM0_TOKEN,
        s.dev.get Reg.SHEET_ARM0_LINES, v.toNat % 65536, none, bit v.toNat 16⟩] }))) := by
  have harm1 : Reg.SHEET_ARM1 ≠ Reg.SHEET_ARM0 := by decide
  change execSheetArm (.fw Reg.SHEET_ARM1 v) s = _
  rw [execSheetArm, onDev_land_granted (Dev.granted_fw hok) (by decide)]
  simp only [if_neg harm1, hnamed, hsheet, Option.any_some, hlead, bne_self_eq_false, Bool.false_eq_true, if_false,
    Nat.not_le.mpr hroom, Option.map_some, Option.getD_some]

/-! ### The pixel clock and the line buffers (R454, R455, R456, R463, R465) -/

theorem exec_pixLockAcquire_referenced {s : State} (href : s.dev.flag Reg.CK_AUX_STAT_PIX_REF = true) :
    exec .pixLockAcquire s = .next (s.withDev (s.dev.set Reg.VID_STAT_PIX_LOCK 1)) := by
  change execPixLockAcquire s = _
  exact onDev_when (p := fun d => d.flag Reg.CK_AUX_STAT_PIX_REF) (f := fun _ d => d.set Reg.VID_STAT_PIX_LOCK 1) href

theorem exec_pixLockLoss (s : State) : exec .pixLockLoss s = .next (s.withDev s.dev.pixLoss) := by
  change execPixLockLoss s = _
  rw [execPixLockLoss, onDev_next, State.withDev]

/-- With no image line to come nothing is fetched, and a pulse in time makes the line active. -/
theorem exec_lineGo_noImageLine {s : State} (hgo : bit (s.dev.seq 0).pulse 4 = true) (hnone : s.dev.nextLine = none) :
    let d := s.dev.modSeq 0 (fun q => { q with pulse := q.pulse &&& (0xFFFFF ^^^ 16) })
    exec (.lineGo false) s = .next (s.withDev (((d.modScan (fun x => { x with
      phase := (d.seq 0).ports.getD 3 0, trim := (d.seq 0).ports.getD 4 0, goSeen := true, fetched := [] })).set
        Reg.VID_STAT_LINE_COMPLETE 1).set Reg.VID_STAT_LINE_ACTIVE 1)) := by
  intro d
  change execLineGo false s = _
  simp only [execLineGo, onAll_next, if_pos hgo, hnone, Bool.false_eq_true, if_false, Bool.not_false, State.withDev, d]

/-- With no LINE_GO seen since the last BD no line counts as sent. -/
theorem exec_lineAdv_unsent {s : State} (hadv : bit (s.dev.seq 0).pulse 16 = true) (hunseen : s.dev.scan.goSeen = false) :
    exec .lineAdv s = .next (s.withDev (((s.dev.modSeq 0 (fun q => { q with pulse := q.pulse &&& 0xFFFF })).modScan
      (fun x => { x with sending := x.fetched, fetched := x.sending })).set Reg.VID_STAT_LINE_COMPLETE 0)) := by
  change execLineAdv s = _
  simp only [execLineAdv, onDev_next, when_true hadv, hunseen, Bool.false_and, Bool.false_eq_true, if_false, State.withDev]

/-- Settles O20: each clause is the lemma of its row. -/
theorem scanAndVideoCommandsTakeEffect : Obligations.ScanAndVideoCommandsTakeEffect :=
  ⟨fun _ _ _ => exec_bdPulse_qualified, fun _ _ _ => exec_bdPulse_rejected, fun _ _ => exec_bdWindowClose_missed,
    fun _ => exec_eosPulse_captured, fun _ _ _ => exec_sheetArm_armed, fun _ => exec_pixLockAcquire_referenced, exec_pixLockLoss,
    fun _ => exec_searchTimeout_unqualified, fun _ => exec_lineGo_noImageLine, fun _ => exec_lineAdv_unsent⟩

end Sys2Proof.Machine

/-! # Proofs of the statements of spec/11_brushless.md

The states of the brushless drives: start, catch, align and stop, the motor faults, the direction and the stored curve. -/

namespace Sys2Proof.Machine

theorem Dev.past_eq_true_iff {d : Dev} {t us : Nat} : d.past t us = true ↔ t + us ≤ d.now := decide_eq_true_iff

section
variable {s : State} {m : Fin 3}

/-! ### Start, CATCH and BRAKE (R475, R477, Table 11-2) -/

/-- The row judges the drive after the boundary of its page and the engine's hold: `d`. -/
theorem exec_bldcRun_starts {d : Dev} (hd : (s.dev.boundary (0x25 + m.val)).engHold = d) (hoff : d.blState m.val = 0)
    (hrun : d.flag (Reg.BL_CTL_RUN m.val) = true) (hcmd : d.blSelected m.val ≠ 0) :
    exec (.bldcRun m) s = .next (s.withDev (d.blTo m.val (if d.flag (Reg.BL_CTL_CATCH_EN m.val) then 1 else 3))) := by
  change execBldcRun m s = _
  simp only [execBldcRun, onDev_next, hd]
  rw [if_pos (by rw [hoff, hrun, bne_iff_ne.mpr hcmd]; rfl), State.withDev]

section
variable (hcatch : s.dev.blState m.val = 1)
  (hpast : (s.dev.mot m.val).since + 1000 * atLeast1 (s.dev.get (Reg.BL_CATCH_CATCH_T m.val)) ≤ s.dev.now)
include hcatch hpast

/-- After CATCH_T the back-EMF decides. -/
theorem exec_catchDone_past (amp : Nat) (spd : Int) (ang : Nat) :
    exec (.catchDone m amp spd ang) s = .next (s.withDev
      (if amp < s.dev.get (Reg.BL_CATCH_CATCH_MIN m.val) ∨ spd = 0 then s.dev.blTo m.val 3
      else if spd * s.dev.blDir m.val < 0 then s.dev.blTo m.val 2
      else if (s.dev.hoUp m.val : Int) ≤ spd * s.dev.blDir m.val then (s.dev.blTo m.val 5).obsSeed m.val (ang % 65536) spd
      else s.dev.blTo m.val 3)) := by
  change execCatchDone m amp spd ang s = _
  rw [execCatchDone, onDev_next, when_true (by rw [hcatch, Dev.past_eq_true_iff.mpr hpast]; rfl), State.withDev]

theorem exec_catchDone_standing {amp : Nat} (spd : Int) (ang : Nat) (hamp : amp < s.dev.get (Reg.BL_CATCH_CATCH_MIN m.val)) :
    exec (.catchDone m amp spd ang) s = .next (s.withDev (s.dev.blTo m.val 3)) := by
  rw [exec_catchDone_past hcatch hpast, if_pos (.inl hamp)]

section
variable {amp : Nat} {spd : Int} (ang : Nat) (hamp : s.dev.get (Reg.BL_CATCH_CATCH_MIN m.val) ≤ amp)
include hamp

theorem exec_catchDone_backward (hback : spd * s.dev.blDir m.val < 0) :
    exec (.catchDone m amp spd ang) s = .next (s.withDev (s.dev.blTo m.val 2)) := by
  have hturns : spd ≠ 0 := fun h => by simp [h] at hback
  rw [exec_catchDone_past hcatch hpast, if_neg (not_or.mpr ⟨hamp.not_gt, hturns⟩), if_pos hback]

theorem exec_catchDone_fast (hturns : spd ≠ 0) (hforw : 0 ≤ spd * s.dev.blDir m.val)
    (hfast : (s.dev.hoUp m.val : Int) ≤ spd * s.dev.blDir m.val) :
    exec (.catchDone m amp spd ang) s = .next (s.withDev ((s.dev.blTo m.val 5).obsSeed m.val (ang % 65536) spd)) := by
  rw [exec_catchDone_past hcatch hpast, if_neg (not_or.mpr ⟨hamp.not_gt, hturns⟩), if_neg hforw.not_gt, if_pos hfast]

end
end

theorem exec_brakeEnd_low (hbrake : s.dev.blState m.val = 2) :
    exec (.brakeEnd m true) s = .next (s.withDev (s.dev.blTo m.val 3)) := by
  change execBrakeEnd m true s = _
  simp only [execBrakeEnd, onDev_next, hbrake, if_true, State.withDev]

theorem exec_brakeEnd_timeout (hbrake : s.dev.blState m.val = 2)
    (hpast : (s.dev.mot m.val).since + 100000 * s.dev.get (Reg.BL_CATCH_BRAKE_MAX m.val) ≤ s.dev.now) :
    exec (.brakeEnd m false) s = .next (s.withDev (s.dev.blFault m.val 6 0)) := by
  change execBrakeEnd m false s = _
  simp only [execBrakeEnd, onDev_next, hbrake, if_true, Bool.false_eq_true, if_false, Dev.past_eq_true_iff.mpr hpast,
    State.withDev]

/-! ### ALIGN (R478, R479, R480) -/

section
variable {peaks : List Nat} (halign : s.dev.blState m.val = 3) (hlen : peaks.length = 12)
include halign hlen

/-- In ALIGN twelve peaks are judged: an open phase first, then flat peaks, else the angle they give. -/
theorem exec_alignDone_judged :
    exec (.alignDone m peaks) s = .next (s.withDev ((s.dev.openPhase m.val peaks).elim
      (if alignFlat peaks then s.dev.blFault m.val 7 0 else (s.dev.blTo m.val 4).modMot m.val (fun x => { x with
        startAng := alignAngle peaks, startSpd := 0, th := alignAngle peaks, w := 0, iA := 0, iB := 0, eA := 0, eB := 0,
        spdInt := 0, dInt := 0, qInt := 0, qRef := 0, cmdX := 0 }))
      (s.dev.blFault m.val 5))) := by
  change execAlignDone m peaks s = _
  rw [execAlignDone, onDev_next, when_true (by rw [halign, hlen]; rfl), State.withDev]
  cases s.dev.openPhase m.val peaks with
  | none => rfl
  | some ph => rfl

theorem exec_alignDone_openPhase {ph : Nat} (hopen : s.dev.openPhase m.val peaks = some ph) :
    exec (.alignDone m peaks) s = .next (s.withDev (s.dev.blFault m.val 5 ph)) := by
  rw [exec_alignDone_judged halign hlen, hopen, Option.elim_some]

theorem exec_alignDone_flat (hclosed : s.dev.openPhase m.val peaks = none) (hflat : alignFlat peaks = true) :
    exec (.alignDone m peaks) s = .next (s.withDev (s.dev.blFault m.val 7 0)) := by
  rw [exec_alignDone_judged halign hlen, hclosed, Option.elim_none, if_pos hflat]

theorem exec_alignDone_aligned (hclosed : s.dev.openPhase m.val peaks = none) (hpeak : alignFlat peaks = false) :
    exec (.alignDone m peaks) s = .next (s.withDev ((s.dev.blTo m.val 4).modMot m.val (fun x => { x with
      startAng := alignAngle peaks, startSpd := 0, th := alignAngle peaks, w := 0, iA := 0, iB := 0, eA := 0, eB := 0, spdInt := 0,
      dInt := 0, qInt := 0, qRef := 0, cmdX := 0 }))) := by
  rw [exec_alignDone_judged halign hlen, hclosed, Option.elim_none, if_neg (Bool.eq_false_iff.mp hpeak)]

end

/-! ### START, STOPPING and the PWM period (R470, R484, Table 11-2) -/

theorem exec_handoverTimeout_late {t : Nat} (hstart : s.dev.blState m.val = 4) (hho : (s.dev.mot m.val).hoAt = some t)
    (hlate : t + 1000000 ≤ s.dev.now) :
    exec (.handoverTimeout m) s = .next (s.withDev (s.dev.blFault m.val 10 0)) := by
  change execHandoverTimeout m s = _
  rw [execHandoverTimeout, onDev_next, when_true (by rw [hstart, hho, Option.any_some, Dev.past_eq_true_iff.mpr hlate]; rfl),
    State.withDev]

theorem exec_stoppingDone_off (hstop : s.dev.blState m.val = 6) :
    exec (.stoppingDone m) s = .next (s.withDev ((s.dev.blTo m.val 0).setSpeed m.val 0).evalEngine) := by
  change execStoppingDone m s = _
  rw [execStoppingDone, onDev_next, when_true (by rw [hstop]; rfl), State.withDev]

theorem exec_pwmPeriod (s : State) (m : Fin 3) (iu iv iw vu vv vw : Int) (vm : Nat) :
    exec (.pwmPeriod m iu iv iw vu vv vw vm) s = .next (s.withDev (s.dev.pwmPeriod m.val iu iv iw vu vv vw vm)) := by
  change execPwmPeriod m iu iv iw vu vv vw vm s = _
  rw [execPwmPeriod, onDev_next, State.withDev]

/-! ### Faults and supply (R505, R508, R509, R511, R512) -/

/-- The first overcurrent of a period switches the duties off; it is a fault when it is the eighth period in a row. -/
theorem exec_motorOvercurrent_first (hgates : (s.dev.mot m.val).gates ≠ 0) (hfirst : (s.dev.mot m.val).ocNow = false) :
    let n := (s.dev.mot m.val).ocRun + 1
    let d := (s.dev.modMot m.val (fun x => { x with ocNow := true, ocRun := n, duty := [0, 0, 0] })).addSat
      (Reg.BL_ERR_OC_PERIODS m.val) 1
    exec (.motorOvercurrent m) s = .next (s.withDev (if 8 ≤ n then d.blFault m.val 1 0 else d)) := by
  intro n d
  change execMotorOvercurrent m s = _
  rw [execMotorOvercurrent, onDev_next, when_true (by rw [bne_iff_ne.mpr hgates, hfirst]; rfl), State.withDev]

section
variable (hgates : (s.dev.mot m.val).gates ≠ 0)
include hgates

theorem exec_vdsFault_gated (high two : Bool) (ph : Fin 3) :
    exec (.vdsFault m high ph two) s = .next (s.withDev
      (if high && two then s.dev.blFault m.val 4 0 else s.dev.blFault m.val (if high then 2 else 3) (ph.val + 1))) := by
  change execVdsFault m high ph two s = _
  rw [execVdsFault, onDev_next, when_true (bne_iff_ne.mpr hgates), State.withDev]

theorem exec_vdsFault_onePhase (high : Bool) (ph : Fin 3) :
    exec (.vdsFault m high ph false) s = .next (s.withDev (s.dev.blFault m.val (if high then 2 else 3) (ph.val + 1))) := by
  rw [exec_vdsFault_gated hgates, Bool.and_false, if_neg Bool.false_ne_true]

theorem exec_vdsFault_twoHighSides (ph : Fin 3) :
    exec (.vdsFault m true ph true) s = .next (s.withDev (s.dev.blFault m.val 4 0)) := by
  rw [exec_vdsFault_gated hgates, Bool.and_self, if_pos rfl]

end

theorem exec_gateUv (s : State) (m : Fin 3) : exec (.gateUv m) s = .next (s.withDev (s.dev.blFault m.val 8 0)) := by
  change execGateUv m s = _
  rw [execGateUv, onDev_next, State.withDev]

theorem exec_vmBldcUv (s : State) (low : Bool) :
    exec (.vmBldcUv low) s = .next (s.withDev ((List.range 3).foldl (fun d m => d.vmUv low m) s.dev)) := by
  change execVmBldcUv low s = _
  rw [execVmBldcUv, onDev_next, State.withDev]

theorem Dev.vmUv_low_running {d : Dev} {m : Nat} (hstarted : 1 ≤ d.blState m) (hrunning : d.blState m ≤ 5) :
    d.vmUv true m = (d.blTo m 6).modMot m (fun x => { x with sag := true, gates := 0 }) := by
  simp only [Dev.vmUv, if_true, if_pos (And.intro hstarted hrunning)]

/-- The row's test "BL_CTL of one of the three drives" selects BL_CTL of each. -/
theorem selectsDrive (m : Fin 3) : (List.range 3).any (fun i => Reg.BL_CTL i == Reg.BL_CTL m.val) = true :=
  List.any_eq_true.mpr ⟨m.val, List.mem_range.mpr m.isLt, beq_self_eq_true _⟩

theorem driveOf_blCtl (m : Nat) : (Reg.BL_CTL m - 0x40025000) / 0x1000 = m := by
  simp only [Reg.BL_CTL, pageBase]
  omega

theorem exec_bldcClrFault_fw {v : Word} (hok : s.dev.fwRefuse (Reg.BL_CTL m.val) = 0) (hclr : bit v.toNat 3 = true) :
    let d := (s.dev.store (Reg.BL_CTL m.val) v.toNat).set (Reg.BL_CTL_CLR_FAULT m.val) 0
    d.blState m.val = 7 → d.blSelected m.val = 0 →
    exec (.bldcClrFault (.fw (Reg.BL_CTL m.val) v)) s =
      .next (s.withDev ((d.blTo m.val 0).faultsOff (0x25 + m.val)).evalEngine) := by
  intro d hfault hcmd
  change execBldcClrFault (.fw (Reg.BL_CTL m.val) v) s = _
  rw [execBldcClrFault, onDev_land_granted (Dev.granted_fw hok) (by rw [selectsDrive, hclr]; rfl)]
  simp only [driveOf_blCtl]
  rw [if_pos ⟨hfault, hcmd⟩]

theorem exec_reverseStall_backward (hrun : s.dev.blState m.val = 5) (hback : s.dev.blFwd m.val < 0) :
    exec (.reverseStall m) s = .next (s.withDev (s.dev.blFault m.val 6 0)) := by
  change execReverseStall m s = _
  rw [execReverseStall, onDev_next, when_true (by rw [hrun, decide_eq_true hback]; rfl), State.withDev]

/-! ### Direction and stored curve (R495, R502) -/

/-- With both balls of the drive's quadrature inputs in function 0, a count judges the direction against the command. -/
theorem exec_quadDirection_counted {n : Int} (hm : m.val ≠ 0) (hsrc : s.dev.get (Reg.BL_CTL_DIR_SRC m.val) = 2)
    (hballA : s.dev.pmFunc (2 * (m.val - 1)) = 0) (hballB : s.dev.pmFunc (2 * (m.val - 1) + 1) = 0) (hn : n ≠ 0) :
    exec (.quadDirection m n) s = .next (s.withDev (s.dev.direction m.val (decide (n * s.dev.blDir m.val < 0)))) := by
  change execQuadDirection m n s = _
  rw [execQuadDirection, onDev_next,
    when_true (by rw [hsrc, hballA, hballB, bne_iff_ne.mpr hm, decide_eq_true hn]; rfl), State.withDev]

/-- With ascending points and X at or above the first of them the curve is on, and NOT_READY ends. -/
theorem exec_curveSample_on (aux : Nat) (hsrc : s.dev.get (Reg.BL_CURVE_CURVE_SRC m.val) = 0) :
    let d := s.dev.seti (Reg.BL_CURVE_X_X_NOW m.val) (s.dev.geti (Reg.BL_CURVE_X_X m.val))
    d.curveOk m.val = true → s.dev.curveX m.val 0 ≤ s.dev.geti (Reg.BL_CURVE_X_X m.val) →
    exec (.curveSample m aux) s =
      .next (s.withDev ((d.faultOff (0x25 + m.val) 2).set (Reg.BL_STAT_CURVE_ON m.val) 1)) := by
  intro d hok hx
  change execCurveSample m aux s = _
  simp only [execCurveSample, onDev_next, hsrc]
  rw [if_neg (by rw [hok]; decide), if_pos hx, State.withDev]

end

/-- Settles O21: each clause is the lemma of its row. -/
theorem motorCommandsTakeEffect : Obligations.MotorCommandsTakeEffect := by
  refine ⟨fun _ _ => exec_bldcRun_starts rfl, ?catchDone, fun _ _ => exec_brakeEnd_low, fun _ _ => exec_brakeEnd_timeout,
    ?alignDone, fun _ _ _ => exec_handoverTimeout_late, fun _ _ => exec_stoppingDone_off, exec_pwmPeriod,
    fun _ _ => exec_motorOvercurrent_first, ?vdsFault, exec_gateUv, exec_vmBldcUv, fun _ _ => Dev.vmUv_low_running,
    fun _ _ _ => exec_bldcClrFault_fw, fun _ _ _ => exec_quadDirection_counted, fun _ _ => exec_reverseStall_backward,
    fun _ _ => exec_curveSample_on⟩
  case catchDone =>
    intro s m amp spd ang hcatch hpast
    exact ⟨exec_catchDone_standing hcatch hpast spd ang, exec_catchDone_backward hcatch hpast ang,
      exec_catchDone_fast hcatch hpast ang⟩
  case alignDone =>
    intro s m peaks halign hlen
    exact ⟨fun _ => exec_alignDone_openPhase halign hlen, exec_alignDone_flat halign hlen, exec_alignDone_aligned halign hlen⟩
  case vdsFault =>
    intro s m high ph hgates
    exact ⟨exec_vdsFault_onePhase hgates high ph, exec_vdsFault_twoHighSides hgates ph⟩

end Sys2Proof.Machine

/-! # Proofs of the statements of spec/12_steppers_path.md

Segments and commands of the stepper axes, the samples of the paper sensors, the pick and the clearing of a jam. -/

namespace Sys2Proof.Machine

/-! ### Posting segments (R516, R518, R521) -/

/-- The five segment rows are one write of MS_POST, which posts the segment of the kind that MS_SEG0 names. -/
theorem onDev_landPost_go {s : State} {v : Word} {k : Nat} (hok : s.dev.fwRefuse Reg.MS_POST = 0) (hgo : bit v.toNat 0 = true)
    (hkind : s.dev.reg (Reg.MS_SEG 0) % 8 = k) :
    onDev (fun d => d.landPost (.fw Reg.MS_POST v) k) s =
      .next (s.withDev (s.dev.store Reg.MS_POST v.toNat).postSeg) := by
  rw [onDev_next, Dev.landPost, Dev.land_granted (Dev.granted_fw hok) (by simp [hgo, hkind]), if_pos rfl, State.withDev]

theorem exec_profileTick (s : State) :
    let d := (List.range 4).foldl (fun d i => d.axTick i) (s.dev.addWrap Reg.MS_TICKS_TICKS 1)
    exec .profileTick s = .next (s.withDev
      ((((List.range 4).foldl (fun d i => d.buckled s.mem i) d).platenTick (s.dev.ax 2).vel).partReverse)) := rfl

/-! ### Faults of an axis (R526 to R529) -/

section
variable {s : State} {i : Fin 4}

theorem exec_bridgeTrip_driven (hdrive : (s.dev.ax i.val).drive = true) (c : Fin 4) (b : Bool) :
    exec (.bridgeTrip i c b) s = .next (s.withDev
      ((s.dev.addSat (Reg.ST_ERR_OC_EVENTS i.val) 1).axFault i.val (c.val + 1) (b2n b))) := by
  change execBridgeTrip i c b s = _
  exact onDev_when (p := fun d => (d.ax i.val).drive) hdrive

theorem exec_coilOpen_driven {b : Bool} (hdrive : (s.dev.ax i.val).drive = true)
    (htarget : 200 ≤ (if b then (s.dev.coilTargets i.val).2 else (s.dev.coilTargets i.val).1).natAbs) :
    exec (.coilOpen i b) s = .next (s.withDev (s.dev.axFault i.val 5 (b2n b))) := by
  change execCoilOpen i b s = _
  rw [execCoilOpen, onDev_next, when_true (by rw [hdrive, decide_eq_true htarget]; rfl), State.withDev]

theorem exec_vmStepUv (s : State) :
    exec .vmStepUv s = .next (s.withDev ((List.range 4).foldl (fun d i => d.axFault i 6 0) s.dev)) := rfl

/-! ### Parking and energising (R530, R532, R534) -/

@[simp] theorem stCtlOf_stCtl (i : Fin 4) : stCtlOf (Reg.ST_CTL i.val) = some i.val := by
  revert i
  decide

theorem exec_park_granted {l : Land} {ag : Agent} {v : Word} {d : Dev}
    (hg : s.dev.granted l = some (ag, Reg.ST_CTL i.val, v, d)) (hpark : bit v.toNat 3 = true) :
    exec (.park l) s = .next (s.withDev (d.stCtl i.val v.toNat)) := by
  change execPark l s = _
  rw [execPark, onDev_land_granted hg (by simp [hpark])]
  simp only [stCtlOf_stCtl]

theorem exec_parkDone_ramped (hramp : (s.dev.ax i.val).ramp = 1) (hpast : s.dev.past (s.dev.ax i.val).rampAt 10000 = true) :
    let d := (s.dev.stabilise i.val).modAx i.val (fun a => { a with ramp := 0, drive := false, cur := none, vel := 0, queue := [] })
    exec (.parkDone i) s = .next (s.withDev
      ((((d.set (Reg.ST_STAT_POS_STATE i.val) 1).set (Reg.ST_CTL_PARK i.val) 0).axSync i.val).axTo i.val 3)) := by
  change execParkDone i s = _
  rw [execParkDone, onDev_next, when_true (by rw [hramp, hpast]; rfl), State.withDev]

theorem exec_energise_known :
    let d := s.dev.stepShadow i.val
    (d.axState i.val = 0 ∨ d.axState i.val = 3) → d.flag (Reg.ST_CTL_DRV_EN i.val) = true → d.get (Reg.CH_STAT_PG 5) = 1 →
    (d.ax i.val).drive = false → d.get (Reg.ST_STAT_POS_STATE i.val) ≠ 2 →
    exec (.energise i) s = .next (s.withDev (((d.modAx i.val (fun a => { a with
      drive := true, ramp := 0, vel := 0, cur := none, stillAt := some s.dev.now })).set (Reg.ST_STAT_POS_STATE i.val) 0).axTo i.val 1)) := by
  intro d hrest hen hpg hoff hknown
  change execEnergise i s = _
  rw [execEnergise, onDev_next]
  simp only [d] at *
  rw [if_pos ⟨hrest, hen, hpg, by rw [hoff]; rfl⟩, if_neg hknown, if_neg (fun h => hknown h.1), State.withDev]

end

/-! ### Stepper S4 in DC mode (R536, R537) -/

theorem exec_stDcWrite_granted {s : State} {l : Land} {ag : Agent} {v : Word} {d : Dev}
    (hg : s.dev.granted l = some (ag, Reg.ST_DC 3, v, d)) :
    exec (.stDcWrite l) s =
      .next (s.withDev (((d.store (Reg.ST_DC 3) v.toNat).stepShadow 3).set (Reg.ST_DC_STAT_STALLED 3) 0)) :=
  onDev_land_granted hg (beq_self_eq_true _)

theorem exec_dcStall_turning {s : State} (i : Nat) (hdc : s.dev.s4Dc = true) (hduty : s.dev.get (Reg.ST_DC_DUTY 3) ≠ 0)
    (hbrake : s.dev.flag (Reg.ST_DC_BRAKE 3) = false) :
    let d := ((s.dev.set (Reg.ST_DC_STAT_I 3) (min i 65535)).set (Reg.ST_DC_STAT_STALLED 3) 1).set (Reg.ST_DC_BRAKE 3) 1
    exec (.dcStall i) s = .next (s.withDev ((d.raise 0x2B 0xF St.stepperFault 0 7).fireRaw 0x2B 3)) := by
  change execDcStall i s = _
  rw [execDcStall, onDev_next, when_true (by rw [hdc, bne_iff_ne.mpr hduty, hbrake]; rfl), State.withDev]

/-- Settles O22: each clause is the lemma of its row; the five segment rows share one. -/
theorem stepperCommandsTakeEffect : Obligations.StepperCommandsTakeEffect := by
  refine ⟨?segments, exec_profileTick, fun _ _ c b hdrive => exec_bridgeTrip_driven hdrive c b, fun _ _ _ => exec_coilOpen_driven,
    exec_vmStepUv, fun _ _ _ _ _ _ => exec_park_granted, fun _ _ => exec_parkDone_ramped, fun _ _ => exec_energise_known,
    fun _ _ _ _ _ => exec_stDcWrite_granted, fun _ => exec_dcStall_turning⟩
  case segments =>
    intro s v hok hgo
    have posts {k : Nat} := onDev_landPost_go (s := s) (v := v) (k := k) hok hgo
    exact ⟨posts, posts, posts, posts, posts⟩

/-! ### Samples of the sensors (R539 to R544, R556, R560) -/

/-- A sample ends with no jam where no condition is decided, else with the one that is. -/
def Dev.sampleEnd (d : Dev) : Option JamCond → Dev
  | none => d
  | some (_, t, c, x) => d.jamNow t c x

/-- The levels, the debounces, the fault filters, the strays, the missed windows and the covers act in this order; the conditions they
meet decide a jam together. -/
theorem exec_sensorSample (s : State) (ins : List SnsIn) (ilk c0 c1 : Bool) :
    let inp := fun i : Nat => ins.getD i ⟨false, 512, 0, 1023, false, false⟩
    let r1 := Dev.gather (fun d i => d.debounce i (inp i)) (List.range 6) ((List.range 6).foldl (fun d i => d.snsLevel i (inp i)) s.dev)
    let r2 := Dev.gather (fun d i => d.snsFaultStep i (inp i)) (List.range 6) r1.1
    let r3 := r2.1.warmStray
    let r4 := Dev.gather (fun d j => d.coverSample j (if j = 0 then ilk else if j = 1 then c0 else c1)) [0, 1, 2] r3.1
    ∀ x, decideCond (r1.2 ++ r2.2 ++ r3.2 ++ (if r3.1.flag Reg.PT_JAM_ACTIVE then [] else r3.1.missed) ++ r4.2) = x →
      exec (.sensorSample ins ilk c0 c1) s = .next (s.withDev (r4.1.sampleEnd x)) := by
  intro inp r1 r2 r3 r4 x hx
  change execSensorSample ins ilk c0 c1 s = _
  simp only [inp, r1, r2, r3, r4] at hx ⊢
  simp only [execSensorSample, onDev_next, hx]
  cases x with
  | none => simp only [Dev.sampleEnd, State.withDev]
  | some c => simp only [Dev.sampleEnd, State.withDev]

/-! ### The pick and the reconciliation (R546, R561) -/

theorem exec_pickIssue_ready {s : State} {sh : Sheet} {i : Nat} (hsheet : s.dev.picked = some sh)
    (hslot : (List.range 4).find? (fun i => (s.dev.slot i).state == 0) = some i) (hready : s.dev.pickReady = true) :
    exec .pickIssue s = .next (s.withDev (s.dev.pickSheet sh i)) := by
  change execPickIssue s = _
  simp only [execPickIssue, onDev_next, hsheet, hslot, hready, if_true, State.withDev]

theorem exec_tokenReconcile_clear {s : State} (hjam : s.dev.flag Reg.PT_JAM_ACTIVE = true)
    (hcycled : s.dev.flag Reg.PT_JAM_COVER_CYCLED = true) (hclosed : s.dev.coversClosed = true) (hclear : s.dev.pathMask = 0)
    (htold : s.dev.path.told = false) :
    let jammed := (List.range 4).filter (fun i => (s.dev.slot i).state == 6)
    let n := jammed.length
    let d := jammed.foldl (fun d i => d.freeSlot i false)
      ((s.dev.addWrap Reg.TOK_CLEARED_COUNT n).set Reg.TOK_PATH_IN_PATH (s.dev.get Reg.TOK_PATH_IN_PATH - n))
    exec .tokenReconcile s = .next (s.withDev ((((((d.set Reg.PT_JAM_ACTIVE 0).set Reg.PT_JAM_COVER_CYCLED 0).raise 0x32 0xF
      St.tokensCleared 0 n).fireRaw 0x32 2).faultOff 0x32 1).evalEngine)) := by
  change execTokenReconcile s = _
  rw [execTokenReconcile, onDev_next, when_true (by rw [hjam, hcycled, hclosed, hclear, htold]; rfl), State.withDev]

/-- Settles O23: each clause is the lemma of its row; a sample goes by what `decideCond` says of the conditions met. -/
theorem pathCommandsTakeEffect : Obligations.PathCommandsTakeEffect := by
  refine ⟨?sample, fun _ _ _ => exec_pickIssue_ready, fun _ => exec_tokenReconcile_clear⟩
  case sample =>
    intro s ins ilk c0 c1 inp r1 r2 r3 r4 met
    have decides := exec_sensorSample s ins ilk c0 c1
    refine ⟨fun hmet => decides none ?_, fun n t c x hmet => decides _ hmet⟩
    exact congrArg decideCond hmet

end Sys2Proof.Machine

/-! # Proofs of the statements of spec/13_loops.md

The limits of a loop's output, and the commands and samples of the loop channels. -/

namespace Sys2Proof.Machine

/-! ### Signed fields (R563) -/

theorem sext_mod (x w : Nat) : sext (x % 2 ^ w) w = sext x w := by
  simp only [sext, Nat.mod_mod]

/-- A signed word read back is the number that was written, where the number fits. -/
theorem sext_unsext_word {x : Int} (hlo : -2 ^ 31 ≤ x) (hhi : x < 2 ^ 31) : sext (unsext x 32) 32 = x := by
  simp only [sext, unsext]
  omega

theorem sext_word_bounds (x : Nat) : -2 ^ 31 ≤ sext x 32 ∧ sext x 32 < 2 ^ 31 := by
  simp only [sext]
  omega

theorem Dev.geti_seti_same {d : Dev} {f : Fld} {x : Int} (hlo : f.lo = 0) (hw : f.w = 32) (hmin : -2 ^ 31 ≤ x)
    (hmax : x < 2 ^ 31) : (d.seti f x).geti f = x := by
  have hok : f.ok := by simp only [Fld.ok, hlo, hw]; decide
  rw [Dev.geti, Dev.seti, Dev.get_set_same _ _ _ hok, sext_mod, hw, sext_unsext_word hmin hmax]

theorem Dev.geti_word_bounds (d : Dev) {f : Fld} (hw : f.w = 32) : -2 ^ 31 ≤ d.geti f ∧ d.geti f < 2 ^ 31 := by
  rw [Dev.geti, hw]
  exact sext_word_bounds _

theorem Dev.geti_congr {d e : Dev} {f : Fld} (h : e.get f = d.get f) : e.geti f = d.geti f := by
  rw [Dev.geti, h, Dev.geti]

theorem Dev.geti_set_other {d : Dev} {f g : Fld} {v : Nat} (h : g.addr ≠ f.addr) : (d.set f v).geti g = d.geti g :=
  Dev.geti_congr (d.get_set_other f g v h)

theorem Dev.geti_seti_other {d : Dev} {f g : Fld} {x : Int} (h : g.addr ≠ f.addr) : (d.seti f x).geti g = d.geti g :=
  Dev.geti_set_other h

theorem Dev.get_foldl {step : Dev → Nat → Dev} {f : Fld} {l : List Nat} (h : ∀ d, ∀ i ∈ l, (step d i).get f = d.get f) (d : Dev) :
    (l.foldl step d).get f = d.get f := by
  induction l generalizing d with
  | nil => rfl
  | cons i l ih =>
    rw [List.foldl_cons, ih (fun d j hj => h d j (List.mem_cons_of_mem i hj)), h d i List.mem_cons_self]

/-- The register at offset `o` of channel `n` (Table 13-4). -/
def loopReg (n o : Nat) : Nat := pageBase 0x2D + 0x100 + 0x80 * n + o

@[simp] theorem loopReg_inj {n o p : Nat} : loopReg n o = loopReg n p ↔ o = p := by
  simp [loopReg]

/-! The addresses of the fields that a sample reads or writes. They are no `dsimp` lemmas: `simp` discharges conditions with them. -/

section
variable (n : Nat)

@[simp] theorem addr_lpUmin : (Reg.LP_UMIN_UMIN n).addr = loopReg n 0x14 := (rfl)
@[simp] theorem addr_lpUmax : (Reg.LP_UMAX_UMAX n).addr = loopReg n 0x18 := (rfl)
@[simp] theorem addr_lpCtlInit : (Reg.LP_CTL_INIT n).addr = loopReg n 0 := (rfl)
@[simp] theorem addr_lpCtlSwap : (Reg.LP_CTL_SWAP n).addr = loopReg n 0 := (rfl)
@[simp] theorem addr_lpStatSat : (Reg.LP_STAT_SAT n).addr = loopReg n 0x30 := (rfl)
@[simp] theorem addr_lpStatSatHigh : (Reg.LP_STAT_SAT_HIGH n).addr = loopReg n 0x30 := (rfl)
@[simp] theorem addr_lpStatBank : (Reg.LP_STAT_BANK n).addr = loopReg n 0x30 := (rfl)
@[simp] theorem addr_lpStatSwapPend : (Reg.LP_STAT_SWAP_PEND n).addr = loopReg n 0x30 := (rfl)
@[simp] theorem addr_lpStatSatRun : (Reg.LP_STAT_SAT_RUN n).addr = loopReg n 0x30 := (rfl)
@[simp] theorem addr_lpR : (Reg.LP_R_R n).addr = loopReg n 0x34 := (rfl)
@[simp] theorem addr_lpY : (Reg.LP_Y_Y n).addr = loopReg n 0x38 := (rfl)
@[simp] theorem addr_lpU : (Reg.LP_U_U n).addr = loopReg n 0x3c := (rfl)
@[simp] theorem addr_lpUraw : (Reg.LP_URAW_URAW n).addr = loopReg n 0x40 := (rfl)
@[simp] theorem addr_lpZ : (Reg.LP_Z_Z n).addr = loopReg n 0x44 := (rfl)
@[simp] theorem addr_lpXh (k : Nat) : (Reg.LP_XH_XH n k).addr = loopReg n (0x48 + 4 * k) := by
  simp only [Reg.LP_XH_XH, Reg.LP_XH, loopReg, Nat.add_assoc]
@[simp] theorem addr_lpCnt : (Reg.LP_CNT_SAT_ARITH n).addr = loopReg n 0x6c := (rfl)

end

/-! ### The stages of a sample (R575 to R583, R590 to R596) -/

section
variable (d : Dev) (n : Nat)

@[simp] theorem Dev.get_modLch (f : LoopCh → LoopCh) (g : Fld) : (d.modLch n f).get g = d.get g := rfl

/-- Whether the sample initialises the states (R583, R584). -/
def Dev.lawInits : Bool := (d.lch n).init || d.flag (Reg.LP_CTL_INIT n)

/-- Whether the sample makes a pending swap (R590). -/
def Dev.lawSwaps : Bool := d.flag (Reg.LP_STAT_SWAP_PEND n) && decide ((d.lch n).swapAt < d.now)

/-- The reference of the sample (R577). -/
def Dev.lawRef (y : Int) : Int := d.loopRef n (if d.lawInits n then y else d.geti (Reg.LP_R_R n))

/-- The channel with the bank that the sample uses. -/
def Dev.lawBank (y : Int) : Dev :=
  if d.lawSwaps n then d.loopSwap n (d.lawRef n y) (d.flag (Reg.LP_CTL_BUMPLESS n) && ! d.lawInits n) else d

/-- The channel with the states that the sample starts from. -/
def Dev.lawStart (y : Int) : Dev :=
  let d1 := d.lawBank n y
  let nx := d1.loopNx n (d1.get (Reg.LP_STAT_BANK n))
  (if d.lawInits n then
    (((List.range 4).foldl (fun d i => d.seti (Reg.LP_XH_XH n i) (if i < nx then d.geti (Reg.LP_XI_XI n i) else 0)) d1).seti
      (Reg.LP_Z_Z n) (d1.geti (Reg.LP_ZI_ZI n))).set (Reg.LP_CTL_INIT n) 0
  else d1).modLch n (fun c => { c with init := false })

/-- The states of the next sample. -/
def Dev.lawStates (x : Nat → Int) : Dev := (List.range 4).foldl (fun d i => d.seti (Reg.LP_XH_XH n i) (x i)) d

/-- What a sample writes beside the states. -/
def Dev.lawStore (r y u raw z : Int) (sat high : Bool) (run sats : Nat) : Dev :=
  ((((((((d.seti (Reg.LP_R_R n) r).seti (Reg.LP_Y_Y n) y).seti (Reg.LP_U_U n) u).seti (Reg.LP_URAW_URAW n) raw).seti
    (Reg.LP_Z_Z n) z).setb (Reg.LP_STAT_SAT n) sat).setb (Reg.LP_STAT_SAT_HIGH n) high).set (Reg.LP_STAT_SAT_RUN n)
    run).addSat (Reg.LP_CNT_SAT_ARITH n) sats

/-- LOOP_SATURATED is told once of a run of limited samples (R587). -/
def Dev.satTell (sat : Bool) (run : Nat) (u : Int) : Dev :=
  let lim := d.get (Reg.LP_IN_SAT_T n)
  if ! sat then d.modLch n (fun c => { c with satTold := false })
  else if lim ≠ 0 ∧ run = lim ∧ ! (d.lch n).satTold then
    ((d.modLch n (fun c => { c with satTold := true })).raise 0x2D 8 St.loopSaturated 0
      (n + 8 * d.get (Reg.LP_STAT_SAT_HIGH n) + (unsext u 32 / 65536) * 65536)).fireRaw 0x2D n
  else d

/-- The output of a sample: `raw` within UMIN and UMAX (R578). -/
def Dev.lawU (raw : Int) : Int :=
  let umin := d.geti (Reg.LP_UMIN_UMIN n)
  min (max raw umin) (max umin (d.geti (Reg.LP_UMAX_UMAX n)))

/-- A sample is these stages in turn; limited, it keeps the integral state (R579). -/
theorem Dev.loopLaw_eq_stages (y : Int) : ∃ (x : Nat → Int) (raw z : Int) (high : Bool) (run sats : Nat),
    let e := d.lawStart n y
    let u := e.lawU n raw
    ((u != raw) = true → z = e.geti (Reg.LP_Z_Z n)) ∧
    d.loopLaw n y = ((e.lawStates n x).lawStore n (d.lawRef n y) y u raw z (u != raw) high run sats).satTell n (u != raw) run u := by
  refine ⟨_, _, _, _, _, _, ?_, rfl⟩
  exact fun hsat => congrArg Prod.fst (if_pos hsat)

/-! ### What the stages leave alone -/

theorem Dev.get_satTell {f : Fld} (hdrop : f.addr ≠ Reg.EVT_DROP) (hraw : f.addr ≠ Reg.EVT_RAW 0x2D) (sat : Bool) (run : Nat) (u : Int) :
    (d.satTell n sat run u).get f = d.get f := by
  unfold Dev.satTell
  dsimp only
  split_ifs
  · rfl
  · rw [Dev.fireRaw_eq, Dev.get_set_other _ _ _ _ hraw, Dev.raise, Dev.get_post_other _ _ _ _ hdrop, Dev.get_modLch]
  · rfl

theorem Dev.geti_satTell {f : Fld} (hdrop : f.addr ≠ Reg.EVT_DROP) (hraw : f.addr ≠ Reg.EVT_RAW 0x2D) (sat : Bool) (run : Nat)
    (u : Int) : (d.satTell n sat run u).geti f = d.geti f :=
  Dev.geti_congr (d.get_satTell n hdrop hraw sat run u)

section
variable (r y u raw z : Int) (sat high : Bool) (run sats : Nat)

theorem Dev.geti_u_lawStore (hmin : -2 ^ 31 ≤ u) (hmax : u < 2 ^ 31) :
    (d.lawStore n r y u raw z sat high run sats).geti (Reg.LP_U_U n) = u := by
  simp (disch := simp) only [Dev.lawStore, Dev.setb_eq, Dev.addSat_eq, Dev.geti_set_other,
    Dev.geti_seti_other]
  exact Dev.geti_seti_same rfl rfl hmin hmax

theorem Dev.geti_z_lawStore (hmin : -2 ^ 31 ≤ z) (hmax : z < 2 ^ 31) :
    (d.lawStore n r y u raw z sat high run sats).geti (Reg.LP_Z_Z n) = z := by
  simp (disch := simp) only [Dev.lawStore, Dev.setb_eq, Dev.addSat_eq, Dev.geti_set_other]
  exact Dev.geti_seti_same rfl rfl hmin hmax

theorem Dev.flag_sat_lawStore : (d.lawStore n r y u raw z sat high run sats).flag (Reg.LP_STAT_SAT n) = sat := by
  have hsat : (Reg.LP_STAT_SAT n).ok := (by decide : 2 + 1 ≤ 32)
  have hhigh : (Reg.LP_STAT_SAT_HIGH n).ok := (by decide : 3 + 1 ≤ 32)
  have hrun : (Reg.LP_STAT_SAT_RUN n).ok := (by decide : 16 + 16 ≤ 32)
  have hbelow : 2 + 1 ≤ 3 ∧ 2 + 1 ≤ 16 := by decide
  simp only [Dev.lawStore, Dev.setb_eq, Dev.addSat_eq, Dev.flag]
  rw [Dev.get_set_other _ _ _ _ (by simp), Dev.get_set_apart _ _ _ _ hrun (.inl hbelow.2),
    Dev.get_set_apart _ _ _ _ hhigh (.inl hbelow.1), Dev.get_set_same _ _ _ hsat]
  cases sat <;> rfl

end

/-! ### The limits and the integral state at a sample (R578, R579) -/

theorem loopReg_ne_evtRaw {n o : Nat} : loopReg n o ≠ Reg.EVT_RAW 0x2D := by
  simp only [loopReg, Reg.EVT_RAW]
  omega

theorem loopReg_ne_evtDrop {n o : Nat} : loopReg n o ≠ Reg.EVT_DROP := by
  simp only [loopReg, Reg.EVT_DROP, pageBase]
  omega

section
variable {f : Fld} {o : Nat} (hf : f.addr = loopReg n o)
include hf

/-- The states are written above Z. -/
theorem Dev.geti_xhLoop_other (ho : o ≤ 0x44) (x : Dev → Nat → Int) (d : Dev) :
    ((List.range 4).foldl (fun d i => d.seti (Reg.LP_XH_XH n i) (x d i)) d).geti f = d.geti f :=
  Dev.geti_congr (Dev.get_foldl (fun d i _ => d.get_set_other _ _ _ (by rw [hf, addr_lpXh, ne_eq, loopReg_inj]; omega)) d)

section
variable (hlimit : o = 0x14 ∨ o = 0x18)
include hlimit

theorem Dev.geti_limit_loopSwap (r : Int) (bump : Bool) : (d.loopSwap n r bump).geti f = d.geti f := by
  have hlow : o ≤ 0x44 := by omega
  have hne : o ≠ 0 ∧ o ≠ 0x30 ∧ o ≠ 0x44 ∧ o ≠ 0x6c := by omega
  unfold Dev.loopSwap
  dsimp only
  split_ifs <;> simp [-Dev.seti_eq, Dev.geti_set_other, Dev.geti_seti_other, Dev.geti_xhLoop_other n hf hlow, hf, hne]

theorem Dev.geti_limit_lawBank (y : Int) : (d.lawBank n y).geti f = d.geti f := by
  unfold Dev.lawBank
  split
  · exact d.geti_limit_loopSwap n hf hlimit _ _
  · rfl

theorem Dev.geti_limit_lawStart (y : Int) : (d.lawStart n y).geti f = d.geti f := by
  have hlow : o ≤ 0x44 := by omega
  have hne : o ≠ 0 ∧ o ≠ 0x44 := by omega
  have hmod (e : Dev) (g : LoopCh → LoopCh) : (e.modLch n g).geti f = e.geti f := rfl
  rw [← d.geti_limit_lawBank n hf hlimit y, Dev.lawStart, hmod]
  split
  · simp [-Dev.seti_eq, Dev.geti_set_other, Dev.geti_seti_other, Dev.geti_xhLoop_other n hf hlow, hf, hne]
  · rfl

end

end

/-- With no swap and no initialisation due a sample starts from the states as they stand. -/
theorem Dev.geti_lawStart_plain {y : Int} (f : Fld) (hswap : d.lawSwaps n = false) (hinit : d.lawInits n = false) :
    (d.lawStart n y).geti f = d.geti f := by
  simp only [Dev.lawStart, Dev.lawBank, hswap, hinit, Bool.false_eq_true, if_false]
  rfl

theorem Dev.lawU_bounds (raw : Int) :
    d.geti (Reg.LP_UMIN_UMIN n) ≤ d.lawU n raw ∧
      d.lawU n raw ≤ max (d.geti (Reg.LP_UMIN_UMIN n)) (d.geti (Reg.LP_UMAX_UMAX n)) :=
  ⟨le_min (le_max_right _ _) (le_max_left _ _), min_le_right _ _⟩

theorem Dev.lawU_word (raw : Int) : -2 ^ 31 ≤ d.lawU n raw ∧ d.lawU n raw < 2 ^ 31 := by
  obtain ⟨hlo, hhi⟩ := d.lawU_bounds n raw
  have hmin := d.geti_word_bounds (f := Reg.LP_UMIN_UMIN n) rfl
  have hmax := d.geti_word_bounds (f := Reg.LP_UMAX_UMAX n) rfl
  omega

end

/-- Settles O56: of the stages of a sample only `Dev.lawStore` writes the output and the integral state. -/
theorem loopOutputStaysInItsLimits : Obligations.LoopOutputStaysInItsLimits := by
  intro d n y t
  obtain ⟨x, raw, z, high, run, sats, hz, ht⟩ := d.loopLaw_eq_stages n.val y
  have hread {f : Fld} {o : Nat} (hf : f.addr = loopReg n.val o) : t.get f = _ :=
    (congrArg (·.get f) ht).trans (Dev.get_satTell _ _ (by rw [hf]; exact loopReg_ne_evtDrop)
      (by rw [hf]; exact loopReg_ne_evtRaw) _ _ _)
  have hword := (d.lawStart n.val y).lawU_word n.val raw
  have hbounds := (d.lawStart n.val y).lawU_bounds n.val raw
  rw [d.geti_limit_lawStart n.val (addr_lpUmin n.val) (.inl rfl), d.geti_limit_lawStart n.val (addr_lpUmax n.val) (.inr rfl)] at hbounds
  have hu : t.geti (Reg.LP_U_U n.val) = (d.lawStart n.val y).lawU n.val raw :=
    (Dev.geti_congr (hread (addr_lpU n.val))).trans (Dev.geti_u_lawStore _ _ _ _ _ _ _ _ _ _ _ hword.1 hword.2)
  rw [hu]
  refine ⟨hbounds.1, hbounds.2, fun hswap hinit hctl hsat => ?_⟩
  have hlimited : ((d.lawStart n.val y).lawU n.val raw != raw) = true := by
    rw [← hsat, Dev.flag, hread (addr_lpStatSat n.val)]
    exact (Dev.flag_sat_lawStore ..).symm
  have hkeep : (d.lawStart n.val y).geti (Reg.LP_Z_Z n.val) = d.geti (Reg.LP_Z_Z n.val) :=
    d.geti_lawStart_plain n.val _ (by rw [Dev.lawSwaps, hswap]; rfl) (by rw [Dev.lawInits, hinit, hctl]; rfl)
  have hzd : z = d.geti (Reg.LP_Z_Z n.val) := (hz hlimited).trans hkeep
  have hzword := d.geti_word_bounds (f := Reg.LP_Z_Z n.val) rfl
  rw [← hzd] at hzword ⊢
  exact (Dev.geti_congr (hread (addr_lpZ n.val))).trans (Dev.geti_z_lawStore _ _ _ _ _ _ _ _ _ _ _ hzword.1 hzword.2)

/-! ### Writes of LP_CTL and of coefficients (R583 to R585, R589 to R592, R601) -/

@[simp] theorem lpCtlOf_lpCtl (n : Fin 8) : lpCtlOf (Reg.LP_CTL n.val) = some n.val := by
  revert n
  decide

section
variable {s : State} {l : Land} {ag : Agent} {a : Nat} {v : Word} {d : Dev} {n : Fin 8}

/-- The five rows of LP_CTL are one write, told apart by its command bits. -/
theorem onDev_landLp_granted (hg : s.dev.granted l = some (ag, Reg.LP_CTL n.val, v, d)) {p : Nat → Nat → Bool}
    (hp : p n.val v.toNat = true) :
    onDev (fun d => d.landLp l p) s = .next (s.withDev (d.lpCtl n.val ag v.toNat)) := by
  simp only [onDev_next, Dev.landLp]
  rw [Dev.land_granted hg (by rw [lpCtlOf_lpCtl]; exact hp), lpCtlOf_lpCtl, State.withDev]

/-- The highest command bit names the row: CLR_FAULT, else SWAP, else INIT, else EN. -/
theorem exec_lpCtl_granted (hg : s.dev.granted l = some (ag, Reg.LP_CTL n.val, v, d)) :
    let t := s.withDev (d.lpCtl n.val ag v.toNat)
    (bit v.toNat 4 = true → exec (.loopClrFault l) s = .next t) ∧
    (bit v.toNat 4 = false → bit v.toNat 2 = true → exec (.loopSwap l) s = .next t) ∧
    (bit v.toNat 4 = false → bit v.toNat 2 = false → bit v.toNat 1 = true → exec (.loopInit l) s = .next t) ∧
    (bit v.toNat 4 = false → bit v.toNat 2 = false → bit v.toNat 1 = false → bit v.toNat 0 = true →
      exec (.loopEnable l) s = .next t) ∧
    (bit v.toNat 4 = false → bit v.toNat 2 = false → bit v.toNat 1 = false → bit v.toNat 0 = false →
      exec (.loopDisable l) s = .next t) := by
  refine ⟨fun h4 => ?_, fun h4 h2 => ?_, fun h4 h2 h1 => ?_, fun h4 h2 h1 h0 => ?_, fun h4 h2 h1 h0 => ?_⟩
  · exact onDev_landLp_granted hg (p := fun _ v => bit v 4) h4
  · exact onDev_landLp_granted hg (p := fun _ v => ! bit v 4 && bit v 2) (by rw [h4, h2]; rfl)
  · exact onDev_landLp_granted hg (p := fun _ v => ! bit v 4 && ! bit v 2 && bit v 1) (by rw [h4, h2, h1]; rfl)
  · exact onDev_landLp_granted hg (p := fun _ v => ! bit v 4 && ! bit v 2 && ! bit v 1 && bit v 0) (by rw [h4, h2, h1, h0]; rfl)
  · exact onDev_landLp_granted hg (p := fun _ v => ! bit v 4 && ! bit v 2 && ! bit v 1 && ! bit v 0) (by rw [h4, h2, h1, h0]; rfl)

/-- A coefficient of the active bank, or of either while a swap is pending, is refused and counted. -/
theorem exec_coefWrite_granted {n b : Nat} (hg : s.dev.granted l = some (ag, a, v, d)) (ha : coefOf a = some (n, b)) :
    exec (.coefWrite l) s = .next (s.withDev
      (if b = d.get (Reg.LP_STAT_BANK n) ∨ d.flag (Reg.LP_STAT_SWAP_PEND n) = true then d.addSat Reg.LC_STAT_COEF_REFUSED 1
      else d.store a v.toNat)) := by
  change execCoefWrite l s = _
  rw [execCoefWrite, onDev_land_granted hg (by rw [ha]; rfl)]
  simp only [ha]

end

/-! ### A sample instant (R570, R598 to R601) -/

/-- A channel in RUN computes a sample, and one that is then FAULTED tells its owner; any other takes its shadows. -/
theorem exec_loopSample (s : State) (n : Fin 8) (fb : Option Nat) :
    let d := ((fb.elim s.dev (s.dev.loopFeed n.val)).ownerBoundary n.val).ownerSet n.val
    exec (.loopSample n fb) s = .next (s.withDev
      (if d.get (Reg.LP_STAT_STATE n.val) = 1 then
        if (d.loopTick n.val).get (Reg.LP_STAT_STATE n.val) = 2 then (d.loopTick n.val).ownerStale n.val else d.loopTick n.val
      else d.chanBoundary 0x2D n.val)) := by
  change execLoopSample n fb s = _
  rw [execLoopSample, onDev_next, State.withDev]
  cases fb with
  | none => rfl
  | some c => rfl

/-- Settles O24: a write goes by the row of its bits or its bank, a sample by the state before and after it. -/
theorem loopCommandsTakeEffect : Obligations.LoopCommandsTakeEffect := by
  refine ⟨fun _ _ _ _ _ _ => exec_lpCtl_granted, ?coefficients, ?sample⟩
  case coefficients =>
    intro s l ag a v d n b hg ha
    rw [exec_coefWrite_granted hg ha]
    refine ⟨fun hb hpend => ?_, fun href => by rw [if_pos href]⟩
    rw [if_neg (not_or.mpr ⟨hb, by rw [hpend]; decide⟩)]
  case sample =>
    intro s n fb d0 d x
    have hfb : d0 = fb.elim s.dev (s.dev.loopFeed n.val) := by
      cases fb with
      | none => rfl
      | some c => rfl
    have hsample := exec_loopSample s n fb
    rw [← hfb] at hsample
    rw [hsample]
    refine ⟨fun hoff => by rw [if_neg hoff], fun hrun hok => by rw [if_pos hrun, if_neg hok], fun hrun hfault => ?_⟩
    rw [if_pos hrun, if_pos hfault]

end Sys2Proof.Machine

/-! # Proofs of the statements of spec/14_fuser_hv_laser.md

The heater and the fuser's readings, the correlation test, high voltage, and the laser-enable chain. -/

namespace Sys2Proof.Machine

/-! ### The heater (R605, R617 to R619) -/

theorem roundDiv_zero (b : Nat) : roundDiv 0 b = 0 := by
  unfold roundDiv
  split
  · rfl
  · rw [Nat.mul_zero, Nat.zero_add]
    exact Nat.div_eq_of_lt (by omega)

/-- A heater that is off in the period that begins now. -/
def Dev.heaterOff (d : Dev) : Dev := { (d.set Reg.FU_STAT_HTR_ON 0) with proc := { d.proc with onTime := 0, perAt := d.now } }

/-- The readings of the period that has ended: its mean current, if the heater was on, and the run of open periods. -/
def Dev.heaterRead (d : Dev) (i run : Nat) : Dev :=
  let d1 := if d.proc.onTime = 0 then d else d.set Reg.FU_HTR_I_I (min i 65535)
  { d1 with proc := { d1.proc with openRun := run } }

/-- The period that has ended is judged, to `e`; there a blocked heater is off. -/
theorem exec_heaterPeriod_blocked {s : State} {i run : Nat} {low : Bool} {e : Dev}
    (hrun : (if low && decide (100 ≤ s.dev.proc.onTime) then s.dev.proc.openRun + 1 else 0) = run)
    (he : (if run = 3 then (s.dev.heaterRead i run).fuserFault 6 else s.dev.heaterRead i run) = e)
    (hblocked : e.heaterBlocked = true) :
    exec (.heaterPeriod i low) s = .next (s.withDev e.heaterOff) := by
  simp only [Dev.heaterRead] at he
  change execHeaterPeriod i low s = _
  simp only [execHeaterPeriod, onDev_next, hrun, he, hblocked, if_true, Nat.zero_mul, roundDiv_zero, Nat.min_zero, Dev.heaterOff,
    State.withDev]
  rfl

section
variable {s : State}

theorem exec_heaterPeriod_idle (i : Nat) (hidle : s.dev.proc.onTime = 0) :
    let d := { s.dev with proc := { s.dev.proc with openRun := 0 } }
    s.dev.heaterBlocked = true → exec (.heaterPeriod i false) s = .next (s.withDev
      { (d.set Reg.FU_STAT_HTR_ON 0) with proc := { d.proc with onTime := 0, perAt := d.now } }) := by
  intro d hblocked
  exact exec_heaterPeriod_blocked (run := 0) (e := d) rfl (by rw [if_neg (by decide), Dev.heaterRead, if_pos hidle]) hblocked

theorem exec_heaterPeriod_thirdOpen (i : Nat) (hon : 100 ≤ s.dev.proc.onTime) (htwo : s.dev.proc.openRun = 2) :
    let d := s.dev.set Reg.FU_HTR_I_I (min i 65535)
    let e := ({ d with proc := { d.proc with openRun := 3 } } : Dev).fuserFault 6
    e.heaterBlocked = true → exec (.heaterPeriod i true) s = .next (s.withDev
      { (e.set Reg.FU_STAT_HTR_ON 0) with proc := { e.proc with onTime := 0, perAt := e.now } }) := by
  intro d e hblocked
  exact exec_heaterPeriod_blocked (run := 3) (e := e) (by rw [decide_eq_true hon, htwo]; rfl)
    (by rw [if_pos rfl, Dev.heaterRead, if_neg (by omega)]) hblocked

theorem exec_heaterOvercurrent_on (hon : s.dev.heaterOn = true) (hnew : s.dev.faulted 0x2F 7 = false) :
    exec .heaterOvercurrent s = .next (s.withDev (s.dev.heaterForceOff.fuserFault 7)) := by
  change execHeaterOvercurrent s = _
  exact onDev_when (p := fun d => d.heaterOn && ! d.faulted 0x2F 7) (by rw [hon, hnew]; rfl)

theorem exec_heaterStuck_off (hoff : s.dev.heaterOn = false) (hnew : s.dev.faulted 0x2F 8 = false) :
    exec .heaterStuck s = .next (s.withDev ((s.dev.fuserFault 8).lockOff 10)) := by
  change execHeaterStuck s = _
  exact onDev_when (p := fun d => ! d.heaterOn && ! d.faulted 0x2F 8) (by rw [hoff, hnew]; rfl)

/-! ### The reading (R607, R608) -/

theorem exec_fuserReading_thirdOpen {r : Fin 4096} (hopen : 4080 ≤ r.val) (htwo : 2 ≤ s.dev.proc.opens)
    (hok : s.dev.get Reg.FU_STAT_TH_STATE = 0) :
    exec (.fuserReading r) s = .next (s.withDev ((({ (s.dev.set Reg.FU_TEMP_RATIO r.val) with proc := { s.dev.proc with
      opens := 3, shorts := 0 } } : Dev).set Reg.FU_STAT_TH_STATE 1).fuserFault 1)) := by
  have hopens : 3 ≤ s.dev.proc.opens + 1 := by omega
  change execFuserReading r s = _
  simp only [execFuserReading, onDev_next, if_pos hopen, if_neg (show ¬ r.val ≤ 16 by omega), hok, Nat.min_eq_left hopens,
    if_pos hopens, if_pos (Or.inl hopens : 3 ≤ s.dev.proc.opens + 1 ∨ 3 ≤ 0), Nat.min_zero, if_neg (by decide : ¬ 0 = 1), if_true,
    State.withDev]

theorem exec_fuserReading_between {r : Fin 4096} (hshort : 16 < r.val) (hopen : r.val < 4080) :
    exec (.fuserReading r) s = .next (s.withDev
      (({ (s.dev.set Reg.FU_TEMP_RATIO r.val) with proc := { s.dev.proc with opens := 0, shorts := 0 } } : Dev).fuserTemp r.val)) := by
  change execFuserReading r s = _
  simp only [execFuserReading, onDev_next, if_neg hopen.not_ge, if_neg hshort.not_ge, Nat.min_zero,
    if_neg (by decide : ¬ (3 ≤ 0 ∨ 3 ≤ 0)), State.withDev]

/-! ### Over-temperature and the correlation test (R616, R620 to R622) -/

theorem exec_otTrip_first (hnew : s.dev.flag Reg.FU_STAT_OT_LATCH = false) :
    exec .otTrip s = .next (s.withDev ((((s.dev.set Reg.FU_STAT_OT_LATCH 1).fireRaw 0x2F 3).heaterForceOff).fuserFault 3)) := by
  change execOtTrip s = _
  rw [execOtTrip, onDev_next, when_true (by rw [hnew]; rfl), State.withDev]

theorem exec_corrTestStart_due (hdue : s.dev.proc.corrDue = true) (hidle : s.dev.flag Reg.FU_STAT_CORR_RUN = false)
    (hwarm : s.dev.laserState = LasSt.warming) (hpg : s.dev.get (Reg.CH_STAT_PG 10) = 1) (hfree : s.dev.procHeld 0 = false)
    (hrcpt : s.dev.rcpt = none) (hth : s.dev.get Reg.FU_STAT_TH_STATE = 0) :
    let d := (((s.dev.set Reg.FU_STAT_CORR_RUN 1).set Reg.FU_STAT_CORR_RESULT 0).set Reg.FU_CORR_CORR_FORCE 0).set
      (Reg.PG_OWNER_FW_HOLD 0x2F) 1
    exec .corrTestStart s = .next (s.withDev (({ d with proc := { d.proc with
      corr := some (d.now, d.geti Reg.FU_TEMP_TEMP, d.geti Reg.HD_TEMP_TEMP) } } : Dev).ownerSet 0 |>.loopInit 0)) := by
  change execCorrTestStart s = _
  rw [execCorrTestStart, onDev_next, when_true (by rw [hdue, hidle, hwarm, hpg, hfree, hrcpt, hth]; rfl), State.withDev]

section
variable {l : Land} {ag : Agent} {v : Word} {d : Dev}

theorem exec_corrForce_granted (hg : s.dev.granted l = some (ag, Reg.FU_CORR, v, d)) (hforce : bit v.toNat 8 = true) :
    exec (.corrForce l) s = .next (s.withDev (d.store Reg.FU_CORR v.toNat)) :=
  onDev_land_granted hg (by rw [hforce]; rfl)

/-- OT_CLR clears the latch where the comparator is released and the engine's state allows it. -/
theorem exec_otClr_granted (hg : s.dev.granted l = some (ag, Reg.FU_CLR, v, d)) (hclr : bit v.toNat 0 = true) (trips : Bool) :
    exec (.otClr l trips) s = .next (s.withDev
      (if ! trips && d.flag Reg.FU_STAT_OT_LATCH && (d.laserState == LasSt.stopped || d.laserState == LasSt.cold ||
        d.laserState == LasSt.safe) then (d.set Reg.FU_STAT_OT_LATCH 0).procClear 0 3 else d)) :=
  onDev_land_granted hg (by rw [hclr]; rfl)

/-! ### High voltage, the interlock, overpower and the enables (R626, R627, R631, R635, R639, R640, R642) -/

theorem exec_hvBringupStep_rest (hmay : s.dev.hvAllowed = true) (hpg : s.dev.get (Reg.CH_STAT_PG 9) = 1) (hup : s.dev.proc.hvUp = 0)
    (hrest : s.dev.proc.hvCh = none) : exec .hvBringupStep s = .next (s.withDev (s.dev.hvStart 0)) := by
  change execHvBringupStep s = _
  rw [execHvBringupStep, onDev_next, when_true (by rw [hmay, hpg]; rfl)]
  simp only [hrest, hup, if_true, State.withDev]

theorem exec_ilkChange (s : State) (high : Bool) :
    exec (.ilkChange high) s = .next (s.withDev (((s.dev.setb Reg.LS_STAT_ILK (! high)).permitUpdate).hvUpdate)) := rfl

theorem exec_overpowerTrip_first (hnew : s.dev.flag Reg.LS_STAT_OP_LATCH = false) :
    exec .overpowerTrip s = .next (s.withDev
      ((((s.dev.set Reg.LS_STAT_OP_LATCH 1).addSat Reg.LS_CNT_OP_TRIPS 1).permitUpdate).laserFault 1)) := by
  change execOverpowerTrip s = _
  rw [execOverpowerTrip, onDev_next, when_true (by rw [hnew]; rfl), State.withDev]

/-- OP_CLR clears the latch where the comparator is released and the laser is not armed; the rest of the write acts either way. -/
theorem exec_opClr_granted (hg : s.dev.granted l = some (ag, Reg.LS_CTL, v, d)) (hclr : bit v.toNat 1 = true) (trips : Bool) :
    exec (.opClr l trips) s = .next (s.withDev
      ((if ! trips && d.flag Reg.LS_STAT_OP_LATCH && ! d.flag Reg.LS_CTL_ARM then
        ((d.set Reg.LS_STAT_OP_LATCH 0).permitUpdate).procClear 2 1 else d).lsCtl ag v.toNat)) :=
  onDev_land_granted hg (by rw [hclr]; rfl)

end

theorem exec_enableMismatch_hv (hoff : s.dev.flag Reg.HV_STAT_HV_EN = false) (hnew : s.dev.faulted 0x30 4 = false) :
    exec (.enableMismatch true) s = .next (s.withDev ((s.dev.procFault 1 St.hvFault 4 4).lockOff 9)) := by
  change execEnableMismatch true s = _
  rw [execEnableMismatch, onDev_next, if_pos rfl, when_true (by rw [hoff, hnew]; rfl), State.withDev]

theorem exec_enableMismatch_laser (hoff : s.dev.flag Reg.LS_STAT_PERMIT = false) (hnew : s.dev.faulted 0x31 3 = false) :
    exec (.enableMismatch false) s = .next (s.withDev ((s.dev.laserFault 3).lockOff 8)) := by
  change execEnableMismatch false s = _
  rw [execEnableMismatch, onDev_next, if_neg Bool.false_ne_true, when_true (by rw [hoff, hnew]; rfl), State.withDev]

end

/-- Settles O25: each clause is the lemma of its row; the two latches are cleared or kept by the condition of their write. -/
theorem processCommandsTakeEffect : Obligations.ProcessCommandsTakeEffect := by
  refine ⟨fun _ => exec_heaterPeriod_idle, fun _ _ => exec_fuserReading_thirdOpen, fun _ _ => exec_fuserReading_between,
    fun _ => exec_heaterPeriod_thirdOpen, fun _ => exec_corrTestStart_due, fun _ _ _ _ _ => exec_corrForce_granted,
    fun _ => exec_otTrip_first, ?otClr, fun _ => exec_heaterOvercurrent_on, fun _ => exec_heaterStuck_off,
    fun _ => exec_hvBringupStep_rest, exec_ilkChange, fun _ => exec_overpowerTrip_first, ?opClr, fun _ => exec_enableMismatch_hv,
    fun _ => exec_enableMismatch_laser⟩
  case otClr =>
    intro s l ag v d hg hclr hlatch
    refine ⟨fun hstate => ?_, exec_otClr_granted hg hclr true⟩
    rw [exec_otClr_granted hg hclr, if_pos (by simpa [hlatch, or_assoc] using hstate)]
  case opClr =>
    intro s l ag v d hg hclr
    refine ⟨fun hlatch harm => ?_, exec_opClr_granted hg hclr true⟩
    rw [exec_opClr_granted hg hclr, if_pos (by rw [hlatch, harm]; rfl)]

end Sys2Proof.Machine

/-! # Proofs of the statements of spec/15_thermal_head.md: the commands of a line

Each takes its pulse of the LINE sequencer; what follows is judged on the block `d` without it. -/

namespace Sys2Proof.Machine

section
variable {s : State} {d : Dev}

/-! ### SHIFT_GO and LATCH (R649, R653, R654, R669) -/

section
variable (hpulse : s.dev.linePulse 0 = true) (hd : s.dev.takePulse 0 = d)
include hpulse hd

/-- SHIFT_GO with no receipt, or with no line READY, shifts 0 bits. -/
theorem exec_shiftGo_blank (hnone : ∀ j, d.rcptJob = some j → d.lineReady s.mem j d.head.next = false) :
    exec .shiftGo s =
      .next (s.withDev (d.modHead (fun h => { h with shifted := none, shiftDots := [], shiftDone := true }))) := by
  change execShiftGo s = _
  simp only [execShiftGo, onAll_next, if_pos hpulse, hd, State.withDev]
  cases hj : d.rcptJob with
  | none => rfl
  | some j => simp only [hnone j hj, Bool.false_eq_true, if_false]

theorem exec_shiftGo_line {j : Job} (hj : d.rcptJob = some j) (hready : d.lineReady s.mem j d.head.next = true)
    (hecc : d.rcptEcc j d.head.next = none) :
    let x := d.lineDots s.mem j d.head.next
    exec .shiftGo s = .next (s.withDev (((((d.rcptRead j d.head.next).addSat Reg.HD_CNT1_SUBST x.2.1).addSat
      Reg.HD_CNT1_LOST_DOTS x.2.2).shiftUnits s.mem j d.head.next).modHead (fun h => { h with
        shifted := some d.head.next, next := d.head.next + 1, shiftDots := x.1, shiftDone := true, stepDone := false }))) := by
  change execShiftGo s = _
  simp only [execShiftGo, onAll_next, if_pos hpulse, hd, hj, hready, hecc, if_true, State.withDev]

end

section
variable (hpulse : s.dev.linePulse 1 = true) (hd : s.dev.takePulse 1 = d)
include hpulse hd

theorem exec_latch_blank (vh : Nat) (hnone : d.head.shifted = none ∨ d.rcptJob = none) :
    exec (.latch vh) s = .next (s.withDev d.latchBlank) := by
  change execLatch vh s = _
  simp only [execLatch, onAll_next, if_pos hpulse, hd, State.withDev]
  cases hn : d.head.shifted with
  | none => rfl
  | some n => simp only [hnone.resolve_left (by simp [hn])]

section
variable {n : Nat} {j : Job} (hn : d.head.shifted = some n) (hj : d.rcptJob = some j)
include hn hj

theorem exec_latch_pfw (vh : Nat) (hpfw : d.flag Reg.PF_STAT_PFW = true) : exec (.latch vh) s = .next (s.withDev d) := by
  change execLatch vh s = _
  simp only [execLatch, onAll_next, if_pos hpulse, hd, hn, hj, if_pos hpfw, State.withDev]

/-- The shifted line is latched; with nothing ahead and lines to come the platen stops STARVED. -/
theorem exec_latch_line (vh : Nat) (hpfw : d.flag Reg.PF_STAT_PFW = false) :
    let e := d.latchLine vh n j
    exec (.latch vh) s = .next (s.withDev
      (if e.readyFrom s.mem j (n + 1) = 0 && ! j.lastLine s.mem n && e.head.stopping == 0 then
        ((e.platenStop.historyOff.modHead (fun h => { h with stopping := 1, stops := h.stops + 1 })).addSat
          Reg.HD_CNT0_STARVE_STOPS 1).setThm ThmSt.starved 0
      else e)) := by
  intro e
  change execLatch vh s = _
  simp only [execLatch, onAll_next, if_pos hpulse, hd, hn, hj, hpfw, Bool.false_eq_true, if_false, State.withDev, e]
  split <;> rfl

end

end

/-! ### The strobes (R656 to R660) -/

theorem exec_strobeGo_pulsed (hpulse : s.dev.linePulse 2 = true) (hd : (s.dev.takePulse 2).strobeLine = d) :
    let len := d.passes d.head.lineW (widthSteps d.head.lineW) 0 none
    exec .strobeGo s = .next (s.withDev (d.modHead (fun h => { h with
      train := len, sched := len, strobeDone := len == 0, pre := if len = 0 then d.prePattern s.mem else h.pre }))) := by
  change execStrobeGo s = _
  simp only [execStrobeGo, onAll_next, if_pos hpulse, hd, State.withDev]

theorem exec_strobeDone_running (htrain : s.dev.head.train ≠ 0) :
    let pre := if s.dev.head.preN = 0 then s.dev.prePattern s.mem else s.dev.head.pre
    exec .strobeDone s = .next (s.withDev (s.dev.modHead (fun h => { h with train := 0, strobeDone := true, pre := pre }))) := by
  change execStrobeDone s = _
  simp only [execStrobeDone, onAll_next, if_pos htrain, State.withDev]

section
variable (gap : Nat) (hpulse : s.dev.linePulse 3 = true) (hd : s.dev.takePulse 3 = d)
include hpulse hd

theorem exec_preheatGo_fifth (hfour : 4 ≤ d.head.preN) :
    exec (.preheatGo gap) s = .next (s.withDev (d.addSat Reg.HD_CNT1_PRE_REFUSED 1)) := by
  change execPreheatGo gap s = _
  rw [execPreheatGo, onDev_next, when_true hpulse, hd, if_pos hfour, State.withDev]

theorem exec_preheatGo_fires {w len : Nat} (hroom : d.head.preN < 4)
    (hw : min (d.linePort 4) (min 50 (d.get Reg.HD_ENERGY_PRE_PCT) * (sortNat (d.head.widths.filter (· != 0))).headD 0 / 100 -
      d.head.preUsed) = w) (hw0 : w ≠ 0) (hlen : d.trainLen (fun k => d.head.pre.getD k false) w = len) (hlen0 : len ≠ 0) :
    exec (.preheatGo gap) s = .next (s.withDev (d.modHead (fun h => { h with
      preN := h.preN + 1, preUsed := h.preUsed + w, train := len, sched := h.sched + gap + len, strobeDone := false }))) := by
  change execPreheatGo gap s = _
  rw [execPreheatGo, onDev_next, when_true hpulse, hd, if_neg hroom.not_ge]
  simp only [hw, if_neg hw0, hlen, if_neg hlen0, beq_eq_false_iff_ne.mpr hlen0, State.withDev]

end

/-! ### STEP and LINE_DONE (R667, R669, R672 to R674) -/

section
variable (hpulse : s.dev.linePulse 4 = true) (hd : (s.dev.takePulse 4).modHead (fun h => { h with stepDone := true }) = d)
include hpulse hd

theorem exec_step_noEffect (hbusy : (d.ax 2).vel ≠ 0 ∨ (d.ax 2).queue ≠ [] ∨ d.flag Reg.PF_STAT_PFW = true) :
    exec .step s = .next (s.withDev d) := by
  have hbusy' : (d.ax 2).vel ≠ 0 ∨ (! (d.ax 2).queue.isEmpty) = true ∨ d.flag Reg.PF_STAT_PFW = true := by simpa using hbusy
  change execStep s = _
  simp only [execStep, onAll_next, if_pos hpulse, hd, if_pos hbusy', State.withDev]

theorem exec_step_starts {j : Job} (hrest : (d.ax 2).vel = 0) (hempty : (d.ax 2).queue = []) (hpfw : d.flag Reg.PF_STAT_PFW = false)
    (hjob : d.head.job = .lines) (hj : d.rcptJob = some j) :
    exec .step s = .next (s.withDev ((((d.set Reg.HD_RATE_STAT_TARGET (d.target s.mem j)).platenStart (d.target s.mem j)).modHead
      (fun h => { h with stopping := if h.stopping = 1 then 0 else h.stopping })).setThm ThmSt.printing 0)) := by
  have hidle : ¬ ((d.ax 2).vel ≠ 0 ∨ (! (d.ax 2).queue.isEmpty) = true ∨ d.flag Reg.PF_STAT_PFW = true) := by
    simp [hrest, hempty, hpfw]
  change execStep s = _
  simp only [execStep, onAll_next, if_pos hpulse, hd, if_neg hidle, hjob, hj, State.withDev]

end

section
variable (hpulse : s.dev.linePulse 7 = true) (hd : (s.dev.takePulse 7).headBoundary = d)
include hpulse hd

theorem exec_lineDone_noLine (hoff : d.head.lineOn = false) : exec .lineDone s = .next (s.withDev d) := by
  change execLineDone s = _
  simp only [execLineDone, onAll_next, if_pos hpulse, hd, hoff, Bool.not_false, if_true, State.withDev]

/-- The last line's schedule is stored, and the receipt's tail follows. -/
theorem exec_lineDone_last {e : Dev} {j : Job} (hon : d.head.lineOn = true) (hintime : d.head.overran = false)
    (he : (d.set Reg.HD_FIT_SCHED (min 65535 (d.head.sched / 100))).modHead (fun h =>
      { h with lineOn := false, overran := false, printed := h.printed + 1 }) = e)
    (hj : e.rcptJob = some j) (hlast : j.lastLine s.mem (e.head.latched - 1) = true) (hgoes : e.head.stopping ≠ 2) :
    exec .lineDone s = .next (s.withDev ((e.set Reg.HD_RATE_STAT_TARGET (e.target s.mem j)).receiptTail j)) := by
  have htail : (j.lastLine s.mem (e.head.latched - 1) && e.head.stopping != 2) = true := by
    rw [hlast, bne_iff_ne.mpr hgoes]
    rfl
  change execLineDone s = _
  simp only [execLineDone, onAll_next, if_pos hpulse, hd, hon, hintime, Bool.not_true, Bool.false_and, Bool.false_eq_true, if_false,
    he, hj, Dev.set_head, htail, if_true, State.withDev]

end

/-! ### MEAS_GO and CUT_GO (R677, R686) -/

theorem exec_measGo_idle (hpulse : s.dev.linePulse 5 = true) (hd : s.dev.takePulse 5 = d) (hidle : d.thermalState = ThmSt.idle) :
    exec .measGo s =
      .next (s.withDev (d.modHead (fun h => { h with elem := d.linePort 5 % 2048, measDone := false }))) := by
  change execMeasGo s = _
  rw [execMeasGo, onDev_next, when_true hpulse, hd, if_pos hidle, State.withDev]

section
variable {e : Dev} (hpulse : s.dev.linePulse 6 = true) (hd : s.dev.takePulse 6 = d) (hcut : d.head.cutting = true)
  (hjob : d.head.job ≠ .homing) (hpfw : d.flag Reg.PF_STAT_PFW = false)
  (he : d.modHead (fun h => { h with cutAt := d.now, cutDone := false, cutOn := 1 }) = e)
include hpulse hd hcut hjob hpfw he

/-- The cut asked for starts: in DC mode the motor runs forward, else two moves are posted. -/
theorem exec_cutGo_starts :
    exec .cutGo s = .next (s.withDev
      (if e.s4Dc then (e.set (Reg.ST_DC_DIR 3) 0).set (Reg.ST_DC_BRAKE 3) 0
      else
        let n := if e.head.cutKind = 1 then e.get Reg.HD_CUT1_CUT_PART else e.get Reg.HD_CUT1_CUT_FULL
        (e.cutMove n false).cutMove n true)) := by
  have hmay : (! d.head.cutting || d.head.job == .homing || d.flag Reg.PF_STAT_PFW) = false := by simp [hcut, hjob, hpfw]
  change execCutGo s = _
  rw [execCutGo, onDev_next, when_true hpulse]
  simp only [hd, hmay, he, Bool.false_eq_true, if_false, State.withDev]

end

end

/-- Settles O26: each clause is the lemma of its row, on the block that has taken the pulse. -/
theorem thermalLineCommandsTakeEffect : Obligations.ThermalLineCommandsTakeEffect := by
  refine ⟨?shiftGo, ?latch, fun _ hpulse => exec_strobeGo_pulsed hpulse rfl, fun _ => exec_strobeDone_running, ?preheatGo, ?step,
    ?lineDone, fun _ hpulse => exec_measGo_idle hpulse rfl, ?cutGo⟩
  case shiftGo =>
    intro s hpulse d t
    refine ⟨fun hnone => exec_shiftGo_blank hpulse rfl (fun j hj => absurd (hnone.symm.trans hj) nofun), fun j hj hready => ?_,
      fun j hj hready hecc => exec_shiftGo_line hpulse rfl hj hready hecc⟩
    refine exec_shiftGo_blank hpulse rfl (fun i hi => ?_)
    rw [← Option.some.inj (hj.symm.trans hi)]
    exact hready
  case latch =>
    intro s vh hpulse d
    refine ⟨exec_latch_blank hpulse rfl vh, fun n j hn hj => exec_latch_pfw hpulse rfl hn hj vh, ?_⟩
    intro n j hn hj hpfw e
    have hlatch := exec_latch_line hpulse rfl hn hj vh hpfw
    refine ⟨fun hahead => ?_, fun hnone hlast hgoes => ?_⟩
    · rw [hlatch, if_neg (by rw [decide_eq_false hahead]; exact Bool.false_ne_true)]
    · rw [hlatch, if_pos (by rw [decide_eq_true hnone, hlast, beq_iff_eq.mpr hgoes]; rfl)]
  case preheatGo =>
    intro s gap hpulse d
    refine ⟨exec_preheatGo_fifth gap hpulse rfl, ?_⟩
    intro hroom w hw0 hlen0
    exact exec_preheatGo_fires gap hpulse rfl hroom rfl hw0 rfl hlen0
  case step =>
    intro s hpulse d
    exact ⟨exec_step_noEffect hpulse rfl, fun j => exec_step_starts hpulse rfl⟩
  case lineDone =>
    intro s hpulse d
    refine ⟨exec_lineDone_noLine hpulse rfl, ?_⟩
    intro hon hintime e j
    exact exec_lineDone_last hpulse rfl hon hintime rfl
  case cutGo =>
    intro s hpulse d hcut hjob hpfw e
    have hgo := exec_cutGo_starts hpulse rfl hcut hjob hpfw rfl
    exact ⟨fun hdc => by rw [hgo, if_pos hdc], fun hstep => by rw [hgo, if_neg (Bool.eq_false_iff.mp hstep)]⟩

end Sys2Proof.Machine

/-! # Proofs of the statements of spec/15_thermal_head.md: the head beside its lines

The gate inputs, the head's faults, the measurement and the defect map, and the cutter. -/

namespace Sys2Proof.Machine

section
variable {s : State}

/-! ### The gates (R663 to R665) -/

/-- With no input newly asserted the inputs are stored, and the time since they read clear ends. -/
theorem exec_gateInput_held (o p j : Bool) :
    let g := b2n o + 2 * b2n p + 4 * b2n j
    g ≠ 0 → g &&& (7 ^^^ s.dev.get Reg.HD_STAT_GATE) = 0 → exec (.gateInput o p j) s = .next (s.withDev
      ((s.dev.set Reg.HD_STAT_GATE g).modHead (fun h => { h with condAt := some (h.condAt.getD s.dev.now), clearAt := none }))) := by
  intro g hgate hheld
  change execGateInput o p j s = _
  rw [execGateInput, onDev_next]
  simp only [g] at hgate hheld
  simp only [if_neg hgate]
  rw [if_neg (not_and_of_not_left _ (not_not.mpr hheld)), State.withDev]

theorem exec_blockedEntry_idle (hgate : s.dev.get Reg.HD_STAT_GATE ≠ 0) (hidle : s.dev.thermalState = ThmSt.idle)
    (hopen : bit (s.dev.get Reg.HD_STAT_GATE) 0 = true) :
    let d := (((s.dev.setThm ThmSt.blocked 0).endReceipt St.coverOpen).endFeed St.coverOpen).strobesOff.historyOff
    (d.ax 2).vel = 0 → d.head.cutting = false → exec .blockedEntry s = .next (s.withDev d.lineIdle) := by
  intro d hrest hcut
  change execBlockedEntry s = _
  rw [execBlockedEntry, onDev_next, when_true (by rw [bne_iff_ne.mpr hgate, hidle]; rfl)]
  simp only [if_pos hopen]
  rw [if_pos hrest, hcut, if_neg Bool.false_ne_true, State.withDev]

theorem exec_blockedClear_clear (hblocked : s.dev.thermalState = ThmSt.blocked) (hclear : s.dev.get Reg.HD_STAT_GATE = 0) :
    let d := s.dev.setThm ThmSt.idle 0
    exec .blockedClear s = .next (s.withDev (if d.head.homeLost then d.homingStart else d)) := by
  change execBlockedClear s = _
  rw [execBlockedClear, onDev_next, when_true (by rw [hblocked, hclear]; rfl), State.withDev]

/-! ### Writes of HD_CTL and of the defect map (R682, R690) -/

section
variable {l : Land} {ag : Agent} {v : Word} {d : Dev}

/-- HD_CLR ends the causes that are gone; with none left FAULT is left, for BLOCKED where a gate input still reads asserted. -/
theorem exec_hdClr_granted (hg : s.dev.granted l = some (ag, Reg.HD_CTL, v, d)) (hclr : bit v.toNat 0 = true)
    (hkeep : bit v.toNat 1 = false) :
    let e := (List.range 16).foldl (fun d c => if d.headCauseGone c then d.headClear c else d) d
    exec (.hdClr l) s = .next (s.withDev
      (if e.thermalState = ThmSt.fault ∧ e.get Reg.HD_STAT_CAUSES = 0 then
        if e.get Reg.HD_STAT_GATE = 0 then e.setThm ThmSt.idle 0 else e.setThm ThmSt.blocked 0
      else e)) := by
  change execHdClr l s = _
  rw [execHdClr, onDev_land_granted hg (by rw [hclr]; rfl), hkeep, if_neg Bool.false_ne_true]

theorem exec_defClr_granted (hg : s.dev.granted l = some (ag, Reg.HD_CTL, v, d)) (hclr : bit v.toNat 0 = false)
    (hdef : bit v.toNat 1 = true) : exec (.defClr l) s = .next (s.withDev d.defClr) :=
  onDev_land_granted hg (by rw [hclr, hdef]; rfl)

theorem exec_hdDefEntWrite_granted (hg : s.dev.granted l = some (ag, Reg.HD_DEF_ENT, v, d)) :
    exec (.hdDefEntWrite l) s = .next (s.withDev (d.modHead (fun h => { h with
      defects := lmod h.defects (d.get Reg.HD_DEF_SEL_ENTRY) (fun o => hostEntry o (bit v.toNat 15) (v.toNat % 2048)) }))) :=
  onDev_land_granted hg (beq_self_eq_true _)

end

/-! ### The measurement (R677, R678) -/

/-- 4500 mV or more is an open element; the sweep, once done, is not done again. -/
theorem exec_measDone_open {mv : Nat} (hopen : 4500 ≤ mv) :
    let e := s.dev.head.elem
    let elems := if s.dev.head.elems.contains e then s.dev.head.elems else s.dev.head.elems ++ [e]
    let d := s.dev.modHead (fun h => { h with measDone := true, elems := elems, res := (h.res.filter (fun x => x.1 != e)) ++ [(e, 0xFFF)] })
    let x := (d.set Reg.HD_MEAS_DONE_ELEMS elems.length).enterDefect e (d.defectKind 0xFFF)
    x.flag Reg.HD_MEAS_SWEEP_DONE = true → exec (.measDone mv) s = .next (s.withDev x) := by
  intro e elems d x hdone
  have hvalue : decide (mv < 4500) = false := decide_eq_false hopen.not_gt
  change execMeasDone mv s = _
  simp only [x, d, elems, e, Dev.modHead] at hdone ⊢
  simp only [execMeasDone, onDev_next, hvalue, Bool.false_and, Bool.false_eq_true, if_false, if_pos hopen, Dev.modHead, hdone,
    Bool.not_true, Bool.and_false, State.withDev]

/-! ### The cutter (R685 to R687) -/

/-- A cut of a receipt is counted, and the receipt ends OK. -/
theorem exec_cutDone_receipt (hcut : s.dev.head.cutting = true) (hjob : s.dev.head.job ≠ .homing)
    (hhomed : s.dev.flag Reg.HD_STAT_HOMED = true) (hover : s.dev.cutOver = true) :
    let k := s.dev.head.cutKind
    let d := (((s.dev.modHead (fun h => { h with cutDone := true, cutMade := k, cutOn := 0 })).fire 0x24 4 0).lifeAdd
      (if k = 2 then 15 else 16) 1).set (Reg.ST_STAT_POS_STATE 3) 0
    d.head.job = .cut → exec .cutDone s = .next (s.withDev (d.receiptDone St.ok)) := by
  intro k d hd
  change execCutDone s = _
  rw [execCutDone, onDev_next, when_true (by rw [hcut, bne_iff_ne.mpr hjob, hhomed, hover]; rfl)]
  simp only [d, k] at hd ⊢
  simp only [hd, State.withDev]

theorem exec_homing_needed {j : Job} (hj : s.dev.rcptJob = some j) (hlines : s.dev.head.job = .lines)
    (hneeded : s.dev.homeNeeded j = true) (hpfw : s.dev.flag Reg.PF_STAT_PFW = false) :
    exec .homing s = .next (s.withDev s.dev.homingStart) := by
  change execHoming s = _
  simp only [execHoming, onDev_next, hj]
  rw [if_pos ⟨hlines, hneeded, by rw [hpfw]; rfl⟩, State.withDev]

theorem exec_cutTimeout_due (hcut : s.dev.head.cutting = true)
    (hdue : s.dev.past s.dev.head.cutAt (10000 * s.dev.get Reg.HD_CUT0_CUT_TMAX) = true) :
    exec .cutTimeout s = .next (s.withDev (((s.dev.cutBrake.modHead (fun h => { h with cutMade := 0, homeLost := true })).headFaultSt
      10 St.cutFault St.ok).modHead (fun h => { h with job := .none }))) := by
  change execCutTimeout s = _
  rw [execCutTimeout, onDev_next, when_true (by rw [hcut, hdue]; rfl), State.withDev]

/-! ### Faults and readings of the head (R652, R666, R688) -/

theorem exec_strobeMismatch_new (hnew : bit (s.dev.get Reg.HD_STAT_CAUSES) 5 = false) :
    exec .strobeMismatch s = .next (s.withDev ((s.dev.headFault 5 St.headFault).lockOff 7)) := by
  change execStrobeMismatch s = _
  rw [execStrobeMismatch, onDev_next, when_true (by rw [hnew]; rfl), State.withDev]

theorem exec_headTempReading_thirdOpen {r : Fin 4096} (hopen : 4080 ≤ r.val) (htwo : 2 ≤ s.dev.head.opens) :
    exec (.headTempReading r) s = .next (s.withDev ((((s.dev.set Reg.HD_TEMP_RATIO r.val).modHead (fun h => { h with
      opens := 3, shorts := 0 })).headClear 2).headFault 1 St.headFault)) := by
  have hopens : 3 ≤ s.dev.head.opens + 1 := by omega
  change execHeadTempReading r s = _
  simp only [execHeadTempReading, onDev_next, if_pos hopen, if_neg (show ¬ r.val ≤ 16 by omega), Nat.min_eq_left hopens,
    if_pos hopens, Nat.min_zero, State.withDev]

theorem exec_headTempReading_between {r : Fin 4096} (hshort : 16 < r.val) (hopen : r.val < 4080) :
    exec (.headTempReading r) s = .next (s.withDev
      (((s.dev.set Reg.HD_TEMP_RATIO r.val).modHead (fun h => { h with opens := 0, shorts := 0 })).headTemp r.val)) := by
  change execHeadTempReading r s = _
  simp only [execHeadTempReading, onDev_next, if_neg hopen.not_ge, if_neg hshort.not_ge, Nat.min_zero,
    if_neg (by decide : ¬ 3 ≤ 0), State.withDev]

theorem exec_vheadWindow_inside {mv : Nat} (hlo : s.dev.get Reg.HD_VH_VH_MIN ≤ mv) (hhi : mv ≤ s.dev.get Reg.HD_VH_VH_MAX) :
    exec (.vheadWindow mv) s =
      .next (s.withDev ((s.dev.modHead (fun h => { h with vhOk := true, vhAt := none })).headClear 4)) := by
  have hin : (decide (mv < s.dev.get Reg.HD_VH_VH_MIN) || decide (s.dev.get Reg.HD_VH_VH_MAX < mv)) = false := by
    simp [hlo, hhi]
  change execVheadWindow mv s = _
  simp only [execVheadWindow, onDev_next, hin, Bool.false_and, keepSince, lastsFor, Bool.false_eq_true, if_false,
    Bool.not_false, State.withDev]

end

/-- Settles O27: each clause is the lemma of its row; HD_CLR goes by what is left of the causes. -/
theorem headCommandsTakeEffect : Obligations.HeadCommandsTakeEffect := by
  refine ⟨fun _ => exec_gateInput_held, fun _ => exec_blockedEntry_idle, fun _ => exec_blockedClear_clear, ?hdClr,
    fun _ _ => exec_measDone_open, fun _ => exec_cutDone_receipt, fun _ _ => exec_homing_needed, fun _ => exec_cutTimeout_due,
    fun _ => exec_strobeMismatch_new, fun _ _ => exec_headTempReading_thirdOpen, fun _ _ => exec_headTempReading_between,
    fun _ _ => exec_vheadWindow_inside, fun _ _ _ _ _ => exec_defClr_granted, fun _ _ _ _ _ => exec_hdDefEntWrite_granted⟩
  case hdClr =>
    intro s l ag v d hg hclr hkeep e
    have hwrite := exec_hdClr_granted hg hclr hkeep
    refine ⟨fun hfault hnone hgate => ?_, fun hstays => ?_⟩
    · rw [hwrite, if_pos ⟨hfault, hnone⟩, if_pos hgate]
    · rw [hwrite, if_neg (not_and_or.mpr hstays)]

end Sys2Proof.Machine

/-! # Proofs of the statements of spec/16_power.md

The steps of the sequencer's programs, the entries and requests of the power side, and the conditions of rails and inputs. -/

namespace Sys2Proof.Machine

/-! ### Steps (R705 to R710, Table 16-2) -/

section
variable {s : State}

section
variable (hphase : s.dev.pw.phase = 1) (hpast : s.dev.pw.past = false) (hlegal : stepLegal s.dev.pseqWord = true)
include hphase hpast hlegal

/-- The row of a legal step's OP acts on its word. -/
theorem onDev_pseqRun {op : Nat} (f : Nat → Dev → Dev) (hop : s.dev.pseqWord / 2 ^ 28 = op) :
    onDev (fun d => d.pseqRun op f) s = .next (s.withDev (f s.dev.pseqWord s.dev)) := by
  rw [onDev_next, Dev.pseqRun, if_pos (by simp only [hphase, hpast, hlegal, hop, beq_self_eq_true, Bool.not_false, Bool.and_self]), State.withDev]

theorem exec_pWait_legal (hop : s.dev.pseqWord / 2 ^ 28 = 3) :
    exec .pWait s = .next (s.withDev
      (if s.dev.pseqWord % 2 ^ 20 = 0 then s.dev.pseqNext else { s.dev with pw := { s.dev.pw with phase := 2 } })) :=
  onDev_pseqRun hphase hpast hlegal _ hop

theorem exec_pWaitc_legal (hop : s.dev.pseqWord / 2 ^ 28 = 4) :
    exec .pWaitc s = .next (s.withDev
      (if s.dev.stepCond s.dev.pseqWord then s.dev.pseqNext else { s.dev with pw := { s.dev.pw with phase := 3 } })) :=
  onDev_pseqRun hphase hpast hlegal _ hop

theorem exec_pCheck_legal (hop : s.dev.pseqWord / 2 ^ 28 = 5) :
    exec .pCheck s = .next (s.withDev
      (if s.dev.stepCond s.dev.pseqWord then s.dev.pseqNext else s.dev.pseqEnd 2 (bitsOf s.dev.pseqWord 8 8) [])) :=
  onDev_pseqRun hphase hpast hlegal _ hop

theorem exec_pJmpc_legal (hop : s.dev.pseqWord / 2 ^ 28 = 7) :
    exec .pJmpc s = .next (s.withDev
      (if s.dev.stepCond s.dev.pseqWord then s.dev.pseqGoto (bitsOf s.dev.pseqWord 20 6) else s.dev.pseqNext)) :=
  onDev_pseqRun hphase hpast hlegal _ hop

end

/-! ### Ends of waits, and illegal steps (R705, R707, R708) -/

theorem exec_pWaitEnd_waiting (hwait : s.dev.pw.phase = 2) : exec .pWaitEnd s = .next (s.withDev s.dev.pseqNext) := by
  change execPWaitEnd s = _
  rw [execPWaitEnd, onDev_next, when_true (by rw [hwait]; rfl), State.withDev]

theorem exec_pWaitcEnd_true (hwait : s.dev.pw.phase = 3) (hcond : s.dev.stepCond s.dev.pseqWord = true) :
    exec .pWaitcEnd s = .next (s.withDev s.dev.pseqNext) := by
  change execPWaitcEnd s = _
  rw [execPWaitcEnd, onDev_next, when_true (by rw [hwait, hcond]; rfl), State.withDev]

theorem exec_pWaitcTimeout_false (hwait : s.dev.pw.phase = 3) (hcond : s.dev.stepCond s.dev.pseqWord = false) :
    exec .pWaitcTimeout s = .next (s.withDev (s.dev.pseqGoto (bitsOf s.dev.pseqWord 20 6))) := by
  change execPWaitcTimeout s = _
  rw [execPWaitcTimeout, onDev_next, when_true (by rw [hwait, hcond]; rfl), State.withDev]

theorem exec_illegalStep_running {p : Bool} (hphase : s.dev.pw.phase = 1)
    (hbad : p = true ∨ s.dev.pw.past = true ∨ stepLegal s.dev.pseqWord = false) :
    exec (.illegalStep p) s = .next (s.withDev (s.dev.pseqEnd 2 0xFF [])) := by
  have hbad' : (p || s.dev.pw.past || ! stepLegal s.dev.pseqWord) = true := by simpa [or_assoc] using hbad
  change execIllegalStep p s = _
  rw [execIllegalStep, onDev_next, when_true (by rw [hphase, hbad']; rfl), State.withDev]

end

/-- Settles O28: each legal step goes by the row of its OP, and where it judges a condition by that. -/
theorem powerSequencerStepsTakeEffect : Obligations.PowerSequencerStepsTakeEffect := by
  refine ⟨?steps, fun _ => exec_pWaitEnd_waiting, fun _ => exec_pWaitcEnd_true, fun _ => exec_pWaitcTimeout_false,
    fun _ _ => exec_illegalStep_running⟩
  case steps =>
    intro s errs d w hphase hpast hlegal
    have runs {op : Nat} (f : Nat → Dev → Dev) := onDev_pseqRun hphase hpast hlegal (op := op) f
    have hwait := exec_pWait_legal hphase hpast hlegal
    have hwaitc := exec_pWaitc_legal hphase hpast hlegal
    have hcheck := exec_pCheck_legal hphase hpast hlegal
    have hjmpc := exec_pJmpc_legal hphase hpast hlegal
    refine ⟨runs _, runs _, runs _, fun hop h0 => ?_, fun hop h0 => ?_, fun hop hc => ?_, fun hop hc => ?_, fun hop hc => ?_,
      fun hop hc => ?_, runs _, fun hop hc => ?_, fun hop hc => ?_, runs _⟩
    · rw [hwait hop, if_pos h0]
    · rw [hwait hop, if_neg h0]
    · rw [hwaitc hop, if_pos hc]
    · rw [hwaitc hop, if_neg (Bool.eq_false_iff.mp hc)]
    · rw [hcheck hop, if_pos hc]
    · rw [hcheck hop, if_neg (Bool.eq_false_iff.mp hc)]
    · rw [hjmpc hop, if_pos hc]
    · rw [hjmpc hop, if_neg (Bool.eq_false_iff.mp hc)]

/-! ### Entries and requests (R712, R716, R717, R720, R723) -/

section
variable {s : State}

theorem exec_pseqEntryStart_first {v : Nat} (hphase : s.dev.pw.phase = 0)
    (hfirst : [1, 2, 3, 7, 6].find? (fun v => bit (s.dev.get Reg.PSEQ_REQ_REQ) v) = some v) (hv : v ≠ 3) :
    exec .pseqEntryStart s = .next (s.withDev
      ((s.dev.set Reg.PSEQ_REQ_REQ (s.dev.get Reg.PSEQ_REQ_REQ &&& (255 ^^^ 2 ^ v))).pseqStart v)) := by
  change execPseqEntryStart s = _
  rw [execPseqEntryStart, onDev_next, when_true (by rw [hphase]; rfl)]
  simp only [hfirst, if_neg hv, State.withDev]

theorem exec_programTimeout_due :
    let v := s.dev.get Reg.PSEQ_STAT_VEC
    s.dev.pw.phase ≠ 0 → v = 1 ∨ v = 5 →
    exec .programTimeout s = .next (s.withDev ((s.dev.pseqRecord 3 0).pseqAfter v 3 [])) := by
  intro v hruns hv
  have hv' : (v == 1 || v == 5) = true := by simpa using hv
  change execProgramTimeout s = _
  rw [execProgramTimeout, onDev_next, when_true (by rw [bne_iff_ne.mpr hruns]; exact hv'), State.withDev]

theorem exec_powerUpStart_off (hoff : s.dev.devState = DevSt.off) (hvin : s.dev.flag Reg.PF_STAT_VIN_OK = true)
    (hgo : s.dev.flag Reg.PSEQ_CTL_PU_HALT = false) :
    exec .powerUpStart s = .next (s.withDev (((s.dev.resetDevice.lifeAdd 1 1).setDev DevSt.powerUp).pseqStart 0)) := by
  change execPowerUpStart s = _
  rw [execPowerUpStart, onDev_next, when_true (by rw [hoff, hvin, hgo]; rfl), State.withDev]

theorem exec_powerUpRetry_off (hoff : s.dev.devState = DevSt.off) (hvin : s.dev.flag Reg.PF_STAT_VIN_OK = true)
    (hgo : s.dev.flag Reg.PSEQ_CTL_PU_HALT = false) (hfails : 0 < s.dev.get Reg.PSEQ_CTL_PU_FAILS) :
    exec .powerUpRetry s = .next (s.withDev (((s.dev.resetDevice.lifeAdd 1 1).setDev DevSt.powerUp).pseqStart 0)) := by
  change execPowerUpRetry s = _
  rw [execPowerUpRetry, onDev_next, when_true (by rw [hoff, hvin, hgo, decide_eq_true hfails]; rfl), State.withDev]

section
variable {l : Land} {ag : Agent} {v : Word} {d : Dev}

theorem exec_pseqReq_granted (hg : s.dev.granted l = some (ag, Reg.PSEQ_REQ, v, d)) :
    exec (.pseqReq l) s =
      .next (s.withDev ((List.range 8).foldl (fun d i => if bit v.toNat i then d.pseqRequest i else d) d)) :=
  onDev_land_granted hg (beq_self_eq_true _)

/-- A write that sets FW_ACK acts only with the engines at rest and every axis parked. -/
theorem exec_fwAck_granted (hg : s.dev.granted l = some (ag, Reg.PSEQ_CTL, v, d)) :
    let ready := d.axesParked && d.laserState == LasSt.cold && d.thermalState == ThmSt.idle && d.rcpt.isNone
    exec (.fwAck l) s = .next (s.withDev (if bit v.toNat 0 && ! ready then d else d.store Reg.PSEQ_CTL v.toNat)) :=
  onDev_land_granted hg (beq_self_eq_true _)

/-! ### Standby, wake, cycle and resets (R726, R727, R729, R730, Table 16-6, Table 16-10) -/

section
variable (hg : s.dev.granted l = some (ag, Reg.PWR_CMD, v, d))
include hg

theorem exec_stby_granted (hstby : bit v.toNat 0 = true) (hwake : bit v.toNat 1 = false) (hcycle : bit v.toNat 2 = false) :
    exec (.stby l) s = .next (s.withDev (d.set Reg.PWR_CMD_STBY 1).stbyCheck) :=
  onDev_land_granted hg (by rw [hstby, hwake, hcycle]; rfl)

theorem exec_wake_granted (hwake : bit v.toNat 1 = true) (hcycle : bit v.toNat 2 = false) :
    exec (.wake l) s = .next (s.withDev (d.set Reg.PWR_CMD_WAKE 1).wakeSource) :=
  onDev_land_granted hg (by rw [hwake, hcycle]; rfl)

theorem exec_cycle_granted (hcycle : bit v.toNat 2 = true) (hruns : (d.set Reg.PWR_CMD_CYCLE 1).fwRuns = true) :
    exec (.cycle l) s = .next (s.withDev ((d.set Reg.PWR_CMD_CYCLE 1).pseqRequest 1)) := by
  change execCycle l s = _
  rw [execCycle, onDev_land_granted hg (by rw [hcycle]; rfl), if_pos hruns]

end

end

theorem exec_wakeNFall_running (hruns : s.dev.fwRuns = true) : exec .wakeNFall s = .next (s.withDev s.dev.wakeSource) := by
  change execWakeNFall s = _
  rw [execWakeNFall, onDev_next, if_pos hruns, State.withDev]

/-- A pulse of RST_N leaves OFF alone, TRIPPED for OFF, and shuts any other state down. -/
theorem exec_rstN (s : State) :
    exec .rstN s = .next (s.withDev
      (if s.dev.devState = DevSt.off then s.dev else if s.dev.devState = DevSt.tripped then s.dev.enterOff
      else s.dev.shutdown.enterOff)) := rfl

theorem exec_vaonLoss (s : State) :
    exec .vaonLoss s = .next (s.withDev { Dev.reset with
      free := s.dev.free, forms := s.dev.forms, balls := s.dev.balls, otp := { Otp.reset with array := s.dev.otp.array } }) := rfl

end

/-- Settles O29: each clause is the lemma of its row; FW_ACK and RST_N go by their conditions. -/
theorem powerEntriesTakeEffect : Obligations.PowerEntriesTakeEffect := by
  refine ⟨fun _ _ => exec_pseqEntryStart_first, fun _ => exec_programTimeout_due, fun _ _ _ _ _ => exec_pseqReq_granted, ?fwAck,
    ?powerUp, ?commands, fun _ => exec_wakeNFall_running, ?rstN, exec_vaonLoss⟩
  case fwAck =>
    intro s l ag v d hg ready
    have hwrite := exec_fwAck_granted hg
    refine ⟨fun hacts => ?_, fun hready hack => ?_⟩
    · have hkept : (bit v.toNat 0 && ! ready) = false := by
        rcases hacts with h | h
        · rw [h, Bool.not_true, Bool.and_false]
        · rw [h, Bool.false_and]
      rw [hwrite, if_neg (Bool.eq_false_iff.mp hkept)]
    · rw [hwrite, if_pos (by rw [hack]; exact congrArg not hready)]
  case powerUp =>
    intro s hoff hvin hgo
    exact ⟨exec_powerUpStart_off hoff hvin hgo, exec_powerUpRetry_off hoff hvin hgo⟩
  case commands =>
    intro s l ag v d hg
    exact ⟨exec_stby_granted hg, exec_wake_granted hg, exec_cycle_granted hg⟩
  case rstN =>
    intro s
    rw [exec_rstN]
    refine ⟨fun hoff => by rw [if_pos hoff, State.withDev], fun htripped => ?_, fun hon hno => by rw [if_neg hon, if_neg hno]⟩
    rw [if_neg (by rw [htripped]; decide), if_pos htripped]

/-! ### Inputs and channels (R692, R694 to R696, R699, R700) -/

section
variable {s : State}

theorem exec_vmOkChange_up (ok : Bool) :
    let d := (s.dev.setb Reg.PF_STAT_VM_OK ok).rbUpdate
    d.devState ≠ DevSt.standby → exec (.vmOkChange ok) s = .next (s.withDev d) := by
  intro d hup
  change execVmOkChange ok s = _
  rw [execVmOkChange, onDev_next, if_neg (not_and_of_not_right _ hup), State.withDev]

theorem exec_vinOkChange (s : State) (ok : Bool) :
    exec (.vinOkChange ok) s = .next (s.withDev (s.dev.setb Reg.PF_STAT_VIN_OK ok)) := rfl

theorem exec_inputOv_new (hnew : s.dev.flag Reg.PF_STAT_INPUT_OV = false) (hon : s.dev.devState ≠ DevSt.off) :
    let d := (s.dev.set Reg.PF_STAT_INPUT_OV 1).applyForcing.rbUpdate.holdUpdate
    exec .inputOv s =
      .next (s.withDev (((d.raiseFree 0x10 0xF St.inputOv 3).fireRaw 0x10 1).faultOn 0x10 2 St.inputOv 3 0)) := by
  change execInputOv s = _
  rw [execInputOv, onDev_next, when_true (by rw [hnew, bne_iff_ne.mpr hon]; rfl), State.withDev]

theorem exec_inputOvClear_marked (hmark : s.dev.flag Reg.PF_STAT_INPUT_OV = true) :
    let d := ((s.dev.set Reg.PF_STAT_INPUT_OV 0).faultOff 0x10 2).applyForcing.rbUpdate
    exec .inputOvClear s = .next (s.withDev (if d.fwRuns then d.pseqRequest 3 else d)) := by
  change execInputOvClear s = _
  rw [execInputOvClear, onDev_next, when_true hmark, State.withDev]

theorem exec_uvlo_on (hon : s.dev.devState ≠ DevSt.off) (hno : s.dev.devState ≠ DevSt.tripped) :
    exec .uvlo s = .next (s.withDev s.dev.shutdown.enterOff) := by
  change execUvlo s = _
  rw [execUvlo, onDev_next, if_neg hon, if_neg hno, State.withDev]

section
variable {n : Fin 16}

theorem exec_pgChange_fall (hpg : s.dev.get (Reg.CH_STAT_PG n.val) = 1) :
    exec (.pgChange n false) s =
      .next (s.withDev (((s.dev.setb (Reg.CH_STAT_PG n.val) false).fire 0x0E 1 0).permitUpdate)) := by
  change execPgChange n false s = _
  simp only [execPgChange, onDev_next, hpg, beq_self_eq_true, Bool.false_and, Bool.false_eq_true, or_self, if_false, State.withDev]

theorem exec_dischargeDone_off (hdchg : bit s.dev.pw.dchg n.val = true) (hoff : s.dev.chOn n.val = false) :
    exec (.dischargeDone n) s = .next (s.withDev
      { (s.dev.set (Reg.CH_STAT_DOWN n.val) 1) with pw := { s.dev.pw with dchg := s.dev.pw.dchg &&& (65535 ^^^ 2 ^ n.val) } }) := by
  change execDischargeDone n s = _
  rw [execDischargeDone, onDev_next, when_true (by rw [hdchg, hoff]; rfl), State.withDev]

/-! ### Class A and class B (R731, R737) -/

theorem exec_classATrip_new {c : Fin 7} (hc : c.val ≠ 0) (hholds : s.dev.tripHolds c.val n.val = true)
    (hnew : s.dev.pw.tripped = false) (hon : s.dev.devState ≠ DevSt.off) (hno : s.dev.devState ≠ DevSt.tripped) :
    let d := ((({ s.dev with pw := { s.dev.pw with tripped := true } } : Dev).outputsOff.applyForcing.cutFirmware).set
      Reg.PF_STAT_RB_ON 0).measAbandon
    exec (.classATrip c n) s = .next (s.withDev (((((((d.set Reg.TRIP_REC_CAUSE c.val).set Reg.TRIP_REC_CHANNEL n.val).set
      Reg.TRIP_REC_VALID 1).addSat Reg.TRIP_REC_COUNT 1).setReg Reg.TRIP_TIME s.dev.now).pseqAbort).pseqStart 5)) := by
  have hmay : ¬ (c.val = 0 ∨ (! s.dev.tripHolds c.val n.val) = true ∨ s.dev.pw.tripped = true ∨ s.dev.devState = DevSt.off ∨
      s.dev.devState = DevSt.tripped) := by simp [hc, hholds, hnew, hon, hno]
  change execClassATrip c n s = _
  rw [execClassATrip, onDev_next]
  simp only [if_neg hmay, State.withDev]

/-- Kind 3, on a channel that is on and only warns. -/
theorem exec_classBWarn_told {v : Nat} (happlies : warnChannel 3 n.val = true)
    (hnew : bit (s.dev.get (Reg.CH_STAT_WARN n.val)) 2 = false) (hon : s.dev.chOn n.val = true)
    (hwarns : s.dev.get (Reg.CH_CFG_B_ACT n.val) = 0) :
    let d := (s.dev.set (Reg.CH_STAT_WARN n.val) (s.dev.get (Reg.CH_STAT_WARN n.val) ||| 4)).addSat Reg.PF_CNT_WARN 1
    exec (.classBWarn n 3 true v) s = .next (s.withDev (((d.raise 0x0E 0xF St.railWarn 0 (n.val + 48 + (v % 65536) * 65536)).fireRaw
      0x0E 0).faultOn 0x0E (n.val * 8 + 3) St.railWarn 0 (n.val + 48))) := by
  change execClassBWarn n 3 true v s = _
  rw [execClassBWarn, onDev_next]
  simp [happlies, hnew, hon, hwarns, State.withDev]

end

/-! ### The junction, the power-fail warning and the reference (R741 to R743, R746) -/

theorem exec_tjHot_below (tj : Int) :
    let d := s.dev.seti Reg.PWR_TJ_TJ tj
    d.flag Reg.PF_STAT_TJ_HOT = false → exec (.tjHot false tj) s = .next (s.withDev d) := by
  intro d hcool
  change execTjHot false tj s = _
  rw [execTjHot, onDev_next, if_pos hcool.symm, State.withDev]

theorem exec_tjHot_reached (tj : Int) :
    let d := s.dev.seti Reg.PWR_TJ_TJ tj
    d.flag Reg.PF_STAT_TJ_HOT = false → (d.get Reg.PF_CFG_TJ_WARN * 10 : Int) ≤ tj → exec (.tjHot true tj) s = .next (s.withDev
      ((((d.set Reg.PF_STAT_TJ_HOT 1).raiseFree 0x10 0xF St.tjHot 0).fireRaw 0x10 2).faultOn 0x10 3 St.tjHot 0 0)) := by
  intro d hcool hwarn
  change execTjHot true tj s = _
  rw [execTjHot, onDev_next, if_neg (by rw [hcool]; decide), if_pos rfl, if_neg hwarn.not_gt, State.withDev]

theorem exec_pfwRaise_below {vin : Nat} (href : s.dev.pw.vinRef = true) (hnew : s.dev.flag Reg.PF_STAT_PFW = false)
    (hlow : vin < s.dev.pfwThreshold) (hnom : s.dev.devState = DevSt.nominal) (hok : s.dev.pw.tripped = false) :
    exec (.pfwRaise vin) s = .next (s.withDev (s.dev.raisePfw vin)) := by
  change execPfwRaise vin s = _
  rw [execPfwRaise, onDev_next, when_true (by rw [href, hnew, decide_eq_true hlow, hnom, hok]; rfl), State.withDev]

theorem exec_pfWindowExpiry_due (hpfw : s.dev.flag Reg.PF_STAT_PFW = true) (hdue : s.dev.past s.dev.pw.pfwAt s.dev.pw.pfwWin = true) :
    exec .pfWindowExpiry s = .next (s.withDev s.dev.forcePowerDown) := by
  change execPfWindowExpiry s = _
  rw [execPfWindowExpiry, onDev_next, when_true (by rw [hpfw, hdue]; rfl), State.withDev]

theorem exec_vinRefTaken_boot {vin : Nat} (hnone : s.dev.pw.vinRef = false) (hboot : s.dev.devState = DevSt.boot) :
    exec (.vinRefTaken vin) s = .next (s.withDev
      { ((s.dev.set Reg.PF_VREF_VIN_REF vin).set Reg.PWR_IN_VIN vin) with pw := { s.dev.pw with vinRef := true } }) := by
  change execVinRefTaken vin s = _
  rw [execVinRefTaken, onDev_next, when_true (by rw [hnone, hboot]; rfl), State.withDev]

end

/-- Settles O30: each clause is the lemma of its row. -/
theorem powerConditionsTakeEffect : Obligations.PowerConditionsTakeEffect :=
  ⟨fun _ => exec_vmOkChange_up, exec_vinOkChange, fun _ => exec_inputOv_new, fun _ => exec_inputOvClear_marked, fun _ => exec_uvlo_on,
    fun _ _ => exec_pgChange_fall, fun _ _ => exec_dischargeDone_off, fun _ _ _ => exec_classATrip_new,
    fun _ _ _ => exec_classBWarn_told, fun _ => exec_tjHot_below, fun _ => exec_tjHot_reached, fun _ _ => exec_pfwRaise_below,
    fun _ => exec_pfWindowExpiry_due, fun _ _ => exec_vinRefTaken_boot⟩

end Sys2Proof.Machine

/-! # Proofs of the statements of spec/18_clocks.md

The clock sources, the switch of SYSPLL's reference and the ramps of the domains. -/

namespace Sys2Proof.Machine

section
variable {s : State}

/-! ### Sources (R777 to R781) -/

section
variable {k : Fin 2}

/-- A window of an enabled source is judged good or bad, and the source's state says what follows. -/
theorem exec_qualWindow_enabled (e : Nat) (gap : Bool) (hon : s.dev.clkOn = true) (hen : s.dev.srcEn k.val = true) :
    let nom := if k.val = 0 then 24000000 else s.dev.refinHz
    let good := (! gap && (k.val == 0 || s.dev.pmFunc 17 == 0) && decide (((1000 * e : Nat) - (2 * nom : Nat) : Int).natAbs * 100 ≤ 8 * nom))
    exec (.qualWindow k e gap) s = .next (s.withDev
      (if s.dev.get (srcFld k.val) = 2 then (if good then s.dev else s.dev.srcLost k.val 3)
      else if good then ((((s.dev.set (srcFld k.val) 2).fire 0x0C 0 0).auxRefs).clkEval)
      else if s.dev.get (srcFld k.val) = 1 then s.dev else (s.dev.set (srcFld k.val) 1).fire 0x0C 0 0)) := by
  change execQualWindow k e gap s = _
  rw [execQualWindow, onDev_next, when_true (by rw [hon, hen]; rfl), State.withDev]

section
variable (hon : s.dev.clkOn = true) (hqual : s.dev.get (srcFld k.val) = 2)
include hon hqual

theorem exec_sourceGap_qualified : exec (.sourceGap k) s = .next (s.withDev (s.dev.srcLost k.val 3)) := by
  change execSourceGap k s = _
  rw [execSourceGap, onDev_next, when_true (by rw [hon, hqual]; rfl), State.withDev]

theorem exec_sourceHeld_qualified : exec (.sourceHeld k) s = .next (s.withDev (s.dev.set (heldFld k.val) 1).clkEval) := by
  change execSourceHeld k s = _
  rw [execSourceHeld, onDev_next, when_true (by rw [hon, hqual]; rfl), State.withDev]

end

end

theorem exec_refinHzWrite_same {l : Land} {ag : Agent} {v : Word} {d : Dev} (hg : s.dev.granted l = some (ag, Reg.CK_REFIN, v, d))
    (hsame : v.toNat % 2 ^ 26 = d.shGet Reg.CK_REFIN_REFIN_HZ) :
    exec (.refinHzWrite l) s = .next (s.withDev (d.store Reg.CK_REFIN v.toNat).clkShadow) := by
  change execRefinHzWrite l s = _
  rw [execRefinHzWrite, onDev_land_granted hg (beq_self_eq_true _), if_pos (.inl (by rw [decide_eq_false (not_not_intro hsame)]; rfl))]

theorem exec_ircFail_on (hon : s.dev.clkOn = true) (hok : s.dev.flag Reg.CK_SRC_STAT_IRC_OK = true) :
    exec .ircFail s = .next (s.withDev ((s.dev.set Reg.CK_SRC_STAT_IRC_OK 0).clkFail 3)) := by
  change execIrcFail s = _
  rw [execIrcFail, onDev_next, when_true (by rw [hon, hok]; rfl), State.withDev]

/-! ### The switch (R796, R797, R799, R801, R803) -/

theorem exec_clkSwitchStart_idle (hdue : s.dev.get Reg.CK_SYS_STAT_SW_STATE = 1) (hrcpt : s.dev.rcpt = none)
    (hjob : s.dev.head.job = .none) (hpath : s.dev.get Reg.TOK_PATH_IN_PATH = 0) (hexp : s.dev.get Reg.TOK_PATH_EXPECTED = 0)
    (hphase : s.dev.pw.phase = 0) (hpfw : s.dev.flag Reg.PF_STAT_PFW = false) :
    exec .clkSwitchStart s = .next (s.withDev ((s.dev.set Reg.CK_SYS_STAT_SW_STATE 2).modClk (fun c => { c with
      startAt := s.dev.now, oldRef := s.dev.get Reg.CK_SYS_STAT_REF, doms := c.doms.map (fun x => (x.1, 1)) }))) := by
  change execClkSwitchStart s = _
  rw [execClkSwitchStart, onDev_next, when_true (by rw [hdue, hrcpt, hjob, hpath, hexp, hphase, hpfw]; rfl), State.withDev]

section
variable {k : Fin 42} (miss : Option (Fin 232))

theorem exec_rampStep_still (hstill : (s.dev.dom k.val).2 = 0 ∨ (s.dev.dom k.val).2 = 3) : exec (.rampStep k miss) s = .next s := by
  change execRampStep k miss s = _
  simp only [execRampStep, onDev_next, if_pos hstill]

theorem exec_rampStep_slows (hslows : (s.dev.dom k.val).2 = 1) (hnear : (s.dev.dom k.val).1 ≠ s.dev.slowRatio k.val) :
    let x := (stepTo (s.dev.slowRatio k.val) (s.dev.dom k.val).1, 1)
    exec (.rampStep k miss) s = .next (s.withDev (((s.dev.boundary 0x0C).modClk (fun c => { c with
      doms := lmod c.doms k.val (fun _ => x) })).clkSettle (miss.map (·.val)))) := by
  change execRampStep k miss s = _
  simp only [execRampStep, onDev_next, hslows, if_neg hnear, if_neg (by decide : ¬ (1 = 0 ∨ 1 = 3)), State.withDev]

end

theorem exec_syspllLock_relock (href : s.dev.get Reg.CK_SYS_STAT_REF ≠ 0) (hrelock : s.dev.get Reg.CK_SYS_STAT_SW_STATE = 4)
    (hopen : s.dev.flag Reg.CK_SYS_STAT_LOCKED = false) :
    exec .syspllLock s = .next (s.withDev (((s.dev.set Reg.CK_SYS_STAT_REF (s.dev.get Reg.CK_SYS_STAT_TARGET)).set
      Reg.CK_SYS_STAT_LOCKED 1).set Reg.CK_SYS_STAT_HOLDOVER 0).clkReturn) := by
  have hmay : s.dev.get Reg.CK_SYS_STAT_SW_STATE = 4 ∧ (! s.dev.flag Reg.CK_SYS_STAT_LOCKED) = true := ⟨hrelock, by rw [hopen]; rfl⟩
  change execSyspllLock s = _
  simp only [execSyspllLock, onDev_next, if_neg href, if_pos hmay, State.withDev]

theorem exec_relockTimeout_relock :
    let t := s.dev.get Reg.CK_SYS_STAT_TARGET
    t ≠ 0 → s.dev.flag Reg.CK_SYS_STAT_LOCKED = false → s.dev.get Reg.CK_SYS_STAT_SW_STATE = 4 →
    exec .relockTimeout s = .next (s.withDev (if t = 3 then s.dev.clkFail 1 else s.dev.set Reg.CK_SYS_STAT_TARGET (s.dev.nextRef t))) := by
  intro t htarget hopen hrelock
  change execRelockTimeout s = _
  rw [execRelockTimeout, onDev_next, when_true (by simp [hopen, hrelock]; exact htarget), State.withDev]

theorem exec_xoWaitExpiry_boot (hboot : s.dev.devState = DevSt.boot) (href : s.dev.get Reg.CK_SYS_STAT_REF = 0) :
    exec .xoWaitExpiry s = .next (s.withDev ((s.dev.modClk (fun c => { c with xoOver := true })).auxRefs).clkEval) := by
  change execXoWaitExpiry s = _
  rw [execXoWaitExpiry, onDev_next, when_true (by rw [hboot, href]; rfl), State.withDev]

end

/-- Settles O32: each clause is the lemma of its row; a window goes by its verdict and the source's state. -/
theorem clockCommandsTakeEffect : Obligations.ClockCommandsTakeEffect := by
  refine ⟨?window, ?source, fun _ _ _ _ _ => exec_refinHzWrite_same, fun _ => exec_ircFail_on, fun _ => exec_clkSwitchStart_idle,
    fun _ _ miss => ⟨exec_rampStep_still miss, exec_rampStep_slows miss⟩, fun _ => exec_syspllLock_relock,
    fun _ => exec_relockTimeout_relock, fun _ => exec_xoWaitExpiry_boot⟩
  case window =>
    intro s k e gap hon hen nom good
    have hwindow := exec_qualWindow_enabled e gap hon hen
    refine ⟨fun hqual hbad => ?_, fun hqual hgood => ?_, fun hqual hgood => ?_⟩
    · rw [hwindow, if_pos hqual, if_neg (Bool.eq_false_iff.mp hbad)]
    · rw [hwindow, if_neg hqual, if_pos hgood]
    · rw [hwindow, if_pos hqual, if_pos hgood, State.withDev]
  case source =>
    intro s k hon hqual
    exact ⟨exec_sourceGap_qualified hon hqual, exec_sourceHeld_qualified hon hqual⟩

end Sys2Proof.Machine

/-! # Proofs of the statements of spec/19_boot_otp_patches.md

The OTP array's bits, the boot sequence, the bundle decision and OTP programming. -/

namespace Sys2Proof.Machine

/-! ### Burned bits stay (R827 to R829) -/

section
variable {x y z : List (Nat × Word)}

/-- Every bit that is 1 in a word of the array `x` is 1 in the same word of `y`. -/
def KeepsBits (x y : List (Nat × Word)) : Prop := ∀ w, sget otpBlank y w &&& sget otpBlank x w = sget otpBlank x w

theorem KeepsBits.refl (x : List (Nat × Word)) : KeepsBits x x := fun _ => BitVec.and_self

theorem KeepsBits.trans (hxy : KeepsBits x y) (hyz : KeepsBits y z) : KeepsBits x z := fun w => by
  rw [← hxy w, ← BitVec.and_assoc, hyz w]

/-- Storing a word that has at least the 1 bits of the word it replaces, the others being as `y` has them. -/
theorem KeepsBits.sset (h : KeepsBits x y) (w : Nat) (b : Word) : KeepsBits x (sset otpBlank y w (sget otpBlank x w ||| b)) := by
  intro u
  by_cases hu : u = w
  · subst hu
    rw [sget_sset_same, BitVec.and_comm]
    ext i hi
    simp only [BitVec.getElem_and, BitVec.getElem_or]
    cases (sget otpBlank x u)[i] <;> rfl
  · rw [sget_sset_other _ _ _ _ _ hu, h u]

end

theorem Dev.otpBurn_keepsBits (d : Dev) (word data : Nat) : KeepsBits d.otp.array (d.otpBurn word data).otp.array :=
  (KeepsBits.refl _).sset word _

theorem foldl_otpBurn_keepsBits (word data : Nat → Nat) (is : List Nat) (d : Dev) :
    KeepsBits d.otp.array (is.foldl (fun d i => d.otpBurn (word i) (data i)) d).otp.array := by
  induction is generalizing d with
  | nil => exact .refl _
  | cons i is ih => exact (d.otpBurn_keepsBits _ _).trans (ih _)

theorem exec_otpBurnDone_keepsBits (s t : State) (raw : Option Word) (h : exec (.otpBurnDone raw) s = .next t) :
    KeepsBits s.dev.otp.array t.dev.otp.array := by
  change execOtpBurnDone raw s = _ at h
  rw [execOtpBurnDone, onDev_next] at h
  cases h
  cases hbusy : s.dev.otp.busy with
  | none => exact .refl _
  | some b =>
    simp only [Dev.fireT_otp, Dev.set_otp, Dev.setReg_otp]
    refine KeepsBits.sset ?_ _ _
    split
    · exact (foldl_otpBurn_keepsBits (887 + ·) _ _ _).trans (Dev.otpBurn_keepsBits _ _ _)
    · exact Dev.otpBurn_keepsBits _ _ _

/-- Settles O60: each burn stores the old word with further bits, and so does the margin read's. -/
theorem burnedBitsStay : Obligations.BurnedBitsStay :=
  fun s t raw w h => exec_otpBurnDone_keepsBits s t raw h w

section
variable {s : State}

/-! ### The boot sequence (R836, R838, R923, R951) -/

theorem exec_journalMount_step4 (x : XspiFound) (h : s.dev.bootAt 4 = true) :
    exec (.journalMount x) s = .next (s.withDev
      ((((((s.dev.xspiSetup x).norLayout).loadBaseline 0).loadBaseline 1).mount s.mem).set Reg.BT_STAT_STEP 5)) := by
  change execJournalMount x s = _
  rw [execJournalMount, onAll_next, when_true h, State.withDev]

/-- With no trip and no lockstep record left by the previous run, only its power-fail reports come before the window. -/
theorem exec_bootReports_noRecords (h : s.dev.bootAt 5 = true) (htrip : (s.dev.set Reg.BT_STAT_STEP 6).flag Reg.TRIP_REC_VALID = false)
    (hlock : (s.dev.set Reg.BT_STAT_STEP 6).flag Reg.LK_REC_VALID = false) :
    let x := (s.dev.set Reg.BT_STAT_STEP 6).pfReport s.mem
    exec .bootReports s = .next (s.withBoth
      ((({ x.1 with boot := { x.1.boot with windowAt := x.1.now } } : Dev).set Reg.BT_STAT_WINDOW 1).set Reg.BT_STAT_STEP 7, x.2)) := by
  change execBootReports s = _
  simp only [execBootReports, onAll_next, if_pos h, if_neg (Bool.eq_false_iff.mp htrip), if_neg (Bool.eq_false_iff.mp hlock), State.withBoth]

theorem exec_bootWindowClose_due (hopen : s.dev.flag Reg.BT_STAT_WINDOW = true) (hdue : s.dev.past s.dev.boot.windowAt 200000 = true) :
    exec .bootWindowClose s = .next (s.withDev ((s.dev.set Reg.BT_STAT_WINDOW 0).set Reg.BT_STAT_STEP 8)) := by
  change execBootWindowClose s = _
  rw [execBootWindowClose, onDev_next, when_true (by rw [hopen, hdue]; rfl), State.withDev]

theorem exec_pushLimit_due (hboot : s.dev.devState = DevSt.boot) (hpush : s.dev.boot.push.isSome = true)
    (hdue : s.dev.past s.dev.boot.windowAt 2000000 = true) : exec .pushLimit s = .next (s.withDev s.dev.pushAbandon) := by
  change execPushLimit s = _
  rw [execPushLimit, onDev_next, when_true (by rw [hboot, hpush, hdue]; rfl), State.withDev]

/-! ### The bundle decision and the raise (R839, R843, R844) -/

/-- The boot side when BUNDLE_DECIDE has decided that there is no bundle to use. -/
def Dev.decidedNone (d : Dev) : Dev :=
  let d0 := ((d.set Reg.BT_STAT_WINDOW 0).set Reg.BT_STAT_STEP 8).set Reg.BT_STAT_PUSHING 0
  let d1 : Dev := { (d0.set Reg.BT_TIME_MS (min 65535 ((d.now - d.boot.enteredAt) / 1000))) with boot := { d0.boot with decided := true } }
  let d2 := d1.set Reg.BT_STAT_DECISION 1
  { d2 with boot := { d2.boot with pushed := none } }

/-- With no pushed bundle and none in NOR the decision is 1, and each tenant's waiting chunk is answered OK. -/
theorem exec_bundleDecide_none (hboot : s.dev.devState = DevSt.boot) (hundecided : s.dev.boot.decided = false)
    (hpfw : s.dev.flag Reg.PF_STAT_PFW = false) (hstep : 7 ≤ s.dev.get Reg.BT_STAT_STEP) (hpushed : s.dev.boot.pushed = none)
    (hwindow : s.dev.flag Reg.BT_STAT_WINDOW = false) (hpush : s.dev.boot.push = none) (hnor : bit (s.dev.intWord 384) 3 = true) :
    exec .bundleDecide s = .next (s.withDev
      ((List.range 8).foldl (fun d k => d.finish k 0x0A02 St.ok []) (s.dev.decidedNone.fire 0x13 0 0)).bootEnd) := by
  have hdue : (! (s.dev.devState == DevSt.boot && ! s.dev.boot.decided && ! s.dev.flag Reg.PF_STAT_PFW &&
      decide (7 ≤ s.dev.get Reg.BT_STAT_STEP) &&
      (s.dev.boot.pushed.isSome || (! s.dev.flag Reg.BT_STAT_WINDOW && s.dev.boot.push.isNone)))) = false := by
    rw [hboot, hundecided, hpfw, decide_eq_true hstep, hpushed, hwindow, hpush]; rfl
  change execBundleDecide s = _
  simp only [execBundleDecide, onAll_next, hdue, Bool.false_eq_true, if_false]
  rw [hpushed, if_pos hnor]
  rfl

/-- The raise's next word to burn is asked for; a refused burn ends the raise. -/
theorem exec_secVerRaise_next (i : Nat) (hnom : s.dev.devState = DevSt.nominal)
    (hlo : s.dev.get Reg.BT_SECVER_SENSED < s.dev.boot.raiseTo) (hidle : s.dev.otp.busy = none)
    (hnext : (List.range 4).find? (fun i => raiseBits (s.dev.get Reg.BT_SECVER_SENSED) s.dev.boot.raiseTo i != 0 &&
      ! s.dev.otp.burned.contains (896 + i)) = some i) :
    let d := s.dev.otpStart .fw false 0x0E7A (896 + i) (raiseBits (s.dev.get Reg.BT_SECVER_SENSED) s.dev.boot.raiseTo i)
    exec .secVerRaise s = .next (s.withDev
      (if d.otp.busy.isSome then d.set Reg.BT_SECVER_RAISED 1 else { d with boot := { d.boot with raiseTo := 0 } })) := by
  intro d
  change execSecVerRaise s = _
  rw [execSecVerRaise, onDev_next, when_true (by rw [hnom, decide_eq_true hlo, hidle]; rfl), hnext, State.withDev]

/-! ### Programming (R826, R827, R829) -/

section
variable {l : Land} {ag : Agent} {v : Word} {d : Dev} (hg : s.dev.granted l = some (ag, Reg.OTP_PG_CTL, v, d))
include hg

theorem exec_otpPgGo_granted (hgo : bit v.toNat 0 = true) (hfinal : bit v.toNat 1 = false) :
    exec (.otpPgGo l) s = .next (s.withDev
      (d.otpStart ag false (v.toNat / 65536) (d.get Reg.OTP_PG_ADDR_ADDR) (d.reg Reg.OTP_PG_DATA))) :=
  onDev_land_granted hg (by rw [hgo, hfinal]; rfl)

theorem exec_otpFinal_granted (hfinal : bit v.toNat 1 = true) :
    exec (.otpFinal l) s = .next (s.withDev (d.otpStart ag true (v.toNat / 65536) 0 0)) :=
  onDev_land_granted hg (by rw [hfinal]; rfl)

end

/-- A burn whose margin read finds exactly the bits it was given ends with result 1. -/
theorem exec_otpBurnDone_asBurned (b : OtpBurn) (hbusy : s.dev.otp.busy = some b) (hword : b.final = false) (hdata : b.data < 2 ^ 32) :
    let d1 := s.dev.otpBurn b.word b.data
    let d2 : Dev := { d1 with otp := { d1.otp with
      busy := none, array := sset otpBlank d1.otp.array b.word (sget otpBlank s.dev.otp.array b.word ||| BitVec.ofNat 32 b.data) } }
    exec (.otpBurnDone (some (BitVec.ofNat 32 b.data))) s = .next (s.withDev ((((d2.setReg Reg.OTP_RAW b.data).set
      Reg.OTP_PG_STAT_BUSY 0).set Reg.OTP_PG_STAT_RESULT 1).fireT 0x12 0 b.ten 0)) := by
  change execOtpBurnDone (some (BitVec.ofNat 32 b.data)) s = _
  simp only [execOtpBurnDone, onDev_next, hbusy, hword, Bool.false_eq_true, if_false, BitVec.toNat_ofNat, Nat.mod_eq_of_lt hdata,
    if_true, State.withDev]

end

/-- Settles O33: each command by the rule of its row; the raise by whether the burn was refused. -/
theorem bootAndOtpCommandsTakeEffect : Obligations.BootAndOtpCommandsTakeEffect := by
  refine ⟨fun _ x h => exec_journalMount_step4 x h, ?reports, fun _ => exec_bootWindowClose_due, fun _ => exec_pushLimit_due,
    ?decide, ?raise, fun _ _ _ _ _ hg => ⟨exec_otpPgGo_granted hg, exec_otpFinal_granted hg⟩, ?burn⟩
  case reports =>
    intro s h d htrip hlock
    exact exec_bootReports_noRecords h htrip hlock
  case decide =>
    intro s hboot hundecided hpfw hstep hpushed hwindow hpush d0 d1 d2 d3
    exact exec_bundleDecide_none hboot hundecided hpfw hstep hpushed hwindow hpush
  case raise =>
    intro s i lo hnom hlo hidle hnext d
    have h := exec_secVerRaise_next i hnom hlo hidle hnext
    exact ⟨fun hbusy => by rw [h, if_pos hbusy], fun hbusy => by rw [h, if_neg (by rw [hbusy]; exact Bool.false_ne_true)]⟩
  case burn =>
    intro s b hbusy hword hdata
    exact exec_otpBurnDone_asBurned b hbusy hword hdata

end Sys2Proof.Machine

/-! # Proofs of the statements of spec/20_crypto_trng.md

The key slots, the entropy source and the DRBG. -/

namespace Sys2Proof.Machine

section
variable {s : State}

/-! ### Key slots (R850, R851, R857) -/

section
variable {l : Land} {ag : Agent} {v : Word} {d : Dev}

theorem exec_ksOwnWrite_lowSlots (hg : s.dev.granted l = some (ag, Reg.KS_OWN0, v, d)) :
    exec (.ksOwnWrite l) s = .next (s.withBoth
      ((List.range 8).foldl (fun x i => x.1.ownSlot x.2 (0 + i) (bitsOf v.toNat (4 * i) 4)) (d, s.mem))) :=
  onAll_landAll_granted hg rfl

theorem exec_ksOwnWrite_highSlots (hg : s.dev.granted l = some (ag, Reg.KS_OWN1, v, d)) :
    exec (.ksOwnWrite l) s = .next (s.withBoth
      ((List.range 8).foldl (fun x i => x.1.ownSlot x.2 (8 + i) (bitsOf v.toNat (4 * i) 4)) (d, s.mem))) :=
  onAll_landAll_granted hg rfl

theorem exec_ksErase_granted (hg : s.dev.granted l = some (ag, Reg.KS_ERASE, v, d)) :
    exec (.ksErase l) s = .next (s.withBoth
      ((List.range 16).foldl (fun x i => if bit v.toNat i then x.1.eraseSlot x.2 i else x) (d, s.mem))) :=
  onAll_landAll_granted hg rfl

end

/-! ### The entropy source (R863, R866, R872, R873) -/

theorem exec_trngSample_settling (b : Bool) (h : s.dev.trng.phase = 1) :
    exec (.trngSample b) s = .next (s.withDev (s.dev.modTrng (fun t =>
      { t with settle := t.settle - 1, phase := if t.settle ≤ 1 then 2 else 1 }))) := by
  change execTrngSample b s = _
  simp only [execTrngSample, onDev_next, h, State.withDev]

theorem exec_trngSample_settled (b : Bool) (h : 2 ≤ s.dev.trng.phase) :
    exec (.trngSample b) s = .next (s.withDev (s.dev.trngTest b)) := by
  obtain ⟨n, hn⟩ := Nat.exists_eq_add_of_le' h
  change execTrngSample b s = _
  simp only [execTrngSample, onDev_next, hn, State.withDev]

/-- A recovery whose good group is there within 100 ms reseeds the DRBG and lets the queue drain. -/
theorem exec_recoveryDone_inTime (st : List Byte × List Byte) (hgroup : s.dev.trng.phase = 4) (hrec : s.dev.trng.recover = true)
    (htime : s.dev.now < s.dev.trng.startAt + 100000) (hdrbg : s.dev.trng.drbg = some st) :
    let d := (s.dev.seeded (drbgReseed s.dev.goodBytes st)).fire 0x16 3 0
    exec .recoveryDone s = .next (s.withDev ((((d.modTrng (fun t => { t with phase := 5, recover := false })).trngState 2).set
      Reg.TR_STAT_SEEDED 1).fire 0x16 1 0)) := by
  change execRecoveryDone s = _
  rw [execRecoveryDone, onDev_next, when_true (by rw [hgroup, decide_eq_true htime, Bool.or_true]; rfl), hrec, hdrbg, if_pos rfl,
    State.withDev]

theorem exec_recoveryTimeout_late (hrec : s.dev.trng.recover = true) (hgroup : s.dev.trng.phase = 4)
    (hlate : s.dev.past s.dev.trng.startAt 100000 = true) :
    exec .recoveryTimeout s = .next (s.withDev (s.dev.trngFailAll.trngStart true)) := by
  change execRecoveryTimeout s = _
  rw [execRecoveryTimeout, onDev_next, when_true (by rw [hrec, hgroup, hlate]; rfl), State.withDev]

/-! ### The DRBG (R867, R868) -/

section
variable (st : List Byte × List Byte) (hdrbg : s.dev.trng.drbg = some st) (hopen : s.dev.trng.phase = 5)
include hdrbg hopen

theorem exec_drbgReseed_due (hdue : s.dev.reseedDue = true) :
    exec .drbgReseed s = .next (s.withDev ((s.dev.seeded (drbgReseed s.dev.goodBytes st)).fire 0x16 3 0)) := by
  change execDrbgReseed s = _
  simp only [execDrbgReseed, onDev_next, hdrbg, when_true (show (s.dev.trng.phase == 5 && s.dev.reseedDue) = true by
    rw [hopen, hdue]; rfl), State.withDev]

/-- With no reseed due the request at the head of the queue is served whole. -/
theorem exec_drbgGenerate_head (r : RandReq) (rest : List RandReq) (hqueue : s.dev.trng.queue = r :: rest)
    (hdue : s.dev.reseedDue = false) :
    exec .drbgGenerate s = .next (s.withDev (((s.dev.boundary 0x14).modTrng (fun t =>
      { t with queue := rest, drbg := some (drbgGen r.len st).2, reqs := t.reqs + 1 })).finish r.ten 0x0901 St.ok (drbgGen r.len st).1)) := by
  change execDrbgGenerate s = _
  simp only [execDrbgGenerate, onDev_next, hdrbg, hqueue, when_true (show (s.dev.trng.phase == 5 && ! s.dev.reseedDue) = true by
    rw [hopen, hdue]; rfl), State.withDev]

end

end

theorem Dev.reseedDue_eq_true_iff (d : Dev) :
    d.reseedDue = true ↔ d.trng.reqLim ≤ d.trng.reqs ∨ d.trng.seedAt + d.trng.msLim * 1000 ≤ d.now := by
  rw [Dev.reseedDue, Bool.or_eq_true, decide_eq_true_iff, decide_eq_true_iff]

theorem Dev.reseedDue_eq_false (d : Dev) (hreqs : d.trng.reqs < d.trng.reqLim) (htime : d.now < d.trng.seedAt + d.trng.msLim * 1000) :
    d.reseedDue = false := by
  rw [Bool.eq_false_iff, ne_eq, Dev.reseedDue_eq_true_iff]
  omega

/-- Settles O34: each command by the rule of its row; a reseed and a request by whether the DRBG's seed has reached its limits. -/
theorem keysAndTrngCommandsTakeEffect : Obligations.KeysAndTrngCommandsTakeEffect := by
  refine ⟨fun _ _ _ _ _ => exec_ksOwnWrite_lowSlots, fun _ _ _ _ _ => exec_ksOwnWrite_highSlots, fun _ _ _ _ _ => exec_ksErase_granted,
    fun _ b => ⟨exec_trngSample_settling b, exec_trngSample_settled b⟩, fun _ st => exec_recoveryDone_inTime st,
    fun _ => exec_recoveryTimeout_late, ?reseed, ?generate, fun _ _ _ _ _ _ hg => exec_trngSoftRst_granted hg⟩
  case reseed =>
    intro s st hdrbg hopen hdue
    exact exec_drbgReseed_due st hdrbg hopen (s.dev.reseedDue_eq_true_iff.mpr hdue)
  case generate =>
    intro s st r rest hdrbg hqueue hopen hreqs htime
    exact exec_drbgGenerate_head st hdrbg hopen r rest hqueue (s.dev.reseedDue_eq_false hreqs htime)

end Sys2Proof.Machine
